-- ==== Sys2Proof/Word.lean ====
section
/-! DEFINITION. Word.lean: octets, octet strings and the sparse tables in which the state keeps
its numbered objects. -/

namespace Sys2Proof

/-- One octet of a frame, a mailbox, a descriptor or a stored record. -/
abbrev Byte := BitVec 8

/-- Octets in the order they are sent, stored or numbered (lowest address first). -/
abbrev Octets := List Byte

/-- A numbered family of objects: pairs of number and object, numbers strictly rising, with no entry
for an object that stands at its default (log entry 7). -/
abbrev Tbl (α : Type) := List (Nat × α)

end Sys2Proof
end

