-- ==== Sys2Proof/Syntax.lean ====
section
/-! DEFINITION. Syntax.lean: the commands, one constructor per row of the opcode table, with the operands a
command needs (log entry 3), and the types of those operands. -/

namespace Sys2Proof

/-- A ring port (R3). -/
inductive RPort where
  | east | west
  deriving DecidableEq, Repr

/-- A direction of rotation of ring traffic (R3). -/
inductive Rot where
  | cw | ccw
  deriving DecidableEq, Repr

/-- A level of preemptable ring traffic (R227). -/
inductive Level where
  | high | low
  deriving DecidableEq, Repr

/-- The express MAC or the preemptable MAC of an edge or uplink port; of a ring port, level H or level L (R193). -/
inductive Mac where
  | express | preemptable
  deriving DecidableEq, Repr

/-- The six regions of the part (R22). -/
inductive Region where
  | edge | ring | host | record | control | trestle
  deriving DecidableEq, Repr

/-- A register space a command may address (R9, R385, R442, R296 to R301). -/
inductive RegSpace where
  /-- BAR0 of a function: HOST registers, queue slots, the counter page (by page offset of chapters 9, 10, 14). -/
  | host (f : Nat)
  /-- The mailbox of a master M0 to M2. -/
  | mailbox (m : Nat)
  /-- The counter page of a function. -/
  | counters (f : Nat)
  /-- The MSI-X table of a function. -/
  | msix (f : Nat)
  /-- The PCI configuration registers of a function that the part acts on. -/
  | config (f : Nat)
  /-- The trestle registers behind SPI. -/
  | trestle
  deriving DecidableEq, Repr

/-- What the link reports for a request that fails (R352). -/
inductive BusErr where
  | unsupportedRequest | completerAbort | poisoned
  deriving DecidableEq, Repr

/-- What a host write that the link does not accept was for (R306). -/
inductive WriteTarget where
  /-- payload or write-back of a queue -/
  | queue (q : Nat)
  /-- a completion record of a completion queue -/
  | completion (q : Nat)
  /-- an MSI-X message of a function -/
  | msix (f : Nat) (vec : Nat)
  deriving DecidableEq, Repr

/-- A resource that drains (R355, R488, R489). -/
inductive Resource where
  | queue (q : Nat)
  | port (p : Nat)
  deriving DecidableEq, Repr

/-- What a PoDL detection probe finds on the pair (R275). -/
inductive PodlProbe where
  | valid | reversed | shorted | openCircuit | invalid
  deriving DecidableEq, Repr

/-- A serial port with a pluggable module: the two ring ports and the two uplinks (R282, R284). -/
inductive Serdes where
  | east | west | up0 | up1
  deriving DecidableEq, Repr

/-- A gPTP message a port sends at its interval (R117). -/
inductive GptpMsg where
  | sync | announce | pdelayReq
  deriving DecidableEq, Repr

/-- What a drive shows in INIT (R367, R369, R373): its NVMe version as the register gives it, the data and metadata bytes of its LBA
format, MDTS in bytes or 0, the queue depth it accepts, its 1 MiB units, both label copies, the index blocks by group, and the segment
headers read in unit order in the group after the newest index block. -/
structure MountData where
  version : Nat
  lba : Nat
  metadata : Nat
  mdts : Nat
  depth : Nat
  units : Nat
  label0 : Octets
  label1 : Octets
  index : List (Nat × Octets)
  heads : List Octets
  deriving DecidableEq, Repr

/-- The verdict of a targeted self-test (R432). -/
inductive Verdict where
  | passed | transient | lasting
  deriving DecidableEq, Repr

/-- A start-of-mPacket or verification delimiter (R218, R222, R227). -/
inductive Smd where
  | invalid | express | startP | contP | startH | contH | verifyP | responseP | verifyH | responseH
  deriving DecidableEq, Repr

/-- One mPacket as a receiver sees it (R218, R229): the delimiter, its frame count, its fragment count, the octets it
carries (of an express packet and of a last fragment: with the FCS), whether it ends the frame, and whether its
check sequence was right. -/
structure Mpacket where
  smd : Smd
  frameCount : Nat
  fragCount : Nat
  data : Octets
  last : Bool
  crcOk : Bool
  /-- the PHY reported an invalid code group or an uncorrectable codeword within it (R256) -/
  symErr : Bool
  /-- fewer than 5 octets of gap went before it (R256) -/
  shortGap : Bool
  /-- FEC codewords corrected since the last packet (R262) -/
  fecFixed : Nat
  /-- FEC codewords found uncorrectable since the last packet (R262) -/
  fecBad : Nat
  deriving DecidableEq, Repr

/-- One reflection on a pair (R270): its delay from the MDI in 2⁻¹⁶ ns, whether its sign is that of a short, and its magnitude in 2⁻¹⁶
of the pulse. -/
structure Reflection where
  delay : Nat
  short : Bool
  size : Nat
  deriving DecidableEq, Repr

/-- What a cable test measures (R269, R270): whether a signal of the partner overlapped the measurement, the reflections, and whether
the probe found a signature only under reversed polarity. -/
structure CableEcho where
  overlapped : Bool
  echoes : List Reflection
  reversed : Bool
  deriving DecidableEq, Repr

/-- The commands: one constructor for each row of the opcode table, those with operands first. -/
inductive Instr where
  /-- MBX_GO (R386). -/
  | mbxGo (m : Nat)
  /-- MGMT_FRAME_RX (R387). -/
  | mgmtFrameRx (port : RPort) (frame : Octets)
  /-- CONSOLE_LINE (R388). -/
  | consoleLine (line : Octets)
  /-- KN_MODULE_READ (R284). -/
  | knModuleRead (data : Option Octets)
  /-- DMA_CMD_INDEX (R315). -/
  | dmaCmdIndex (f : Nat) (slot : Nat) (prod : Nat)
  /-- DMA_CMD_ENABLE (R312). -/
  | dmaCmdEnable (f : Nat) (slot : Nat)
  /-- DMA_CMD_DISABLE (R355). -/
  | dmaCmdDisable (f : Nat) (slot : Nat)
  /-- DMA_CMD_RESUME (R353). -/
  | dmaCmdResume (f : Nat) (slot : Nat)
  /-- DMA_CMD_SKIP (R353). -/
  | dmaCmdSkip (f : Nat) (slot : Nat)
  /-- DMA_CMD_RESET (R353). -/
  | dmaCmdReset (f : Nat) (slot : Nat)
  /-- CQ_CMD_INDEX (R324). -/
  | cqCmdIndex (f : Nat) (slot : Nat) (head : Nat) (arm : Bool)
  /-- CQ_CMD_ENABLE (R312). -/
  | cqCmdEnable (f : Nat) (slot : Nat)
  /-- CQ_CMD_DISABLE (R355). -/
  | cqCmdDisable (f : Nat) (slot : Nat)
  /-- CQ_CMD_RESUME (R353). -/
  | cqCmdResume (f : Nat) (slot : Nat)
  /-- CQ_CMD_RESET (R353). -/
  | cqCmdReset (f : Nat) (slot : Nat)
  /-- DMA_G1_DOORBELL (R344). -/
  | dmaG1Doorbell (f : Nat) (slot : Nat)
  /-- HOST_NTIME_LO_READ (R88). -/
  | hostNtimeLoRead (f : Nat)
  /-- PERF_CNT_LO_READ (R453). -/
  | perfCntLoRead (f : Nat) (i : Nat)
  /-- HOST_SYNC_READ (R301). -/
  | hostSyncRead (f : Nat)
  /-- BAD_ACCESS (R10). -/
  | badAccess (space : RegSpace) (write : Bool)
  /-- REGISTER_WRITE (R12). -/
  | registerWrite (space : RegSpace) (off : Nat) (data : Octets)
  /-- CHIP_RESET (R443). -/
  | chipReset (key : Nat)
  /-- BYPASS_ON (R443). -/
  | bypassOn (key : Nat)
  /-- BYPASS_RELEASE (R443). -/
  | bypassRelease (key : Nat)
  /-- FORCE_FALLBACK (R443). -/
  | forceFallback (key : Nat)
  /-- PERST_ASSERT (R290). -/
  | perstAssert (link : Nat)
  /-- DL_DOWN (R290). -/
  | dlDown (link : Nat)
  /-- PCIE_LINK_TRAINED (R471). -/
  | pcieLinkTrained (link : Nat) (width : Nat) (speed : Nat)
  /-- FUNCTION_LEVEL_RESET (R291). -/
  | functionLevelReset (f : Nat)
  /-- FLR_COMPLETE (R291). -/
  | flrComplete (f : Nat)
  /-- BUS_MASTER_ENABLE_CLEAR (R292). -/
  | busMasterEnableClear (f : Nat)
  /-- BUS_MASTER_ENABLE_SET (R292). -/
  | busMasterEnableSet (f : Nat)
  /-- VF_ENABLE_CLEAR (R289). -/
  | vfEnableClear (pf : Nat)
  /-- MSIX_UNMASK (R300). -/
  | msixUnmask (f : Nat) (vec : Option Nat)
  /-- MSIX_MODERATION_END (R300). -/
  | msixModerationEnd (f : Nat) (vec : Nat)
  /-- DESCRIPTOR_FETCH (R313). -/
  | descriptorFetch (q : Nat)
  /-- HOST_READ_COMPLETION (R313). -/
  | hostReadCompletion (tag : Nat) (data : Octets)
  /-- HOST_BUS_ERROR (R352). -/
  | hostBusError (tag : Nat) (kind : BusErr)
  /-- COMPLETION_TIMEOUT (R306). -/
  | completionTimeout (tag : Nat)
  /-- CREDIT_TIMEOUT (R306). -/
  | creditTimeout (target : WriteTarget)
  /-- TX_JOB_START (R328). -/
  | txJobStart (q : Nat)
  /-- RX_FRAME_DELIVER (R334). -/
  | rxFrameDeliver (q : Nat)
  /-- RX_WAIT_LIMIT_EXPIRY (R334). -/
  | rxWaitLimitExpiry (q : Nat)
  /-- DRAIN_TIMEOUT (R355). -/
  | drainTimeout (res : Resource)
  /-- SLOT_FETCH_POINT (R61). -/
  | slotFetchPoint (buf : Nat) (rot : Rot)
  /-- SLOT_SEND (R111). -/
  | slotSend (buf : Nat) (rot : Rot)
  /-- GUARDIAN_CUT (R112). -/
  | guardianCut (port : RPort)
  /-- FORWARD_WINDOW_CUT (R114). -/
  | forwardWindowCut (port : RPort)
  /-- MINI_SLOT_BOUNDARY (R69). -/
  | miniSlotBoundary (rot : Rot)
  /-- HOLD_RAISE (R232). -/
  | holdRaise (port : RPort)
  /-- HOLD_RELEASE (R232). -/
  | holdRelease (port : RPort)
  /-- RING_FRAME_RX (R80). -/
  | ringFrameRx (port : RPort) (mp : Mpacket) (ts : Nat)
  /-- DELAY_REQ_RX (R90). -/
  | delayReqRx (port : RPort) (frame : Octets) (ts : Nat)
  /-- DELAY_RESP_RX (R91). -/
  | delayRespRx (port : RPort) (frame : Octets) (ts : Nat)
  /-- CAL_TIMEOUT (R90). -/
  | calTimeout (port : RPort)
  /-- CAL_BURST_START (R94). -/
  | calBurstStart (port : RPort) (ts : Nat)
  /-- DELAY_REPORT_RX (R95). -/
  | delayReportRx (port : RPort) (frame : Octets) (ts : Nat)
  /-- LINK_BEAT_SEND (R128). -/
  | linkBeatSend (port : RPort) (ts : Nat)
  /-- LINK_BEAT_RX (R144). -/
  | linkBeatRx (port : RPort) (frame : Octets) (ts : Nat)
  /-- ANNOUNCE_RX (R134). -/
  | announceRx (port : RPort) (frame : Octets) (ts : Nat)
  /-- RING_EVENT_RX (R147). -/
  | ringEventRx (port : RPort) (frame : Octets) (ts : Nat)
  /-- MISSING_BEATS (R142). -/
  | missingBeats (port : RPort)
  /-- LOSS_OF_SIGNAL (R142). -/
  | lossOfSignal (port : RPort)
  /-- SERDES_LINK_UP (R282). -/
  | serdesLinkUp (who : Serdes)
  /-- RESTORE_CYCLE_REACHED (R149). -/
  | restoreCycleReached (port : RPort)
  /-- PIER_OCCURRENCE_END (R79). -/
  | pierOccurrenceEnd (slot : Nat)
  /-- PIER_BACKOFF_END (R75). -/
  | pierBackoffEnd (slot : Nat)
  /-- RING_PREEMPT_VERIFY (R234). -/
  | ringPreemptVerify (port : RPort)
  /-- REASSEMBLY_TIMEOUT (R235). -/
  | reassemblyTimeout (port : RPort) (level : Level)
  /-- TIMER_EDGE (R124). -/
  | timerEdge (i : Nat)
  /-- EVCAP_EDGE (R122). -/
  | evcapEdge (i : Nat) (rising : Bool) (ts : Nat)
  /-- GPTP_SEND (R117). -/
  | gptpSend (p : Nat) (msg : GptpMsg) (ts : Nat)
  /-- GPTP_RX (R117). -/
  | gptpRx (p : Nat) (frame : Octets) (ts : Nat)
  /-- MAC_FRAME_RX (R256). -/
  | macFrameRx (p : Nat) (mp : Mpacket) (ts : Nat)
  /-- CELL_REQUEST_TIMEOUT (R177). -/
  | cellRequestTimeout (i : Nat)
  /-- SPILL_RETURN (R186). -/
  | spillReturn (q : Nat)
  /-- SPILL_RETURN_DONE (R186). -/
  | spillReturnDone (q : Nat)
  /-- PAUSE_FRAME_RX (R238). -/
  | pauseFrameRx (p : Nat) (frame : Octets)
  /-- PAUSE_EXPIRY (R239). -/
  | pauseExpiry (p : Nat) (c : Nat)
  /-- PAUSE_WATCHDOG_BREAK (R240). -/
  | pauseWatchdogBreak (p : Nat) (c : Nat)
  /-- TRANSMISSION_OPPORTUNITY (R193). -/
  | transmissionOpportunity (p : Nat) (mac : Mac) (ts : Nat)
  /-- FRAME_TX_END (R259). -/
  | frameTxEnd (p : Nat) (mac : Mac)
  /-- GATE_ENTRY_BOUNDARY (R199). -/
  | gateEntryBoundary (p : Nat)
  /-- HOLD_ADVANCE (R225). -/
  | holdAdvance (p : Nat)
  /-- VERIFY_TIME_EXPIRY (R222). -/
  | verifyTimeExpiry (p : Nat)
  /-- RECOVERY_RESET_TIMEOUT (R248). -/
  | recoveryResetTimeout (i : Nat)
  /-- LATENT_PERIOD_END (R249). -/
  | latentPeriodEnd (i : Nat)
  /-- EDGE_LINK_UP (R266). -/
  | edgeLinkUp (p : Nat) (rate : Nat) (master : Bool) (inverted : Bool)
  /-- EDGE_LINK_DOWN (R266). -/
  | edgeLinkDown (p : Nat)
  /-- RECOVERED_CLOCK_LOSS (R40). -/
  | recoveredClockLoss (p : Nat)
  /-- CABLE_TEST_DONE (R269). -/
  | cableTestDone (p : Nat) (echo : CableEcho)
  /-- PODL_DETECT_PROBE (R275). -/
  | podlDetectProbe (p : Nat) (probe : PodlProbe)
  /-- PODL_CLASS_RESULT (R275). -/
  | podlClassResult (p : Nat) (cls : Option Nat)
  /-- PODL_INRUSH_END (R275). -/
  | podlInrushEnd (p : Nat) (reached : Bool)
  /-- PODL_OVERLOAD (R275). -/
  | podlOverload (p : Nat)
  /-- PODL_SHORT (R276). -/
  | podlShort (p : Nat)
  /-- PODL_SUPPLY_SHORT (R275). -/
  | podlSupplyShort (p : Nat)
  /-- PODL_MPS_LOST (R275). -/
  | podlMpsLost (p : Nat)
  /-- PODL_RETRY_DELAY_END (R275). -/
  | podlRetryDelayEnd (p : Nat)
  /-- PODL_BUDGET_WAIT_END (R275). -/
  | podlBudgetWaitEnd (p : Nat)
  /-- PODL_POWERED_10S (R275). -/
  | podlPowered10s (p : Nat)
  /-- MODULE_INSERT (R284). -/
  | moduleInsert (who : Serdes) (ident : Octets)
  /-- MODULE_TXFAULT (R284). -/
  | moduleTxfault (who : Serdes)
  /-- SEGMENT_CLOSE_TIME (R362). -/
  | segmentCloseTime (d : Nat) (stream : Nat)
  /-- NVME_WRITE_DONE (R368). -/
  | nvmeWriteDone (d : Nat) (ok : Bool)
  /-- NVME_FLUSH_TIMER (R368). -/
  | nvmeFlushTimer (d : Nat)
  /-- NVME_FLUSH_DONE (R368). -/
  | nvmeFlushDone (d : Nat) (ok : Bool)
  /-- DRIVE_LINK_LOSS (R378). -/
  | driveLinkLoss (d : Nat)
  /-- DRIVE_READY (R378). -/
  | driveReady (d : Nat)
  /-- DRIVE_MOUNT_DONE (R369). -/
  | driveMountDone (d : Nat) (info : MountData)
  /-- DRIVE_STALL (R378). -/
  | driveStall (d : Nat)
  /-- CONTROLLER_RESET (R379). -/
  | controllerReset (d : Nat)
  /-- CONTROLLER_RESET_END (R379). -/
  | controllerResetEnd (d : Nat) (ready : Bool)
  /-- HEALTH_POLL (R372). -/
  | healthPoll (d : Nat) (log : Octets)
  /-- FORMAT_DONE (R371). -/
  | formatDone (d : Nat) (ok : Bool)
  /-- RECORD_READ_DONE (R381). -/
  | recordReadDone (d : Nat) (status : Nat) (data : Octets)
  /-- FAULT_EVENT (R420). -/
  | faultEvent (src : Nat) (loc : Nat) (detail : Nat)
  /-- FAULT_WINDOW_END (R420). -/
  | faultWindowEnd (src : Nat)
  /-- REACTION_END (R423). -/
  | reactionEnd (id : Nat)
  /-- SHADOW_END (R426). -/
  | shadowEnd (id : Nat)
  /-- SELFTEST_START (R431). -/
  | selftestStart (src : Nat)
  /-- SELFTEST_DONE (R433). -/
  | selftestDone (src : Nat) (verdict : Verdict)
  /-- FORCED_EVENT (R430). -/
  | forcedEvent (src : Nat)
  /-- BOUNDARY_DETECT (R418). -/
  | boundaryDetect (src : Nat) (nb : Nat)
  /-- TEMP_SAMPLE (R446). -/
  | tempSample (core : Int) (io : Int) (phy0 : Int) (phy1 : Int)
  /-- SUPPLY_EXCURSION (R498). -/
  | supplyExcursion (group : Nat)
  /-- D2D_LINK_DOWN (R23). -/
  | d2dLinkDown (i : Nat)
  /-- UNIT_CLOCK_GATE (R23). -/
  | unitClockGate (unit : Nat)
  /-- REGION_RESTART_DONE (R28). -/
  | regionRestartDone (region : Region)
  /-- SLOT_MISSED (R66). -/
  | slotMissed (slot : Nat) (port : RPort)
  /-- SMD_VERIFY_RX (R222). -/
  | smdVerifyRx (p : Nat) (smd : Smd)
  /-- UPLINK_LINK_DOWN (R282). -/
  | uplinkLinkDown (u : Nat)
  /-- RECOVERED_CLOCK_RETURN (R40). -/
  | recoveredClockReturn (p : Nat)
  /-- VF_ENABLE_SET (R289). -/
  | vfEnableSet (pf : Nat) (n : Nat)
  /-- KN_CLAIM (R397). -/
  | knClaim
  /-- KN_RELEASE (R397). -/
  | knRelease
  /-- KN_HEARTBEAT (R399). -/
  | knHeartbeat
  /-- KN_HANDOVER (R397). -/
  | knHandover
  /-- KN_ACCEPT (R397). -/
  | knAccept
  /-- KN_TAKEOVER (R397). -/
  | knTakeover
  /-- KN_OWNER_STATUS (R410). -/
  | knOwnerStatus
  /-- KN_AUDIT_READ (R407). -/
  | knAuditRead
  /-- KN_COUNTER_PAGE_GRANT (R408). -/
  | knCounterPageGrant
  /-- KN_COUNTER_PAGE_WITHDRAW (R408). -/
  | knCounterPageWithdraw
  /-- KN_VERSION (R410). -/
  | knVersion
  /-- KN_OBJ_READ (R412). -/
  | knObjRead
  /-- KN_RING_STATUS (R125). -/
  | knRingStatus
  /-- KN_TIME_SET (R87). -/
  | knTimeSet
  /-- KN_TIME_CONFIG (R117). -/
  | knTimeConfig
  /-- KN_TIMER_SET (R124). -/
  | knTimerSet
  /-- KN_EVCAP_SET (R122). -/
  | knEvcapSet
  /-- KN_EVCAP_READ (R122). -/
  | knEvcapRead
  /-- KN_RULE_WRITE (R160). -/
  | knRuleWrite
  /-- KN_HASH_PROFILE_SET (R161). -/
  | knHashProfileSet
  /-- KN_PORT_DEFAULTS_SET (R521). -/
  | knPortDefaultsSet
  /-- KN_RR_SET_DEFINE (R164). -/
  | knRrSetDefine
  /-- KN_METER_SET (R172). -/
  | knMeterSet
  /-- KN_METER_RESET (R172). -/
  | knMeterReset
  /-- KN_VAT_QUOTA_SET (R175). -/
  | knVatQuotaSet
  /-- KN_SPILL_SET (R183). -/
  | knSpillSet
  /-- KN_QUEUE_SET (R192). -/
  | knQueueSet
  /-- KN_GATE_LOAD (R201). -/
  | knGateLoad
  /-- KN_GATE_CANCEL (R203). -/
  | knGateCancel
  /-- KN_GATE_READ (R203). -/
  | knGateRead
  /-- KN_SHAPER_SET (R209). -/
  | knShaperSet
  /-- KN_STREAM_SHAPER_BIND (R207). -/
  | knStreamShaperBind
  /-- KN_QSAMPLE_SET (R212). -/
  | knQsampleSet
  /-- KN_QSAMPLE_READ (R214). -/
  | knQsampleRead
  /-- KN_SLOT_EGRESS_BIND (R190). -/
  | knSlotEgressBind
  /-- KN_PREEMPT_SET (R221). -/
  | knPreemptSet
  /-- KN_PREEMPT_READ (R226). -/
  | knPreemptRead
  /-- KN_PAUSE_SET (R238). -/
  | knPauseSet
  /-- KN_STREAM_ID_SET (R242). -/
  | knStreamIdSet
  /-- KN_FRER_GEN_SET (R244). -/
  | knFrerGenSet
  /-- KN_FRER_RCVY_SET (R246). -/
  | knFrerRcvySet
  /-- KN_PORT_SET (R519). -/
  | knPortSet
  /-- KN_PORT_STATUS (R268). -/
  | knPortStatus
  /-- KN_CABLE_TEST (R269). -/
  | knCableTest
  /-- KN_PODL_SET (R273). -/
  | knPodlSet
  /-- KN_FUNC_QUEUE_MAP (R295). -/
  | knFuncQueueMap
  /-- KN_EVENT_MAP (R520). -/
  | knEventMap
  /-- KN_DMAQ_SET (R310). -/
  | knDmaqSet
  /-- KN_DMAQ_RECOVER (R353). -/
  | knDmaqRecover
  /-- KN_DMAQ_STATUS (R343). -/
  | knDmaqStatus
  /-- KN_REGION_POWER (R23). -/
  | knRegionPower
  /-- KN_REC_STREAM_SET (R358). -/
  | knRecStreamSet
  /-- KN_REC_FLUSH (R362). -/
  | knRecFlush
  /-- KN_REC_SEAL (R370). -/
  | knRecSeal
  /-- KN_REC_UNSEAL (R370). -/
  | knRecUnseal
  /-- KN_REC_DRIVE (R378). -/
  | knRecDrive
  /-- KN_REC_QUOTA_SET (R375). -/
  | knRecQuotaSet
  /-- KN_REC_STATUS (R377). -/
  | knRecStatus
  /-- KN_FAULT_SET (R419). -/
  | knFaultSet
  /-- KN_FAULT_FORCE (R429). -/
  | knFaultForce
  /-- KN_FAULT_LOG_READ (R440). -/
  | knFaultLogRead
  /-- KN_SELFTEST_RUN (R434). -/
  | knSelftestRun
  /-- KN_COUNTER_READ (R456). -/
  | knCounterRead
  /-- KN_SCHED_LOAD (R483). -/
  | knSchedLoad
  /-- KN_SCHED_STATUS (R487). -/
  | knSchedStatus
  /-- KN_RING_WITHDRAW (R490). -/
  | knRingWithdraw
  /-- KN_RING_READMIT (R490). -/
  | knRingReadmit
  /-- KN_BYPASS (R525). -/
  | knBypass
  /-- KN_RESET (R480). -/
  | knReset
  /-- KN_FW_WRITE (R476). -/
  | knFwWrite
  /-- KN_FW_ACTIVATE (R477). -/
  | knFwActivate
  /-- KN_CONFIG_STORE (R479). -/
  | knConfigStore
  /-- KN_CONFIG_READ (R479). -/
  | knConfigRead
  /-- KN_DRAIN_SET (R488). -/
  | knDrainSet
  /-- LEASE_LAPSE (R399). -/
  | leaseLapse
  /-- HANDOVER_WINDOW_END (R397). -/
  | handoverWindowEnd
  /-- CYCLE_BOUNDARY (R47). -/
  | cycleBoundary
  /-- OFFSET_SLEW (R103). -/
  | offsetSlew
  /-- DELAY_REPORT_SEND (R95). -/
  | delayReportSend
  /-- CAL_CHAIN_TIMEOUT (R131). -/
  | calChainTimeout
  /-- RING_EVENT_SEND (R147). -/
  | ringEventSend
  /-- LISTEN_PERIOD_END (R133). -/
  | listenPeriodEnd
  /-- ANNOUNCE_RESEND (R134). -/
  | announceResend
  /-- ANNOUNCE_WINDOW_END (R136). -/
  | announceWindowEnd
  /-- CYCLE_ORIGIN_REACHED (R136). -/
  | cycleOriginReached
  /-- RANK_BACKOFF_END (R135). -/
  | rankBackoffEnd
  /-- BYPASS_SWITCH_ON (R153). -/
  | bypassSwitchOn
  /-- BYPASS_SWITCH_OFF (R156). -/
  | bypassSwitchOff
  /-- WITHDRAW_ACT_TIME (R490). -/
  | withdrawActTime
  /-- WITHDRAW_BYPASS (R490). -/
  | withdrawBypass
  /-- PPS_OUT_EDGE (R120). -/
  | ppsOutEdge
  /-- HOLDOVER_END (R118). -/
  | holdoverEnd
  /-- GATE_LIST_ACTIVATION (R201). -/
  | gateListActivation
  /-- SHAPER_REFILL (R210). -/
  | shaperRefill
  /-- QSAMPLE_INSTANT (R212). -/
  | qsampleInstant
  /-- FAULT_LOG_COLLECT (R439). -/
  | faultLogCollect
  /-- TEMP_COOL_RESET (R446). -/
  | tempCoolReset
  /-- WATCHDOG_KICK (R447). -/
  | watchdogKick
  /-- WATCHDOG_EXPIRY (R447). -/
  | watchdogExpiry
  /-- PLL_LOSS_OF_LOCK (R42). -/
  | pllLossOfLock
  /-- REFERENCE_LOSS (R509). -/
  | referenceLoss
  /-- REFERENCE_RETURN (R42). -/
  | referenceReturn
  /-- CELLAR_SELF_REFRESH (R23). -/
  | cellarSelfRefresh
  /-- RESET_N_FALL (R463). -/
  | resetNFall
  /-- RESET_N_RISE (R286). -/
  | resetNRise
  /-- POWER_ON_RESET_RELEASE (R499). -/
  | powerOnResetRelease
  /-- TRESTLE_SUPPLY_DIP (R501). -/
  | trestleSupplyDip
  /-- IMAGE_VERIFIED (R499). -/
  | imageVerified
  /-- CORE_PGOOD_RISE (R499). -/
  | corePgoodRise
  /-- CONFIG_APPLY (R479). -/
  | configApply
  /-- RUNNING_REACHED (R470). -/
  | runningReached
  /-- START_TIMEOUT (R464). -/
  | startTimeout
  /-- FALLBACK_ENTRY (R465). -/
  | fallbackEntry
  /-- RECOVERY_IMAGE_LOAD (R465). -/
  | recoveryImageLoad
  /-- FLASH_WRITE_DONE (R476). -/
  | flashWriteDone
  /-- CONFIG_STORE_DONE (R479). -/
  | configStoreDone
  /-- SCHED_STAGING_DONE (R483). -/
  | schedStagingDone
  /-- SCHED_ACTIVATION (R485). -/
  | schedActivation
  deriving DecidableEq, Repr

end Sys2Proof
end

