-- ==== Sys2Proof/Decode.lean ====
section
/-! DEFINITION. Decode.lean: the reading of a table word. The opcode table gives none of its rows any bits: a command
comes to the block as an event or an access, never as a word (log entry 3). -/

namespace Sys2Proof

/-- The command a word of the table's bits spells: none, since no row has bits. -/
def decodeTableWord (_nbits _w : Nat) : Option Instr := none

end Sys2Proof
end

