-- ==== Sys2Proof/Machine/Bits.lean ====
section
/-! DEFINITION. Bits.lean: tables, bit fields, byte orders and signed fields. -/

namespace Sys2Proof.Machine

open Sys2Proof

/-- The object a table holds under number `k`; `d` where the table lists none. -/
def tblGet {α : Type} (d : α) : Tbl α → Nat → α
  | [], _ => d
  | (k', v) :: t, k => if k' = k then v else tblGet d t k

/-- A table without its entry for `k`. -/
def tblErase {α : Type} (t : Tbl α) (k : Nat) : Tbl α := t.filter (fun e => e.1 != k)

/-- A table with an entry placed before the first larger number. -/
def tblInsert {α : Type} (k : Nat) (v : α) : Tbl α → Tbl α
  | [] => [(k, v)]
  | (k', v') :: t => if k < k' then (k, v) :: (k', v') :: t else (k', v') :: tblInsert k v t

/-- A table whose object `k` is `v`; no entry stands for the default `d`. -/
def tblSet {α : Type} [DecidableEq α] (d : α) (t : Tbl α) (k : Nat) (v : α) : Tbl α :=
  if v = d then tblErase t k else tblInsert k v (tblErase t k)

/-- The canonical form of a table: numbers strictly rising, no entry equal to the default. -/
def tblWf {α : Type} [DecidableEq α] (d : α) : Tbl α → Bool
  | [] => true
  | (k, v) :: t => decide (v ≠ d) && t.all (fun e => decide (k < e.1)) && tblWf d t

/-- The bits `lo` to `lo + w - 1` of a number. -/
def fld (x lo w : Nat) : Nat := x / 2 ^ lo % 2 ^ w

/-- Bit `i` of a number. -/
def bitOf (x i : Nat) : Bool := x / 2 ^ i % 2 == 1

/-- A number with the bits `lo` to `lo + w - 1` replaced by the low bits of `v`. -/
def setFld (x lo w v : Nat) : Nat :=
  x - fld x lo w * 2 ^ lo + v % 2 ^ w * 2 ^ lo

/-- One for true. -/
def b2n (b : Bool) : Nat := if b then 1 else 0

/-- A number's octets, least significant first, `n` of them. -/
def leBytes : Nat → Nat → Octets
  | 0, _ => []
  | n + 1, v => BitVec.ofNat 8 v :: leBytes n (v / 256)

/-- The number that octets spell, least significant first. -/
def leNat : Octets → Nat
  | [] => 0
  | b :: t => b.toNat + 256 * leNat t

/-- A number's octets, most significant first, `n` of them. -/
def beBytes (n v : Nat) : Octets := (leBytes n v).reverse

/-- The number that octets spell, most significant first. -/
def beNat (o : Octets) : Nat := leNat o.reverse

/-- `n` octets from offset `off`; fewer where the string ends. -/
def slice (o : Octets) (off n : Nat) : Octets := (o.drop off).take n

/-- The little-endian number in `n` octets from offset `off`; octets not given count as 0. -/
def leAt (o : Octets) (off n : Nat) : Nat := leNat (slice o off n)

/-- The big-endian number in `n` octets from offset `off`. -/
def beAt (o : Octets) (off n : Nat) : Nat := beNat (slice o off n)

/-- Octets cut or filled with zeros to a length. -/
def padTo (n : Nat) (o : Octets) : Octets := o.take n ++ List.replicate (n - o.length) 0

/-- Octets with `d` written over the place from `off` on; the string grows with zeros where it was shorter. -/
def overwrite (o : Octets) (off : Nat) (d : Octets) : Octets :=
  padTo off o ++ d ++ o.drop (off + d.length)

/-- The signed number a `w`-bit two's-complement field holds. -/
def toSigned (w x : Nat) : Int := if x % 2 ^ w < 2 ^ (w - 1) then (x % 2 ^ w : Nat) else (x % 2 ^ w : Nat) - (2 ^ w : Nat)

/-- The `w`-bit two's-complement field of a signed number. -/
def ofSigned (w : Nat) (i : Int) : Nat := (i % (2 ^ w : Nat)).toNat

/-- Division rounded to nearest, ties away from zero. -/
def roundDiv (a : Int) (b : Nat) : Int :=
  if 0 ≤ a then (2 * a + b) / (2 * b) else -((2 * (-a) + b) / (2 * b))

/-- Division rounded up. -/
def ceilDiv (a b : Nat) : Nat := if b = 0 then 0 else (a + b - 1) / b

/-- A list with position `i` replaced. -/
def setAt {α : Type} : List α → Nat → α → List α
  | [], _, _ => []
  | _ :: t, 0, v => v :: t
  | x :: t, i + 1, v => x :: setAt t i v

/-- Membership added to a list kept without repeats. -/
def setInsert {α : Type} [DecidableEq α] (l : List α) (x : α) : List α := if x ∈ l then l else x :: l

/-- Membership removed. -/
def setErase {α : Type} [DecidableEq α] (l : List α) (x : α) : List α := l.filter (fun y => decide (y ≠ x))

/-- The numbers below `n` whose bit in a mask is set. -/
def maskList (n m : Nat) : List Nat := (List.range n).filter (bitOf m)

/-- Octets of an ASCII text. -/
def ascii (t : String) : Octets := t.toList.map (fun c => BitVec.ofNat 8 c.toNat)

end Sys2Proof.Machine
end

