-- ==== Sys2Proof/Machine/Crc.lean ====
section
/-! DEFINITION. Crc.lean: the check sequences of frames, ring headers and records. -/

namespace Sys2Proof.Machine

open Sys2Proof

/-- One octet through a reflected 32-bit CRC register. -/
def crcStep32 (poly : BitVec 32) (c : BitVec 32) (b : Byte) : BitVec 32 :=
  let step := fun (x : BitVec 32) => if x.getLsbD 0 then (x >>> 1) ^^^ poly else x >>> 1
  step (step (step (step (step (step (step (step (c ^^^ b.zeroExtend 32))))))))

/-- A reflected 32-bit CRC with initial value and final inversion of all ones. -/
def crcRefl32 (poly : BitVec 32) (o : Octets) : Nat :=
  (~~~ (o.foldl (crcStep32 poly) 0xFFFFFFFF#32)).toNat

/-- CRC-32C (R333, R402). -/
def crc32c (o : Octets) : Nat := crcRefl32 0x82F63B78#32 o

/-- CRC-32 of IEEE Std 802.3, as the frame check sequence (R4). -/
def crc32 (o : Octets) : Nat := crcRefl32 0xEDB88320#32 o

/-- The frame check sequence as sent: least significant octet first. -/
def fcsOf (o : Octets) : Octets := leBytes 4 (crc32 o)

/-- One octet through the 16-bit header CRC of polynomial 0x1021 (R57). -/
def crcStep16 (c : BitVec 16) (b : Byte) : BitVec 16 :=
  let step := fun (x : BitVec 16) => if x.getMsbD 0 then (x <<< 1) ^^^ 0x1021#16 else x <<< 1
  step (step (step (step (step (step (step (step (c ^^^ (b.zeroExtend 16 <<< 8)))))))))

/-- The ring header check (R57): initial value all ones, no reflection, no final inversion. -/
def crc16 (o : Octets) : Nat := (o.foldl crcStep16 0xFFFF#16).toNat

end Sys2Proof.Machine
end

