-- ==== Sys2Proof/Config.lean ====
section
/-! DEFINITION. Config.lean: what an implementation fixes and the free values. None of these constants
has a body: no proof can see which value it has. -/

namespace Sys2Proof.Config

/-- The source of every value the spec leaves open (a random backoff, the sense of an inexact token
refill, an unstated result). The n-th value drawn is `freeNat n` (log entry 6). -/
opaque freeNat : Nat → Nat

/-- ECDSA P-256 verification of a SHA-256 digest with a public key and a signature (R481). -/
opaque verifyP256 (key digest signature : List (BitVec 8)) : Bool

/-- ECDSA P-384 verification of a SHA-384 digest under a ROM key hash (R473, R474). -/
opaque verifyP384 (digest signature : List (BitVec 8)) (keyIndex : Nat) : Bool

/-- SHA-384 as used by the firmware signature (R473). -/
opaque sha384 (data : List (BitVec 8)) : List (BitVec 8)

/-- The part's serial number (R367, R394), fixed in manufacture. -/
opaque partSerial : Nat

/-- The maximum power in mW of a PoDL class, as IEEE 802.3 Clause 104 gives it (R273). -/
opaque podlClassMw : Nat → Nat

/-- A module whose identifier and compliance codes are these octets supports a line rate in Mb/s (R284). -/
opaque moduleSupports (ident : List (BitVec 8)) (mbps : Nat) : Bool

/-- The levels of x_RS0 and x_RS1 for a line rate in Mb/s (R283; log entry 126). -/
opaque rateSelect : Nat → Bool × Bool

/-- How the target of a buffer entry of a schedule image spells a static slot (false) or a dynamic frame ID (true), and its number:
the spec gives one value for both (R482; log entry 23). -/
opaque bufTarget : Nat → Bool × Nat

/-- How many ticks of a clock domain that no root frequency drives fall within a tick of the span clock: the recovered receive
clocks, the PCIe reference and the trestle oscillator run at rates of their own (R37, R457). -/
opaque domainTicks : Nat → Nat → Nat

end Sys2Proof.Config
end

