-- ==== Sys2Proof/Machine/State.lean ====
section
/-! DEFINITION. State.lean: everything the spec gives the block, as plain data, and its state after reset. -/

namespace Sys2Proof.Machine

open Sys2Proof

/-- Claim state of a pier slot (R78). -/
inductive ClaimState where
  | unclaimed | observing | claiming | held | backoff
  deriving DecidableEq, Repr

/-- State of a ring port (R143). -/
inductive PortState where
  | down | linked | inRing
  deriving DecidableEq, Repr

/-- Ring state of the node (R125). -/
inductive RingState where
  | offline | calibrating | listen | announce | rankBackoff | integrating | synchronised | withdrawn
  deriving DecidableEq, Repr

/-- Where a queued frame's octets are (R186, R191). -/
inductive QState where
  | ready | inCellar | returning
  deriving DecidableEq, Repr

/-- Preemption verification of a port (R222, R226). -/
inductive VerState where
  | unknown | verifying | succeeded | failed | disabled
  deriving DecidableEq, Repr

/-- State of a PoDL port (R274). -/
inductive PodlState where
  | disabled | detecting | classifying | inrush | powered | backoff | lockout | test
  deriving DecidableEq, Repr

/-- State of a queue (R311). -/
inductive QSt where
  | disabled | running | draining | error | halted
  deriving DecidableEq, Repr

/-- Progress of a DMA job (R328, R339 to R342); one in `read` has all it needs for its stage, and waits for its turn. -/
inductive JobSt where
  | reading | admitting | read | departing | writing | ready | halted
  deriving DecidableEq, Repr

/-- What a host memory read was issued for (R313, R319, R328, R344); a dead one's data will be discarded (R291). -/
inductive ReadKind where
  | desc | frag | payload | scan | dead
  deriving DecidableEq, Repr

/-- Kind of a unit written to a drive (R365). -/
inductive UnitKind where
  | segment | index | label
  deriving DecidableEq, Repr

/-- State of a recorder drive (R377). -/
inductive DriveSt where
  | absent | init | unformatted | formatting | recording | stalled | failed | disabled
  deriving DecidableEq, Repr

/-- State of a mailbox (R386). -/
inductive MbxSt where
  | idle | busy | done
  deriving DecidableEq, Repr

/-- Which path a frame came in by (R158). -/
inductive ArrKind where
  | edge | ringOpen | slotRx | slotEgress | host
  deriving DecidableEq, Repr

/-- What the part shows outside itself: the model's own record of it (log entry 5). -/
inductive Output where
  /-- a frame, or a fragment of one, begins on an edge or uplink port -/
  | frame (p : Nat) (octets : Octets)
  /-- a frame begins on a ring port -/
  | ring (port : RPort) (octets : Octets)
  /-- a piece of a preemptable frame ends on a port: its start or continuation code, the fragment count of a continuation, the
  octets of the frame's data in it, and its check: the mCRC, or the FCS of the last piece (R218, R229) -/
  | fragment (p code : Nat) (frag : Option Nat) (data crc : Octets)
  /-- a frame is ended with an invalid check sequence -/
  | cut (port : RPort)
  /-- what arrived on the other ring port leaves a port unchanged through the bypass (R153) -/
  | bypass (port : RPort) (octets : Octets)
  /-- a verification or response mPacket -/
  | verify (p : Nat) (smd : Smd)
  /-- a memory read request with its tag, requester, range, No Snoop and Relaxed Ordering (R304) -/
  | hostRead (tag f addr len : Nat) (noSnoop relaxed : Bool)
  /-- a memory write by a requester, with its attributes (R304) -/
  | hostWrite (f addr : Nat) (data : Octets) (noSnoop relaxed : Bool)
  /-- a memory write sent as a poisoned TLP (R437) -/
  | hostPoison (f addr : Nat) (data : Octets) (noSnoop relaxed : Bool)
  /-- a frame in transmission on an edge or uplink port is ended with an invalid check sequence (R437) -/
  | badEnd (p : Nat)
  /-- an MSI-X message of a function's vector -/
  | msix (f vec : Nat)
  /-- data returned to a register read -/
  | readData (f value : Nat)
  /-- a line on the UART console -/
  | console (text : Octets)
  /-- an NVMe command to a drive: opcode, first unit, octets; of the admin queue 256 more than the opcode, and the feature (R372) -/
  | nvme (d op unit : Nat) (data : Octets)
  /-- a level driven on a pin -/
  | pin (name : Nat) (level : Bool)
  deriving DecidableEq, Repr

/-- Clock state of the part. -/
structure Clocks where
  /-- ticks of the 1.25 GHz span clock since chip reset (the base every root-frequency domain divides from) (R36, R210; count) -/
  tick : Nat := 0
  /-- the root PLL is locked (R42; 1) -/
  pllLocked : Bool := true
  /-- the 25 MHz reference is present (R42, R509; 1) -/
  refPresent : Bool := true
  /-- units (numbered by their first fault source) whose clock is gated (R23; set) -/
  gatedUnits : List Nat := []
  /-- the cellar is in self-refresh (R23; 1) -/
  cellarSelfRefresh : Bool := false
  /-- ports whose recovered clock is lost, receive logic held in reset (R40; set of p) -/
  rxClockLost : List Nat := []
  /-- die-to-die links declared down (R23; set of 0-4) -/
  d2dDown : List Nat := []
  /-- tick at which the part last came out of a chip reset or power-up (R23; tick) -/
  bootTick : Nat := 0
  /-- last request of a unit (numbered by its first fault source) (R23; tick) -/
  lastUse : Tbl Nat := []
  /-- last use of the cellar by recording or spill (R23; tick) -/
  cellarUse : Nat := 0
  deriving DecidableEq, Repr

/-- Service state of the six regions. -/
structure Regions where
  /-- regions out of service; after a chip reset every region but Trestle until Keanak marks it running (R469) (R23, R27, R468; set) -/
  out : List Region := [.edge, .ring, .host, .record, .control]
  /-- regions under restart (R23, R28; set) -/
  restarting : List Region := []
  /-- regions power-gated by the owner (R23; set) -/
  gated : List Region := []
  /-- regions that were out of service at an activation point and reload the new configuration (R29; set) -/
  missedActivation : List Region := []
  deriving DecidableEq, Repr

/-- Owner-set parameters of KN_TIME_CONFIG (R117 to R121). -/
structure TimeCfg where
  /-- logSyncInterval (R117; int) -/
  syncInterval : Int := -3
  /-- logAnnounceInterval (R117; int) -/
  announceInterval : Int := 0
  /-- priority1 (R117; 8) -/
  priority1 : Nat := 246
  /-- priority2 (R117; 8) -/
  priority2 : Nat := 248
  /-- one-step selected per port, bit p (R117; 18 bits) -/
  oneStep : Nat := 0
  /-- the owner has marked the time traceable (R7, R117; 1) -/
  traceable : Bool := false
  /-- the owner's timeSource, used when traceable (R117; 8) -/
  timeSource : Nat := 0xA0
  /-- holdoverLimit (R118; s) -/
  holdoverLimit : Nat := 10
  /-- PPS_OUT high time (R120; us) -/
  ppsHigh : Nat := 100000
  /-- PPS_OUT board-delay correction (R120; 250 ps) -/
  ppsDelay : Int := 0
  /-- ppsFreeRun (R120; 1) -/
  ppsFreeRun : Bool := false
  /-- REF10M_OUT board-delay correction (R120, R121; 250 ps) -/
  ref10mDelay : Int := 0
  deriving DecidableEq, Repr

/-- One capture input (R122). -/
structure CapIn where
  /-- 0 rising, 1 falling, 2 both (R122; enum) -/
  edges : Nat := 0
  /-- board-delay correction (R122; 250 ps) -/
  delay : Int := 0
  /-- oldest first (R122, R123; 16 or 64 records of 128 bits) -/
  fifo : List Nat := []
  /-- last captured edge (R122; 2^-16 ns) -/
  lastEdge : Option Nat := none
  /-- an edge was dropped since the last record (R122, R123; 1) -/
  lost : Bool := false
  deriving DecidableEq, Repr

/-- One timer output TIMER0-TIMER3 (R124). -/
structure Timer where
  /-- start time (R124; ns) -/
  start : Nat := 0
  /-- period in steps of 250 ps (R124; 250 ps) -/
  period : Nat := 64
  /-- high time (R124; 250 ps) -/
  high : Nat := 4
  /-- pulse count, 0 unlimited (R124; 32) -/
  count : Nat := 0
  /-- CONTINUE on loss of synchronisation (STOP is the default) (R124; 1) -/
  cont : Bool := false
  /-- a pulse train is set (R124; 1) -/
  running : Bool := false
  /-- output level (R124, R505; 1) -/
  level : Bool := false
  /-- pulses finished (R124; count) -/
  done : Nat := 0
  /-- period in force until the next period boundary (R124; 250 ps) -/
  curPeriod : Nat := 64
  /-- high time in force until the next period boundary (R124; 250 ps) -/
  curHigh : Nat := 4
  /-- instant of the next edge (R124; 2^-16 ns) -/
  nextEdge : Nat := 0
  /-- board-delay correction of the pin (R120, R124; 250 ps) -/
  delay : Int := 0
  deriving DecidableEq, Repr

/-- Deviations of one sync node in one measuring cycle (R98, R99). -/
structure SyncVal where
  /-- node (R99; 6) -/
  node : Nat := 0
  /-- raw arrival timestamp on CW (R98, R102; 2^-16 ns) -/
  arrCW : Option Nat := none
  /-- raw arrival timestamp on CCW (R98, R102; 2^-16 ns) -/
  arrCCW : Option Nat := none
  deriving DecidableEq, Repr

/-- What IEEE 802.1AS keeps for a port (R117; PRESUMED, log entry 15). -/
structure GptpPort where
  /-- sequenceId of the last Sync (R117; 16) -/
  seqSync : Nat := 0
  /-- sequenceId of the last Announce (R117; 16) -/
  seqAnn : Nat := 0
  /-- sequenceId of the last Pdelay_Req (R117; 16) -/
  seqReq : Nat := 0
  /-- a Pdelay_Req has no complete answer yet (R117; 1) -/
  waiting : Bool := false
  /-- departure of that Pdelay_Req (R117; 80) -/
  t1 : Nat := 0
  /-- its arrival at the peer, from Pdelay_Resp (R117; 80) -/
  t2 : Nat := 0
  /-- arrival of that Pdelay_Resp (R117; 80) -/
  t4 : Nat := 0
  /-- mean link delay last measured (R117; 80) -/
  delay : Option Nat := none
  /-- consecutive Pdelay_Req without a complete answer (R117; count) -/
  lost : Nat := 0
  /-- departure of the peer's Pdelay_Resp and its arrival in the exchange before (R117; 2 x 80) -/
  prev : Option (Nat × Nat) := none
  /-- the peer answers peer delay (R117; 1) -/
  asCapable : Bool := false
  deriving DecidableEq, Repr

/-- Network time, synchronisation and timing outputs. -/
structure TimeSt where
  /-- network time counter with its 32 hidden fractional bits; 0 after power-up (R7, R84, R86; 64+48 bits (2^-48 ns)) -/
  nt : Nat := 0
  /-- trestle coarse time (R86; ms) -/
  coarse : Nat := 0
  /-- rate correction in force (R84, R101; 2^-32) -/
  rho : Int := 0
  /-- rate correction that takes effect at the boundary ending cycle 2j+1 (R103; 2^-32) -/
  rhoNext : Option Int := none
  /-- offset correction to be slewed in the network-idle interval of cycle 2j+1 (R103; 2^-16 ns) -/
  phiNext : Option Int := none
  /-- slew in progress: its offset in 2^-16 ns and the unslewed time of it that has passed in 2^-48 ns (R103; struct) -/
  slew : Option (Int × Nat) := none
  /-- phi of the previous pair (R101; 2^-16 ns) -/
  phiPrev : Int := 0
  /-- LOSS_REASON that a failed check of R104 gives at the end of cycle 2j+1, 0 none (R104; 8) -/
  limitFail : Nat := 0
  /-- arrivals of the measuring cycle in progress (R98; list) -/
  cur : List SyncVal := []
  /-- arrivals of the previous measuring cycle (none: no drift is computed) (R101, R102; list) -/
  prev : Option (List SyncVal) := none
  /-- absolute number of the previous measuring cycle (R102; count) -/
  prevCycle : Nat := 0
  /-- sync frames that passed R59 outside the measurement window this cycle (R107; count) -/
  outWin : Nat := 0
  /-- TIME_VALID (R86; 1) -/
  timeValid : Bool := false
  /-- LOSS_REASON (R88, R107; 8) -/
  lossReason : Nat := 0
  /-- NVAL (R88; 4) -/
  nval : Nat := 0
  /-- consecutive thin pairs counted (R107, R140; count) -/
  thin : Nat := 0
  /-- thin pairs count towards N_starve (R140; 1) -/
  thinArmed : Bool := false
  /-- cycles completed in SYNCHRONISED (R140; count) -/
  syncCycles : Nat := 0
  /-- pairs completed in SYNCHRONISED (R118; count) -/
  pairsInSync : Nat := 0
  /-- the node has been SYNCHRONISED since chip reset (R119, R132; 1) -/
  everSync : Bool := false
  /-- consecutive consistent measuring cycles while INTEGRATING (R139; count) -/
  consistent : Nat := 0
  /-- measuring cycles passed while INTEGRATING (R139; count) -/
  intCycles : Nat := 0
  /-- per function: HOST_NTIME_HI, FRAC and HOST_TIME_STATUS as held at its last NS_LO read (R11, R88; 32+16+32 each) -/
  latches : Tbl (Nat × Nat × Nat) := []
  /-- UTC offset once given (R87, R117; 16) -/
  utcOffset : Option Int := none
  /-- KN_TIME_CONFIG parameters (R117, R120; struct) -/
  cfg : TimeCfg := {}
  /-- holdover in force (R118; 1) -/
  holdover : Bool := false
  /-- tick at which holdover ends (R118; tick) -/
  holdoverEnd : Nat := 0
  /-- Sync and Announce are not sent (R118, R119; 1) -/
  gptpStopped : Bool := true
  /-- the owner has set the time under R87 before first synchronisation (R119; 1) -/
  timeByOwner : Bool := false
  /-- PPS_OUT level (R120, R505; 1) -/
  pps : Bool := false
  /-- REF10M_OUT level (R121, R505; 1) -/
  ref10m : Bool := false
  /-- place of REF10M_OUT in its period of 100 ns, before the board-delay correction (R121; 2^-48 ns) -/
  refPhase : Nat := 0
  /-- PPS_IN 0 and EVCAP0-3 1-4 (R122; 5 inputs) -/
  caps : Tbl CapIn := []
  /-- TIMER0-TIMER3 (R124; 4 timers) -/
  timers : Tbl Timer := []
  /-- gPTP state of the edge and uplink ports (PRESUMED form, log entry 15) (R117; 18 ports) -/
  gptp : Tbl GptpPort := []
  deriving DecidableEq, Repr

/-- Static ownership entry (R54). -/
structure Own where
  /-- slot (R54; 12) -/
  slot : Nat := 0
  /-- b (R54; 6) -/
  b : Nat := 0
  /-- m (R54; 7) -/
  m : Nat := 1
  /-- owner (R54; 6) -/
  owner : Nat := 0
  deriving DecidableEq, Repr

/-- Pier slot entry (R73). -/
structure Pier where
  /-- slot (R73; 12) -/
  slot : Nat := 0
  /-- key (R73; 32) -/
  key : Nat := 0
  /-- lo (R73; 6) -/
  lo : Nat := 0
  /-- hi (R73; 6) -/
  hi : Nat := 0
  /-- b (R73; 6) -/
  b : Nat := 0
  /-- m (R73; 7) -/
  m : Nat := 1
  deriving DecidableEq, Repr

/-- Transmit or receive slot buffer entry of an image (R60, R482). -/
structure BufEnt where
  /-- node (R482; 6) -/
  node : Nat := 0
  /-- buf (R60; 13) -/
  buf : Nat := 0
  /-- bound to a dynamic frame ID (R60; 1) -/
  isDyn : Bool := false
  /-- slot or frame ID (R60; 13) -/
  id : Nat := 0
  /-- b (R60; 6) -/
  b : Nat := 0
  /-- m (R60; 7) -/
  m : Nat := 1
  /-- capacity in bytes (R60; 14) -/
  cap : Nat := 16
  /-- empty policy SEND_NOTHING (R62; 1) -/
  sendNothing : Bool := false
  deriving DecidableEq, Repr

/-- A gate control list with its parameters (R197, R198). -/
structure GateList where
  /-- GATE_ENABLED (R198; 1) -/
  enabled : Bool := false
  /-- ADMIN_GATE_STATES (R198; 8) -/
  admin : Nat := 0xFF
  /-- BASE_TIME (R198; 64) -/
  base : Nat := 0
  /-- CYCLE_TIME (R198; 32) -/
  cycle : Nat := 1000000
  /-- CYCLE_TIME_EXTENSION (R198; 32) -/
  ext : Nat := 0
  /-- entries (LIST_LENGTH is their number) (R197; up to 1 024 of 64 bits) -/
  entries : List Nat := []
  /-- the bulk payload that loaded it, which its digest covers (R403; bytes) -/
  raw : Octets := []
  deriving DecidableEq, Repr

/-- Gate list of one node and port in an image (R482). -/
structure ImgGate where
  /-- node (R482; 6) -/
  node : Nat := 0
  /-- port (R482; 5) -/
  port : Nat := 0
  /-- gl (R482; struct) -/
  gl : GateList := {}
  deriving DecidableEq, Repr

/-- Schedule image (R44, R89, R481, R482). -/
structure Image where
  /-- IMAGE_ID (R481; 32) -/
  id : Nat := 0
  /-- MT (R44; ns) -/
  mt : Nat := 20
  /-- C (R44; 20) -/
  c : Nat := 1
  /-- S (R44; 12) -/
  s : Nat := 0
  /-- L_st (R44; 16) -/
  lst : Nat := 1
  /-- static tail (R44; 16) -/
  lambda : Nat := 0
  /-- N_dyn (R44; 14) -/
  ndyn : Nat := 0
  /-- L_ms (R44; 8) -/
  lms : Nat := 1
  /-- L_open (R44; 20) -/
  lopen : Nat := 0
  /-- L_nit (R44; 16) -/
  lnit : Nat := 1
  /-- RING_ETYPE (R44; 16) -/
  etype : Nat := 0x88B5
  /-- ring line rate 0 50G, 1 25G, 2 10G (R281; enum) -/
  rate : Nat := 0
  /-- ring size P (R151; 7) -/
  p : Nat := 2
  /-- TC map (R228; 8) -/
  tcMap : Nat := 0xE0
  /-- precision, in steps of 0.25 ns (R89; 250 ps) -/
  pi : Nat := 16
  /-- apo (R89; 8) -/
  apo : Nat := 1
  /-- g (R89; 8) -/
  g : Nat := 1
  /-- phiLim (R89; ns) -/
  phiLim : Nat := 4
  /-- rhoLim (R89; 2^-32) -/
  rhoLim : Nat := 4295
  /-- nStarve (R89; 8) -/
  nStarve : Nat := 8
  /-- sync nodes: node, sync slot (R89; 3 to 15) -/
  sync : List (Nat × Nat) := []
  /-- own (R54; list) -/
  own : List Own := []
  /-- frame ID, owner (R68; list) -/
  dyn : List (Nat × Nat) := []
  /-- piers (R73; up to 256) -/
  piers : List Pier := []
  /-- tx (R60; list) -/
  tx : List BufEnt := []
  /-- rx (R60; list) -/
  rx : List BufEnt := []
  /-- gates (R203; list) -/
  gates : List ImgGate := []
  /-- the image as loaded (its digest is taken over it) (R403, R481; bytes) -/
  bytes : Octets := []
  deriving DecidableEq, Repr

/-- Transmit slot buffer (R60 to R62, R68). -/
structure TxBuf where
  /-- front half; none: never written (R61; up to 9 216 B) -/
  front : Option Octets := none
  /-- completed write whose swap waits for a transmitter read (R61, R64; up to 9 216 B) -/
  back : Option Octets := none
  /-- SEQ of the last content sent (R61; 16) -/
  seq : Nat := 0
  /-- the front content has been sent on some rotation (R61; 1) -/
  sentCur : Bool := false
  /-- front content is new for CW (R62; 1) -/
  newCW : Bool := false
  /-- front content is new for CCW (R62; 1) -/
  newCCW : Bool := false
  /-- the next CW frame carries FIRST (R61; 1) -/
  firstCW : Bool := true
  /-- the next CCW frame carries FIRST (R61; 1) -/
  firstCCW : Bool := true
  /-- content latched at the CW fetch point, being read (R61; SEQ and content) -/
  latCW : Option (Nat × Octets) := none
  /-- content latched at the CCW fetch point, being read (R61; SEQ and content) -/
  latCCW : Option (Nat × Octets) := none
  /-- CW occurrence whose fetch point has passed: its cycle, and the tick of the fetch (R61, R64; cycle, tick) -/
  fetCW : Option (Nat × Nat) := none
  /-- CCW occurrence whose fetch point has passed (R61, R64; cycle, tick) -/
  fetCCW : Option (Nat × Nat) := none
  /-- dynamic pending flag for CW (R68; 1) -/
  pendCW : Bool := false
  /-- dynamic pending flag for CCW (R68; 1) -/
  pendCCW : Bool := false
  deriving DecidableEq, Repr

/-- Content of a receive slot buffer half (R63). -/
structure RxHalf where
  /-- data (R63; bytes) -/
  data : Octets := []
  /-- seq (R63; 16) -/
  seq : Nat := 0
  /-- origin (R63; 6) -/
  origin : Nat := 0
  /-- cyc (R63; 6) -/
  cyc : Nat := 0
  /-- arrival timestamp, 2^-16 ns (R63; 80) -/
  ts : Nat := 0
  deriving DecidableEq, Repr

/-- Receive slot buffer (R63, R64). -/
structure RxBuf where
  /-- front (R63; struct) -/
  front : Option RxHalf := none
  /-- frame whose swap waits for a host read (R64; struct) -/
  back : Option RxHalf := none
  /-- a host read is in progress (R64, R339; 1) -/
  reading : Bool := false
  /-- when the host read in progress ends (R64, R339; tick) -/
  readEnd : Nat := 0
  deriving DecidableEq, Repr

/-- Pier claim (R78, R79). -/
structure Claim where
  /-- state (R78; enum) -/
  state : ClaimState := .unclaimed
  /-- consecutive empty occurrences (R79; 4) -/
  count : Nat := 0
  /-- cycles of backoff left (R75; cycles) -/
  backoff : Nat := 0
  /-- a frame of the slot was accepted or drained in the occurrence (R74; 1) -/
  seen : Bool := false
  deriving DecidableEq, Repr

/-- Receiver view of a pier slot (R77). -/
structure Expect where
  /-- expected (R77; 1) -/
  expected : Bool := false
  /-- origin of the last frame accepted (R77; 6) -/
  origin : Nat := 0
  /-- consecutive occurrences with no frame accepted (R77; 4) -/
  empty : Nat := 0
  deriving DecidableEq, Repr

/-- Which ring ports accepted the slot in its present occurrence (R66). -/
structure SlotCheck where
  /-- east (R66; 1) -/
  east : Bool := false
  /-- west (R66; 1) -/
  west : Bool := false
  /-- the miss on EAST is counted (R66; 1) -/
  missE : Bool := false
  /-- the miss on WEST is counted (R66; 1) -/
  missW : Bool := false
  /-- the occurrence has ended for the pier rules (R77, R79; 1) -/
  done : Bool := false
  deriving DecidableEq, Repr

/-- Otfel cycle, slot buffers and pier claims. -/
structure CycleSt where
  /-- image in force (R45; image) -/
  image : Option Image := none
  /-- cycle origin; none: no cycle origin held (R47; 2^-16 ns) -/
  c0 : Option Nat := none
  /-- absolute number of the cycle in progress (R47; count) -/
  n : Nat := 0
  /-- tx (R60; 4 096 buffers) -/
  tx : Tbl TxBuf := []
  /-- rx (R60; 8 192 buffers) -/
  rx : Tbl RxBuf := []
  /-- mini-slot counter on CW; none: not counting (R69; 14) -/
  msCW : Option Nat := none
  /-- mini-slot counter on CCW (R69; 14) -/
  msCCW : Option Nat := none
  /-- index j of the next CW mini-slot boundary (R69; 14) -/
  msIdxCW : Nat := 0
  /-- index j of the next CCW mini-slot boundary (R69; 14) -/
  msIdxCCW : Nat := 0
  /-- dynamic frames that hold the CW counter: the boundary each belongs to and the end of its span occupancy (R69; index,
  2^-16 ns) -/
  dynBusyCW : List (Nat × Nat) := []
  /-- dynamic frames that hold the CCW counter (R69; index, 2^-16 ns) -/
  dynBusyCCW : List (Nat × Nat) := []
  /-- own dynamic frame that starts on CW at its window's opening: its buffer and mini-slot boundary (R70, R110; struct) -/
  armCW : Option (Nat × Nat) := none
  /-- own dynamic frame that starts on CCW (R70, R110; struct) -/
  armCCW : Option (Nat × Nat) := none
  /-- by pier slot entry: slot, b and m (R73, R78; 256 claims) -/
  claims : Tbl Claim := []
  /-- expects, by pier slot entry (R77; by entry) -/
  expects : Tbl Expect := []
  /-- slot and origin marked withdrawn (R67; set) -/
  withdrawn : List (Nat × Nat) := []
  /-- seen (R66; by slot) -/
  seen : Tbl SlotCheck := []
  /-- slot egress binding by receive buffer: ENABLE, edge port, queue (R190; 8 192) -/
  binds : Tbl (Bool × Nat × Nat) := []
  /-- binding before the last command on a buffer, with the tick of its commit: a swap in that tick follows it (R190; struct) -/
  bindWas : Tbl (Nat × Bool × Nat × Nat) := []
  deriving DecidableEq, Repr

/-- A DELAY_REPORT in the report table (R95, R96). -/
structure Report where
  /-- eastValid (R96; 1) -/
  eastValid : Bool := false
  /-- westValid (R96; 1) -/
  westValid : Bool := false
  /-- calSeq (R96; 16) -/
  calSeq : Nat := 0
  /-- eastNb; 0xFF: none was ever reported as valid (R49, R96; 8) -/
  eastNb : Nat := 0xFF
  /-- westNb (R49, R96; 8) -/
  westNb : Nat := 0xFF
  /-- d_in of EAST last reported as valid (R49, R96; 2^-16 ns) -/
  eastIn : Option Nat := none
  /-- westIn (R49, R96; 2^-16 ns) -/
  westIn : Option Nat := none
  /-- e2w (R96; 2^-16 ns) -/
  e2w : Nat := 0
  /-- w2e (R96; 2^-16 ns) -/
  w2e : Nat := 0
  /-- bypass substitution in force for this node (R155; 1) -/
  bypassed : Bool := false
  deriving DecidableEq, Repr

/-- A report waiting for its APPLY_CYCLE (R95). -/
structure PendRep where
  /-- node (R95; 6) -/
  node : Nat := 0
  /-- odd cycle at whose start it is applied (R95; 64) -/
  cycle : Nat := 0
  /-- rep (R95; struct) -/
  rep : Report := {}
  deriving DecidableEq, Repr

/-- A bypass event waiting for its EFFECT_CYCLE (R147). -/
structure PendEv where
  /-- cycle (R147; 64) -/
  cycle : Nat := 0
  /-- EVENT (R147; 8) -/
  ev : Nat := 0
  /-- subject (R147; 8) -/
  subject : Nat := 0xFF
  deriving DecidableEq, Repr

/-- One calibration exchange (R90, R91). -/
structure Exch where
  /-- t1 (R90; 2^-16 ns) -/
  t1 : Nat := 0
  /-- t2 (R90; 2^-16 ns) -/
  t2 : Nat := 0
  /-- t3 (R90; 2^-16 ns) -/
  t3 : Nat := 0
  /-- t4 (R90; 2^-16 ns) -/
  t4 : Nat := 0
  deriving DecidableEq, Repr

/-- One ring port, EAST or WEST. -/
structure RingPort where
  /-- link up (R282; 1) -/
  link : Bool := false
  /-- state (R143; enum) -/
  state : PortState := .down
  /-- span delay d kept for the port (R92; 2^-16 ns) -/
  d : Option Nat := none
  /-- no burst since the port came up (R92; 1) -/
  firstBurst : Bool := true
  /-- a d_in has been measured since chip reset (R156; 1) -/
  dinSinceReset : Bool := false
  /-- asymmetry correction (R92, R478; 2^-16 ns) -/
  alpha : Int := 0
  /-- REQ_SEQ (R96; 16) -/
  reqSeq : Nat := 0
  /-- exchange number of the burst in progress (R91; 2) -/
  burstNo : Option Nat := none
  /-- departure of the DELAY_REQ awaiting its response (R90; 2^-16 ns) -/
  outT1 : Option Nat := none
  /-- good exchanges of the burst (R91; up to 4) -/
  exch : List Exch := []
  /-- a burst with a result since the port came up (R131; 1) -/
  burstOk : Bool := false
  /-- node that answered on the port (R96; 8) -/
  calNb : Nat := 0xFF
  /-- RESP_PORT of the DELAY_RESP last received on the port: the port of the neighbour that faces it (R130; 1) -/
  respPort : Option RPort := none
  /-- cycle in which the last exchange of a burst went out (R91; cycle) -/
  burstCycle : Option Nat := none
  /-- when the next exchange of a burst may go out in falsework (R126; tick) -/
  burstNext : Nat := 0
  /-- SENDER of the last LINK_BEAT (R155; 8) -/
  beatFrom : Nat := 0xFF
  /-- C0 of the last LINK_BEAT, 0 none (R144, R149; 80) -/
  beatC0 : Nat := 0
  /-- STATE octet of the last LINK_BEAT (R129; 8) -/
  beatState : Nat := 0
  /-- arrival - (T_TX + d_in) of the latest beat (R149; 2^-16 ns) -/
  beatDiff : Int := 0
  /-- RESTORE_CYCLE of the last beat (R149; 32) -/
  beatRestore : Nat := 0
  /-- PORT of the last beat (R129, R130; 1) -/
  beatPort : Nat := 0
  /-- a beat arrived in the present cycle (R142; 1) -/
  beatSeen : Bool := false
  /-- consecutive cycles with a beat (R149; count) -/
  beatRun : Nat := 0
  /-- consecutive cycles without a beat (R142; count) -/
  beatMiss : Nat := 0
  /-- READY set in the beats sent on this port (R149; 1) -/
  ready : Bool := false
  /-- agreed or proposed restore cycle, 0 none (R149; 64) -/
  restore : Nat := 0
  /-- a report of a burst on the port has been applied (R149; 1) -/
  reportApplied : Bool := false
  /-- level L verified (R234; 1) -/
  verL : Bool := false
  /-- level H verified (R234; 1) -/
  verH : Bool := false
  /-- verification attempts made (R234; 2) -/
  verTries : Nat := 0
  /-- when the next attempt is due (R234; tick) -/
  verNext : Nat := 0
  /-- next LINK_BEAT without a cycle origin (R128; tick) -/
  beatNext : Nat := 0
  /-- start of the cycle in which the last LINK_BEAT was sent (R128; 2^-16 ns) -/
  beatSent : Option Nat := none
  deriving DecidableEq, Repr

/-- A frame of level H or L on its way to or out of a ring egress (R230, R231). -/
structure RFrame where
  /-- its octets as far as they have come; of a whole frame with the FCS (R231; octets) -/
  data : Octets := []
  /-- reassembly context through which the rest of it still arrives (R231, R235; 0-3) -/
  ctx : Option Nat := none
  /-- it ends with an invalid check sequence (R80, R231; 1) -/
  bad : Bool := false
  /-- arrival of its first octet at this egress (R233; tick) -/
  since : Nat := 0
  /-- octets of its data sent before it moved to this egress (R236; octets) -/
  sent : Nat := 0
  /-- its frame count on the egress it moved from (R229, R236; 2) -/
  cnt : Nat := 0
  /-- its next fragment count on the egress it moved from (R229, R236; 2) -/
  frag : Nat := 0
  deriving DecidableEq, Repr

/-- Egress of one ring port (R230 to R233). -/
structure RingTx where
  /-- hold raised (R232; 1) -/
  hold : Bool := false
  /-- cycle for whose express period it is raised (R232; cycle) -/
  holdCyc : Nat := 0
  /-- express frame in transmission (R110; frame) -/
  express : Option Octets := none
  /-- its last octet and the gap after it have left (R218, R259; tick) -/
  exEnd : Nat := 0
  /-- instant its guardian or forward window closes (R110, R112; 2^-16 ns) -/
  exClose : Nat := 0
  /-- the express frame is the node's own (R112; 1) -/
  exOwn : Bool := false
  /-- it ends with an invalid check sequence (R80; 1) -/
  exBad : Bool := false
  /-- transmit slot buffer it is read from (R61; 12) -/
  exBuf : Option Nat := none
  /-- forwarded express frame that waits for the end of the piece in progress: frame, closing of its window, FCS good (R220, R233;
  struct) -/
  exNext : Option (Octets × Nat × Bool) := none
  /-- tick at which the gap after the last piece ends (R218, R220; tick) -/
  freeAt : Nat := 0
  /-- H frame in progress or suspended (R230; frame) -/
  curH : Option RFrame := none
  /-- L frame in progress or suspended (R230; frame) -/
  curL : Option RFrame := none
  /-- the H frame is suspended (R230; 1) -/
  suspH : Bool := false
  /-- the L frame is suspended (R230; 1) -/
  suspL : Bool := false
  /-- local handle of the H frame; none: transit or control (R230; queue) -/
  curHQ : Option Nat := none
  /-- local handle of the L frame (R230; queue) -/
  curLQ : Option Nat := none
  /-- start of the H fragment in progress (R220; tick) -/
  startH : Nat := 0
  /-- start of the L fragment in progress (R220; tick) -/
  startL : Nat := 0
  /-- octets of the H frame sent in earlier fragments (R220; octets) -/
  sentH : Nat := 0
  /-- sentL (R220; octets) -/
  sentL : Nat := 0
  /-- H frame count modulo 4 (R229; 2) -/
  cntH : Nat := 0
  /-- L frame count modulo 4 (R227; 2) -/
  cntL : Nat := 0
  /-- fragment count of the H frame's next or present continuation (R229; 2) -/
  fragH : Nat := 0
  /-- fragL (R227; 2) -/
  fragL : Nat := 0
  /-- transit buffer of level H, oldest first (R231; 64 KiB) -/
  transitH : List RFrame := []
  /-- transit buffer of level L (R231; 64 KiB) -/
  transitL : List RFrame := []
  /-- own ring-control frames that wait, ahead of every local H queue (R231; queue) -/
  ctl : List Octets := []
  deriving DecidableEq, Repr

/-- Reassembly context of one level (R235). -/
structure Reasm where
  /-- isOpen (R235; 1) -/
  isOpen : Bool := false
  /-- data (R235; octets) -/
  data : Octets := []
  /-- frame count (R235; 2) -/
  cnt : Nat := 0
  /-- next fragment count (R235; 2) -/
  frag : Nat := 0
  /-- tick of the last piece (R235; tick) -/
  since : Nat := 0
  /-- timestamp of the first fragment (R85; 80) -/
  ts : Nat := 0
  /-- a piece had an invalid code group (R256; 1) -/
  sym : Bool := false
  /-- the part received so far is being forwarded (R231, R235; 1) -/
  fwd : Bool := false
  deriving DecidableEq, Repr

/-- Ring state, start-up, calibration and healing. -/
structure RingSt where
  /-- state (R125; enum) -/
  state : RingState := .offline
  /-- east (R143; struct) -/
  east : RingPort := {}
  /-- west (R143; struct) -/
  west : RingPort := {}
  /-- eastTx (R230; struct) -/
  eastTx : RingTx := {}
  /-- westTx (R230; struct) -/
  westTx : RingTx := {}
  /-- 0 EAST H, 1 EAST L, 2 WEST H, 3 WEST L (R235; 2 ports × H, L) -/
  reasm : Tbl Reasm := []
  /-- port that sends CW (R130; 1) -/
  cwPort : RPort := .east
  /-- cwLearnt (R130; 1) -/
  cwLearnt : Bool := false
  /-- tick of the last change of the CW port (R130; tick) -/
  cwChange : Nat := 0
  /-- table of applied reports (R49, R95; by node) -/
  reports : Tbl Report := []
  /-- reports waiting for their APPLY_CYCLE (R95; list) -/
  pendReps : List PendRep := []
  /-- pendEvs (R147; list) -/
  pendEvs : List PendEv := []
  /-- EVENT, SUBJECT, cycle and tick of bypass events applied in the last 8 cycles (R147; list) -/
  recentEvs : List (Nat × Nat × Nat × Nat) := []
  /-- reporter and port of each ABUT_ON applied and not cleared (R147, R148; set) -/
  folds : List (Nat × Nat) := []
  /-- reporter and port of each abutment cleared and the cycle in which its ABUT_OFF was applied (R253; list) -/
  unfolded : List (Nat × Nat × Nat) := []
  /-- reporter and CAL_SEQ of reports received (R95; set) -/
  repSeen : List (Nat × Nat) := []
  /-- calSeq (R96; 16) -/
  calSeq : Nat := 0
  /-- cycle in which the DELAY_REPORT is sent (R95; cycle) -/
  reportDue : Option Nat := none
  /-- hop delay measured EAST to WEST (R93; 2^-16 ns) -/
  hopE2W : Option Nat := none
  /-- hopW2E (R93; 2^-16 ns) -/
  hopW2E : Option Nat := none
  /-- hop delays measured in the burst in progress (R93; sum, count) -/
  hopAccE2W : Nat × Nat := (0, 0)
  /-- hopAccW2E (R93; sum, count) -/
  hopAccW2E : Nat × Nat := (0, 0)
  /-- 20 ms after the node's own bursts ended (R131; tick) -/
  calDeadline : Nat := 0
  /-- the node's own falsework bursts have ended (R131; 1) -/
  calEnded : Bool := false
  /-- keystone's node number (R129, R136; 8) -/
  keystone : Nat := 0xFF
  /-- end of the listen period (R133, R134; tick) -/
  listenEnd : Option Nat := none
  /-- annSeq (R129; 16) -/
  annSeq : Nat := 0
  /-- C0 proposed (R134; 80) -/
  annC0 : Nat := 0
  /-- end of the announcement window (R134; tick) -/
  annEnd : Nat := 0
  /-- next resend (R134; tick) -/
  annNext : Nat := 0
  /-- the candidate has sent its confirmed ANNOUNCE (R136; 1) -/
  confirmed : Bool := false
  /-- candidate and ANN_SEQ already handled (R134; set) -/
  annHeard : List (Nat × Nat) := []
  /-- end of the rank backoff (R135; tick) -/
  backoffEnd : Nat := 0
  /-- EVENT_SEQ (R129; 16) -/
  evSeq : Nat := 0
  /-- events due to be sent: EVENT, PORT, SUBJECT, cycle of the loop change (R147; list) -/
  evOut : List (Nat × Nat × Nat × Nat) := []
  /-- BYPASS_ON (R153, R442; 1) -/
  bypassOn : Bool := true
  /-- beats with the image's IMAGE_ID and one C0 received through the bypass copy (R156; count) -/
  bypassBeats : Nat := 0
  /-- that C0 (R156; 80) -/
  bypassC0 : Option Nat := none
  /-- tick of the last beat with a C0, or of the start of the observation (R156; tick) -/
  bypassSince : Nat := 0
  /-- ring time minus own counter estimated at the latest beat (R156; 2^-16 ns) -/
  bypassEst : Int := 0
  /-- cycle of the withdrawal's ACT_TIME (R490; cycle) -/
  withdrawAt : Option Nat := none
  /-- first cycle of the announcement (R490; cycle) -/
  withdrawFrom : Nat := 0
  /-- BYPASS flag of the withdrawal (R490; 1) -/
  withdrawByp : Bool := false
  /-- cycle at which the command bypass is switched on (R490; cycle) -/
  withdrawBypCycle : Option Nat := none
  /-- readmitted after a withdrawal and not synchronised since: it integrates and never cold-starts (R157, R490; 1) -/
  readmitted : Bool := false
  /-- the COMMAND cause was set by a withdrawal (R490; 1) -/
  cmdBypassByWithdraw : Bool := false
  deriving DecidableEq, Repr

/-- Ingress port defaults (R521). -/
structure PortDef where
  /-- DEFAULT_VID (R159, R521; 12) -/
  vid : Nat := 1
  /-- DEFAULT_PCP (R159, R521; 3) -/
  pcp : Nat := 0
  /-- DEFAULT_ACTION: ACTION DROP, MIRROR 0, METER 0x3FFF (R162, R521; 64) -/
  action : Nat := 0x1FFE000000000
  /-- COLOUR_TABLE (R170, R521; 32) -/
  colour : Nat := 0x44444444
  deriving DecidableEq, Repr

/-- Classification tables. -/
structure Classifier where
  /-- by RULE index of R411; absent: VALID = 0 (R160; 4 096 rules of 320 bits) -/
  rules : Tbl Nat := []
  /-- hash profile masks (R161; 4 × 96) -/
  profiles : Tbl Nat := []
  /-- defs (R521; 19 ports) -/
  defs : Tbl PortDef := []
  /-- round-robin sets; empty list: not defined (R164; 16 sets) -/
  rrSets : Tbl (List Nat) := []
  /-- position after the last queue chosen (R164; 16) -/
  rrLast : Tbl Nat := []
  deriving DecidableEq, Repr

/-- Two-rate three-colour meter (R168). -/
structure Meter where
  /-- cir (R168; kb/s) -/
  cir : Nat := 0
  /-- pir (R168; kb/s) -/
  pir : Nat := 1
  /-- cbs (R168; bytes) -/
  cbs : Nat := 0
  /-- pbs (R168; bytes) -/
  pbs : Nat := 1
  /-- MODE AWARE (R168; 1) -/
  aware : Bool := false
  /-- adjust (R168; octets) -/
  adjust : Int := 0
  /-- green action [1:0] PASS, REMARK, DROP; [4:2] PCP; [5] DEI (R168; 6) -/
  actG : Nat := 0
  /-- actY (R168; 6) -/
  actY : Nat := 0
  /-- actR (R168; 6) -/
  actR : Nat := 2
  /-- bucket tc (R169; 2^-32 byte) -/
  tc : Nat := 0
  /-- bucket tp (R169; 2^-32 byte) -/
  tp : Nat := 0
  /-- when the meter last acted (R169; 625 MHz tick) -/
  last : Nat := 0
  deriving DecidableEq, Repr

/-- A frame stored in the vat or spilled to the cellar. -/
structure VFrame where
  /-- DMAC to FCS as stored (R174; octets) -/
  data : Octets := []
  /-- ingress account of R411 (R174; 5) -/
  acct : Nat := 0
  /-- cells from the account's reserve (R176; cells) -/
  resv : Nat := 0
  /-- cells from the shared pool (R176; cells) -/
  pool : Nat := 0
  /-- cells from the spill staging pool (R184; cells) -/
  staging : Nat := 0
  /-- destinations still live (R179; VAT_DEST indices) -/
  dests : List Nat := []
  /-- destinations charged with its cells (R176; VAT_DEST indices) -/
  charged : List Nat := []
  /-- 0 green, 1 yellow, 2 red (R173; 2) -/
  colour : Nat := 0
  /-- MAC status (R257; 8) -/
  status : Nat := 0
  /-- ingress (R162; 5) -/
  ingress : Nat := 31
  /-- arrival timestamp (R85; 80) -/
  ts : Nat := 0
  /-- at the timestamp: the node was not SYNCHRONISED [0], TIME_VALID [1] (R361; 2) -/
  tsFlags : Nat := 1
  /-- stream handle (R242; 16) -/
  stream : Nat := 0xFFFF
  /-- record streams it goes to by a mirror route (R166; streams) -/
  mirror : List Nat := []
  /-- destinations it is marked for spill for (R184; VAT_DEST indices) -/
  spillDests : List Nat := []
  /-- inCellar (R184; 1) -/
  inCellar : Bool := false
  /-- sent with the FCS the driver supplied (R330; 1) -/
  fcsOwn : Bool := false
  /-- TS_REQ descriptor waiting for its departure (R329; queue, index) -/
  tsq : Option (Nat × Nat) := none
  /-- length under R5 (R361; 14) -/
  origLen : Nat := 0
  /-- TARGET of its action or of its descriptor (R163; 32) -/
  target : Nat := 0
  /-- transmit slot buffer it is written to (R165; 12) -/
  slotBuf : Nat := 0
  /-- the frame as received, for the mirror copy (R166, R171; octets) -/
  raw : Octets := []
  deriving DecidableEq, Repr

/-- A frame whose cell request waits (R177). -/
structure Arrival where
  /-- data (R176; octets) -/
  data : Octets := []
  /-- what the stages before have decided (R176; struct) -/
  fr : VFrame := {}
  /-- cells granted (R176; cells) -/
  got : Nat := 0
  /-- tick at which the ungranted request was made (R177; tick) -/
  since : Nat := 0
  /-- account LIMIT in force at the first cell (R182; cells) -/
  limit : Nat := 0
  /-- account RESERVE in force at the first cell (R182; cells) -/
  reserve : Nat := 0
  /-- destination LIMITs in force at the first cell (R182; cells) -/
  dlimit : List (Nat × Nat) := []
  /-- destination YELLOW_LIMITs in force at the first cell (R182; cells) -/
  ylimit : List (Nat × Nat) := []
  /-- stage 5 has acted: the tick of its last octet is over (R169, R172; 1) -/
  metered : Bool := false
  /-- what kind of frame it is (R158; enum) -/
  kind : ArrKind := .edge
  /-- action word found by its lookup (R160; 64) -/
  word : Nat := 0x1FFE000000000
  /-- sequence number of its R-TAG (R246; 16) -/
  seqNo : Option Nat := none
  /-- egress queue of a slot egress copy (R190; queue) -/
  slotCnt : Option Nat := none
  deriving DecidableEq, Repr

/-- Quotas of one account or destination (R175). -/
structure Quota where
  /-- RESERVE (accounts) (R175; cells) -/
  reserve : Nat := 0
  /-- LIMIT (R175; cells) -/
  limit : Nat := 0
  /-- YELLOW_LIMIT (destinations) (R175; cells) -/
  yellow : Nat := 0
  deriving DecidableEq, Repr

/-- A frame in a queue. -/
structure QEnt where
  /-- h (R191; frame handle) -/
  h : Nat := 0
  /-- admission time (R191, R212; 2^-16 ns) -/
  admitAt : Nat := 0
  /-- in the vat, in the cellar, or returning (R186, R191; enum) -/
  state : QState := .ready
  deriving DecidableEq, Repr

/-- Spill parameters of one queue (R183). -/
structure SpillCfg where
  /-- enable (R183; 1) -/
  enable : Bool := false
  /-- SPILL_LIMIT (R183; MiB) -/
  limit : Nat := 1
  deriving DecidableEq, Repr

/-- The vat, its accounts and its queues. -/
structure Vat where
  /-- by frame handle (R174; 131 072 handles) -/
  frames : Tbl VFrame := []
  /-- arriving frames whose cell request waits (R177; list) -/
  waits : List Arrival := []
  /-- quotas that differ from reset, by VAT_ACCOUNT (R175; 23) -/
  acctQ : Tbl Quota := []
  /-- quotas that differ from reset, by VAT_DEST (R175; 1 497) -/
  destQ : Tbl Quota := []
  /-- cells held, by account (R174; 23) -/
  acctCells : Tbl Nat := []
  /-- of them from the reserve (R176; 23) -/
  acctResv : Tbl Nat := []
  /-- cells held, by destination (R176; 1 497) -/
  destCells : Tbl Nat := []
  /-- cells taken from the shared pool (R175; cells) -/
  poolUsed : Nat := 0
  /-- cells taken from the spill staging pool (R175; cells) -/
  stagingUsed : Nat := 0
  /-- cells of withdrawn banks taken out of the shared pool (R436; cells) -/
  poolLost : Nat := 0
  /-- stagingLost (R436; cells) -/
  stagingLost : Nat := 0
  /-- cells taken out of the reserves, by account (R436; cells) -/
  resvLost : Tbl Nat := []
  /-- banks in which no new cell is allocated (R436; set) -/
  banksClosing : List Nat := []
  /-- spill (R183; by VAT_DEST) -/
  spill : Tbl SpillCfg := []
  /-- spill area (R183; MiB) -/
  spillArea : Nat := 512
  /-- bytes counting towards SPILL_LIMIT, by VAT_DEST (R184; bytes) -/
  spillUsed : Tbl Nat := []
  /-- until when the cellar's best-effort share is taken by spill writes (R34, R35; tick) -/
  spillBusy : Nat := 0
  /-- spill disabled after the 257th lasting cellar verdict (R436; 1) -/
  spillOff : Bool := false
  /-- account the allocator serves next (rotating order) (R177; 5) -/
  rotor : Nat := 0
  deriving DecidableEq, Repr

/-- Egress queue parameters (R192). -/
structure QCfg where
  /-- MODE DRR (queues 6 and 7: STRICT) (R192; 1) -/
  drr : Bool := true
  /-- quantum (R192; bytes) -/
  quantum : Nat := 1600
  /-- queue number + 1 (R192; 8) -/
  weight : Nat := 1
  /-- maxSdu (R192; octets) -/
  maxSdu : Nat := 0
  deriving DecidableEq, Repr

/-- DRR state of one port and MAC (R194). -/
structure Drr where
  /-- pointer to a DRR-mode queue (R194; 3) -/
  ptr : Nat := 7
  /-- deficit (R194; bytes) -/
  deficit : Tbl Int := []
  /-- granted (R194; set) -/
  granted : List Nat := []
  deriving DecidableEq, Repr

/-- WFQ state of one port (R195). -/
structure Wfq where
  /-- vtime (R195; 64) -/
  vtime : Nat := 0
  /-- finish (R195; 64) -/
  finish : Tbl Nat := []
  /-- last_finish (R195; 64) -/
  last : Tbl Nat := []
  /-- frame handle + 1 that carries the queue's tag (R195; handle) -/
  tagged : Tbl Nat := []
  deriving DecidableEq, Repr

/-- Gates of one port (R197 to R203). -/
structure Gate where
  /-- operative list (R199; struct) -/
  oper : GateList := {}
  /-- when it became operative (R199; 2^-16 ns) -/
  since : Nat := 0
  /-- administrative list and ACT_TIME in 2^-16 ns (R201; struct) -/
  pend : Option (GateList × Nat) := none
  /-- start of the gate cycle in progress (R203; 2^-16 ns) -/
  start : Option Nat := none
  /-- current entry (R203; 10) -/
  entry : Nat := 0
  /-- gate states in force (R199; 8) -/
  states : Nat := 0xFF
  /-- next entry boundary (R199; 2^-16 ns) -/
  next : Nat := 0
  /-- the cycle is extended to ACT_TIME (R202; 1) -/
  ext : Bool := false
  /-- the pending list came with an image (R203; 1) -/
  byImage : Bool := false
  deriving DecidableEq, Repr

/-- Token-bucket shaper (R207). -/
structure Shaper where
  /-- enable (R207; 1) -/
  enable : Bool := false
  /-- rate (R207; kb/s) -/
  rate : Nat := 100000000
  /-- burst (R207; bytes) -/
  burst : Nat := 16777216
  /-- overhead (R207; octets) -/
  overhead : Nat := 20
  /-- tokens (R208; 2^-32 byte) -/
  tokens : Nat := 0
  /-- last refill (R209; 625 MHz tick) -/
  last : Nat := 0
  /-- ENABLE, RATE, BURST, OVERHEAD to be adopted at the end of the refill interval (R210; struct) -/
  pend : Option (Bool × Nat × Nat × Nat) := none
  /-- commit tick of the latest change (R211; tick) -/
  pendTick : Nat := 0
  /-- stream shaper: ENABLE, RATE, BURST, OVERHEAD and tokens before that change, by which a frame that starts in its tick is judged and
  charged (R211; struct) -/
  old : Option (Bool × Nat × Nat × Nat × Nat) := none
  deriving DecidableEq, Repr

/-- Statistics counter (R449, R454). -/
structure Stat where
  /-- v (R449; 40) -/
  v : Nat := 0
  /-- sat (R454; 1) -/
  sat : Bool := false
  /-- the tick of its last event, plus 1 (R455; 64) -/
  tick : Nat := 0
  /-- events of that tick (R455; 40) -/
  fresh : Nat := 0
  deriving DecidableEq, Repr

/-- Sampling registers of one queue (R213). -/
structure QSample where
  /-- minBytes (R213, R214; register) -/
  minBytes : Nat := 0xFFFFFFFF
  /-- maxBytes (R213; register) -/
  maxBytes : Nat := 0
  /-- minFrames (R213; register) -/
  minFrames : Nat := 0xFFFFFFFF
  /-- maxFrames (R213; register) -/
  maxFrames : Nat := 0
  /-- minSoj (R213; register) -/
  minSoj : Nat := 0xFFFFFFFFFFFFFFFF
  /-- maxSoj (R213; register) -/
  maxSoj : Nat := 0
  deriving DecidableEq, Repr

/-- What a queue's sampling values were before the latest sample, and what it recorded: a read in its tick leaves it to the new set
(R214). -/
structure QSPrev where
  /-- regs (R214; struct) -/
  regs : QSample := {}
  /-- SAMPLES counter (R214; 40 + SAT) -/
  samples : Stat := {}
  /-- counter of the bin of the sample (R214; 40 + SAT) -/
  bin : Stat := {}
  /-- depth in bytes recorded (R212; bytes) -/
  bytes : Nat := 0
  /-- depth in frames recorded (R212; frames) -/
  frames : Nat := 0
  /-- sojourn recorded (R212; ns) -/
  soj : Nat := 0
  deriving DecidableEq, Repr

/-- Transmission state of one edge or uplink port (R223). -/
structure MacTx where
  /-- frame in progress on the express MAC (R223; handle) -/
  ex : Option Nat := none
  /-- its queue (R223; 3) -/
  exQ : Nat := 0
  /-- frame of the preemptable MAC, in progress or suspended (R223; handle) -/
  pm : Option Nat := none
  /-- pmQ (R223; 3) -/
  pmQ : Nat := 0
  /-- the preemptable frame is suspended (R223; 1) -/
  susp : Bool := false
  /-- start of the fragment or frame in progress (R220; tick) -/
  start : Nat := 0
  /-- data octets of the preemptable frame sent in earlier fragments (R220; octets) -/
  sent : Nat := 0
  /-- fragment count (R218; 2) -/
  frag : Nat := 0
  /-- frame count modulo 4 (R218; 2) -/
  cnt : Nat := 0
  /-- hold in force (R225; 1) -/
  hold : Bool := false
  /-- tick at which the gap after the last piece ends (R220; tick) -/
  freeAt : Nat := 0
  deriving DecidableEq, Repr

/-- Preemption parameters and verification of one port (R221, R222). -/
structure Preempt where
  /-- enable (R221; 1) -/
  enable : Bool := false
  /-- EXPRESS_MASK (R221; 8) -/
  mask : Nat := 0xFF
  /-- verDis (R221; 1) -/
  verDis : Bool := false
  /-- verTime (R221; ms) -/
  verTime : Nat := 10
  /-- verification state (R226; enum) -/
  ver : VerState := .unknown
  /-- tries (R222; 2) -/
  tries : Nat := 0
  /-- VERIFY_TIME expiry (R222; tick) -/
  next : Nat := 0
  deriving DecidableEq, Repr

/-- Pause state of one port (R238 to R240). -/
structure Pause where
  /-- PAUSE_CLASS_MASK (R238; 8) -/
  mask : Nat := 0xFF
  /-- PFC enables (R238; 8) -/
  pfc : Nat := 0
  /-- pause watchdog time (R240; ms) -/
  wdTime : Nat := 50
  /-- end of the pause, by class (R239; tick) -/
  upto : Tbl Nat := []
  /-- start of the continuous pause, by class (R240; tick) -/
  since : Tbl Nat := []
  /-- tick after the one in which the pause was last renewed, by class (R241; tick) -/
  renewed : Tbl Nat := []
  /-- watchdog armed up to this tick (start-up and recovery) (R240; tick) -/
  armedTo : Nat := 0
  /-- an image has been activated with the port enabled (R240; 1) -/
  started : Bool := false
  deriving DecidableEq, Repr

/-- Egress queues, gates, shapers and sampling. -/
structure Egress where
  /-- by 8p + q; 144 + TC is the CW and 152 + TC the CCW open sub-queue (R187, R188; 160 queues) -/
  queues : Tbl (List QEnt) := []
  /-- cfg (R192; 160) -/
  cfg : Tbl QCfg := []
  /-- SCHED of the port: 0 DRR, 1 WFQ (R192; 20) -/
  sched : Tbl Nat := []
  /-- by 2p + MAC (0 express or H, 1 preemptable or L) (R194; 40) -/
  drr : Tbl Drr := []
  /-- wfq (R195; 20) -/
  wfq : Tbl Wfq := []
  /-- gates (R197; 18) -/
  gates : Tbl Gate := []
  /-- stream 0-1 023, port-class 1 024 + p × 8 + q (R207; 1 184) -/
  shapers : Tbl Shaper := []
  /-- stream shaper of a stream handle; absent: 0xFFFF (R207; 8 192) -/
  binds : Tbl Nat := []
  /-- last port-class refill instant (R210; tick) -/
  lastRefill : Nat := 0
  /-- sampling period, 0 off (R212; us) -/
  qsPeriod : Nat := 0
  /-- bin base exponent (R213; 5) -/
  qsE : Nat := 7
  /-- next sampling instant (R212; ns) -/
  qsNext : Nat := 0
  /-- qs (R213; 160) -/
  qs : Tbl QSample := []
  /-- tick of the latest sample (R214; tick) -/
  qsTick : Option Nat := none
  /-- qsOld (R214; 160) -/
  qsOld : Tbl QSPrev := []
  /-- mac (R223; 18) -/
  mac : Tbl MacTx := []
  /-- pre (R221; 18) -/
  pre : Tbl Preempt := []
  /-- pause (R238; 18) -/
  pause : Tbl Pause := []
  deriving DecidableEq, Repr

/-- Stream identity entry (R242). -/
structure StreamId where
  /-- valid (R242; 1) -/
  valid : Bool := false
  /-- FUNCTION SMAC_VLAN (R242; 1) -/
  smac : Bool := false
  /-- mac (R242; 48) -/
  mac : Nat := 0
  /-- vid (R242; 12) -/
  vid : Nat := 0
  /-- ports (R242; 19) -/
  ports : Nat := 0
  /-- handle (R242; 13) -/
  handle : Nat := 0
  deriving DecidableEq, Repr

/-- Sequence generation entry (R244). -/
structure Gen where
  /-- enable (R244; 1) -/
  enable : Bool := false
  /-- 0 NONE, 1 UPLINK_PAIR, 2 RING_PAIR (R244; enum) -/
  split : Nat := 0
  /-- NEXT_SEQ (R244; 16) -/
  next : Nat := 0
  deriving DecidableEq, Repr

/-- Recovery entry (R246, R250). -/
structure Rcvy where
  /-- enable (R246; 1) -/
  enable : Bool := false
  /-- ALGORITHM MATCH (R246; 1) -/
  isMatch : Bool := false
  /-- history (R246; 8) -/
  history : Nat := 32
  /-- timeout (R246; ms) -/
  timeout : Nat := 100
  /-- popRtag (R246; 1) -/
  popRtag : Bool := true
  /-- takeNoSeq (R246; 1) -/
  takeNoSeq : Bool := false
  /-- latent (R246; 1) -/
  latent : Bool := false
  /-- paths (R246; 3) -/
  paths : Nat := 2
  /-- diff (R246; 16) -/
  diff : Nat := 100
  /-- period (R246; ms) -/
  period : Nat := 2000
  /-- takeAny (R247; 1) -/
  takeAny : Bool := true
  /-- rseq (R247; 16) -/
  rseq : Nat := 0
  /-- hist (R247; 128) -/
  hist : Nat := 0
  /-- tick of the last frame passed (R248; tick) -/
  lastPass : Nat := 0
  /-- in the period (R249; count) -/
  passed : Nat := 0
  /-- in the period (R249; count) -/
  disc : Nat := 0
  /-- end of the latent period (R249; tick) -/
  perEnd : Nat := 0
  /-- ORIGIN of the last frame passed (ring entries) (R250; 8) -/
  origin : Nat := 0xFF
  /-- missing count (ring entries) (R251; count) -/
  missing : Nat := 0
  /-- SEQ passed, the tick by which its second copy must arrive, and its ORIGIN (R251; list) -/
  awaiting : List (Nat × Nat × Nat) := []
  /-- cycle at which the ring entry's period ends (R251; cycle) -/
  perCycle : Nat := 0
  deriving DecidableEq, Repr

/-- Stream identification, generation and recovery. -/
structure Frer where
  /-- ids (R242; 16 384) -/
  ids : Tbl StreamId := []
  /-- gen (R244; 8 192) -/
  gen : Tbl Gen := []
  /-- rcvy (R243, R246; 16 384) -/
  rcvy : Tbl Rcvy := []
  deriving DecidableEq, Repr

/-- MAC and PHY parameters of an edge or uplink port (R519). -/
structure PortCfg where
  /-- adminUp (R255; 1) -/
  adminUp : Bool := false
  /-- maxFrame (R255; octets) -/
  maxFrame : Nat := 1522
  /-- 0 NONE, 1 MAC, 2 PCS_NEAR, 3 PMA_FAR (R255; enum) -/
  loopback : Nat := 0
  /-- AN_ENABLE (R264; 1) -/
  an : Bool := true
  /-- ADV_RATES (R264; 5) -/
  adv : Nat := 31
  /-- FORCED_RATE: 0 100M, 1 1G, 2 2.5G, 3 5G, 4 10G (R264; enum) -/
  forced : Nat := 1
  /-- 0 PREFER_MASTER, 1 PREFER_SLAVE, 2 FORCE_MASTER, 3 FORCE_SLAVE (R264; enum) -/
  role : Nat := 1
  /-- nvp (R264; 0.001) -/
  nvp : Nat := 660
  /-- 0 25G, 1 10G (R281, R519; enum) -/
  upRate : Nat := 0
  /-- 0 NONE, 1 BASE_R, 2 RS (R280, R519; enum) -/
  upFec : Nat := 2
  deriving DecidableEq, Repr

/-- State of an edge or uplink port. -/
structure PortSt where
  /-- cfg (R519; struct) -/
  cfg : PortCfg := {}
  /-- link up (R266, R282; 1) -/
  link : Bool := false
  /-- RATE code of the status word (R268; 3) -/
  rate : Nat := 0
  /-- ROLE_MASTER (R268; 1) -/
  master : Bool := false
  /-- anDone (R268; 1) -/
  anDone : Bool := false
  /-- polInv (R265; 1) -/
  polInv : Bool := false
  /-- ADMIN_UP cleared, drain in progress (R489; 1) -/
  draining : Bool := false
  /-- drainEnd (R488; tick) -/
  drainEnd : Nat := 0
  /-- a cable test runs (R269; 1) -/
  cableTest : Bool := false
  /-- last cable-test result record (R271; 32) -/
  cableRes : Nat := 0xFF0
  /-- reassembly context (R235; struct) -/
  asmb : Reasm := {}
  /-- disabled by a lasting verdict (R432; 1) -/
  disabled : Bool := false
  /-- a module that supports the rate is present (R284; 1) -/
  modReady : Bool := false
  /-- last pulse of x_TXDIS (R284; tick) -/
  faultAt : Option Nat := none
  /-- MAX_FRAME before its last change, and the network time of that change (R255, R285; octets, 80) -/
  frameWas : Option (Nat × Nat) := none
  deriving DecidableEq, Repr

/-- PoDL controller of one edge port (R273 to R275). -/
structure Podl where
  /-- enable (R273; 1) -/
  enable : Bool := false
  /-- classMax (R273; 4) -/
  classMax : Nat := 0
  /-- ALLOW_UNCLASSIFIED: 0 NONE, 1 + class (R273; enum) -/
  allowUn : Nat := 0
  /-- shortF (R273; 4) -/
  shortF : Nat := 4
  /-- tCut (R273; ms) -/
  tCut : Nat := 60
  /-- retryLim (R273; 4) -/
  retryLim : Nat := 3
  /-- retryDel (R273; s) -/
  retryDel : Nat := 1
  /-- state (R274; enum) -/
  state : PodlState := .disabled
  /-- PODL_FAULT (R275; 8) -/
  fault : Nat := 0
  /-- consecutive faults (R275; count) -/
  faults : Nat := 0
  /-- PD_CLASS (R268; 4) -/
  pdClass : Nat := 0xF
  /-- class whose maximum power counts to BUDGET while the FET is on (R273; 4) -/
  cls : Nat := 0
  /-- end of RETRY_DELAY, of the 1 s budget wait, or of 10 s in POWERED (R275; tick) -/
  waitEnd : Nat := 0
  /-- CLASSIFYING is held for 1 s after a BUDGET refusal (R275; 1) -/
  budgetWait : Bool := false
  /-- the port's PHY die is down (R279; 1) -/
  dieOff : Bool := false
  /-- when PODL_ENABLE was last cleared with the FET on (R285; tick) -/
  offAt : Option Nat := none
  deriving DecidableEq, Repr

/-- Edge and uplink ports, PoDL and modules. -/
structure Ports where
  /-- port (R255; 18) -/
  port : Tbl PortSt := []
  /-- podl (R273; 16) -/
  podl : Tbl Podl := []
  /-- BUDGET (R273; mW) -/
  budget : Nat := 0
  /-- EAST module identified (R284; 1) -/
  modEast : Bool := false
  /-- WEST module identified (R284; 1) -/
  modWest : Bool := false
  /-- last EAST_TXDIS pulse (R284; tick) -/
  modFaultE : Option Nat := none
  /-- last WEST_TXDIS pulse (R284; tick) -/
  modFaultW : Option Nat := none
  deriving DecidableEq, Repr

/-- PCIe function state. -/
structure Func where
  /-- Bus Master Enable (R292; 1) -/
  bme : Bool := false
  /-- MSI-X Enable (R300; 1) -/
  msixEn : Bool := false
  /-- Function Mask (R300; 1) -/
  fmask : Bool := false
  /-- Enable No Snoop (R304; 1) -/
  noSnoop : Bool := true
  /-- Enable Relaxed Ordering (R304; 1) -/
  relaxed : Bool := true
  /-- Max_Read_Request_Size (R288; bytes) -/
  maxRead : Nat := 512
  /-- an FLR is in progress (R291; 1) -/
  flr : Bool := false
  /-- counter page granted (R408; 1) -/
  page : Bool := false
  /-- the function is in D3hot (R288; 1) -/
  d3 : Bool := false
  deriving DecidableEq, Repr

/-- One MSI-X vector (R299, R300). -/
structure Vec where
  /-- message address (R299; 64) -/
  addr : Nat := 0
  /-- message data (R299; 32) -/
  data : Nat := 0
  /-- mask bit (R300; 1) -/
  masked : Bool := true
  /-- pending mark (R300; 1) -/
  pend : Bool := false
  /-- moderation interval (R300, R520; us) -/
  moder : Nat := 0
  /-- last message (R300; tick) -/
  lastSent : Option Nat := none
  deriving DecidableEq, Repr

/-- Host link. -/
structure HostLink where
  /-- PCIE_BIFURCATE sampled (R286; 1) -/
  bifurcated : Bool := false
  /-- PCIE_SRIS sampled (R287; 1) -/
  sris : Bool := false
  /-- links trained (R287; set) -/
  linkUp : List Nat := []
  /-- negotiated WIDTH by link (R301; 4) -/
  widths : Tbl Nat := []
  /-- negotiated SPEED by link (R301; 4) -/
  speeds : Tbl Nat := []
  /-- links whose PERSTx_N is asserted (R290; set) -/
  perst : List Nat := []
  /-- by PF × 64 + VF (R289; 128) -/
  funcs : Tbl Func := []
  /-- NumVFs while VF Enable is set; 0: VF Enable clear (R289; 2) -/
  numVfs : Tbl Nat := []
  /-- DMA_QUEUE index + 1 held at a queue slot (R295; (function × 4 096 + slot)) -/
  slots : Tbl Nat := []
  /-- function + 1 and vector of an event source (R299, R520; 2 048) -/
  evMap : Tbl (Nat × Nat) := []
  /-- whether a page was granted before its last grant or withdrawal, with the tick of that commit + 1 (R297; by function) -/
  pageWas : Tbl (Nat × Bool) := []
  /-- function + 1 and vector of a source before its last KN_EVENT_MAP, after the tick of that commit + 1 (R307; by source) -/
  evWas : Tbl (Nat × Nat × Nat) := []
  /-- vecs (R299; (function × 256 + vector)) -/
  vecs : Tbl Vec := []
  /-- counter + 1 read last and its latched high word (R453; per function) -/
  perfLatch : Tbl (Nat × Nat) := []
  /-- held NS_HI, FRAC and HOST_TIME_STATUS (R88; per function) -/
  ntHeld : Tbl (Nat × Nat × Nat) := []
  deriving DecidableEq, Repr

/-- Parameters and state of a generation-2, record-read or completion queue, or of one generation-1 ring. -/
structure QReg where
  /-- RING_ADDR (R310; 64) -/
  ringAddr : Nat := 0
  /-- RING_SIZE; 0 stands for the kind's reset value 8 or 16 (R310; 16) -/
  ringSize : Nat := 0
  /-- CQ + 1; 0 stands for the first CQ of the cluster (R310; 9) -/
  cq : Nat := 0
  /-- prio (R310; 2) -/
  prio : Nat := 0
  /-- noSnoop (R310; 1) -/
  noSnoop : Bool := false
  /-- ALLOW (R310; 21) -/
  allow : Nat := 0
  /-- G1_TARGET with a reserved KIND (R310; 32) -/
  g1Target : Nat := 3
  /-- DELIVER_ERRORED (R310; 1) -/
  errored : Bool := false
  /-- maxChain (R310; 7) -/
  maxChain : Nat := 16
  /-- RX_WAIT_LIMIT (R310; us) -/
  waitLim : Nat := 100
  /-- rxCrc (R310; 1) -/
  rxCrc : Bool := false
  /-- rxCrcStart (R310; 8) -/
  rxCrcStart : Nat := 14
  /-- state (R311; enum) -/
  state : QSt := .disabled
  /-- PROD; CQ: tail index T (R313; 16) -/
  prod : Nat := 0
  /-- CONS; CQ: head H (R313; 16) -/
  cons : Nat := 0
  /-- reason (R351; 5) -/
  reason : Nat := 0
  /-- ERR_ADDR (R352; 64) -/
  errAddr : Nat := 0
  /-- DIR (R352; 1) -/
  errDir : Bool := false
  /-- FETCH (R352; 1) -/
  errFetch : Bool := false
  /-- latched index (R350, R352; 16) -/
  errIdx : Nat := 0
  /-- RES_WAIT (R314; 1) -/
  resWait : Bool := false
  /-- fetched descriptors: index and 256 bits (generation 1: entries taken) (R313; up to 16 descriptors) -/
  cache : List (Nat × Nat) := []
  /-- a fetch is outstanding (R313; 1) -/
  fetching : Bool := false
  /-- next index to fetch (R313; 16) -/
  fetchAt : Nat := 0
  /-- end of the drain timeout (R355; tick) -/
  drainEnd : Nat := 0
  /-- frames admitted and waiting (receive) (R334; frames) -/
  rxq : List QEnt := []
  /-- when the head frame reached the head (R334; tick) -/
  headSince : Nat := 0
  /-- CQ: post event armed (R325; 1) -/
  armed : Bool := false
  /-- CQ: full event fired since H advanced (R325; 1) -/
  fullFired : Bool := false
  /-- CQ: held record (R326; 256) -/
  held : Option Nat := none
  /-- CQ: the queues bound to it have stopped, until it has room with no record waiting (R326; 1) -/
  stop : Bool := false
  /-- CQ: records kept by channels, oldest first, each with its channel + 1, or 0 for none (R326; 256 each) -/
  kept : List (Nat × Nat) := []
  /-- generation 1: scan position S (R344; 12) -/
  scan : Nat := 0
  /-- generation 1: write-back position B (R344; 12) -/
  wb : Nat := 0
  /-- a scan is running (R344; 1) -/
  scanning : Bool := false
  /-- a doorbell forces another scan (R345; 1) -/
  rescan : Bool := false
  /-- receive: descriptors reserved for the head frame beyond the cache (R335; descriptors) -/
  rsv : List (Nat × Nat) := []
  /-- CQ: record handed to the link last (R353; 256) -/
  lastRec : Option Nat := none
  /-- entries a failed descriptor fetch covered (R353; count) -/
  haltN : Nat := 0
  /-- it entered ERROR or HALTED while DRAINING (R312; 1) -/
  drainErr : Bool := false
  /-- QUEUE_ERROR record that waits for the records of earlier descriptors (R350; 256) -/
  errPend : Option Nat := none
  deriving DecidableEq, Repr

/-- A DMA job in a channel (R328, R348). -/
structure Job where
  /-- q (R348; DMA_QUEUE index) -/
  q : Nat := 0
  /-- free-running index of its descriptor (R348; 16) -/
  idx : Nat := 0
  /-- desc (R317; 256) -/
  desc : Nat := 0
  /-- fragments of its buffer (R319; address, length) -/
  frags : List (Nat × Nat) := []
  /-- payload read so far (R328; bytes) -/
  got : Octets := []
  /-- state (R328; enum) -/
  state : JobSt := .reading
  /-- frame handle reserved (R181; handle) -/
  h : Option Nat := none
  /-- tag of its outstanding read (R288; 10) -/
  tag : Nat := 0
  /-- completion record ready, waiting for its turn (R329; 256) -/
  cqe : Option Nat := none
  /-- generation 1: the frame's entries (R341; 128 each) -/
  entries : List Nat := []
  /-- next segment that is to enter (R331; count) -/
  seg : Nat := 0
  /-- bytes to be read before the next stage (R328; bytes) -/
  need : Nat := 0
  /-- reason it halted for (R351; 5) -/
  err : Nat := 0
  /-- departure timestamp of its first frame (R329; 80) -/
  dep : Option Nat := none
  /-- its channel in its cluster (R348; 0-31) -/
  chan : Nat := 0
  /-- PRIO of its queue as it started (R23, R310, R348; 2) -/
  prio : Nat := 0
  /-- NO_SNOOP of its queue as it started (R23, R310; 1) -/
  noSnoop : Bool := false
  /-- read waiting for its beat (R349; address, length) -/
  ask : Option (Nat × Nat) := none
  /-- payload not yet written, by address (R349; octets) -/
  out : List (Nat × Octets) := []
  /-- octets of its payload written (R349, R437; count) -/
  sent : Nat := 0
  /-- first octet that a failed vat cell carries (R437; octet) -/
  poison : Option Nat := none
  deriving DecidableEq, Repr

/-- An outstanding host memory read. -/
structure HostRead where
  /-- q (R309; DMA_QUEUE index) -/
  q : Nat := 0
  /-- addr (R306; 64) -/
  addr : Nat := 0
  /-- len (R313; bytes) -/
  len : Nat := 0
  /-- kind (R313; enum) -/
  kind : ReadKind := .desc
  /-- issue tick (R306; tick) -/
  since : Nat := 0
  /-- requester (R309; 7) -/
  func : Nat := 0
  deriving DecidableEq, Repr

/-- DMA queues, jobs and outstanding requests. -/
structure Dma where
  /-- generation-1 pairs: index 0x4000 + n transmit ring, 0x5000 + n receive ring (R308; by DMA_QUEUE index) -/
  q : Tbl QReg := []
  /-- jobs, oldest first (R348; up to 4 × 32 channels) -/
  jobs : List Job := []
  /-- outstanding reads (R288; by tag) -/
  reads : Tbl HostRead := []
  /-- cluster that the last beat went to (R349; 0-3) -/
  lastCluster : Nat := 3
  /-- channel of a cluster that its last beat went to (R349; by cluster) -/
  lastChan : Tbl Nat := []
  /-- queue and descriptor index of the job the last beat went to (R349; job) -/
  lastBeat : Option (Nat × Nat) := none
  /-- bus errors of completion queues that their fault source has still to count: source and reason (R306, R420; events) -/
  owed : List (Nat × Nat) := []
  /-- channels disabled by repair, by cluster (R432; channels) -/
  chOff : Tbl Nat := []
  /-- DRAIN_TIMEOUT (R488; ms) -/
  drainMs : Nat := 10
  deriving DecidableEq, Repr

/-- Record stream parameters (R358). -/
structure RStream where
  /-- enable (R358; 1) -/
  enable : Bool := false
  /-- 0 RC0, 1 RC1, 2 BOTH (R358; enum) -/
  drive : Nat := 0
  /-- SNAPLEN (R358; bytes) -/
  snap : Nat := 16000
  /-- CLOSE_TIME (R358; ms) -/
  close : Nat := 1000
  deriving DecidableEq, Repr

/-- A segment being filled or staged (R361 to R363). -/
structure Seg where
  /-- stream (R363; 8) -/
  stream : Nat := 0
  /-- drive (R363; 1) -/
  drive : Nat := 0
  /-- oldest first (R361; frame records) -/
  recs : List Octets := []
  /-- used (R363; bytes) -/
  used : Nat := 0
  /-- tick of the first record (R362; tick) -/
  openedAt : Nat := 0
  /-- segSeq (R363; 64) -/
  segSeq : Nat := 0
  /-- FIRST_REC_SEQ (R363; 32) -/
  firstSeq : Nat := 0
  /-- firstTs (R363; 80) -/
  firstTs : Nat := 0
  /-- lastTs (R363; 80) -/
  lastTs : Nat := 0
  /-- gap (R363; 1) -/
  gap : Bool := false
  /-- LAST (R363; 1) -/
  last : Bool := false
  /-- AUDIT_SEQ (R363; 32) -/
  audit : Nat := 0
  deriving DecidableEq, Repr

/-- A staged unit (segment, index block or label) on its way to a drive (R368). -/
structure RUnit where
  /-- kind (R368; enum) -/
  kind : UnitKind := .segment
  /-- unit number once assigned (R365; 24) -/
  unit : Nat := 0
  /-- WRITE_SEQ (R368; 64) -/
  wseq : Nat := 0
  /-- the segment (kind segment) (R363; struct) -/
  seg : Seg := {}
  /-- index block or label content (R366, R367; bytes) -/
  bytes : Octets := []
  /-- its write has completed (R368; 1) -/
  written : Bool := false
  /-- a Flush issued after its write covers it (R368; 1) -/
  flushing : Bool := false
  deriving DecidableEq, Repr

/-- What an index entry of a group needs (R366). -/
structure IdxEnt where
  /-- segment position in its group (R366; 6) -/
  unit : Nat := 0
  /-- stream (R366; 8) -/
  stream : Nat := 0
  /-- flags (R366; 8) -/
  flags : Nat := 0
  /-- segSeq (R366; 64) -/
  segSeq : Nat := 0
  /-- wseq (R366; 64) -/
  wseq : Nat := 0
  /-- firstNs (R366; 64) -/
  firstNs : Nat := 0
  /-- lastNs (R366; 64) -/
  lastNs : Nat := 0
  /-- records (R366; 32) -/
  records : Nat := 0
  /-- firstRec (R366; 32) -/
  firstRec : Nat := 0
  /-- DATA_CRC (R366; 32) -/
  crc : Nat := 0
  deriving DecidableEq, Repr

/-- A seal entry of a label (R367, R370). -/
structure Seal where
  /-- first (R367; 32) -/
  first : Nat := 0
  /-- last (R367; 32) -/
  last : Nat := 0
  /-- time (R367; 64) -/
  time : Nat := 0
  /-- tag (R367; 32) -/
  tag : Nat := 0
  /-- audit (R367; 32) -/
  audit : Nat := 0
  deriving DecidableEq, Repr

/-- A seal whose overlapping segments may still be staged (R370, R384). -/
structure LiveSeal where
  /-- t0 (R370; 64) -/
  t0 : Nat := 0
  /-- t1 (R370; 64) -/
  t1 : Nat := 0
  /-- tag (R370; 32) -/
  tag : Nat := 0
  /-- audit (R370; 32) -/
  audit : Nat := 0
  /-- time (R370; 64) -/
  time : Nat := 0
  deriving DecidableEq, Repr

/-- One recorder drive (R377). -/
structure Drive where
  /-- state (R377; enum) -/
  state : DriveSt := .absent
  /-- link on the RC port (R378; 1) -/
  link : Bool := false
  /-- RCn_PERST_N released (high) (R508; 1) -/
  perst : Bool := false
  /-- disabledByOwner (R378; 1) -/
  disabledByOwner : Bool := false
  /-- DISABLE waits for staged units (R378; 1) -/
  disabling : Bool := false
  /-- units of the namespace used (R365; 24) -/
  units : Nat := 0
  /-- LBA_SIZE (R373; bytes) -/
  lba : Nat := 512
  /-- write pointer (unit) (R368; 24) -/
  ptr : Nat := 2
  /-- next WRITE_SEQ (R368; 64) -/
  wseq : Nat := 0
  /-- next SEG_SEQ by stream (R363; 64 per stream) -/
  segSeqs : Tbl Nat := []
  /-- write queue and units not released, oldest first (R368; units) -/
  staged : List RUnit := []
  /-- entries of the group at the pointer (R366; up to 64) -/
  group : List IdxEnt := []
  /-- labelSeq (R367; 64) -/
  labelSeq : Nat := 0
  /-- copy that holds the valid label (R367; 1) -/
  labelCopy : Nat := 0
  /-- seals (R370; up to 64) -/
  seals : List Seal := []
  /-- model: the time ranges in ns of the segments that each group holds, as last written or found at mounting (R370; by group) -/
  ranges : Tbl (List (Nat × Nat)) := []
  /-- time ranges sealed (R370; list) -/
  liveSeals : List LiveSeal := []
  /-- formatTime (R367; 64) -/
  formatTime : Nat := 0
  /-- PART_SERIAL of the label (R367; 64) -/
  labelSerial : Nat := 0
  /-- first unflushed write (R368; tick) -/
  unflushed : Option Nat := none
  /-- a Flush is outstanding (R368; 1) -/
  flushing : Bool := false
  /-- a unit write is outstanding (R368; 24) -/
  writing : Option Nat := none
  /-- consecutive failed controller resets (R378; count) -/
  resets : Nat := 0
  /-- a controller reset is in progress (R379; 1) -/
  resetOn : Bool := false
  /-- when the next controller reset is due (R379; tick) -/
  resetAt : Nat := 0
  /-- reason reported by KN_REC_STATUS (R371, R373; 8) -/
  reason : Nat := 0
  /-- record reads waiting, as DMA_QUEUE index × 65 536 + descriptor index (R381, R382; RRQ jobs) -/
  readsHeld : List Nat := []
  /-- when READ_LIMIT allows the next drive read (R382; tick) -/
  readFree : Nat := 0
  /-- record reads issued to the drive (R382; RRQ jobs) -/
  readIssued : List Nat := []
  deriving DecidableEq, Repr

/-- Geley recorder. -/
structure Rec where
  /-- streams (R358; 256) -/
  streams : Tbl RStream := []
  /-- parameters that streams take at the end of the tick of their commit (R358, R384; 256) -/
  streamNext : Tbl RStream := []
  /-- open segments (R362; by drive × 256 + stream) -/
  isOpen : Tbl Seg := []
  /-- next REC_SEQ by stream (R361; 32 per stream) -/
  recSeq : Tbl Nat := []
  /-- drops since the last record, by drive × 256 + stream (R361, R376; 16) -/
  drops : Tbl Nat := []
  /-- RC0 (R377; struct) -/
  d0 : Drive := {}
  /-- RC1 (R377; struct) -/
  d1 : Drive := {}
  /-- record quota Q (R375; MiB) -/
  quota : Nat := 3072
  /-- READ_LIMIT (R382; Gb/s) -/
  readLimit : Nat := 8
  deriving DecidableEq, Repr

/-- Mailbox of one master (R385, R386). -/
structure Mbx where
  /-- MBX_REQ as written (absent bytes 0) (R386; 256 B) -/
  req : Octets := []
  /-- request bulk window as written (R385; window) -/
  bulk : Octets := []
  /-- MBX_RESP (R386; 256 B) -/
  resp : Octets := []
  /-- response bulk window (R386; window) -/
  respBulk : Octets := []
  /-- STATE (R386; enum) -/
  state : MbxSt := .idle
  /-- HELD (R386; 1) -/
  held : Bool := false
  deriving DecidableEq, Repr

/-- A submitted request (R389, R393). -/
structure Request where
  /-- 0-4; 7 for the part itself (boot script) (R385; 3) -/
  master : Nat := 0
  /-- requesting node of M3 (R387; 8) -/
  node : Nat := 0xFF
  /-- request mailbox image (R389; 256 B) -/
  image : Octets := []
  /-- bulk payload (R389; bytes) -/
  bulk : Octets := []
  /-- arrival window of the doorbell (R393; 10 ns windows) -/
  win : Nat := 0
  /-- tick of the doorbell (R399; tick) -/
  arr : Nat := 0
  /-- held under R27 or R28 (R28; 1) -/
  held : Bool := false
  /-- ring port an M3 request arrived on (R387; 1) -/
  port : RPort := .east
  deriving DecidableEq, Repr

/-- Keanak control, ownership and audit. -/
structure Keanak where
  /-- mbx (R385; 5) -/
  mbx : Tbl Mbx := []
  /-- requests in execution order (R393; up to 5) -/
  waiting : List Request := []
  /-- owning master (R396; 3) -/
  owner : Option Nat := none
  /-- node of an owning M3 (R398; 8) -/
  ownerNode : Nat := 0xFF
  /-- ownership was obtained by KN_TAKEOVER (R402; 1) -/
  steward : Bool := false
  /-- lease granted (R399; ms) -/
  leaseMs : Nat := 0
  /-- end of the lease (R399; tick) -/
  leaseEnd : Nat := 0
  /-- target of a pending handover (R397; 3) -/
  target : Option Nat := none
  /-- targetNode (R397; 8) -/
  targetNode : Nat := 0xFF
  /-- targetLease (R397; ms) -/
  targetLease : Nat := 0
  /-- end of the 1 s acceptance window (R397; tick) -/
  windowEnd : Nat := 0
  /-- when the lease and window began to stand still (R399; tick) -/
  stoodAt : Option Nat := none
  /-- audit records, newest first (R401; 16 384 × 64 B) -/
  journal : List Octets := []
  /-- next SEQ (R401; 64) -/
  seq : Nat := 0
  /-- CRC of the newest record (R402; 32) -/
  chain : Nat := 0
  /-- trestle journal mirror, newest first (R407; 128 × 64 B) -/
  mirror : List Octets := []
  /-- record of an accepted change that waits for its activation, by object (R406; 64 B each) -/
  tmpl : Tbl Octets := []
  /-- activation records due while the Control region is out: object, record template, time (R406; list) -/
  acts : List (Octets × Nat) := []
  deriving DecidableEq, Repr

/-- Parameters and window of one fault source (R414, R419). -/
structure FSrc where
  /-- parameters written by KN_FAULT_SET (else those of R415) (R419; 1) -/
  set : Bool := false
  /-- enable (R419; 1) -/
  enable : Bool := true
  /-- threshold (R419; 8) -/
  threshold : Nat := 1
  /-- window (R419; us) -/
  window : Nat := 1000
  /-- BASE_CLASS (R419; 1) -/
  degraded : Bool := true
  /-- BASE_REACTION EVENT (R419; 1) -/
  baseEvent : Bool := false
  /-- SEVERE_REACTION 0 LOG … 6 FALLBACK (R419; enum) -/
  severe : Nat := 1
  /-- selftest (R419; 1) -/
  selftest : Bool := false
  /-- window counter (R420; 8) -/
  count : Nat := 0
  /-- end of the window (R420; 2^-16 ns) -/
  winEnd : Nat := 0
  /-- force bit (R414, R429; 1) -/
  force : Bool := false
  /-- forced events not yet made (R429; 8) -/
  fLeft : Nat := 0
  /-- fSpacing (R429; us) -/
  fSpacing : Nat := 1
  /-- MODE RECORD_ONLY (R429; 1) -/
  fRecOnly : Bool := false
  /-- fLoc (R429; 16) -/
  fLoc : Nat := 0
  /-- fDetail (R429; 32) -/
  fDetail : Nat := 0
  /-- next forced event (R430; 2^-16 ns) -/
  fNext : Nat := 0
  /-- neighbour whose present outage the boundary detector has fired for (R418; 10) -/
  boundary : Option Nat := none
  deriving DecidableEq, Repr

/-- A running reaction (R422, R423). -/
structure React where
  /-- reaction ID (R423; 16) -/
  id : Nat := 0
  /-- src (R423; 10) -/
  src : Nat := 0
  /-- code (R422; 3) -/
  code : Nat := 0
  /-- level (R422; 3) -/
  level : Nat := 0
  /-- scope: source of the unit (R422; 10) -/
  unit : Nat := 0
  /-- shadowEnd (R426; tick) -/
  shadowEnd : Nat := 0
  /-- hits shadowed (R425; 32) -/
  hits : Nat := 0
  /-- the reset has ended; the shadow lasts (R423; 1) -/
  done : Bool := false
  /-- a targeted self-test follows (R426; 1) -/
  test : Bool := false
  /-- resetEnd (R422; tick) -/
  resetEnd : Nat := 0
  deriving DecidableEq, Repr

/-- A targeted self-test (R431 to R434). -/
structure SelfTest where
  /-- src (R431; 10) -/
  src : Nat := 0
  /-- loc (R431; 16) -/
  loc : Nat := 0
  /-- repair (R434; 1) -/
  repair : Bool := true
  /-- started by KN_SELFTEST_RUN (R434; 1) -/
  byCmd : Bool := false
  /-- running (R433; 1) -/
  running : Bool := false
  /-- id (R428; 16) -/
  id : Nat := 0
  deriving DecidableEq, Repr

/-- Repair table entry (R435). -/
structure RepairEnt where
  /-- fs (R435; 16) -/
  fs : Nat := 0
  /-- loc (R435; 16) -/
  loc : Nat := 0
  /-- spare (R435; 8) -/
  spare : Nat := 0
  /-- ts (R435; 64) -/
  ts : Nat := 0
  deriving DecidableEq, Repr

/-- A fault record held in a latch (R438, R439). -/
structure FRec where
  /-- region (R439; enum) -/
  region : Region := .trestle
  /-- the record without LOG_SEQ (R438; 256) -/
  word : Nat := 0
  /-- when it was latched (R439; tick) -/
  tick : Nat := 0
  /-- severe, or with a reaction wider than EVENT (R439; 1) -/
  wide : Bool := false
  deriving DecidableEq, Repr

/-- Fault sources, reactions, tests and the fault log. -/
structure Faults where
  /-- src (R414; 768) -/
  src : Tbl FSrc := []
  /-- running reactions and shadows (R423; list) -/
  reacts : List React := []
  /-- nextId (R423; 16) -/
  nextId : Nat := 0
  /-- tests running and waiting (R431; list) -/
  tests : List SelfTest := []
  /-- repair table in MRAM (R435; 1 024 entries) -/
  repairs : List RepairEnt := []
  /-- newest repairs not yet entered in MRAM (R22, R435; count) -/
  repairsOwed : Nat := 0
  /-- units (sources) disabled by repair (R436; set) -/
  disabled : List Nat := []
  /-- lasting cellar verdicts (R435, R436; count) -/
  cellarLasting : Nat := 0
  /-- records waiting for the collector (R439; 6 × 16) -/
  latches : List FRec := []
  /-- trestle pending area, newest first (R439, R441; 16 × 256) -/
  pendingArea : List Nat := []
  /-- fault log, newest first (R439; 16 384 × 256) -/
  log : List Nat := []
  /-- trestle mirror, newest first (R441; 256 × 256) -/
  mirror : List Nat := []
  /-- next LOG_SEQ (R438; 64) -/
  logSeq : Nat := 0
  /-- lost records that feed FS-456 once the Control region runs (R439; count) -/
  overflowOwed : Nat := 0
  deriving DecidableEq, Repr

/-- Performance counter (R449, R450). -/
structure Perf where
  /-- v (R449; 56) -/
  v : Nat := 0
  /-- WRAP_COUNT (R450; 8) -/
  wrap : Nat := 0
  deriving DecidableEq, Repr

/-- Counters. -/
structure Counters where
  /-- stat (R458, R522; by numeric index) -/
  stat : Tbl Stat := []
  /-- perf (R457; 1 792) -/
  perf : Tbl Perf := []
  deriving DecidableEq, Repr

/-- A firmware slot in flash (R472 to R476). -/
structure Slot where
  /-- content up to the last byte written since the slot was erased (R472; 3 MiB) -/
  bytes : Octets := []
  /-- 0 EMPTY, 1 WRITING, 2 VALID, 3 INVALID (R476; 2) -/
  state : Nat := 0
  /-- svn (R473; 8) -/
  svn : Nat := 0
  /-- release (R473; 32) -/
  release : Nat := 0
  /-- status of the last check (R476; 8) -/
  check : Nat := 0
  deriving DecidableEq, Repr

/-- Stored-configuration copy (R478). -/
structure Store where
  /-- bytes (R478; up to 512 KiB) -/
  bytes : Octets := []
  /-- valid (R479; 1) -/
  valid : Bool := false
  deriving DecidableEq, Repr

/-- Fields of the applied stored configuration (R478). -/
structure NodeCfg where
  /-- node (R478, R479; 6) -/
  node : Nat := 0
  /-- rank (R478, R479; 8) -/
  rank : Nat := 0xFF
  /-- ringRate (R478; 2) -/
  ringRate : Nat := 0
  /-- PODL_IN_FALLBACK (R279; 1) -/
  podlFb : Bool := false
  /-- BASE_MAC (R478; 48) -/
  mac : Nat := 0
  /-- tempWarn (R446; C) -/
  tempWarn : Nat := 135
  /-- tempTrip (R446; C) -/
  tempTrip : Nat := 150
  /-- tempHyst (R446; C) -/
  tempHyst : Nat := 15
  /-- NVME_TEMP (R478; C) -/
  nvmeTemp : Nat := 0
  /-- wdt (R447; ms) -/
  wdt : Nat := 2000
  /-- PIER_KEYS (R478; 16 × 32) -/
  keys : List Nat := []
  /-- IMAGE_KEYS (R478, R481; 4 × 64 B) -/
  imageKeys : List Octets := []
  /-- TX_SETTINGS (R478; 16 × 32) -/
  taps : List Nat := []
  deriving DecidableEq, Repr

/-- Trestle, reset and boot. -/
structure Boot where
  /-- BOOT_STAGE (R468, R469; 4) -/
  stage : Nat := 0
  /-- LAST_RESET (R463; 4) -/
  lastReset : Nat := 0
  /-- FALLBACK_REASON (R466; 8) -/
  fbReason : Nat := 0
  /-- fallback (R468; 1) -/
  fallback : Bool := false
  /-- running (R470; 1) -/
  running : Bool := false
  /-- corePowered (R468; 1) -/
  corePowered : Bool := false
  /-- TRESTLE_READY (R468; 1) -/
  ready : Bool := false
  /-- W1C (R468; 1) -/
  pllLost : Bool := false
  /-- W1C (R468; 1) -/
  refLost : Bool := false
  /-- W1C (R468; 1) -/
  tempTripped : Bool := false
  /-- W1C (R468; 1) -/
  wdtExpired : Bool := false
  /-- minSvn (R468; 8) -/
  minSvn : Nat := 0
  /-- failCount (R464; 2) -/
  failCount : Nat := 0
  /-- startMark (R464; 1) -/
  startMark : Bool := false
  /-- trialPending (R468; 1) -/
  trialPending : Bool := false
  /-- W1C (R468; 1) -/
  rolledBack : Bool := false
  /-- trialSlot (R468; 1) -/
  trialSlot : Nat := 0
  /-- COMMITTED_SLOT (R468; 1) -/
  committed : Nat := 0
  /-- RUNNING_SLOT (R468; 2) -/
  runSlot : Nat := 3
  /-- trialRunning (R468; 1) -/
  trialRunning : Bool := false
  /-- slot selected for the start: 0 A, 1 B, 2 recovery, 3 none (R475; 2) -/
  selected : Nat := 3
  /-- the chip is held in reset (R463; 1) -/
  inReset : Bool := true
  /-- power-on reset in force (R501; 1) -/
  por : Bool := true
  /-- a chip reset with this LAST_RESET code has been started and takes hold at this tick (R463; struct) -/
  pendingReset : Option (Nat × Nat) := none
  /-- fallback entry started, with this reason (R465; 8) -/
  fbPending : Option Nat := none
  /-- the recovery image has been loaded in this start (R465; 1) -/
  recoveryTried : Bool := false
  /-- LAST_OP (R442; 4) -/
  opLast : Nat := 0
  /-- OP_STATE (R442; 2) -/
  opState : Nat := 0
  /-- the tick of the last bypass command of TRS_OP (R448; 64) -/
  trsBypass : Option Nat := none
  /-- BYPASS_CAUSE (R442; 6) -/
  cause : Nat := 1
  /-- TEMP_SHUTDOWN (R442, R446; 1) -/
  tempShut : Bool := false
  /-- CORE (R446; 8) -/
  tCore : Int := 0
  /-- IO (R446; 8) -/
  tIo : Int := 0
  /-- PHY0 (R446; 8) -/
  tPhy0 : Int := 0
  /-- PHY1 (R446; 8) -/
  tPhy1 : Int := 0
  /-- samples since every die fell below the release threshold (R446; samples) -/
  coolSince : Option Nat := none
  /-- PAUSED (R447; 1) -/
  wdtPaused : Bool := false
  /-- the watchdog has received its first kick (R470; 1) -/
  wdtKicked : Bool := false
  /-- slotA (R472; struct) -/
  slotA : Slot := {}
  /-- slotB (R472; struct) -/
  slotB : Slot := {}
  /-- slot write in progress: slot, offset, bytes, LAST (R476; struct) -/
  fwBusy : Option (Nat × Nat × Octets × Bool) := none
  /-- stored configuration copy 0 (R472; struct) -/
  store0 : Store := {}
  /-- copy 1 (R472; struct) -/
  store1 : Store := {}
  /-- copy being written (R479; 1) -/
  storeBusy : Option Nat := none
  /-- cfg (R478; struct) -/
  cfg : NodeCfg := {}
  /-- the boot script has been applied (R470; 1) -/
  cfgApplied : Bool := false
  deriving DecidableEq, Repr

/-- Schedule image loading and activation. -/
structure Sched where
  /-- the image being loaded (R483; up to 4 MiB) -/
  loading : Option Octets := none
  /-- status of the last refusal, or 0 (R487; 8) -/
  refusal : Nat := 0
  /-- the FINAL call being staged, with the cycle that its ACT_TIME names; none for IMMEDIATE (R483; struct) -/
  staging : Option (Option Nat × Request) := none
  /-- pending image (R483; struct) -/
  pending : Option Image := none
  /-- ACT_TIME of the pending image; 0 IMMEDIATE (R487; 64) -/
  actTime : Nat := 0
  /-- cycle that begins at ACT_TIME (R484; cycle) -/
  actCycle : Option Nat := none
  /-- network time of the last activation (R487; 64) -/
  lastAct : Nat := 0
  deriving DecidableEq, Repr

/-- Pins and board signals. -/
structure Pins where
  /-- RESET_N level (R505; 1) -/
  resetN : Bool := false
  /-- STEWARD_N level (pull-up) (R505; 1) -/
  stewardN : Bool := true
  /-- PCIE_BIFURCATE level (pull-down) (R505; 1) -/
  bifurcate : Bool := false
  /-- PCIE_SRIS level (R505; 1) -/
  srisPin : Bool := false
  /-- XTAL_BYPASS sampled at the trestle start (R506; 1) -/
  xtalBypass : Bool := false
  /-- TEST_EN level (tied to VSS) (R506; 1) -/
  testEn : Bool := false
  /-- RC0_PERST_N and RC1_PERST_N are released (R508; 1) -/
  rcPerst : Bool := false
  /-- RC0_REFCLK and RC1_REFCLK run (R510; 1) -/
  rcRefclk : Bool := true
  /-- when RC0_REFCLK and RC1_REFCLK last began to run (R508, R510; tick) -/
  rcClkSince : Nat := 0
  /-- CORE_PWR_EN (R505; 1) -/
  corePwrEn : Bool := false
  /-- CORE_PGOOD level (R499; 1) -/
  corePgood : Bool := false
  /-- edge ports whose PODL_GATE_NN is driven on (R273; 16) -/
  podlGate : List Nat := []
  deriving DecidableEq, Repr

/-- The machine: the queue of waiting commands, what it has shown outside, the index of the next free value and
the parts of the block. -/
structure State where
  /-- commands waiting, first in first out (log entry 1) -/
  pending : List Instr := []
  /-- what the part has shown outside itself, newest first: the model's own field (log entry 5) -/
  trace : List Output := []
  /-- index of the next free value: the model's own field (log entry 6) -/
  free : Nat := 0
  clk : Clocks := {}
  regs : Regions := {}
  time : TimeSt := {}
  cyc : CycleSt := {}
  ring : RingSt := {}
  cls : Classifier := {}
  meters : Tbl Meter := []
  /-- a meter before the last KN_METER_SET, with the tick of its commit (R172, R182; by meter) -/
  metersWas : Tbl (Nat × Meter) := []
  vat : Vat := {}
  eg : Egress := {}
  frer : Frer := {}
  ports : Ports := {}
  host : HostLink := {}
  dma : Dma := {}
  geley : Rec := {}
  kn : Keanak := {}
  flt : Faults := {}
  ctr : Counters := {}
  boot : Boot := {}
  sched : Sched := {}
  pins : Pins := {}
  deriving DecidableEq, Repr

/-- Why the machine stops. -/
inductive Fault where
  /-- raised by every meaning for a command whose operands lie outside the ranges of `Instr.wf`: no sender can form
  such a command, so the stop is safe -/
  | illFormed
  deriving DecidableEq, Repr

/-- Why the model gives a command no meaning. -/
inductive Refusal where
  /-- raised by an arm of the dispatch whose command has no meaning yet: safe -/
  | notModelled (mnemonic : String)
  deriving DecidableEq, Repr

/-- The machine after reset: every field at the value the spec gives, or at the value log entry 2 names. -/
def State.reset : State := {}

end Sys2Proof.Machine
end

