-- ==== Sys2Proof/WellFormed.lean ====
section
/-! DEFINITION. WellFormed.lean: the range of each numeric operand of a command. -/

namespace Sys2Proof

/-- The operands of a command lie in the ranges the spec gives the objects they name. -/
def Instr.wf : Instr → Bool
  | .mbxGo m => decide (m < 3)
  | .mgmtFrameRx _ _ => true
  | .consoleLine _ => true
  | .knModuleRead _ => true
  | .dmaCmdIndex f slot prod => decide (f < 128) && decide (slot < 4096) && decide (prod < 65536)
  | .dmaCmdEnable f slot => decide (f < 128) && decide (slot < 4096)
  | .dmaCmdDisable f slot => decide (f < 128) && decide (slot < 4096)
  | .dmaCmdResume f slot => decide (f < 128) && decide (slot < 4096)
  | .dmaCmdSkip f slot => decide (f < 128) && decide (slot < 4096)
  | .dmaCmdReset f slot => decide (f < 128) && decide (slot < 4096)
  | .cqCmdIndex f slot head _ => decide (f < 128) && decide (slot < 4096) && decide (head < 65536)
  | .cqCmdEnable f slot => decide (f < 128) && decide (slot < 4096)
  | .cqCmdDisable f slot => decide (f < 128) && decide (slot < 4096)
  | .cqCmdResume f slot => decide (f < 128) && decide (slot < 4096)
  | .cqCmdReset f slot => decide (f < 128) && decide (slot < 4096)
  | .dmaG1Doorbell f slot => decide (f < 128) && decide (slot < 4096)
  | .hostNtimeLoRead f => decide (f < 128)
  | .perfCntLoRead f i => decide (f < 128) && decide (i < 1792)
  | .hostSyncRead f => decide (f < 128)
  | .badAccess _ _ => true
  | .registerWrite _ _ _ => true
  | .chipReset key => decide (key < 2 ^ 32)
  | .bypassOn key => decide (key < 2 ^ 32)
  | .bypassRelease key => decide (key < 2 ^ 32)
  | .forceFallback key => decide (key < 2 ^ 32)
  | .perstAssert link => decide (link < 4)
  | .dlDown link => decide (link < 4)
  | .pcieLinkTrained link width speed => decide (link < 4) && decide (width < 32) && decide (speed < 8)
  | .functionLevelReset f => decide (f < 128)
  | .flrComplete f => decide (f < 128)
  | .busMasterEnableClear f => decide (f < 128)
  | .busMasterEnableSet f => decide (f < 128)
  | .vfEnableClear pf => decide (pf < 2)
  | .msixUnmask f _ => decide (f < 128)
  | .msixModerationEnd f vec => decide (f < 128) && decide (vec < 256)
  | .descriptorFetch q => decide (q < 0x6000)
  | .hostReadCompletion tag _ => decide (tag < 2048)
  | .hostBusError tag _ => decide (tag < 2048)
  | .completionTimeout tag => decide (tag < 2048)
  | .creditTimeout _ => true
  | .txJobStart q => decide (q < 0x6000)
  | .rxFrameDeliver q => decide (q < 0x6000)
  | .rxWaitLimitExpiry q => decide (q < 0x6000)
  | .drainTimeout _ => true
  | .slotFetchPoint buf _ => decide (buf < 4096)
  | .slotSend buf _ => decide (buf < 4096)
  | .guardianCut _ => true
  | .forwardWindowCut _ => true
  | .miniSlotBoundary _ => true
  | .holdRaise _ => true
  | .holdRelease _ => true
  | .ringFrameRx _ _ ts => decide (ts < 2 ^ 80)
  | .delayReqRx _ _ ts => decide (ts < 2 ^ 80)
  | .delayRespRx _ _ ts => decide (ts < 2 ^ 80)
  | .calTimeout _ => true
  | .calBurstStart _ ts => decide (ts < 2 ^ 80)
  | .delayReportRx _ _ ts => decide (ts < 2 ^ 80)
  | .linkBeatSend _ ts => decide (ts < 2 ^ 80)
  | .linkBeatRx _ _ ts => decide (ts < 2 ^ 80)
  | .announceRx _ _ ts => decide (ts < 2 ^ 80)
  | .ringEventRx _ _ ts => decide (ts < 2 ^ 80)
  | .missingBeats _ => true
  | .lossOfSignal _ => true
  | .serdesLinkUp _ => true
  | .restoreCycleReached _ => true
  | .pierOccurrenceEnd slot => decide (slot < 4096)
  | .pierBackoffEnd slot => decide (slot < 4096)
  | .ringPreemptVerify _ => true
  | .reassemblyTimeout _ _ => true
  | .timerEdge i => decide (i < 4)
  | .evcapEdge i _ ts => decide (i < 5) && decide (ts < 2 ^ 80)
  | .gptpSend p _ ts => decide (p < 18) && decide (ts < 2 ^ 80)
  | .gptpRx p _ ts => decide (p < 18) && decide (ts < 2 ^ 80)
  | .macFrameRx p _ ts => decide (p < 18) && decide (ts < 2 ^ 80)
  | .cellRequestTimeout _ => true
  | .spillReturn q => decide (q < 160)
  | .spillReturnDone q => decide (q < 160)
  | .pauseFrameRx p _ => decide (p < 18)
  | .pauseExpiry p c => decide (p < 18) && decide (c < 8)
  | .pauseWatchdogBreak p c => decide (p < 18) && decide (c < 8)
  | .transmissionOpportunity p _ ts => decide (p < 20) && decide (ts < 2 ^ 80)
  | .frameTxEnd p _ => decide (p < 20)
  | .gateEntryBoundary p => decide (p < 18)
  | .holdAdvance p => decide (p < 18)
  | .verifyTimeExpiry p => decide (p < 18)
  | .recoveryResetTimeout i => decide (i < 16384)
  | .latentPeriodEnd i => decide (i < 16384)
  | .edgeLinkUp p rate _ _ => decide (p < 16) && decide (rate < 5)
  | .edgeLinkDown p => decide (p < 16)
  | .recoveredClockLoss p => decide (p < 20)
  | .cableTestDone p echo => decide (p < 16) && echo.echoes.all (fun x => decide (x.size ≤ 65536))
  | .podlDetectProbe p _ => decide (p < 16)
  | .podlClassResult p cls => decide (p < 16) && decide (cls.getD 0 < 10)
  | .podlInrushEnd p _ => decide (p < 16)
  | .podlOverload p => decide (p < 16)
  | .podlShort p => decide (p < 16)
  | .podlSupplyShort p => decide (p < 16)
  | .podlMpsLost p => decide (p < 16)
  | .podlRetryDelayEnd p => decide (p < 16)
  | .podlBudgetWaitEnd p => decide (p < 16)
  | .podlPowered10s p => decide (p < 16)
  | .moduleInsert _ _ => true
  | .moduleTxfault _ => true
  | .segmentCloseTime d stream => decide (d < 2) && decide (stream < 256)
  | .nvmeWriteDone d _ => decide (d < 2)
  | .nvmeFlushTimer d => decide (d < 2)
  | .nvmeFlushDone d _ => decide (d < 2)
  | .driveLinkLoss d => decide (d < 2)
  | .driveReady d => decide (d < 2)
  | .driveMountDone d _ => decide (d < 2)
  | .driveStall d => decide (d < 2)
  | .controllerReset d => decide (d < 2)
  | .controllerResetEnd d _ => decide (d < 2)
  | .healthPoll d _ => decide (d < 2)
  | .formatDone d _ => decide (d < 2)
  | .recordReadDone d status _ => decide (d < 2) && decide (status < 2 ^ 15)
  | .faultEvent src loc detail => decide (src < 768) && decide (loc < 65536) && decide (detail < 2 ^ 32)
  | .faultWindowEnd src => decide (src < 768)
  | .reactionEnd id => decide (id < 65536)
  | .shadowEnd id => decide (id < 65536)
  | .selftestStart src => decide (src < 768)
  | .selftestDone src _ => decide (src < 768)
  | .forcedEvent src => decide (src < 768)
  | .boundaryDetect src nb => decide (src < 768) && decide (nb < 768)
  | .tempSample _ _ _ _ => true
  | .supplyExcursion group => decide (group < 32)
  | .d2dLinkDown i => decide (i < 5)
  | .unitClockGate unit => decide (unit < 768)
  | .regionRestartDone _ => true
  | .slotMissed slot _ => decide (slot < 4096)
  | .smdVerifyRx p _ => decide (p < 20)
  | .uplinkLinkDown u => decide (u < 2)
  | .recoveredClockReturn p => decide (p < 20)
  | .vfEnableSet pf n => decide (pf < 2) && decide (n < 64)
  | .knClaim => true
  | .knRelease => true
  | .knHeartbeat => true
  | .knHandover => true
  | .knAccept => true
  | .knTakeover => true
  | .knOwnerStatus => true
  | .knAuditRead => true
  | .knCounterPageGrant => true
  | .knCounterPageWithdraw => true
  | .knVersion => true
  | .knObjRead => true
  | .knRingStatus => true
  | .knTimeSet => true
  | .knTimeConfig => true
  | .knTimerSet => true
  | .knEvcapSet => true
  | .knEvcapRead => true
  | .knRuleWrite => true
  | .knHashProfileSet => true
  | .knPortDefaultsSet => true
  | .knRrSetDefine => true
  | .knMeterSet => true
  | .knMeterReset => true
  | .knVatQuotaSet => true
  | .knSpillSet => true
  | .knQueueSet => true
  | .knGateLoad => true
  | .knGateCancel => true
  | .knGateRead => true
  | .knShaperSet => true
  | .knStreamShaperBind => true
  | .knQsampleSet => true
  | .knQsampleRead => true
  | .knSlotEgressBind => true
  | .knPreemptSet => true
  | .knPreemptRead => true
  | .knPauseSet => true
  | .knStreamIdSet => true
  | .knFrerGenSet => true
  | .knFrerRcvySet => true
  | .knPortSet => true
  | .knPortStatus => true
  | .knCableTest => true
  | .knPodlSet => true
  | .knFuncQueueMap => true
  | .knEventMap => true
  | .knDmaqSet => true
  | .knDmaqRecover => true
  | .knDmaqStatus => true
  | .knRegionPower => true
  | .knRecStreamSet => true
  | .knRecFlush => true
  | .knRecSeal => true
  | .knRecUnseal => true
  | .knRecDrive => true
  | .knRecQuotaSet => true
  | .knRecStatus => true
  | .knFaultSet => true
  | .knFaultForce => true
  | .knFaultLogRead => true
  | .knSelftestRun => true
  | .knCounterRead => true
  | .knSchedLoad => true
  | .knSchedStatus => true
  | .knRingWithdraw => true
  | .knRingReadmit => true
  | .knBypass => true
  | .knReset => true
  | .knFwWrite => true
  | .knFwActivate => true
  | .knConfigStore => true
  | .knConfigRead => true
  | .knDrainSet => true
  | .leaseLapse => true
  | .handoverWindowEnd => true
  | .cycleBoundary => true
  | .offsetSlew => true
  | .delayReportSend => true
  | .calChainTimeout => true
  | .ringEventSend => true
  | .listenPeriodEnd => true
  | .announceResend => true
  | .announceWindowEnd => true
  | .cycleOriginReached => true
  | .rankBackoffEnd => true
  | .bypassSwitchOn => true
  | .bypassSwitchOff => true
  | .withdrawActTime => true
  | .withdrawBypass => true
  | .ppsOutEdge => true
  | .holdoverEnd => true
  | .gateListActivation => true
  | .shaperRefill => true
  | .qsampleInstant => true
  | .faultLogCollect => true
  | .tempCoolReset => true
  | .watchdogKick => true
  | .watchdogExpiry => true
  | .pllLossOfLock => true
  | .referenceLoss => true
  | .referenceReturn => true
  | .cellarSelfRefresh => true
  | .resetNFall => true
  | .resetNRise => true
  | .powerOnResetRelease => true
  | .trestleSupplyDip => true
  | .imageVerified => true
  | .corePgoodRise => true
  | .configApply => true
  | .runningReached => true
  | .startTimeout => true
  | .fallbackEntry => true
  | .recoveryImageLoad => true
  | .flashWriteDone => true
  | .configStoreDone => true
  | .schedStagingDone => true
  | .schedActivation => true

end Sys2Proof
end

