-- ==== Sys2Proof/Machine/Ops.lean ====
section
/-! DEFINITION. Ops.lean: the operations that every family of commands shares: time, free values, outputs,
counters and signalling events. -/

namespace Sys2Proof.Machine

open Sys2Proof

/-- A command's outcome: its effect `t` where its operands are in range. The queue of waiting commands is the model's own: no
command touches it. -/
def checked (ok : Bool) (s t : State) : Host.Outcome State Fault Refusal :=
  if ok then .next { t with pending := s.pending } else .fault .illFormed

/-- The part's state with a value shown outside. -/
def emit (s : State) (o : Output) : State := { s with trace := o :: s.trace }

/-- The next free value below `n` (log entry 6). -/
def drawVal (s : State) (n : Nat) : Nat := Config.freeNat s.free % n

/-- The state after a free value has been drawn. -/
def drawn (s : State) : State := { s with free := s.free + 1 }

/-! ### Time -/

/-- Ticks of the 1.25 GHz span clock in a number of nanoseconds (R36). -/
def nsTicks (n : Nat) : Nat := n * 5 / 4

/-- Ticks in microseconds. -/
def usTicks (n : Nat) : Nat := n * 1250

/-- Ticks in milliseconds. -/
def msTicks (n : Nat) : Nat := n * 1250000

/-- The present tick. -/
def now (s : State) : Nat := s.clk.tick

/-- A deadline has been reached (log entry 4). -/
def due (s : State) (t : Nat) : Bool := decide (t ≤ s.clk.tick)

/-- Network time in units of 2⁻¹⁶ ns (R7, R84). -/
def nt16 (s : State) : Nat := s.time.nt / 2 ^ 32

/-- Nanoseconds in units of 2⁻¹⁶ ns. -/
def ns16 (n : Nat) : Nat := n * 65536

/-- Network time in whole nanoseconds. -/
def ntNs (s : State) : Nat := s.time.nt / 2 ^ 48

/-- The fraction of network time in units of 2⁻¹⁶ ns. -/
def ntFrac (s : State) : Nat := s.time.nt / 2 ^ 32 % 65536

/-! ### Regions -/

/-- A region is in service, and, but for the Trestle region, the root clocks it runs from are not stopped (R27, R41, R42). -/
def inService (s : State) (r : Region) : Bool := !(s.regs.out.contains r) && (s.clk.pllLocked || r == .trestle)

/-- The Control region reaches the MRAM die over die-to-die link 4 (R22). -/
def mramUp (s : State) : Bool := inService s .control && !s.clk.d2dDown.contains 4

/-- The Record region runs and its cellar stack is there (R23). -/
def cellarUp (s : State) : Bool := inService s .record && !s.clk.d2dDown.contains 3

/-- Index of a region in the object class REGION (R411). -/
def regionIdx : Region → Nat
  | .edge => 0 | .ring => 1 | .host => 2 | .record => 3 | .control => 4 | .trestle => 5

/-- The region an index of R411 names. -/
def regionOf : Nat → Region
  | 0 => .edge | 1 => .ring | 2 => .host | 3 => .record | 4 => .control | _ => .trestle

/-! ### Counters (chapter 14) -/

/-- The numeric index of a statistics counter (R458). -/
def statIdx (fam obj ev : Nat) : Nat := fam * 2 ^ 24 + obj * 2 ^ 8 + ev

/-- A statistics counter after `n` more events at a tick: it stays at 2⁴⁰ − 1 and then carries SAT (R454). -/
def Stat.add (c : Stat) (n tick : Nat) : Stat :=
  if n = 0 then c
  else { v := min (c.v + n) (2 ^ 40 - 1), sat := c.sat || decide (2 ^ 40 - 1 ≤ c.v + n), tick := tick + 1
         fresh := if c.tick = tick + 1 then c.fresh + n else n }

/-- A statistics counter as a clearing read at a tick returns it: without that tick's events, but for one that has saturated (R12,
R455, R462). -/
def Stat.before (c : Stat) (tick : Nat) : Stat := if c.tick = tick + 1 ∧ c.sat = false then { c with v := c.v - c.fresh } else c

/-- A statistics counter after a clearing read at a tick: that tick's events count towards the value after clearing (R12, R455). -/
def Stat.cleared (c : Stat) (tick : Nat) : Stat := if c.tick = tick + 1 then ({} : Stat).add c.fresh tick else {}

/-- `n` events on a statistics counter. -/
def countN (s : State) (fam obj ev n : Nat) : State :=
  let i := statIdx fam obj ev
  { s with ctr := { s.ctr with stat := tblSet {} s.ctr.stat i ((tblGet {} s.ctr.stat i).add n (now s)) } }

/-- One event on a statistics counter. -/
def count (s : State) (fam obj ev : Nat) : State := countN s fam obj ev 1

/-- A performance counter after `n` more events: it wraps at 2⁵⁶ and counts its wraps modulo 256 (R450). -/
def Perf.add (c : Perf) (n : Nat) : Perf :=
  { v := (c.v + n) % 2 ^ 56, wrap := (c.wrap + (c.v + n) / 2 ^ 56) % 256 }

/-! ### Functions and interrupts (chapter 9) -/

/-- State of a PCIe function (PF × 64 + VF). -/
def funcAt (s : State) (f : Nat) : Func := tblGet {} s.host.funcs f

/-- The state with a function's entry replaced. -/
def setFunc (s : State) (f : Nat) (x : Func) : State :=
  { s with host := { s.host with funcs := tblSet {} s.host.funcs f x } }

/-- The state with a vector's entry replaced. -/
def setVec (s : State) (f v : Nat) (x : Vec) : State :=
  { s with host := { s.host with vecs := tblSet {} s.host.vecs (f * 256 + v) x } }

/-- A vector of a function. -/
def vecAt (s : State) (f v : Nat) : Vec := tblGet {} s.host.vecs (f * 256 + v)

/-- A function exists: PF0; PF1 outside fallback mode; VF n up to NumVFs while VF Enable is set (R289, R307). -/
def funcExists (s : State) (f : Nat) : Bool :=
  if f / 64 > 1 then false
  else if s.boot.fallback then f == 0
  else f % 64 == 0 || decide (f % 64 ≤ tblGet 0 s.host.numVfs (f / 64))

/-- Number of MSI-X vectors of a function (R299). -/
def numVecs (f : Nat) : Nat := if f % 64 = 0 then 256 else 16

/-- A vector may send its message now (R300, R291, R292). -/
def vecMaySend (s : State) (f v : Nat) : Bool :=
  let x := vecAt s f v
  let g := funcAt s f
  x.pend && !x.masked && g.msixEn && !g.fmask && g.bme && !g.d3 && !g.flr && funcExists s f && inService s .host &&
    (match x.lastSent with
      | none => true
      | some t => due s (t + usTicks x.moder))

/-- A vector's message is sent where it may be: one message, and the pending mark is cleared (R300). -/
def trySend (s : State) (f v : Nat) : State :=
  if vecMaySend s f v then
    emit (setVec s f v { vecAt s f v with pend := false, lastSent := some (now s) }) (.msix f v)
  else s

/-- A vector is marked pending and sends where it may (R300). -/
def markVec (s : State) (f v : Nat) : State :=
  trySend (setVec s f v { vecAt s f v with pend := true }) f v

/-- The function + 1 and the vector that a firing source marks: in the tick that remaps it those it had before (R299, R307). -/
def vecOf (s : State) (src : Nat) : Nat × Nat :=
  match tblGet (0, 0, 0) s.host.evWas src with
  | (t, m) => if t = now s + 1 then m else tblGet (0, 0) s.host.evMap src

/-- A signalling event source fires: the vector it is mapped to, if any, is marked (R299, R300, R520). -/
def signal (s : State) (src : Nat) : State :=
  match vecOf s src with
  | (0, _) => s
  | (f + 1, v) => if funcExists s f then markVec s f v else s

/-- `n` events on a performance counter; a wrap fires perf.wrap (R450). -/
def perfN (s : State) (i n : Nat) : State :=
  let c := tblGet {} s.ctr.perf i
  let s' := { s with ctr := { s.ctr with perf := tblSet {} s.ctr.perf i (c.add n) } }
  if c.v + n < 2 ^ 56 then s' else signal s' 1739

/-- One event on a performance counter. -/
def perf (s : State) (i : Nat) : State := perfN s i 1

/-- Units take a request: those whose clock was gated run again, with no loss of work (R23). -/
def wake (s : State) (units : List Nat) : State :=
  { s with clk := { s.clk with gatedUnits := s.clk.gatedUnits.filter (fun u => !units.contains u)
                               lastUse := units.foldl (fun t u => tblSet 0 t u (now s)) s.clk.lastUse } }

/-- The cellar is used: it leaves self-refresh (R23). -/
def useCellar (s : State) : State := { s with clk := { s.clk with cellarSelfRefresh := false, cellarUse := now s } }

/-- A function's counter page is granted: in the tick of a grant or withdrawal as it was before (R297). -/
def pageSeen (s : State) (f : Nat) : Bool :=
  match tblGet (0, false) s.host.pageWas f with
  | (t, b) => if t = now s + 1 then b else (funcAt s f).page

/-- Performance counter index of a port event (R457). -/
def pPort (p e : Nat) : Nat := 16 * p + e
/-- Performance counter index of an egress queue event. -/
def pQueue (p q e : Nat) : Nat := 320 + 4 * (8 * p + q) + e
/-- Performance counter index of a vat account event. -/
def pAcct (a e : Nat) : Nat := 1536 + 4 * a + e
/-- Performance counter index of a DMA cluster event. -/
def pCluster (k e : Nat) : Nat := 1628 + 16 * k + e
/-- Performance counter index of a region event. -/
def pRegion (r e : Nat) : Nat := 1692 + 8 * r + e
/-- Performance counter index of a rotation event. -/
def pRot (r : Rot) (e : Nat) : Nat := 1740 + (match r with | .cw => 0 | .ccw => 16) + e
/-- Performance counter index of a package event. -/
def pPkg (e : Nat) : Nat := 1772 + e

/-- A traffic unit dropped at the crossing into a region out of service (R27). -/
def boundaryDrop (s : State) (r : Region) : State :=
  perf (count s 0x0D (regionIdx r) 0) (pRegion (regionIdx r) 5)

/-- The functions that have at least one source mapped, with the lowest vector mapped (R461). -/
def lowestVec (l : Tbl (Nat × Nat)) (f : Nat) : Option Nat :=
  l.foldl (fun acc e => if e.2.1 = f + 1 then
    (match acc with
      | none => some e.2.2
      | some v => some (min v e.2.2)) else acc) none

/-- A broadcast event (host.restarted, keanak.owner_change): one message to every function with a source
mapped, on its lowest mapped vector (R461). -/
def broadcast (s : State) (fs : List Nat) : State :=
  fs.foldl (fun t f => match lowestVec s.host.evMap f with
    | none => t
    | some v => if funcExists t f then markVec t f v else t) s

/-- Every function number. -/
def allFuncs : List Nat := List.range 128

/-! ### Tables of ports -/

/-- State of an edge or uplink port. -/
def portAt (s : State) (p : Nat) : PortSt := tblGet {} s.ports.port p

/-- The state with a port's entry replaced. -/
def setPort (s : State) (p : Nat) (x : PortSt) : State :=
  { s with ports := { s.ports with port := tblSet {} s.ports.port p x } }

/-- A ring port. -/
def rport (s : State) : RPort → RingPort
  | .east => s.ring.east
  | .west => s.ring.west

/-- The state with a ring port replaced. -/
def setRport (s : State) (e : RPort) (x : RingPort) : State :=
  match e with
  | .east => { s with ring := { s.ring with east := x } }
  | .west => { s with ring := { s.ring with west := x } }

/-- The egress of a ring port. -/
def rtx (s : State) : RPort → RingTx
  | .east => s.ring.eastTx
  | .west => s.ring.westTx

/-- The state with a ring port's egress replaced. -/
def setRtx (s : State) (e : RPort) (x : RingTx) : State :=
  match e with
  | .east => { s with ring := { s.ring with eastTx := x } }
  | .west => { s with ring := { s.ring with westTx := x } }

/-- The other ring port. -/
def otherPort : RPort → RPort
  | .east => .west
  | .west => .east

/-- Port index p of a ring port (R187). -/
def rpIdx : RPort → Nat
  | .east => 18
  | .west => 19

/-- The ring port that sends a rotation (R130). -/
def portOfRot (s : State) : Rot → RPort
  | .cw => s.ring.cwPort
  | .ccw => otherPort s.ring.cwPort

/-- The rotation a ring port sends. -/
def rotOfPort (s : State) (e : RPort) : Rot := if e = s.ring.cwPort then .cw else .ccw

/-- A ring port's or an edge port's counter of family 0x01. -/
def countPort (s : State) (p ev : Nat) : State := count s 0x01 p ev

/-- A ring counter of family 0x07 with no object. -/
def countRing (s : State) (ev : Nat) : State := count s 0x07 0 ev

end Sys2Proof.Machine
end

