-- ==== Sys2Proof/Machine/Vat.lean ====
section
/-! DEFINITION. Vat.lean: cells, handles, quotas and destinations of the vat (chapter 5). -/

namespace Sys2Proof.Machine

open Sys2Proof

/-- The reset quotas of an ingress account (R175). -/
def acctDefault (a : Nat) : Quota :=
  { reserve := if a < 16 then 1024 else if a = 18 then 4096 else 2048, limit := 65536, yellow := 0 }

/-- The reset quotas of a destination (R175). -/
def destDefault : Quota := { reserve := 0, limit := 8192, yellow := 6144 }

/-- Quotas of an ingress account. -/
def acctQuota (s : State) (a : Nat) : Quota := tblGet (acctDefault a) s.vat.acctQ a

/-- Quotas of a destination. -/
def destQuota (s : State) (d : Nat) : Quota := tblGet destDefault s.vat.destQ d

/-- Cells of an account's reserve that are left to it (R175, R436). -/
def acctReserve (s : State) (a : Nat) : Nat := (acctQuota s a).reserve - tblGet 0 s.vat.resvLost a

/-- Cells of the shared pool: every cell outside the system reserve, the staging pool and the reserves (R175). -/
def poolSize (s : State) : Nat :=
  196608 - 512 - 2048 - ((List.range 23).map (fun a => (acctQuota s a).reserve)).sum - s.vat.poolLost

/-- Free cells of the shared pool. -/
def poolFree (s : State) : Nat := poolSize s - s.vat.poolUsed

/-- Free cells of the spill staging pool (R175, R436). -/
def stagingFree (s : State) : Nat := 2048 - s.vat.stagingLost - s.vat.stagingUsed

/-- VAT_DEST index of an egress queue (R411). -/
def destOfQueue (k : Nat) : Nat :=
  if k < 128 then 1088 + k else if k < 144 then 1216 + (k - 128) else 1232 + (k - 144) % 8

/-- Cells a frame of a length occupies (R174). -/
def cellsOf (len : Nat) : Nat := ceilDiv len 256

/-- A stored frame. -/
def frameAt (s : State) (h : Nat) : VFrame := tblGet {} s.vat.frames h

/-- What a timestamp taken now is marked with: the node not SYNCHRONISED, TIME_VALID (R361). -/
def timeFlags (s : State) : Nat := b2n (s.ring.state != .synchronised) + 2 * b2n s.time.timeValid

/-- The state with a stored frame replaced. -/
def setFrame (s : State) (h : Nat) (v : VFrame) : State :=
  { s with vat := { s.vat with frames := tblSet {} s.vat.frames h v } }

/-- The lowest number a sorted table does not list, counted from `n`. -/
def freshFrom {α : Type} : Nat → Tbl α → Nat
  | n, [] => n
  | n, (k, _) :: t => if k = n then freshFrom (n + 1) t else n

/-- The lowest number a table does not list. -/
def freshKey {α : Type} (t : Tbl α) : Nat := freshFrom 0 t

/-- A number in a table of counts changed by a signed amount, not below 0. -/
def tblAdd (t : Tbl Nat) (k : Nat) (d : Int) : Tbl Nat :=
  tblSet 0 t k (((tblGet 0 t k : Nat) + d).toNat)

/-- Cells a frame holds in the vat. -/
def VFrame.cells (v : VFrame) : Nat := v.resv + v.pool + v.staging

/-- The cells of a frame go back to the account and the pools they came from (R176, R180). -/
def freeCells (s : State) (v : VFrame) : State :=
  { s with vat := { s.vat with
      acctCells := tblAdd s.vat.acctCells v.acct (-(v.cells : Int))
      acctResv := tblAdd s.vat.acctResv v.acct (-(v.resv : Int))
      poolUsed := s.vat.poolUsed - v.pool
      stagingUsed := s.vat.stagingUsed - v.staging
      destCells := v.charged.foldl (fun t d => tblAdd t d (-(v.cells : Int))) s.vat.destCells } }

/-- Withdrawn vat banks leave the pool once their cells are free: first the shared pool down to 16 384 cells, then
the staging pool, then the reserves in ascending account order (R436). -/
def takeBank (s : State) : State :=
  let fromPool := min 4096 (poolSize s - 16384)
  let rest := 4096 - fromPool
  let fromStage := min rest (2048 - s.vat.stagingLost)
  let rest2 := rest - fromStage
  let step := fun (acc : Nat × Tbl Nat) (a : Nat) =>
    let room := (acctQuota s a).reserve - tblGet 0 acc.2 a
    let t := min acc.1 room
    (acc.1 - t, tblAdd acc.2 a t)
  let lost := (List.range 23).foldl step (rest2, s.vat.resvLost)
  { s with vat := { s.vat with poolLost := s.vat.poolLost + fromPool, stagingLost := s.vat.stagingLost + fromStage,
                               resvLost := lost.2 } }

/-- A frame leaves the vat: its handle and its cells are free. -/
def freeFrame (s : State) (h : Nat) : State :=
  let v := frameAt s h
  let s1 := freeCells s v
  { s1 with vat := { s1.vat with frames := tblErase s1.vat.frames h } }

/-- A frame that only spilled queues still hold gives its cells back: it is in the cellar (R184). -/
def toCellar (s : State) (h : Nat) : State :=
  let v := frameAt s h
  if !v.inCellar && !v.spillDests.isEmpty && v.dests.all v.spillDests.contains then
    let t := useCellar (setFrame (freeCells s v) h { v with resv := 0, pool := 0, staging := 0, charged := [], inCellar := true })
    perfN (perf t (pPkg 12)) (pPkg 15) v.data.length
  else s

/-- A destination has finished with a frame, or is dropped from it; the frame is freed with its last one (R179). -/
def finishDest (s : State) (h d : Nat) : State :=
  let v := frameAt s h
  if d ∈ v.dests then
    let last := !(v.dests.erase d).contains d
    let s1 := if last && v.charged.contains d then
      { s with vat := { s.vat with destCells := tblAdd s.vat.destCells d (-(v.cells : Int)) } } else s
    let v' : VFrame :=
      if last then { v with dests := v.dests.erase d, charged := v.charged.erase d, spillDests := v.spillDests.erase d }
      else { v with dests := v.dests.erase d }
    let s2 := if last && v.spillDests.contains d then
      { s1 with vat := { s1.vat with spillUsed := tblAdd s1.vat.spillUsed d (-(v.data.length : Int)) } } else s1
    if v'.dests = [] then freeFrame (setFrame s2 h v') h else toCellar (setFrame s2 h v') h
  else s

/-- A frame is dropped for a destination and counted in one of its two counters: 0 quota_drop, 1
reconfig_drops (R179, R488, R522). -/
def dropDest (s : State) (h d ev : Nat) : State := finishDest (count s 0x03 d ev) h d

/-- The entries of an egress queue. -/
def queueAt (s : State) (k : Nat) : List QEnt := tblGet [] s.eg.queues k

/-- The state with an egress queue replaced. -/
def setQueue (s : State) (k : Nat) (l : List QEnt) : State :=
  { s with eg := { s.eg with queues := tblSet [] s.eg.queues k l } }

/-- Cells of a destination (R176). -/
def destCells (s : State) (d : Nat) : Nat := tblGet 0 s.vat.destCells d

/-- Cells of an account. -/
def acctCells (s : State) (a : Nat) : Nat := tblGet 0 s.vat.acctCells a

/-- Bytes of spill in use over all queues (R185). -/
def spillTotal (s : State) : Nat := (s.vat.spillUsed.map (·.2)).sum

/-- A frame's length under R5: its stored octets, FCS included. -/
def VFrame.len (v : VFrame) : Nat := v.data.length

end Sys2Proof.Machine
end

