-- ==== Sys2Proof/Machine/RecOps.lean ====
section
/-! DEFINITION. RecOps.lean: record streams, segments, the write queue of a drive and its states (chapter 11). -/

namespace Sys2Proof.Machine

open Sys2Proof

/-! ### Drives -/

/-- A recorder drive. -/
def driveAt (s : State) (d : Nat) : Drive := if d = 0 then s.geley.d0 else s.geley.d1

/-- The state with a drive replaced. -/
def setDrive (s : State) (d : Nat) (x : Drive) : State :=
  if d = 0 then { s with geley := { s.geley with d0 := x } } else { s with geley := { s.geley with d1 := x } }

/-- The open segments of a drive, by stream. -/
def openSegs (s : State) (d : Nat) : List (Nat × Seg) := s.geley.isOpen.filter (fun e => e.1 / 256 == d)

/-- A drive's staged data in units of 1 MiB (R375). -/
def stagedUnits (s : State) (d : Nat) : Nat := (openSegs s d).length + (driveAt s d).staged.length

/-- A drive's share of the record quota in MiB: half, or all of it where the other drive is DISABLED or ABSENT (R375). -/
def driveShare (s : State) (d : Nat) : Nat :=
  let o := (driveAt s (1 - d)).state
  if o = .disabled ∨ o = .absent then s.geley.quota else s.geley.quota / 2

/-- New frames are staged for a drive in this state (R377). -/
def stages (x : DriveSt) : Bool := x == .init || x == .recording || x == .stalled

/-- Reads of a drive in this state: 0 refused, 1 they wait, 2 served (R377). -/
def readsIn (x : DriveSt) : Nat :=
  match x with
  | .init | .stalled => 1
  | .recording | .disabled => 2
  | _ => 0

/-- Groups of a drive of so many units (R365). -/
def groupsOf (units : Nat) : Nat := (units - 2) / 65

/-! ### Units on the drive -/

/-- The header of a segment (R363). -/
def segHeader (s : State) (g : Seg) (wseq : Nat) (data : Octets) : Octets :=
  let flags := b2n (g.drive == 1) + 2 * b2n g.last + 4 * b2n g.gap
  let h := leBytes 4 0x47595347 ++ leBytes 1 1 ++ leBytes 1 g.stream ++ leBytes 2 flags ++ leBytes 4 g.recs.length ++
    leBytes 4 g.used ++ leBytes 8 g.segSeq ++ leBytes 8 wseq ++ leBytes 8 (g.firstTs / 65536) ++
    leBytes 2 (g.firstTs % 65536) ++ leBytes 2 (g.lastTs % 65536) ++ leBytes 8 (g.lastTs / 65536) ++
    leBytes 4 g.firstSeq ++ leBytes 4 0 ++ leBytes 1 0 ++ leBytes 2 s.boot.cfg.node ++ leBytes 1 0 ++
    leBytes 8 Config.partSerial ++ leBytes 4 g.audit ++ List.replicate 44 0
  h ++ leBytes 4 (crc32c h) ++ leBytes 4 (crc32c data)

/-- The payload area of a segment: its records, then zeros (R362, R364). -/
def segData (g : Seg) : Octets := padTo 1048448 g.recs.flatten

/-- A closed segment as it is written (R362, R363). -/
def segBytes (s : State) (g : Seg) (wseq : Nat) : Octets := segHeader s g wseq (segData g) ++ segData g

/-- The index entry of a segment (R366). -/
def idxOf (g : Seg) (wseq pos : Nat) : IdxEnt :=
  { unit := pos, stream := g.stream, flags := 1 + 2 * b2n g.last + 4 * b2n g.gap, segSeq := g.segSeq, wseq := wseq
    firstNs := g.firstTs / 65536, lastNs := g.lastTs / 65536, records := g.recs.length, firstRec := g.firstSeq
    crc := crc32c (segData g) }

/-- An index entry's 64 bytes. -/
def idxBytes (e : IdxEnt) : Octets :=
  leBytes 1 e.stream ++ leBytes 1 e.flags ++ leBytes 6 0 ++ leBytes 8 e.segSeq ++ leBytes 8 e.wseq ++ leBytes 8 e.firstNs ++
    leBytes 8 e.lastNs ++ leBytes 4 e.records ++ leBytes 4 e.firstRec ++ leBytes 4 e.crc ++ leBytes 12 0

/-- An index block: its header and its 64 entries, the rest of the unit zero (R366). -/
def indexBytes (d group wseq : Nat) (l : List IdxEnt) : Octets :=
  let ents := ((List.range 64).map (fun i => match l.find? (fun e => e.unit == i) with
    | some e => idxBytes e
    | none => List.replicate 64 0)).flatten
  let h := leBytes 4 0x58444947 ++ leBytes 1 1 ++ leBytes 1 d ++ leBytes 2 l.length ++ leBytes 4 group ++ leBytes 4 0 ++
    leBytes 8 wseq ++ leBytes 8 Config.partSerial ++ List.replicate 28 0
  padTo 1048576 (h ++ leBytes 4 (crc32c (h ++ ents)) ++ ents)

/-- A seal's 32 bytes of a label (R367). -/
def sealBytes (e : Seal) : Octets :=
  leBytes 4 e.first ++ leBytes 4 e.last ++ leBytes 8 e.time ++ leBytes 4 e.tag ++ leBytes 4 e.audit ++ leBytes 8 0

/-- A label, the rest of its unit zero (R367). -/
def labelBytes (d seq : Nat) (x : Drive) : Octets :=
  let b := padTo 4092 (leBytes 4 0x4C424C47 ++ leBytes 1 1 ++ leBytes 1 d ++ leBytes 2 x.seals.length ++ leBytes 8 seq ++
    leBytes 8 x.labelSerial ++ leBytes 8 x.formatTime ++ leBytes 4 (groupsOf x.units) ++ leBytes 4 x.lba ++
    (x.seals.map sealBytes).flatten)
  padTo 1048576 (b ++ leBytes 4 (crc32c b))

/-! ### Seals -/

/-- A group is sealed. -/
def sealed (x : Drive) (g : Nat) : Bool := x.seals.any (fun e => decide (e.first ≤ g) && decide (g ≤ e.last))

/-- The first group from `g` on that is not sealed, wrapping from the last to group 0 (R368); the first argument bounds the
search. -/
def nextOpenGroup : Nat → Drive → Nat → Nat
  | 0, _, g => g
  | n + 1, x, g =>
    let g := if g < groupsOf x.units then g else 0
    if sealed x g then nextOpenGroup n x (g + 1) else g

/-- An entry joins the seals: overlapping and adjacent entries of one drive merge into one, with the newer tag (R370). -/
def mergeSeal (l : List Seal) (e : Seal) : List Seal :=
  let touch := l.filter (fun o => decide (o.first ≤ e.last + 1) && decide (e.first ≤ o.last + 1))
  let rest := l.filter (fun o => !(decide (o.first ≤ e.last + 1) && decide (e.first ≤ o.last + 1)))
  let m := touch.foldl (fun a o => { a with first := min a.first o.first, last := max a.last o.last }) e
  let lo := rest.filter (fun o => decide (o.first < m.first))
  let hi := rest.filter (fun o => decide (m.first ≤ o.first))
  lo ++ m :: hi

/-- A new label is staged for the copy that does not hold the valid one (R367). -/
def stageLabel (x : Drive) (d : Nat) : Drive :=
  let rest := x.staged.filter (fun u => !(decide (u.kind = .label) && !u.written && x.writing != some u.unit))
  let behind := rest.any (fun u => decide (u.kind = .label))
  let copy := if behind then x.labelCopy else 1 - x.labelCopy
  { x with staged := rest ++ [{ kind := .label, unit := copy, bytes := labelBytes d (x.labelSeq + (if behind then 2 else 1)) x }] }

/-! ### The write queue (R368) -/

/-- A write of staged octets from the cellar to a drive. -/
def nvmeWrite (s : State) (d unit : Nat) (o : Octets) : State := perfN (emit s (.nvme d 1 unit o)) (pPkg 14) o.length

/-- A write is issued: the oldest staged unit not yet written goes to its unit, or to the one at the write pointer (R368).
Where the 64 segments of the group have been written, the index block goes first. -/
def issueWrite (s : State) (d : Nat) : State :=
  let x := driveAt s d
  if (x.state ≠ .recording ∧ x.state ≠ .disabled) ∨ x.writing.isSome ∨ !cellarUp s then s
  else
    let pos := (x.ptr - 2) % 65
    let grp := (x.ptr - 2) / 65
    match x.staged.find? (fun u => !u.written) with
    | none => s
    | some u =>
      match u.kind with
      | .segment =>
        if x.state ≠ .recording then s
        else if u.unit ≠ 0 then nvmeWrite (setDrive s d { x with writing := some u.unit }) d u.unit (segBytes s u.seg u.wseq)
        else if pos = 64 then s
        else
          let u1 := { u with unit := x.ptr, wseq := x.wseq }
          let hit := x.liveSeals.filter (fun l => decide (u.seg.firstTs / 65536 ≤ l.t1) && decide (l.t0 ≤ u.seg.lastTs / 65536))
          let seals := hit.foldl (fun a l =>
            if a.any (fun e => decide (e.first ≤ grp) && decide (grp ≤ e.last)) then a
            else mergeSeal a { first := grp, last := grp, time := l.time, tag := l.tag, audit := l.audit }) x.seals
          let st := x.staged.map (fun v => if v.kind = .segment ∧ v.unit = 0 ∧ v.seg = u.seg then u1 else v)
          let x1 := { x with writing := some x.ptr, ptr := x.ptr + 1, wseq := x.wseq + 1, staged := st, seals := seals
                             group := x.group ++ [idxOf u.seg x.wseq pos] }
          nvmeWrite (setDrive s d (if seals = x.seals then x1 else stageLabel x1 d)) d u1.unit (segBytes s u1.seg u1.wseq)
      | _ => nvmeWrite (setDrive s d { x with writing := some u.unit }) d u.unit u.bytes

/-- The time ranges of the segments that a group's index entries list. -/
def rangesOf (l : List IdxEnt) : List (Nat × Nat) := l.map (fun e => (e.firstNs, e.lastNs))

/-- The index block of a full group joins the write queue, ahead of the segments of the next group; the write pointer moves
on (R368). -/
def stageIndex (x : Drive) (d : Nat) : Drive :=
  let grp := (x.ptr - 2) / 65
  let placed := fun (v : RUnit) => v.written || v.kind != .segment || v.unit != 0
  if (x.ptr - 2) % 65 = 64 ∧ x.writing = none ∧ x.staged.all (fun v => v.written || v.kind != .segment || v.unit == 0) then
    let u : RUnit := { kind := .index, unit := x.ptr, wseq := x.wseq, bytes := indexBytes d grp x.wseq x.group }
    { x with staged := x.staged.filter placed ++ u :: x.staged.filter (fun v => !placed v)
             wseq := x.wseq + 1, group := [], ranges := tblSet [] x.ranges grp (rangesOf x.group)
             ptr := 2 + 65 * nextOpenGroup (groupsOf x.units) x (grp + 1) }
  else x

/-- The write queue goes on: an index block that is due is staged, and a write is issued. -/
def pump (s : State) (d : Nat) : State :=
  let x := driveAt s d
  issueWrite (if x.state = .recording then setDrive s d (stageIndex x d) else s) d

/-- A Flush is issued: it covers every unit whose write has completed (R368). -/
def issueFlush (s : State) (d : Nat) : State :=
  let x := driveAt s d
  if x.flushing ∨ (x.staged.any (fun u => u.written && !u.flushing)) = false then s
  else emit (setDrive s d { x with flushing := true, unflushed := none
                                   staged := x.staged.map (fun u => if u.written then { u with flushing := true } else u) })
    (.nvme d 0 0 [])

/-! ### Segments (R362) -/

/-- An open segment closes and joins its drive's write queue (R362). -/
def closeSeg (s : State) (d stream : Nat) (last : Bool) : State :=
  let k := d * 256 + stream
  match s.geley.isOpen.find? (fun e => e.1 == k) with
  | none => s
  | some (_, g) =>
    let s1 := { s with geley := { s.geley with isOpen := tblErase s.geley.isOpen k } }
    let x := driveAt s1 d
    pump (setDrive s1 d { x with staged := x.staged ++ [{ kind := .segment, seg := { g with last := last } }] }) d

/-- Every open segment of a drive closes (R362). -/
def closeDrive (s : State) (d : Nat) : State := (openSegs s d).foldl (fun t e => closeSeg t d (e.1 % 256) false) s

/-- The open segments of a stream close (R358, R362). -/
def closeStream (s : State) (stream : Nat) (last : Bool) : State := closeSeg (closeSeg s 0 stream last) 1 stream last

/-- Stream changes of this tick take effect: the open segments of each stream close first (R358, R362, R384). -/
def changeStreams (s : State) : State :=
  s.geley.streamNext.foldl (fun t e =>
    let u := closeStream t e.1 true
    { u with geley := { u.geley with streams := tblSet {} u.geley.streams e.1 e.2 } })
    { s with geley := { s.geley with streamNext := [] } }

/-- A frame record (R361). -/
def frameRecord (v : VFrame) (mir : Bool) (data : Octets) (snap seq drops : Nat) : Octets :=
  let cap := data.take snap
  let flags := v.ingress % 32 + 2 ^ 8 * b2n (decide (19 ≤ v.acct)) + 2 ^ 9 * b2n (decide (cap.length < data.length)) +
    2 ^ 10 * v.colour + 2 ^ 12 * b2n mir + 2 ^ 13 * v.tsFlags
  leBytes 8 (v.ts / 65536) ++ leBytes 2 (v.ts % 65536 / 0x4000 * 0x4000) ++ leBytes 2 data.length ++ leBytes 2 cap.length ++
    leBytes 2 flags ++ leBytes 2 v.stream ++ leBytes 2 (min drops 0xFFFF) ++ leBytes 4 seq ++
    padTo (8 * ceilDiv cap.length 8) cap

/-- The number of a newly opened segment's newest audit record; before the first record it is a free value (R363). -/
def newestAudit (s : State) : Nat := if s.kn.seq = 0 then drawVal s (2 ^ 32) else (s.kn.seq - 1) % 2 ^ 32

/-- A frame dropped for a stream on a drive adds to the DROPS of its next record there (R361, R376). -/
def addDrop (s : State) (d stream : Nat) : State :=
  let k := d * 256 + stream
  { s with geley := { s.geley with drops := tblSet 0 s.geley.drops k (min 0xFFFF (tblGet 0 s.geley.drops k + 1)) } }

/-- A record is appended to a stream's open segment on a drive; a segment is opened where none is open (R362). -/
def appendRecord (s0 : State) (d stream : Nat) (v : VFrame) (rec : Octets) (seq : Nat) : State :=
  let k := d * 256 + stream
  let drops := tblGet 0 s0.geley.drops k
  let full := (tblGet {} s0.geley.isOpen k).used + rec.length > 1048448
  let s := useCellar (if full then closeSeg s0 d stream false else s0)
  let isNew := (s.geley.isOpen.find? (fun e => e.1 == k)).isNone
  let x := driveAt s d
  let g0 : Seg := if isNew then
    { stream := stream, drive := d, openedAt := now s, segSeq := tblGet 0 x.segSeqs stream, firstSeq := seq, firstTs := v.ts
      gap := decide (0 < drops), audit := newestAudit s } else tblGet {} s.geley.isOpen k
  let s1 := if isNew then
    setDrive (if s.kn.seq = 0 then drawn s else s) d { x with segSeqs := tblSet 0 x.segSeqs stream (g0.segSeq + 1) } else s
  let g1 := { g0 with recs := g0.recs ++ [rec], used := g0.used + rec.length, lastTs := v.ts }
  let s2 := { s1 with geley := { s1.geley with isOpen := tblInsert k g1 (tblErase s1.geley.isOpen k)
                                               drops := tblSet 0 s1.geley.drops k 0 } }
  countN (count s2 0x0A stream 0) 0x0A stream 1 v.origLen

/-- Whether a drive takes a frame of a stream: 0 it does, 1 its share is full, 2 its state takes no frame, or it is being disabled
(R376 to R378). -/
def stageCheck (s : State) (d stream len : Nat) : Nat :=
  let g := tblGet {} s.geley.isOpen (d * 256 + stream)
  let needsNew := g.recs.isEmpty || decide (1048448 < g.used + len)
  if !stages (driveAt s d).state || (driveAt s d).disabling then 2
  else if needsNew && decide (driveShare s d ≤ stagedUnits s d) then 1 else 0

/-- A frame reaches a record stream: it is dropped where the stream is disabled, and else stored on each of its drives that
takes it (R358 to R361, R376). -/
def recordFrame (s : State) (stream : Nat) (mir : Bool) (v : VFrame) : State :=
  let c := tblGet {} s.geley.streams stream
  let drives := if c.drive = 0 then [0] else if c.drive = 1 then [1] else [0, 1]
  if !cellarUp s then boundaryDrop s .record
  else if !c.enable then drives.foldl (fun t d => addDrop t d stream) (count s 0x0A stream 3)
  else
    let full := if mir then v.raw else v.data
    let data := full.take (full.length - 4)
    let seq := tblGet 0 s.geley.recSeq stream
    let len := 24 + 8 * ceilDiv (min data.length c.snap) 8
    let ok := drives.filter (fun d => stageCheck s d stream len == 0)
    let s1 := if ok.isEmpty then s
      else { s with geley := { s.geley with recSeq := tblSet 0 s.geley.recSeq stream ((seq + 1) % 2 ^ 32) } }
    drives.foldl (fun t d =>
      match stageCheck s d stream len with
      | 0 => appendRecord (perfN t (pPkg 15) len) d stream v (frameRecord v mir data c.snap seq (tblGet 0 t.geley.drops (d * 256 + stream))) seq
      | 1 => addDrop (count t 0x0A stream 2) d stream
      | _ => addDrop t d stream) s1

/-! ### Drive states (R378) -/

/-- INIT sets the drive's temperature threshold to NVME_TEMP, in kelvin (R372; log entry 46). -/
def setThreshold (s : State) (d : Nat) : State := emit s (.nvme d (256 + 9) 4 (leBytes 4 (s.boot.cfg.nvmeTemp + 273)))

/-- A drive takes a state: the change raises rec.rcN.state, open segments close as it leaves RECORDING, an entry into INIT sets the
drive's features, and one into STALLED is counted (R362, R372, R377, R378). -/
def setDriveState (s : State) (d : Nat) (st : DriveSt) : State :=
  let x := driveAt s d
  if x.state = st then s
  else
    let s1 := if x.state = .recording then closeDrive s d else s
    let s2 := signal (setDrive s1 d { driveAt s1 d with state := st }) (1787 + d)
    if st = .stalled then count s2 0x0A (256 + d) 6 else if st = .init then setThreshold s2 d else s2

/-- Units not yet released are written again, in their order and to their units (R379). -/
def rewriteAll (x : Drive) : Drive :=
  { x with writing := none, flushing := false, unflushed := none, readIssued := []
           readsHeld := x.readIssued ++ x.readsHeld
           staged := x.staged.map (fun u => { u with written := false, flushing := false }) }

end Sys2Proof.Machine
end

