-- ==== Sys2Proof/Machine/FaultBase.lean ====
section
/-! DEFINITION. FaultBase.lean: the catalogue of fault sources, counting and classing, fault records and the start of a
reaction (chapter 13). -/

namespace Sys2Proof.Machine

open Sys2Proof

/-! ### The catalogue of R415 -/

/-- What R415 gives a source: level (0 unit to 5 system), defaults, whether it has a test, whether it is fixed. -/
structure SrcInfo where
  level : Nat := 0
  degraded : Bool := true
  threshold : Nat := 1
  window : Nat := 1000
  severe : Nat := 0
  test : Bool := false
  fixed : Bool := false
  deriving DecidableEq, Repr

/-- A unit-level source that resets its unit on one event in 1 ms. -/
def unitInfo (test : Bool) : SrcInfo := { severe := 2, test := test }

/-- A source that raises an event on one event in 1 s. -/
def eventInfo (level : Nat) (degraded : Bool) : SrcInfo :=
  { level := level, degraded := degraded, window := 1000000, severe := 1 }

/-- Sources of the Edge region, the vat, the die-to-die links and the crossbar (R415). -/
def edgeSrc (f : Nat) : SrcInfo :=
  if f < 48 then { level := 4, degraded := false, threshold := 16, window := 1000000, severe := 1, test := true }
  else if f < 96 then { level := 4, threshold := 4, window := 1000000, severe := 1, test := true }
  else if f < 106 then
    if f % 2 = 0 then { level := 3, degraded := false, threshold := 64, severe := 0, test := true }
    else { level := 3, test := true, fixed := true }
  else if f < 112 then { level := 4, threshold := 4, severe := 6 }
  else if f < 176 then
    match f % 4 with
    | 0 => unitInfo true
    | 1 => { threshold := 3, window := 10000000, severe := 2, test := true }
    | 2 => { degraded := false, threshold := 3, window := 10000000, severe := 1 }
    | _ => { threshold := 4, window := 1000000, severe := 2 }
  else if f < 202 then unitInfo true
  else if f < 210 then
    (if f % 4 = 2 ∨ f % 4 = 1 then unitInfo true else eventInfo 0 false)
  else {}

/-- Sources of the Ring region (R415). -/
def ringSrc (f : Nat) : SrcInfo :=
  if f < 258 then { level := 5, degraded := false, severe := 1 }
  else if f < 260 then { level := 5, degraded := false, threshold := 64, window := 1000000, severe := 1 }
  else if f < 262 then { level := 5, degraded := false, threshold := 16, window := 1000000, severe := 1 }
  else if f < 266 then eventInfo 0 false
  else if f < 268 then unitInfo true
  else if f < 275 then eventInfo 5 true
  else if f < 279 then unitInfo true
  else if f < 283 then unitInfo false
  else {}

/-- Sources of the Host region (R415). -/
def hostSrc (f : Nat) : SrcInfo :=
  if f < 352 then
    match f % 8 with
    | 0 => unitInfo true
    | 1 => unitInfo true
    | 2 => unitInfo false
    | 3 => unitInfo true
    | 4 => unitInfo false
    | 5 => { degraded := false, threshold := 16, window := 1000000, severe := 1 }
    | _ => {}
  else match f with
    | 352 => { degraded := false, threshold := 256, window := 1000000, severe := 0 }
    | 353 => eventInfo 0 true
    | 354 => unitInfo true
    | 355 => unitInfo false
    | _ => {}

/-- Sources of the Record and Control regions (R415). -/
def recSrc (f : Nat) : SrcInfo :=
  match f with
  | 384 => eventInfo 0 true
  | 385 => eventInfo 0 true
  | 386 => { degraded := false, threshold := 16, window := 1000000, severe := 0, test := true }
  | 387 => { degraded := false, threshold := 16, window := 1000000, severe := 0, test := true }
  | 388 => { eventInfo 0 true with test := true }
  | 389 => { eventInfo 0 true with test := true }
  | 390 => unitInfo true
  | 391 => { level := 2, severe := 5 }
  | 448 => unitInfo true
  | 449 => unitInfo true
  | 450 => unitInfo true
  | 451 => unitInfo true
  | 452 => unitInfo true
  | 453 => { severe := 0 }
  | 454 => { level := 2, severe := 5 }
  | 455 => { level := 2, severe := 5 }
  | 456 => { level := 4, severe := 1 }
  | _ => {}

/-- Sources of the Trestle region (R415). -/
def trsSrc (f : Nat) : SrcInfo :=
  if f = 512 then eventInfo 4 false
  else if f < 516 then { level := 4, fixed := true }
  else if f < 524 then { level := 4, severe := 1 }
  else if f < 527 then { level := 4, fixed := true }
  else {}

/-- The catalogue entry of a source; a source that R415 does not list stands at the values of log entry 10 (R416). -/
def srcInfo (f : Nat) : SrcInfo :=
  if f < 256 then edgeSrc f else if f < 320 then ringSrc f else if f < 384 then hostSrc f
  else if f < 512 then recSrc f else trsSrc f

/-- The region whose latch a source's records enter (R439; log entry 10). -/
def srcRegion (f : Nat) : Region :=
  if f < 256 then .edge else if f < 320 then .ring else if f < 384 then .host else if f < 448 then .record
  else if f < 512 then .control else .trestle

/-- The region that a source's REGION_RESTART restarts: the Record region holds the cellar behind die-to-die link 3, and the
Control region reaches MRAM over link 4 (R415). -/
def restartRegion (f : Nat) : Region :=
  if f = 102 ∨ f = 103 then .record else if f = 104 ∨ f = 105 then .control else srcRegion f

/-- A source has a native detector (R415, R416). -/
def listed (f : Nat) : Bool :=
  decide (f < 210 ∨ (256 ≤ f ∧ f < 283) ∨ (320 ≤ f ∧ f < 352 ∧ (f - 320) % 8 < 6) ∨ (352 ≤ f ∧ f < 356) ∨
    (384 ≤ f ∧ f < 392) ∨ (448 ≤ f ∧ f < 457) ∨ (512 ≤ f ∧ f < 527))

/-- The unit of a source: the lowest source of the same unit (R414, R415). -/
def unitOf (f : Nat) : Nat :=
  if 112 ≤ f ∧ f < 176 then 112 + (f - 112) / 4 * 4
  else if 202 ≤ f ∧ f < 210 then 202 + (f - 202) / 4 * 4
  else if 262 ≤ f ∧ f < 268 then 262 + f % 2
  else if 388 ≤ f ∧ f < 390 then f - 2
  else f

/-- The cluster of a source: 0 to 3 E0 to E3, 4 to 7 D0 to D3, 8 UPL, 9 RING. -/
def clusterOf (f : Nat) : Option Nat :=
  if 112 ≤ f ∧ f < 176 then some ((f - 112) / 16)
  else if 176 ≤ f ∧ f < 192 then some ((f - 176) / 4)
  else if f = 192 ∨ f = 193 ∨ (202 ≤ f ∧ f < 210) then some 8
  else if 256 ≤ f ∧ f < 320 then some 9
  else if 320 ≤ f ∧ f < 352 then some (4 + (f - 320) / 8)
  else none

/-- The edge PHY die of a source (R21, R415). -/
def phyDieOf (f : Nat) : Option Nat :=
  if f = 98 ∨ f = 99 then some 0 else if f = 100 ∨ f = 101 then some 1
  else match clusterOf f with
    | some k => if k < 4 then some (k / 2) else none
    | none => none

/-- The widest reset reaction of a source, as a code of R422 (R24). -/
def widestReset (f : Nat) : Nat :=
  match (srcInfo f).level with
  | 0 => 3
  | 1 => 4
  | 2 => 6
  | 3 => if (phyDieOf f).isSome then 5 else 7
  | 4 => 7
  | _ => 2

/-! ### Sources -/

/-- A source's entry. -/
def fsrcAt (s : State) (f : Nat) : FSrc := tblGet {} s.flt.src f

/-- The state with a source's entry replaced. -/
def setFsrc (s : State) (f : Nat) (x : FSrc) : State :=
  { s with flt := { s.flt with src := tblSet {} s.flt.src f x } }

/-- A source with the parameters in force: those of R415 until the owner has set others (R419). -/
def fsrcCfg (s : State) (f : Nat) : FSrc :=
  let x := fsrcAt s f
  if x.set then x else
    let i := srcInfo f
    { x with threshold := i.threshold, window := i.window, degraded := i.degraded, baseEvent := i.severe == 1
             severe := i.severe, selftest := i.test }

/-- A source whose window has ended by now stands at count 0 (R420). -/
def windowClosed (s : State) (f : Nat) : FSrc :=
  let x := fsrcAt s f
  if x.count ≠ 0 ∧ x.winEnd ≤ nt16 s then { x with count := 0 } else x

/-- A counted event: its severity (0 notice, 1 degraded, 2 severe), the code of the reaction requested, the count after it,
and the state (R420). -/
def classify (s : State) (f : Nat) : Nat × Nat × Nat × State :=
  let x := windowClosed s f
  let c := fsrcCfg s f
  let x1 := if x.count = 0 then { x with winEnd := nt16 s + c.window * 1000 * 65536 } else x
  let n := min 255 (x1.count + 1)
  let s1 := setFsrc s f { x1 with count := n }
  if n < c.threshold then (b2n c.degraded, if c.baseEvent then 2 else 1, n, s1)
  else if n = c.threshold then (2, c.severe + 1, n, s1)
  else (2, 0, n, s1)

/-! ### Records -/

/-- What a fault record says of its event beside source, time and level (R438). -/
structure RecInfo where
  kind : Nat := 0
  detail : Nat := 0
  loc : Nat := 0
  id : Nat := 0
  count : Nat := 0
  reaction : Nat := 0
  severity : Nat := 0
  verdict : Nat := 0
  cons : Bool := false
  forced : Bool := false
  isNative : Bool := false
  recOnly : Bool := false
  deriving DecidableEq, Repr

/-- A fault record without its LOG_SEQ (R438). -/
def faultWord (s : State) (f : Nat) (r : RecInfo) : Nat :=
  ntNs s % 2 ^ 64 + ntFrac s * 2 ^ 64 + r.kind % 4 * 2 ^ 94 + f % 1024 * 2 ^ 160 + (srcInfo f).level * 2 ^ 170 +
    b2n r.recOnly * 2 ^ 173 + b2n r.isNative * 2 ^ 174 + b2n r.forced * 2 ^ 175 + b2n r.cons * 2 ^ 176 +
    r.verdict % 4 * 2 ^ 177 + r.severity % 4 * 2 ^ 179 + r.reaction % 8 * 2 ^ 181 + r.count % 256 * 2 ^ 184 +
    r.id % 65536 * 2 ^ 192 + r.loc % 65536 * 2 ^ 208 + r.detail % 2 ^ 32 * 2 ^ 224

/-- A record enters its region's latch, or is lost where the latch is full: 12 entries for any record, 4 more for
severe records and those with a reaction wider than EVENT. Records of trestle sources go to the pending area at once
(R439). -/
def latchRec (s : State) (f : Nat) (r : RecInfo) : State :=
  let w := faultWord s f r
  let reg := srcRegion f
  let wide := r.severity == 2 || decide (2 < r.reaction)
  let x : FRec := { region := reg, word := w, tick := now s, wide := wide }
  let mine := s.flt.latches.filter (fun y => decide (y.region = reg))
  if reg = .trestle then
    { s with flt := { s.flt with latches := s.flt.latches ++ [x], pendingArea := (w :: s.flt.pendingArea).take 16 } }
  else if mine.length < 16 ∧ (wide ∨ (mine.filter (fun y => !y.wide)).length < 12) then
    { s with flt := { s.flt with latches := s.flt.latches ++ [x] } }
  else count { s with flt := { s.flt with overflowOwed := s.flt.overflowOwed + 1 } } 0x0C 768 4

/-! ### Reactions -/

/-- A source lies inside the scope of a reaction (R422). -/
def inScope (r : React) (f : Nat) : Bool :=
  match r.code with
  | 3 => unitOf f == r.unit
  | 4 => (clusterOf f).isSome && clusterOf f == clusterOf r.src
  | 5 => (phyDieOf f).isSome && phyDieOf f == phyDieOf r.src
  | 6 => decide ((102 ≤ f ∧ f < 106) ∨ 112 ≤ f) && restartRegion f == restartRegion r.src
  | 7 => decide (f < 512)
  | _ => false

/-- The reaction in whose shadow a source lies; the wider one where two are (R425, R427). -/
def shadowOf (s : State) (f : Nat) : Option React :=
  (s.flt.reacts.filter (fun r => inScope r f && (r.test || decide (now s < r.shadowEnd)))).foldl (fun acc r => match acc with
    | none => some r
    | some a => if a.code < r.code then some r else some a) none

/-- The longest duration of a reset (R23, R422), in ticks. -/
def resetTicks (code : Nat) : Nat :=
  match code with
  | 3 => usTicks 2
  | 4 => usTicks 40
  | 5 => usTicks 40
  | 6 => msTicks 4
  | _ => msTicks 2000

/-- A reset reaction is requested: it is absorbed by a running one that contains it, or starts with a new ID, ending the
narrower ones it contains (R30, R423). The reset itself is the first argument, given the code and the source. -/
def startReact (rst : State → Nat → Nat → State) (s : State) (f code : Nat) (test : Bool) : Nat × State :=
  match s.flt.reacts.find? (fun r => !r.done && decide (code ≤ r.code) && inScope r f) with
  | some r => (r.id, s)
  | none =>
    let id := s.flt.nextId
    let r : React := { id := id, src := f, code := code, level := (srcInfo f).level, unit := unitOf f,
                       shadowEnd := now s + resetTicks code + usTicks 10, test := test,
                       resetEnd := now s + resetTicks code }
    let keep := s.flt.reacts.filter (fun o => !(decide (o.code < code) && inScope r o.src))
    let s1 := { s with flt := { s.flt with reacts := keep ++ [r], nextId := (id + 1) % 65536 } }
    (id, rst (perf s1 (pPkg 8)) code f)

/-- The event line of a severity (R422, R459). -/
def faultSignal (s : State) (severity : Nat) : State := signal s (1734 + severity)

/-- A targeted self-test is requested: it joins the queue of its unit, or is dropped where that holds 8 requests (R431). -/
def requestTest (s : State) (t : SelfTest) : State :=
  let mine := s.flt.tests.filter (fun x => unitOf x.src == unitOf t.src && !x.running)
  if 8 ≤ mine.length then count s 0x0C 768 3 else { s with flt := { s.flt with tests := s.flt.tests ++ [t] } }

/-- An event of a source may start its self-test on a location: it is not under test, not repaired and not disabled
(R431). -/
def mayTest (s : State) (f loc : Nat) : Bool :=
  !(s.flt.tests.any (fun t => t.src == f && t.loc == loc)) &&
    !(s.flt.repairs.any (fun e => e.fs == f && e.loc == loc)) && !s.flt.disabled.contains (unitOf f)

/-- An event of a source: native, forced or both (R420 to R431). The reset of a reaction is the first argument. -/
def feedWith (rst : State → Nat → Nat → State) (s0 : State) (f loc detail : Nat) (isNative forced recOnly : Bool) : State :=
  let x := fsrcCfg s0 f
  if !x.enable then (if isNative then count s0 0x0C f 0 else s0)
  else match shadowOf s0 f with
    | some r =>
      let s1 := count s0 0x0C f 1
      { s1 with flt := { s1.flt with reacts := s1.flt.reacts.map (fun o =>
          if o.id = r.id then { o with hits := min (o.hits + 1) 0xFFFFFFFF } else o) } }
    | none =>
      let s1 := if isNative then count s0 0x0C f 0 else s0
      let s2 := if forced then count s1 0x0C f 2 else s1
      let i : RecInfo := { detail := detail, loc := loc, isNative := isNative, forced := forced, recOnly := recOnly && forced }
      if (srcInfo f).fixed then
        let v := drawVal s2 768
        latchRec (drawn s2) f { i with severity := v % 3, count := v / 3 }
      else if !isNative && recOnly then
        latchRec s2 f { i with severity := b2n x.degraded, count := (windowClosed s2 f).count }
      else
        let c := classify s2 f
        let want := isNative && x.selftest && mayTest s2 f loc
        let room := decide ((s2.flt.tests.filter (fun y => unitOf y.src == unitOf f && !y.running)).length < 8)
        let r := if 2 < c.2.1 then startReact rst c.2.2.2 f c.2.1 (want && room) else (0, c.2.2.2)
        let s3 := latchRec r.2 f { i with severity := c.1, reaction := c.2.1, count := c.2.2.1, id := r.1 }
        let s4 := if 1 < c.2.1 then faultSignal s3 c.1 else s3
        if want then requestTest s4 { src := f, loc := loc, id := r.1 } else s4

/-- A native event of a source whose widest reaction is EVENT (R414, R422). -/
def feedSystem (s : State) (f loc detail : Nat) : State := feedWith (fun t _ _ => t) s f loc detail true false false

/-- A record of a fixed source with a KIND of its own: an operation of the trestle (R442, R445). -/
def recordOp (s : State) (op : Nat) : State :=
  let v := drawVal s 768
  latchRec (perf (drawn s) (pPkg 16)) 525 { kind := 3, detail := op, isNative := true, severity := v % 3, count := v / 3 }

/-- The cluster of a source is in reset: its isolation gates drop what is addressed to it (R23). -/
def clusterDown (s : State) (f : Nat) : Bool :=
  s.flt.reacts.any (fun r => !r.done && (r.code == 4 || r.code == 5) && inScope r f)

/-- A unit is being reset or tested: its neighbours see it as not ready (R23, R433). -/
def unitBusy (s : State) (u : Nat) : Bool :=
  s.flt.reacts.any (fun r => !r.done && inScope r u) || s.flt.tests.any (fun t => t.running && unitOf t.src == u)

end Sys2Proof.Machine
end

