-- ==== Sys2Proof/Machine/DmaOps.lean ====
section
/-! DEFINITION. DmaOps.lean: queues, completion records, host accesses and queue states (chapter 10). Queues are
numbered by the DMA_QUEUE index of R411: 0x0000 + n transmit, 0x1000 + n receive, 0x2000 + n record-read, 0x3000 + n
completion, 0x4000 + n the transmit ring of a generation-1 pair, and, the model's own number, 0x5000 + n its receive ring. -/

namespace Sys2Proof.Machine

open Sys2Proof

/-- Kind of a queue: the top digit of its number. -/
def qKind (q : Nat) : Nat := q / 0x1000

/-- Number of a queue within its kind. -/
def qNum (q : Nat) : Nat := q % 0x1000

/-- The queue exists (R308). -/
def queueExists (q : Nat) : Bool :=
  decide (qNum q < [1024, 1024, 16, 512, 64, 64].getD (qKind q) 0)

/-- DMA cluster of a queue (R308). -/
def qCluster (q : Nat) : Nat := qNum q / [256, 256, 4, 128, 16, 16].getD (qKind q) 1

/-- The DMA_QUEUE object that holds a queue: both rings of a pair are one object (R411). -/
def qObject (q : Nat) : Nat := if qKind q = 5 then 0x4000 + qNum q else q

/-- A queue's parameters and state. -/
def qAt (s : State) (q : Nat) : QReg := tblGet {} s.dma.q q

/-- The state with a queue replaced. -/
def setQ (s : State) (q : Nat) (x : QReg) : State := { s with dma := { s.dma with q := tblSet {} s.dma.q q x } }

/-- Entries of a queue's ring: 16 for a completion queue and 8 for any other where nothing else has been set (R310). -/
def ringSize (s : State) (q : Nat) : Nat :=
  let n := (qAt s q).ringSize
  if n ≠ 0 then n else if qKind q = 3 then 16 else 8

/-- The completion queue a queue is bound to: the first of its cluster where nothing else has been set (R310). -/
def cqOf (s : State) (q : Nat) : Nat :=
  match (qAt s q).cq with
  | 0 => 0x3000 + 128 * qCluster q
  | n + 1 => 0x3000 + n

/-- The function whose slot holds a queue (R295, R309). -/
def funcOfQueue (s : State) (q : Nat) : Option Nat :=
  (s.host.slots.find? (fun e => e.2 == qObject q + 1)).map (fun e => e.1 / 4096)

/-- The function of a queue may issue requests now: it is in D0, Bus Master Enable is set, no FLR runs, and the Host region is in
service (R27, R288, R291, R292). -/
def mayIssue (s : State) (q : Nat) : Bool :=
  match funcOfQueue s q with
  | none => false
  | some f => (funcAt s f).bme && !(funcAt s f).d3 && !(funcAt s f).flr && funcExists s f && inService s .host

/-- A memory write for a queue, with its attributes (R304). -/
def hostWr (s : State) (q addr : Nat) (data : Octets) (noSnoop relaxed : Bool) : State :=
  match funcOfQueue s q with
  | none => s
  | some f => perf (perfN (emit s (.hostWrite f addr data noSnoop relaxed)) (pCluster (qCluster q) 6) data.length)
      (pCluster (qCluster q) 8)

/-- A payload write of a job, as a poisoned TLP where its cell has failed (R304, R437). -/
def payloadWr (s : State) (j : Job) (addr : Nat) (data : Octets) (bad : Bool) : State :=
  match funcOfQueue s j.q with
  | none => s
  | some f =>
    let ns := j.noSnoop && (funcAt s f).noSnoop
    let o := if bad then Output.hostPoison f addr data ns (funcAt s f).relaxed else .hostWrite f addr data ns (funcAt s f).relaxed
    perf (perfN (emit s o) (pCluster (qCluster j.q) 6) data.length) (pCluster (qCluster j.q) 8)

/-- The link of a function (R286). -/
def linkOfFunc (s : State) (f : Nat) : Nat := if s.host.bifurcated then f / 64 else 0

/-- Reads outstanding on a link. -/
def linkReads (s : State) (k : Nat) : Nat := (s.dma.reads.filter (fun e => linkOfFunc s e.2.func == k)).length

/-- A queue may issue a read: its function may issue requests, and its link has fewer than 768 outstanding (R288, R292). -/
def mayRead (s : State) (q : Nat) : Bool :=
  mayIssue s q && (funcOfQueue s q).any (fun f => decide (linkReads s (linkOfFunc s f) < 768))

/-- Max_Read_Request_Size of a queue's function (R288). -/
def maxRead (s : State) (q : Nat) : Nat :=
  match funcOfQueue s q with
  | none => 512
  | some f => (funcAt s f).maxRead

/-- The tag of a queue's next read: the lowest free one of its link, numbered on from 1 024 for link 1 (R288; log entry 122). -/
def nextTag (s : State) (q : Nat) : Nat :=
  match funcOfQueue s q with
  | none => 0
  | some f => freshFrom (1024 * linkOfFunc s f) (s.dma.reads.filter (fun e => decide (1024 * linkOfFunc s f ≤ e.1)))

/-- A memory read is issued for a queue: it takes the next tag; a payload read carries the job's No Snoop (R288, R304). -/
def issueRead (s : State) (q addr len : Nat) (kind : ReadKind) (noSnoop : Bool) : State :=
  match funcOfQueue s q with
  | none => s
  | some f =>
    let tag := nextTag s q
    let pay := decide (kind = .payload)
    let s1 := emit s (.hostRead tag f addr len (pay && noSnoop && (funcAt s f).noSnoop) (pay && (funcAt s f).relaxed))
    let s2 := { s1 with dma := { s1.dma with
      reads := tblSet {} s1.dma.reads tag { q := q, addr := addr, len := len, kind := kind, since := now s, func := f } } }
    perf (perfN s2 (pCluster (qCluster q) 5) len) (pCluster (qCluster q) 7)

/-- The reads issued for a queue complete, and their data is discarded (R291). -/
def deadReads (s : State) (q : Nat) : State :=
  { s with dma := { s.dma with reads := s.dma.reads.map (fun e => if e.2.q = q then (e.1, { e.2 with kind := .dead }) else e) } }

/-- A source fires for a completion queue of a cluster; the message is counted there (R325, R457). -/
def fireCq (s : State) (cq ev : Nat) : State :=
  let s1 := signal s (3 * qNum cq + ev)
  if s1.trace.length = s.trace.length then s1 else perf s1 (pCluster (qCluster cq) 10)

/-! ### Completion queues -/

/-- Free-running distance between two 16-bit indices. -/
def idxDiff (a b : Nat) : Nat := (a + 65536 - b % 65536) % 65536

/-- A completion queue has no free entry (R324). -/
def cqFull (s : State) (cq : Nat) : Bool :=
  let c := qAt s cq
  idxDiff c.prod c.cons == ringSize s cq

/-- A queue waits on its completion queue: that queue holds a record it cannot post, or has done so and has had no room since, is halted
or is not enabled (R326, R352, R353). -/
def cqWait (s : State) (q : Nat) : Bool :=
  let c := qAt s (cqOf s q)
  c.held.isSome || (c.stop && cqFull s (cqOf s q)) || c.state == .halted || c.state == .disabled

/-- A completion queue halts on a bus error of the write of a record at an index: it holds that record again, and its error event fires
(R325, R352). -/
def cqHalt (s : State) (cq idx cqe reason : Nat) : State :=
  let c := qAt s cq
  let s1 := perf (setQ s cq { c with
    state := .halted, reason := reason, errAddr := c.ringAddr + 32 * (idx % ringSize s cq), errDir := true, errIdx := idx
    prod := idx, lastRec := none, held := some cqe, stop := true, kept := (c.held.map (·, 0)).toList ++ c.kept }) (pCluster (qCluster cq) 11)
  fireCq { s1 with dma := { s1.dma with owed := s1.dma.owed ++ [(325 + 8 * qCluster cq, reason)] } } cq 2

/-- A record is written at the tail with the phase of its lap (R322); the post event fires where armed (R325). A write that would pass
the top of the address space is a bus error (R306). -/
def cqWrite (s : State) (cq cqe : Nat) : State :=
  let c := qAt s cq
  let n := ringSize s cq
  let word := cqe % 2 ^ 255 + (if c.prod / n % 2 = 0 then 2 ^ 255 else 0)
  let addr := c.ringAddr + 32 * (c.prod % n)
  if 2 ^ 64 < addr + 32 then cqHalt s cq c.prod cqe 0x13
  else
    let s1 := hostWr s cq addr (leBytes 32 word) false false
    let s2 := perf (setQ s1 cq { c with prod := (c.prod + 1) % 65536, lastRec := some cqe, armed := false })
      (960 + qNum cq)
    if c.armed then fireCq s2 cq 0 else s2

/-- The full event of a completion queue that holds a record it cannot post fires, once until its head has advanced (R325). -/
def fireFull (s : State) (cq : Nat) : State :=
  let c := qAt s cq
  if cqFull s cq && c.held.isSome && !c.fullFired then fireCq (setQ s cq { c with fullFired := true }) cq 1 else s

/-- A ready record, of a job on a channel (+ 1) or of none, is posted, held, or kept by its channel; it waits while its function may
issue no request (R292, R326). DESIGN CHOICE (log entry 127): while the completion queue is DISABLED it is kept too. -/
def cqPost (s : State) (cq cqe chan : Nat) : State :=
  let c := qAt s cq
  if c.held.isSome || c.state == .disabled then setQ s cq { c with kept := c.kept ++ [(cqe, chan)] }
  else if cqFull s cq || c.state == .halted || !mayIssue s cq then
    fireFull (setQ s cq { c with held := some cqe, stop := true }) cq
  else cqWrite (setQ s cq { c with stop := false }) cq cqe

/-- Waiting records are posted while there is room: the held one first, then those that channels kept; the first argument
bounds their number (R326, R327). -/
def cqDrain : Nat → State → Nat → State
  | 0, s, _ => s
  | n + 1, s, cq =>
    let c := qAt s cq
    match c.held with
    | none => s
    | some r =>
      if cqFull s cq || c.state == .halted || !mayIssue s cq then fireFull s cq
      else
        let s1 := cqWrite (setQ s cq { c with held := none }) cq r
        match c.kept, (qAt s1 cq).held with
        | k :: ks, none => cqDrain n (setQ s1 cq { qAt s1 cq with held := some k.1, kept := ks }) cq
        | _, _ => s1

/-- A completion record (R321); PHASE is set when it is written. -/
def mkCqe (kind status q idx cnt macStatus len colour ingress ts crc age : Nat) : Nat :=
  let qt := if qKind q = 1 then 1 else if qKind q = 2 then 2 else 0
  kind + status * 2 ^ 8 + qNum q * 2 ^ 16 + qt * 2 ^ 28 + idx % 65536 * 2 ^ 32 + cnt * 2 ^ 48 + macStatus * 2 ^ 56 +
    len % 2 ^ 19 * 2 ^ 64 + colour * 2 ^ 83 + ingress * 2 ^ 85 + (ts / 65536) % 2 ^ 64 * 2 ^ 96 +
    ts % 65536 / 0x4000 * 0x4000 * 2 ^ 160 + crc * 2 ^ 176 + age * 2 ^ 208

/-- The QUEUE_ERROR record of a queue: STATUS 0x80 or 0x81, REASON, DIR, FETCH and ERR_ADDR (R321, R350, R352). -/
def errCqe (q status reason idx addr : Nat) (dir fetch : Bool) : Nat :=
  mkCqe 5 status q idx 1 (reason + 32 * b2n dir + 64 * b2n fetch) 0 0 0 0 0 0 + addr % 2 ^ 64 * 2 ^ 96

/-- A job's record is a TX record with a status (R329). -/
def txCqe (q : Nat) (j : Job) (status ts crc : Nat) : Nat :=
  mkCqe 1 status q j.idx 1 0 (fld j.desc 64 19) 0 0 ts crc 0

/-! ### Jobs -/

/-- Fields of a descriptor (R317). -/
def dOp (d : Nat) : Nat := fld d 96 4
/-- LEN. -/
def dLen (d : Nat) : Nat := fld d 64 19
/-- ADDR. -/
def dAddr (d : Nat) : Nat := fld d 0 64
/-- TARGET. -/
def dTarget (d : Nat) : Nat := fld d 128 32
/-- STREAM. -/
def dStream (d : Nat) : Nat := fld d 112 16
/-- REQ_CMPL. -/
def dReq (d : Nat) : Bool := bitOf d 102

/-- The jobs of a queue, oldest first. -/
def jobsOf (s : State) (q : Nat) : List Job := s.dma.jobs.filter (fun j => decide (j.q = q))

/-- The state with a job replaced by its queue and index. -/
def setJob (s : State) (j : Job) : State :=
  { s with dma := { s.dma with jobs := s.dma.jobs.map (fun x => if x.q = j.q ∧ x.idx = j.idx then j else x) } }

/-- The state without a job. -/
def dropJob (s : State) (q idx : Nat) : State :=
  { s with dma := { s.dma with jobs := s.dma.jobs.filter (fun x => !(x.q == q && x.idx == idx)) } }

/-- The job of a queue with an index. -/
def findJob (s : State) (q idx : Nat) : Option Job := s.dma.jobs.find? (fun x => x.q == q && x.idx == idx)

/-- Records kept by channels of a cluster: the queue of each, and its channel (R326). -/
def keptChans (s : State) (k : Nat) : List (Nat × Nat) :=
  (s.dma.q.filter (fun e => qKind e.1 == 3 && qCluster e.1 == k)).flatMap (fun e =>
    (e.2.kept.filter (fun r => r.2 != 0)).map (fun r => (fld r.1 28 2 * 0x1000 + fld r.1 16 12, r.2 - 1)))

/-- The lowest free channel of a cluster (R348). -/
def freeChan (s : State) (k : Nat) : Nat :=
  let used := (s.dma.jobs.filter (fun j => qCluster j.q == k)).map (·.chan) ++ (keptChans s k).map (·.2)
  ((List.range 32).find? (fun c => !used.contains c)).getD 0

/-- The state with a job that takes a free channel of its queue's cluster, with the queue's parameters as they stand (R23, R310, R348). -/
def addJob (s : State) (j : Job) : State :=
  { s with dma := { s.dma with jobs := s.dma.jobs ++
      [{ j with chan := freeChan s (qCluster j.q), prio := (qAt s j.q).prio, noSnoop := (qAt s j.q).noSnoop }] } }

/-- A queue without its work: parameters and bindings stay (R291, R353, R356, R424). -/
def QReg.cleared (x : QReg) : QReg :=
  { x with state := .disabled, prod := 0, cons := 0, reason := 0, errAddr := 0, errDir := false, errFetch := false,
           errIdx := 0, resWait := false, cache := [], fetching := false, fetchAt := 0, rxq := [], armed := false,
           fullFired := false, held := none, stop := false, kept := [], scan := 0, wb := 0, scanning := false, rescan := false,
           rsv := [], lastRec := none, haltN := 0, errPend := none, drainErr := false }

/-- A draining queue with nothing left becomes DISABLED, unless it met an error meanwhile (R312, R355). -/
def drainCheck (s : State) (q : Nat) : State :=
  let x := qAt s q
  if x.state = .draining ∧ jobsOf s q = [] ∧ x.rxq = [] ∧ x.held = none ∧ x.drainErr = false then setQ (deadReads s q) q x.cleared
  else s

/-- The entries of a finished generation-1 transmit job are written back with a status, the first one last; write-back moves on
past the frame (R341, R346). -/
def g1WriteBack (s : State) (q : Nat) (j : Job) (status : Nat) : State :=
  let x := qAt s q
  let one := fun (t : State) (e : Nat × Nat) =>
    let w := fld e.2 125 2 * 2 ^ 29 + status % 16 * 2 ^ 24
    let t1 := hostWr t q (x.ringAddr + 16 * (e.1 % ringSize s q) + 12) (leBytes 4 w) false false
    if bitOf e.2 125 then signal t1 (1536 + 3 * qNum q) else t1
  let l := (List.range j.entries.length).map (fun i => ((j.idx + i) % 65536, j.entries.getD i 0))
  let s1 := (l.tail ++ l.take 1).foldl one s
  setQ s1 q { qAt s1 q with wb := (j.idx + j.entries.length) % 65536 }

/-- A waiting QUEUE_ERROR record is posted. -/
def postErr (s : State) (q : Nat) : State :=
  match (qAt s q).errPend with
  | none => s
  | some r => cqPost (setQ s q { qAt s q with errPend := none }) (cqOf s q) r 0

/-- Records of finished jobs are posted in descriptor order, and generation-1 entries written back; a waiting QUEUE_ERROR record
follows the records of every earlier descriptor (R324, R329, R346, R350). The first argument bounds the jobs. -/
def settle : Nat → State → Nat → State
  | 0, s, _ => s
  | n + 1, s, q =>
    match jobsOf s q with
    | [] => drainCheck (postErr s q) q
    | j :: _ =>
      let covers := if qKind q = 1 then max 1 (qAt s q).rsv.length else 1
      let s0 := if idxDiff (qAt s q).errIdx j.idx < covers then postErr s q else s
      if j.state = .ready && (qKind q != 4 || mayIssue s0 q) then
        let s1 := dropJob s0 q j.idx
        settle n (match j.cqe with
          | none => s1
          | some r => if qKind q = 4 then g1WriteBack s1 q j r else cqPost s1 (cqOf s q) r (j.chan + 1)) q
      else s0

/-- A job has finished with a record, or with none. -/
def finishJob (s : State) (j : Job) (cqe : Option Nat) : State :=
  settle 64 (setJob s { j with state := .ready, cqe := cqe, h := none }) j.q

/-- The parts of a payload that go to each fragment of a buffer (R319, R336). -/
def partsOf : List (Nat × Nat) → Octets → List (Nat × Octets)
  | [], _ => []
  | (addr, len) :: t, o => if o.isEmpty then [] else (addr, o.take len) :: partsOf t (o.drop len)

/-- A job's result is ready: it is written as its channel gets beats, and the record follows the last of them (R304, R349). -/
def writeOut (s : State) (j : Job) (data : Octets) (cqe : Nat) : State :=
  match partsOf j.frags data with
  | [] => finishJob s j (some cqe)
  | l => setJob s { j with state := .writing, out := l, sent := 0, cqe := some cqe }

/-- The CRC result of a job: CRC-32C from HDR_LEN on of what it has read (R333). -/
def jobCrc (j : Job) : Nat := if bitOf j.desc 104 then crc32c (j.got.drop (fld j.desc 192 8)) else 0

/-- The departure of a TS_REQ frame's first octet completes its job with that timestamp, or gives it to a segmented send still in
progress (R329). -/
def dmaDepart (s : State) (q idx ts : Nat) : State :=
  match findJob s q idx with
  | none => s
  | some j => if j.state = .departing then finishJob s j (some (txCqe q j 0 ts (jobCrc j))) else setJob s { j with dep := some ts }

/-- A TS_REQ frame discarded at egress completes its job with EGRESS_DROP (R329). -/
def dmaEgressDrop (s : State) (v : VFrame) : State :=
  match v.tsq with
  | none => s
  | some (q, idx) => match findJob s q idx with
    | none => s
    | some j => if j.state = .departing then finishJob s j (some (txCqe q j 4 0 (jobCrc j)))
      else setJob s { j with dep := some 0, err := 4 }

/-! ### Queue states -/

/-- The VAT_DEST index of a receive queue or ring (R411). -/
def destOfRx (q : Nat) : Nat := if qKind q = 5 then 1024 + qNum q else qNum q

/-- The receive queue a VAT_DEST index below 1 088 names. -/
def rxOfDest (d : Nat) : Nat := if d < 1024 then 0x1000 + d else 0x5000 + (d - 1024)

/-- A frame admitted to a receive queue joins its order (R334). -/
def rxEnqueue (s : State) (q h : Nat) : State :=
  let x := qAt s q
  setQ s q { x with rxq := x.rxq ++ [{ h := h, admitAt := nt16 s, state := .ready }],
                    headSince := if x.rxq.isEmpty then now s else x.headSince }

/-- The head frame leaves a receive queue; the next one's wait begins (R334). -/
def rxDequeue (s : State) (q : Nat) : State :=
  let x := qAt s q
  setQ s q { x with rxq := x.rxq.tail, headSince := now s }

/-- A queue becomes DISABLED with no record for unfinished work; its reads' data will be discarded, its frames are freed,
and those that waited are counted in `reconfig_drops` where `cnt` (R291, R353, R356, R424). -/
def disableQueue (s : State) (q : Nat) (cnt : Bool) : State :=
  let s1 := (jobsOf s q).foldl (fun t j => match j.h with
    | none => t
    | some h => freeFrame t h) s
  let s2 := (qAt s q).rxq.foldl (fun t e =>
    if cnt then dropDest t e.h (destOfRx q) 1 else finishDest t e.h (destOfRx q)) s1
  let s3 := { s2 with dma := { s2.dma with jobs := s2.dma.jobs.filter (fun j => decide (j.q ≠ q)) } }
  setQ (deadReads s3 q) q (qAt s3 q).cleared

/-- A queue becomes RUNNING with every index 0 (R312); a completion queue posts the records kept while it was DISABLED (R326). -/
def enableQueue (s : State) (q : Nat) : State :=
  let x := (qAt s q).cleared
  match (qAt s q).kept with
  | [] => setQ s q { x with state := .running }
  | r :: t => cqDrain 600 (setQ s q { x with state := .running, held := some r.1, stop := true, kept := t }) q

/-- RESET of a completion queue: it becomes DISABLED, and the records that wait stay with it until it is enabled again (R326, R353). DESIGN
CHOICE (log entry 127): the held one too. -/
def resetCq (s : State) (q : Nat) : State :=
  let x := qAt s q
  setQ s q { x.cleared with kept := (x.held.map (·, 0)).toList ++ x.kept }

/-- A queue may be enabled: it and its completion queue are held by slots of one function (R309). -/
def mayEnable (s : State) (q : Nat) : Bool :=
  match funcOfQueue s q with
  | none => false
  | some f => if qKind q < 3 then funcOfQueue s (cqOf s q) == some f else true

/-- The queues bound to a completion queue that are not DISABLED. -/
def boundLive (s : State) (cq : Nat) : List Nat :=
  (s.dma.q.filter (fun e => decide (qKind e.1 < 3) && e.2.state != .disabled && cqOf s e.1 == cq)).map (·.1)

/-- A queue enters DRAINING; the drain timeout runs from now (R355, R357). -/
def startDrain (s : State) (q : Nat) : State :=
  drainCheck (setQ s q { qAt s q with state := .draining, drainEnd := now s + msTicks s.dma.drainMs,
                                      cache := if qKind q = 1 ∨ qKind q = 5 then (qAt s q).cache else []
                                      scanning := false, rescan := false, drainErr := false }) q

/-- The signalling source of a queue's errors: its completion queue's, or the pair's own (R459, R460). -/
def fireError (s : State) (q : Nat) : State :=
  if qKind q < 3 then fireCq s (cqOf s q) 2
  else if qKind q = 3 then fireCq s q 2
  else signal s (1536 + 3 * qNum q + 2)

/-- A malformed index write or entry is counted; it places a running queue in ERROR; a draining queue only records the reason; in
ERROR or HALTED the first reason stays (R312, R315, R350). -/
def errorQueue (s0 : State) (q reason idx : Nat) : State :=
  let s := perf s0 (pCluster (qCluster q) 12)
  let x := qAt s q
  let drain := x.state = .draining
  if x.state = .running ∨ (drain ∧ x.drainErr = false) then
    let s1 := setQ s q { x with state := if drain then .draining else .error, reason := reason, errIdx := idx % 65536
                                drainErr := drain }
    let s2 := if qKind q < 3 then
      settle 64 (setQ s1 q { qAt s1 q with errPend := some (errCqe q 0x80 reason idx 0 false false) }) q else s1
    fireError s2 q
  else s

end Sys2Proof.Machine
end

