-- ==== Sys2Proof/Machine/Net.lean ====
section
/-! DEFINITION. Net.lean: fields of frames, the classification key, rule lookup, meters and the strainer
(chapters 5 and 7). -/

namespace Sys2Proof.Machine

open Sys2Proof

/-! ### Codewords (R256, R262) -/

/-- The PHY reported an invalid code group or an uncorrectable codeword within a packet (R256). -/
def packetSym (mp : Mpacket) : Bool := mp.symErr || decide (0 < mp.fecBad)

/-- The FEC codewords that arrived with a packet, on an uplink or ring port (R262; log entry 114). -/
def countFec (s : State) (p : Nat) (mp : Mpacket) : State :=
  if p < 16 then s
  else perfN (perfN (countN (countN s 0x01 p 16 mp.fecFixed) 0x01 p 17 mp.fecBad) (pPort p 10) mp.fecFixed) (pPort p 11) mp.fecBad

/-! ### Fields of a frame -/

/-- The EtherType or TPID at an offset; octets a short frame does not have count as 0. -/
def etypeAt (o : Octets) (i : Nat) : Nat := beAt (padTo 64 o) i 2

/-- A TPID of the outer tag (R159). -/
def isTag (e : Nat) : Bool := e == 0x8100 || e == 0x88A8

/-- Destination MAC address. -/
def dmacOf (o : Octets) : Nat := beAt (padTo 64 o) 0 6

/-- Source MAC address. -/
def smacOf (o : Octets) : Nat := beAt (padTo 64 o) 6 6

/-- The outer tag's 16 bits of PCP, DEI and VID, where the frame carries one (R159). -/
def outerTci (o : Octets) : Option Nat := if isTag (etypeAt o 12) then some (etypeAt o 14) else none

/-- The outer tag with any R-TAG skipped (R242). -/
def outerTciSkip (o : Octets) : Option Nat :=
  if etypeAt o 12 = 0xF1C1 then (if isTag (etypeAt o 18) then some (etypeAt o 20) else none) else outerTci o

/-- The first EtherType after at most two tags (R159). -/
def innerEtype (o : Octets) : Nat :=
  if isTag (etypeAt o 12) then (if isTag (etypeAt o 16) then etypeAt o 20 else etypeAt o 16) else etypeAt o 12

/-- Offset of an R-TAG: after the outer VLAN tag, or after the source address of an untagged frame (R244). -/
def rtagOff (o : Octets) : Option Nat :=
  if etypeAt o 12 = 0xF1C1 then some 12
  else if isTag (etypeAt o 12) && etypeAt o 16 == 0xF1C1 then some 16 else none

/-- The sequence number of a frame's R-TAG. -/
def rtagSeq (o : Octets) : Option Nat := (rtagOff o).map (fun i => etypeAt o (i + 4))

/-- A frame without its R-TAG (R246). -/
def popRtag (o : Octets) : Octets :=
  match rtagOff o with
  | some i => o.take i ++ o.drop (i + 6)
  | none => o

/-- A frame with an R-TAG inserted after the outer tag, or after the source address (R244). -/
def pushRtag (o : Octets) (seq : Nat) : Octets :=
  let i := if isTag (etypeAt o 12) then 16 else 12
  o.take i ++ beBytes 2 0xF1C1 ++ beBytes 2 0 ++ beBytes 2 seq ++ o.drop i

/-- The frame check sequence of a frame is right. -/
def fcsGood (o : Octets) : Bool := fcsOf (o.take (o.length - 4)) == o.drop (o.length - 4)

/-- A frame's octets before its FCS. -/
def bodyOf (o : Octets) : Octets := o.take (o.length - 4)

/-- A frame with PCP and DEI of its outer tag written (R171). -/
def remark (o : Octets) (pcp dei : Nat) : Octets :=
  match outerTci o with
  | none => o
  | some t => overwrite o 14 (beBytes 2 (pcp % 8 * 2 ^ 13 + dei % 2 * 2 ^ 12 + t % 2 ^ 12))

/-! ### Classification -/

/-- Defaults of an ingress port (R521). -/
def portDef (s : State) (i : Nat) : PortDef := tblGet {} s.cls.defs i

/-- VID of a frame (R159): of the outer tag, or the port's default where there is none or it is 0. -/
def vidOf (s : State) (ing : Nat) (o : Octets) : Nat :=
  match outerTci o with
  | some t => if t % 4096 = 0 then (portDef s ing).vid else t % 4096
  | none => (portDef s ing).vid

/-- The 96-bit classification key (R159). -/
def classKey (s : State) (ing handle : Nat) (o : Octets) : Nat :=
  let pcp := match outerTci o with
    | some t => t / 2 ^ 13
    | none => (portDef s ing).pcp
  dmacOf o * 2 ^ 48 + vidOf s ing o * 2 ^ 36 + b2n (isTag (etypeAt o 12)) * 2 ^ 35 + pcp * 2 ^ 32 +
    innerEtype o * 2 ^ 16 + handle

/-- A rule at reset: METER names none and every other field is 0 (R160). -/
def ruleReset : Nat := 0x3FFF * 2 ^ 37

/-- VALID, PORTS and KEY of a rule (R160). -/
def ruleValid (r : Nat) : Bool := bitOf r 319
/-- The ingress ports of a rule. -/
def rulePorts (r : Nat) : Nat := fld r 288 19
/-- The key of a rule. -/
def ruleKey (r : Nat) : Nat := fld r 192 96
/-- The mask of a TCAM rule. -/
def ruleMask (r : Nat) : Nat := fld r 96 96
/-- The action word of a rule: bits [63:0]. -/
def ruleWord (r : Nat) : Nat := fld r 0 64

/-- The bucket of a masked key under a profile (R161). -/
def hashBucket (key p : Nat) : Nat := crc32c (beBytes 12 key ++ leBytes 1 p) % 512

/-- A TCAM rule hits (R162). -/
def tcamHit (ing key r : Nat) : Bool :=
  ruleValid r && bitOf (rulePorts r) ing && ((key ^^^ ruleKey r) &&& ruleMask r) == 0

/-- A hash rule of profile `p` with an equal masked key that hits (R162). -/
def hashHit (s : State) (ing key p : Nat) : Option Nat :=
  let m := tblGet 0 s.cls.profiles p
  if m = 0 then none else
    let k := key &&& m
    let b := 512 + hashBucket k p * 7
    ((List.range 7).map (fun w => tblGet ruleReset s.cls.rules (b + w))).find?
      (fun r => ruleValid r && bitOf r 318 && fld r 316 2 == p && ruleKey r == k && bitOf (rulePorts r) ing)

/-- The one rule that decides on a frame: the lowest TCAM rule that hits, else the first profile's hash rule (R162). -/
def findRule (s : State) (ing key : Nat) : Option Nat :=
  match (s.cls.rules.filter (fun e => decide (e.1 < 512))).find? (fun e => tcamHit ing key e.2) with
  | some e => some e.2
  | none => (List.range 4).findSome? (hashHit s ing key)

/-- Fields of an action word (R160, R163). -/
def actOf (w : Nat) : Nat := fld w 60 4
/-- The MIRROR bit of an action word. -/
def mirrorOf (w : Nat) : Bool := bitOf w 59
/-- The record stream of the mirror copy. -/
def mirrorStream (w : Nat) : Nat := fld w 51 8
/-- The meter an action word names; 0x3FFF for none. -/
def meterOf (w : Nat) : Nat := fld w 37 14
/-- The target of an action word. -/
def targetOf (w : Nat) : Nat := fld w 0 32

/-- The place and number of the header behind the IPv6 extension headers from an offset on, with whether the packet is a fragment
(R164; log entry 113). The first argument bounds the number of headers. -/
def ip6Next (o : Octets) : Nat → Nat → Nat → Bool → Nat × Nat × Bool
  | 0, off, nh, fr => (off, nh, fr)
  | n + 1, off, nh, fr =>
    let len := beAt o (off + 1) 1
    match nh with
    | 0 | 43 | 60 => ip6Next o n (off + 8 * (len + 1)) (beAt o off 1) fr
    | 51 => ip6Next o n (off + 4 * (len + 2)) (beAt o off 1) fr
    | 44 => ip6Next o n (off + 8) (beAt o off 1) (fr || beAt o (off + 2) 2 / 8 != 0 || beAt o (off + 2) 2 % 2 == 1)
    | _ => (off, nh, fr)

/-- TCP or UDP. -/
def isL4 (p : Nat) : Bool := p == 6 || p == 17

/-- The octets of HOST_HASH that a TCP or UDP packet adds: its addresses and its ports. DESIGN CHOICE (log entry 113): every fragment of
a packet adds the addresses alone, so that the fragments reach one queue (R164). -/
def flowL4 (o : Octets) (l3 et : Nat) : Octets :=
  if et = 0x0800 ∧ isL4 (beAt o (l3 + 9) 1) = true then
    slice o (l3 + 12) 8 ++ (if beAt o (l3 + 6) 2 % 2 ^ 14 = 0 then slice o (l3 + 4 * (beAt o l3 1 % 16)) 4 else [])
  else if et = 0x86DD then
    let x := ip6Next o 16 (l3 + 40) (beAt o (l3 + 6) 1) false
    if isL4 x.2.1 then slice o (l3 + 8) 32 ++ (if x.2.2 then [] else slice o x.1 4) else []
  else []

/-- The flow hash of HOST_HASH: both addresses and the VID, and for TCP and UDP over IP the addresses and ports (R164). -/
def flowHash (s : State) (ing : Nat) (o : Octets) : Nat :=
  let l3 := if isTag (etypeAt o 12) then (if isTag (etypeAt o 16) then 22 else 18) else 14
  crc32c (slice o 0 12 ++ beBytes 2 (vidOf s ing o) ++ flowL4 o l3 (innerEtype o))

/-! ### Meters -/

/-- Tokens of a rate in kb/s over a number of 625 MHz ticks, in units of 2⁻³² byte. Where the exact product is no
whole number of units the sense of its rounding is a free value (R169, R209; log entry 6). -/
def refill (s : State) (rate elapsed : Nat) : Nat :=
  let x := rate * elapsed * 2 ^ 32
  x / 5000000 + (if x % 5000000 = 0 then 0 else drawVal s 2)

/-- A meter. -/
def meterAt (s : State) (m : Nat) : Meter := tblGet {} s.meters m

/-- The meter that a frame meets whose last octet arrives now: in the tick of a parameter change as it was before (R172, R182). -/
def meterJudged (s : State) (m : Nat) : Meter :=
  match tblGet (0, {}) s.metersWas m with
  | (t, x) => if t = now s / 2 + 1 then x else meterAt s m

/-- A meter's buckets after a frame, judged by what was in force; a change of the same tick keeps them, clipped to its sizes (R172,
R182). -/
def setJudged (s : State) (m : Nat) (x : Meter) : State :=
  if (tblGet (0, ({} : Meter)) s.metersWas m).1 = now s / 2 + 1 then
    let y := meterAt s m
    { s with metersWas := tblSet (0, {}) s.metersWas m (now s / 2 + 1, x)
             meters := tblSet {} s.meters m { y with tc := min x.tc (y.cbs * 2 ^ 32), tp := min x.tp (y.pbs * 2 ^ 32), last := x.last } }
  else { s with meters := tblSet {} s.meters m x }

/-- A meter's buckets refilled up to the present tick (R169). -/
def meterRefill (s : State) (x : Meter) : Meter :=
  let e := now s / 2 - x.last
  { x with tc := min (x.cbs * 2 ^ 32) (x.tc + refill s x.cir e)
           tp := min (x.pbs * 2 ^ 32) (x.tp + refill (drawn s) x.pir e)
           last := now s / 2 }

/-- The colour a meter with refilled buckets gives a frame of `b` bytes: 0 green, 1 yellow, 2 red, with the meter after
it (R169). -/
def meterColour (x : Meter) (inColour b : Nat) : Nat × Meter :=
  let u := b * 2 ^ 32
  if !x.aware || inColour == 0 then
    if x.tp < u then (2, x)
    else if x.tc < u then (1, { x with tp := x.tp - u })
    else (0, { x with tp := x.tp - u, tc := x.tc - u })
  else if inColour = 1 ∧ u ≤ x.tp then (1, { x with tp := x.tp - u })
  else (2, x)

/-- The incoming colour of a frame from its port's table (R170). -/
def inColour (s : State) (ing : Nat) (o : Octets) : Nat :=
  let i := match outerTci o with
    | some t => t / 2 ^ 12
    | none => 2 * (portDef s ing).pcp
  fld (portDef s ing).colour (2 * (i % 16)) 2

/-- The size a meter takes a frame to have; a size below 0 counts as 0 (log entry 8). -/
def meterSize (x : Meter) (len : Nat) : Nat := ((len : Int) + x.adjust).toNat

/-- A meter acts on a frame: its colour, and the state with the meter and its counters advanced (R169, R171). -/
def meterFrame (s : State) (m ing len : Nat) (o : Octets) : Nat × State :=
  let x := meterRefill s (meterJudged s m)
  let s := drawn (drawn s)
  let r := meterColour x (inColour s ing o) (meterSize x len)
  let s := setJudged s m r.2
  (r.1, countN (count s 0x04 m r.1) 0x04 m (4 + r.1) len)

/-- The colour action of a meter: [1:0] 0 PASS, 1 REMARK, 2 DROP; [4:2] PCP; [5] DEI (R168, R409). -/
def colourAction (x : Meter) (c : Nat) : Nat := if c = 0 then x.actG else if c = 1 then x.actY else x.actR

/-! ### Streams -/

/-- The stream handle of a frame, 0xFFFF where no identity entry matches; a NULL match goes before a SMAC_VLAN
match (R242). -/
def streamOf (s : State) (ing : Nat) (o : Octets) : Nat :=
  let vid := match outerTciSkip o with
    | some t => if t % 4096 = 0 then (portDef s ing).vid else t % 4096
    | none => (portDef s ing).vid
  let hit := fun (smac : Bool) => s.frer.ids.find? (fun e => e.2.valid && e.2.smac == smac && e.2.vid == vid &&
    bitOf e.2.ports ing && e.2.mac == (if smac then smacOf o else dmacOf o))
  match hit false with
  | some e => e.2.handle
  | none => match hit true with
    | some e => e.2.handle
    | none => 0xFFFF

/-- A recovery entry. -/
def rcvyAt (s : State) (i : Nat) : Rcvy := tblGet {} s.frer.rcvy i

/-- The state with a recovery entry replaced. -/
def setRcvy (s : State) (i : Nat) (x : Rcvy) : State :=
  { s with frer := { s.frer with rcvy := tblSet {} s.frer.rcvy i x } }

/-- What the strainer does with a frame. -/
inductive Strain where
  | pass | outOfOrder | discard | rogue
  deriving DecidableEq, Repr

/-- The vector algorithm (R247). -/
def strainVector (x : Rcvy) (seq : Nat) : Strain × Rcvy :=
  let d := toSigned 16 (seq + 65536 - x.rseq)
  if x.takeAny then (.pass, { x with rseq := seq, hist := 1, takeAny := false })
  else if (x.history : Int) ≤ d.natAbs then (.rogue, x)
  else if 0 < d then (.pass, { x with hist := (x.hist * 2 ^ d.toNat) % 2 ^ 128 ||| 1, rseq := seq })
  else if bitOf x.hist (-d).toNat then (.discard, x)
  else (.outOfOrder, { x with hist := x.hist ||| 2 ^ (-d).toNat })

/-- The match algorithm (R247). -/
def strainMatch (x : Rcvy) (seq : Nat) : Strain × Rcvy :=
  if x.takeAny || seq != x.rseq then (.pass, { x with rseq := seq, takeAny := false }) else (.discard, x)

/-- The strainer passes a frame of an entry: the entry and its counter advance (R248, R249, R254). -/
def strainPass (s : State) (i : Nat) (x : Rcvy) : State :=
  count (setRcvy s i { x with lastPass := now s, passed := x.passed + 1 }) 0x05 i 0

/-- The strainer decides on a frame of an enabled handle of 0 to 8 191: whether it passes, and the state with the entry
and its counters advanced (R246 to R248). -/
def strain (s : State) (i : Nat) (seq : Option Nat) : Bool × State :=
  let x := rcvyAt s i
  if !x.enable then (true, s) else
  match seq with
  | none => if x.takeNoSeq then (true, strainPass s i x) else (false, count s 0x05 i 4)
  | some q =>
    let r := if x.isMatch then strainMatch x q else strainVector x q
    match r.1 with
    | .pass => (true, strainPass s i r.2)
    | .outOfOrder => (true, count (strainPass s i r.2) 0x05 i 2)
    | .discard => (false, count (setRcvy s i { r.2 with disc := r.2.disc + 1 }) 0x05 i 1)
    | .rogue => (false, count (setRcvy s i r.2) 0x05 i 3)

/-- A generation entry. -/
def genAt (s : State) (i : Nat) : Gen := tblGet {} s.frer.gen i

/-- A frame of an enabled handle takes the next sequence number and its R-TAG; none where it becomes longer than
its egress limit (R244). The octets are those before the FCS. -/
def generate (s : State) (handle limit : Nat) (body : Octets) : Option Octets × State :=
  let g := genAt s handle
  if handle < 8192 ∧ g.enable then
    if limit < body.length + 6 + 4 then (none, count s 0x06 handle 1)
    else (some (pushRtag body g.next),
      count { s with frer := { s.frer with gen := tblSet {} s.frer.gen handle { g with next := (g.next + 1) % 65536 } } }
        0x06 handle 0)
  else (some body, s)

end Sys2Proof.Machine
end

