-- ==== Sys2Proof/Machine/EgressOps.lean ====
section
/-! DEFINITION. EgressOps.lean: gate lists, shapers, queue selection and pauses (chapters 6 and 7). -/

namespace Sys2Proof.Machine

open Sys2Proof

/-! ### Line rates -/

/-- Rate of a serial ring port in Mb/s: 0 50G, 1 25G, 2 10G (R281). -/
def serialMbps (r : Nat) : Nat := if r = 0 then 50000 else if r = 1 then 25000 else 10000

/-- Ring line rate: of the image in force, else of the stored configuration (R281). -/
def ringMbps (s : State) : Nat :=
  serialMbps (match s.cyc.image with
    | some i => i.rate
    | none => s.boot.cfg.ringRate)

/-- Line rate of a port in Mb/s (R263, R268, R280). -/
def lineMbps (s : State) (p : Nat) : Nat :=
  if p < 16 then [0, 100, 1000, 2500, 5000, 10000].getD (portAt s p).rate 0
  else if p < 18 then (if (portAt s p).cfg.upRate = 0 then 25000 else 10000)
  else ringMbps s

/-- Span-clock ticks that octets take at a rate, rounded up. -/
def octetTicks (mbps octets : Nat) : Nat := ceilDiv (octets * 10000) mbps

/-- Time that octets take at a rate, in 2⁻¹⁶ ns, rounded up. -/
def octetTime (mbps octets : Nat) : Nat := ceilDiv (octets * 8000 * 65536) mbps

/-! ### mPackets -/

/-- The start code of a level's frame count: SMD-S0 to SMD-S3 of Clause 99 (log entry 98), SMD-HS0 to SMD-HS3 (R227, R229). -/
def startCode : Level → Nat → Nat
  | .low, c => [0xE6, 0x4C, 0x7F, 0xB3].getD (c % 4) 0
  | .high, c => [0x8B, 0x38, 0xC4, 0x97].getD (c % 4) 0

/-- The continuation code of a level's frame count: SMD-C0 to SMD-C3 (log entry 98), SMD-HC0 to SMD-HC3 (R227, R229). -/
def contCode : Level → Nat → Nat
  | .low, c => [0x61, 0x52, 0x9E, 0x2A].getD (c % 4) 0
  | .high, c => [0x1E, 0xA6, 0x6D, 0xF0].getD (c % 4) 0

/-- The encoding of a fragment count (R218, R229; log entry 98). -/
def fragCode (n : Nat) : Nat := [0xE6, 0x4C, 0x7F, 0xB3].getD (n % 4) 0

/-- The mCRC over a frame's data up to the end of a fragment: the frame check sequence with its last 16 bits inverted (R218; log
entry 98). -/
def mcrcOf (o : Octets) : Octets := leBytes 4 (crc32 o ^^^ 0xFFFF0000)

/-- A check sequence that is wrong for its frame (R80, R231; log entry 98). -/
def badFcs (o : Octets) : Octets := leBytes 4 (2 ^ 32 - 1 - crc32 o)

/-- A piece of a preemptable frame ends on a port: the code of its start or of a continuation, the data of it that follow `sent`
octets, and its check (R218, R229). -/
def emitPiece (s : State) (p : Nat) (l : Level) (cnt frag sent : Nat) (data crc : Octets) : State :=
  emit s (.fragment p (if sent = 0 then startCode l cnt else contCode l cnt) (if sent = 0 then none else some (fragCode frag))
    data crc)

/-- The fragment count after a piece: the first continuation carries 0. -/
def nextFrag (sent frag : Nat) : Nat := if sent = 0 then 0 else (frag + 1) % 4

/-! ### Gates -/

/-- Position of a gate list: gate states, entry, start of its gate cycle and the next boundary, in 2⁻¹⁶ ns. -/
structure GatePos where
  states : Nat
  entry : Nat
  start : Option Nat
  next : Option Nat
  deriving DecidableEq, Repr

/-- INTERVAL, GATES and OP of an entry (R197). -/
def entryInterval (e : Nat) : Nat := fld e 0 32
/-- The gate states of an entry. -/
def entryGates (e : Nat) : Nat := fld e 32 8
/-- The operation of an entry. -/
def entryOp (e : Nat) : Nat := fld e 60 4

/-- The entry in force `off` after the start of a gate cycle, and the offset at which it ends; the last entry holds to
the cycle's end (R199). -/
def entryPos : List Nat → Nat → Nat → Nat → Nat × Option Nat
  | [], i, _, _ => (i, none)
  | [_], i, _, _ => (i, none)
  | e :: es, i, acc, off =>
    let t := acc + entryInterval e * 65536
    if off < t then (i, some t) else entryPos es (i + 1) t off

/-- The first gate cycle of a list that became operative at `since` (R199). -/
def firstCycle (g : GateList) (since : Nat) : Nat :=
  let b := g.base * 65536
  let c := g.cycle * 65536
  if since ≤ b then b else b + ceilDiv (since - b) c * c

/-- Position of a list at an instant (R199). -/
def listPos (g : GateList) (since t : Nat) : GatePos :=
  if !g.enabled || g.entries.isEmpty then { states := g.admin, entry := 0, start := none, next := none }
  else
    let f := firstCycle g since
    let c := g.cycle * 65536
    if t < f then { states := g.admin, entry := 0, start := none, next := some f }
    else
      let st := f + (t - f) / c * c
      let p := entryPos g.entries 0 0 (t - st)
      { states := entryGates (g.entries.getD p.1 0), entry := p.1, start := some st,
        next := some (match p.2 with
          | some e => min (st + e) (st + c)
          | none => st + c) }

/-- The start of the cycle that R202 leaves out before a pending activation, if it leaves one out. -/
def skippedCycle (g : Gate) : Option Nat :=
  match g.pend with
  | none => none
  | some (n, act) =>
    let f := firstCycle g.oper g.since
    let c := g.oper.cycle * 65536
    if g.oper.enabled && !g.oper.entries.isEmpty && decide (f < act) then
      let st := f + (act - 1 - f) / c * c
      if act < st + c ∧ act - st < n.ext * 65536 then some st else none
    else none

/-- Position of a port's gates at an instant, with the extension of R202. -/
def gatePos (g : Gate) (t : Nat) : GatePos :=
  let cap := fun (p : GatePos) => match g.pend with
    | none => p
    | some (_, act) => { p with next := some (match p.next with
        | none => act
        | some n => min n act) }
  match skippedCycle g with
  | some st => if st ≤ t then { cap (listPos g.oper g.since (st - 1)) with next := g.pend.map (·.2) }
               else cap (listPos g.oper g.since t)
  | none => cap (listPos g.oper g.since t)

/-- A port's gates once its pending list has become operative (R201). -/
def gateSwitched (g : Gate) : Gate :=
  match g.pend with
  | none => g
  | some (n, act) => { g with oper := n, since := act, pend := none }

/-- The instant before `lim` at which the gate of queue `q`, open at `t`, closes under one list; none where it stays open. The first
argument bounds the boundaries looked at: a gate that stays open through two runs of a full list never closes under it. -/
def closeBefore : Nat → Gate → Option Nat → Nat → Nat → Option Nat
  | 0, _, _, _, _ => none
  | k + 1, g, lim, t, q =>
    if lim.any (fun l => decide (l ≤ t)) then none
    else if bitOf (gatePos g t).states q then
      match (gatePos g t).next with
      | none => none
      | some n => if n ≤ t then none else closeBefore k g lim n q
    else some t

/-- The instant at which the gate of queue `q`, open at `t`, next closes, under the operative list up to a pending ACT_TIME and under
the pending list from then on; none where it never does (R200). -/
def nextClose (g : Gate) (t q : Nat) : Option Nat :=
  match g.pend with
  | none => closeBefore 2100 g none t q
  | some (_, act) =>
    if act ≤ t then closeBefore 2100 (gateSwitched g) none t q
    else match closeBefore 2100 g (some act) t q with
      | some c => some c
      | none => closeBefore 2100 (gateSwitched g) none act q

/-- A piece of a number of octets, with its 8 octets of preamble, ends before the gate closes (R200, R224). -/
def fitsGate (s : State) (p q octets : Nat) (g : Gate) : Bool :=
  match nextClose g (nt16 s) q with
  | none => true
  | some c => decide (nt16 s + octetTime (lineMbps s p) (octets + 8) ≤ c)

/-- Durations of a gate cycle's entries as they run: later entries cut at the cycle's end, the last held to it. -/
def runEntries : List Nat → Nat → List (Nat × Nat)
  | [], _ => []
  | [e], left => [(entryGates e, left)]
  | e :: es, left => (entryGates e, min left (entryInterval e)) :: runEntries es (left - entryInterval e)

/-- The longest run of open time of queue `q` in ns over a sequence of entries. -/
def longestRun (q : Nat) : List (Nat × Nat) → Nat → Nat → Nat
  | [], cur, best => max cur best
  | (m, d) :: t, cur, best => if bitOf m q then longestRun q t (cur + d) (max best (cur + d)) else longestRun q t 0 best

/-- The longest continuous open interval of a queue in a list's gate cycle, across cycle boundaries; none where the gate
stays open (R200). -/
def longestOpen (g : GateList) (q : Nat) : Option Nat :=
  if !g.enabled || g.entries.isEmpty then (if bitOf g.admin q then none else some 0)
  else
    let l := runEntries g.entries g.cycle
    if l.all (fun e => bitOf e.1 q || e.2 == 0) then none else some (longestRun q (l ++ l) 0 0)

/-- The gates of a port. -/
def gateAt (s : State) (p : Nat) : Gate := tblGet {} s.eg.gates p

/-- The state with a port's gates replaced. -/
def setGate (s : State) (p : Nat) (g : Gate) : State :=
  { s with eg := { s.eg with gates := tblSet {} s.eg.gates p g } }

/-! ### Preemption and pauses of edge and uplink ports -/

/-- Preemption parameters of a port. -/
def preAt (s : State) (p : Nat) : Preempt := tblGet {} s.eg.pre p

/-- The state with a port's preemption replaced. -/
def setPre (s : State) (p : Nat) (x : Preempt) : State :=
  { s with eg := { s.eg with pre := tblSet {} s.eg.pre p x } }

/-- The transmission state of a port. -/
def macAt (s : State) (p : Nat) : MacTx := tblGet {} s.eg.mac p

/-- The state with a port's transmission state replaced. -/
def setMac (s : State) (p : Nat) (x : MacTx) : State :=
  { s with eg := { s.eg with mac := tblSet {} s.eg.mac p x } }

/-- Preemption is active on a port (R221). -/
def preemptActive (s : State) (p : Nat) : Bool :=
  let x := preAt s p
  x.enable && (portAt s p).link && (x.verDis || x.ver == .succeeded)

/-- The MAC that serves a queue of an edge or uplink port (R221). -/
def macOfQueue (s : State) (p q : Nat) : Mac :=
  if preemptActive s p && !bitOf (preAt s p).mask q then .preemptable else .express

/-- The pause state of a port. -/
def pauseAt (s : State) (p : Nat) : Pause := tblGet {} s.eg.pause p

/-- The state with a port's pause state replaced. -/
def setPause (s : State) (p : Nat) (x : Pause) : State :=
  { s with eg := { s.eg with pause := tblSet {} s.eg.pause p x } }

/-- A class is paused (R239). -/
def paused (s : State) (p c : Nat) : Bool := p < 18 && decide (now s < tblGet 0 (pauseAt s p).upto c)

/-! ### Shapers -/

/-- A shaper: stream 0 to 1 023, port-class 1 024 + 8p + q. -/
def shaperAt (s : State) (i : Nat) : Shaper := tblGet {} s.eg.shapers i

/-- The state with a shaper replaced. -/
def setShaper (s : State) (i : Nat) (x : Shaper) : State :=
  { s with eg := { s.eg with shapers := tblSet {} s.eg.shapers i x } }

/-- The shaper that a frame is judged and charged by: in the commit tick of a change to a stream shaper, the values before the change
(R211). -/
def judgedBy (s : State) (i : Nat) : Shaper :=
  let x := shaperAt s i
  match x.old with
  | some (en, rate, burst, ovh, tokens) =>
    if i < 1024 ∧ x.pendTick = now s then
      { x with enable := en, rate := rate, burst := burst, overhead := ovh, tokens := tokens }
    else x
  | none => x

/-- Tokens a shaper holds now, in 2⁻³² byte: a stream shaper is first refilled for the time since it was last consulted
(R209); a port-class shaper is refilled at its own instants (R210). -/
def tokensOf (s : State) (i : Nat) (x : Shaper) : Nat :=
  if i < 1024 then min (x.burst * 2 ^ 32) (x.tokens + refill s x.rate (now s / 2 - x.last)) else x.tokens

/-- The tokens by which a frame is judged now (R208, R211). -/
def shaperTokens (s : State) (i : Nat) : Nat := tokensOf s i (judgedBy s i)

/-- The shapers that apply to a frame of a queue: its stream shaper, where its handle is bound, and the queue's
port-class shaper, each where enabled (R207, R208). -/
def shapersOf (s : State) (v : VFrame) (classIdx : Nat) : List Nat :=
  let st := if v.stream < 8192 then (tblGet 0xFFFF s.eg.binds v.stream) else 0xFFFF
  ((if st < 1024 then [st] else []) ++ [1024 + classIdx]).filter (fun i => (judgedBy s i).enable)

/-- A shaper's charge for a frame of a length (R208). -/
def shaperCharge (x : Shaper) (len : Nat) : Nat := len + x.overhead

/-- Every shaper that applies holds the frame's charge. -/
def shapersHold (s : State) (l : List Nat) (len : Nat) : Bool :=
  l.all (fun i => decide (shaperCharge (judgedBy s i) len * 2 ^ 32 ≤ shaperTokens s i))

/-- The charge of a frame is deducted from the shapers that apply (R208). -/
def chargeShapers (s : State) (l : List Nat) (len : Nat) : State :=
  l.foldl (fun t i =>
    let x := shaperAt t i
    let j := judgedBy t i
    let left := shaperTokens t i - shaperCharge j len * 2 ^ 32
    drawn (setShaper t i (match x.old with
      | some (en, rate, burst, ovh, _) =>
        if i < 1024 ∧ x.pendTick = now t then
          { x with old := some (en, rate, burst, ovh, left), last := now t / 2
                   tokens := if x.enable && !en then x.tokens else min (x.burst * 2 ^ 32) left }
        else { x with tokens := left, last := now t / 2 }
      | none => { x with tokens := left, last := now t / 2 }))) s

/-! ### Queues -/

/-- Reset parameters of an egress queue (R192). -/
def qcfgDefault (k : Nat) : QCfg :=
  { drr := decide (k % 8 < 6), quantum := 1600, weight := k % 8 + 1, maxSdu := 0 }

/-- Parameters of a queue of a port: 8p + q (R192). -/
def qcfgAt (s : State) (k : Nat) : QCfg := tblGet (qcfgDefault k) s.eg.cfg k

/-- Length of a frame on the wire: padded to 64 octets (R259); on a span with the 16 octets of the ring header (R5). -/
def wireLen (p : Nat) (v : VFrame) : Nat := if p < 18 then max 64 v.len else max 64 (v.len + 16)

/-- The key of the sub-queue or queue that class `q` of a port serves: the sub-queue of the rotation a ring port sends
(R188). -/
def queueKey (s : State) (p q : Nat) : Nat :=
  if p < 18 then 8 * p + q
  else
    let e := if p = 18 then RPort.east else RPort.west
    (match rotOfPort s e with
      | .cw => 144
      | .ccw => 152) + q

/-- The head of a queue: its oldest frame, where it is in the vat (R191). -/
def headOf (s : State) (k : Nat) : Option QEnt :=
  match queueAt s k with
  | [] => none
  | e :: _ => if e.state = .ready then some e else none

/-! ### Scheduling state -/

/-- The scheduler of a port: 0 DRR, 1 WFQ (R192). -/
def schedOf (s : State) (p : Nat) : Nat := tblGet 0 s.eg.sched p

/-- The DRR-mode queues of a port. -/
def drrQueues (s : State) (p : Nat) : List Nat := (List.range 8).filter (fun q => (qcfgAt s (8 * p + q)).drr)

/-- The later of two 64-bit tags, by the sign of their difference (R195). -/
def laterTag (a b : Nat) : Nat := if toSigned 64 (a + 2 ^ 64 - b) ≥ 0 then a else b

/-- The WFQ state of a port. -/
def wfqAt (s : State) (p : Nat) : Wfq := tblGet {} s.eg.wfq p

/-- The state with a port's WFQ state replaced. -/
def setWfq (s : State) (p : Nat) (x : Wfq) : State := { s with eg := { s.eg with wfq := tblSet {} s.eg.wfq p x } }

/-- A head that carries no tag yet takes its virtual finish tag (R195). -/
def wfqTag (s : State) (p : Nat) (w : Wfq) (q : Nat) : Wfq :=
  match headOf s (queueKey s p q) with
  | none => w
  | some e =>
    if tblGet 0 w.tagged q = e.h + 1 then w
    else
      let start := laterTag w.vtime (tblGet 0 w.last q)
      let fin := (start + wireLen p (frameAt s e.h) * 65536 / (qcfgAt s (8 * p + q)).weight) % 2 ^ 64
      { w with finish := tblSet 0 w.finish q fin, last := tblSet 0 w.last q fin, tagged := tblSet 0 w.tagged q (e.h + 1) }

/-- A queue's head takes its tag on a port that serves WFQ, where it has none (R195). -/
def tagHead (s : State) (p q : Nat) : State :=
  if schedOf s p = 1 && (qcfgAt s (8 * p + q)).drr then setWfq s p (wfqTag s p (wfqAt s p) q) else s

/-- With every DRR-mode queue of a port empty its virtual time and last tags begin anew (R195). -/
def wfqIdle (s : State) (p : Nat) : State :=
  if schedOf s p = 1 && (drrQueues s p).all (fun q => (queueAt s (queueKey s p q)).isEmpty) then
    setWfq s p { wfqAt s p with vtime := 0, last := [] }
  else s

/-- The head of a queue has gone: its tag goes with it (R195). -/
def untagHead (s : State) (p q : Nat) : State :=
  let w := wfqAt s p
  if schedOf s p = 1 then setWfq s p { w with tagged := tblSet 0 w.tagged q 0 } else s

/-- The port that a queue's key belongs to. -/
def portOfKey (s : State) (k : Nat) : Nat :=
  if k < 144 then k / 8 else rpIdx (portOfRot s (if k < 152 then .cw else .ccw))

/-- Every frame waiting in an egress queue is dropped and counted in `ev`: 0 quota_drop, 1 reconfig_drops (R488). -/
def dropQueue (s : State) (k ev : Nat) : State :=
  (queueAt s k).foldl (fun t e => perf (dropDest (dmaEgressDrop t (frameAt t e.h)) e.h (destOfQueue k) ev)
    (pQueue (k / 8) (k % 8) 2)) (untagHead (wfqIdle (setQueue s k []) (portOfKey s k)) (portOfKey s k) (k % 8))

/-- Largest frame an egress port may send (R255, R259). -/
def maxFrameOf (s : State) (p : Nat) : Nat := if p < 18 then (portAt s p).cfg.maxFrame else 16000

/-- Octets of the first piece of a frame: the whole frame where it cannot be split, else a 64-octet first fragment
(R218, R224). -/
def firstPiece (len : Nat) : Nat := if len < 124 then len else 64

/-- A piece of a number of octets can never fit in an open interval of the operative list (R200, R224). -/
def tooLongForGate (s : State) (p q piece : Nat) : Bool :=
  match longestOpen (gateAt s p).oper q with
  | none => false
  | some n => decide (n * 65536 < octetTime (lineMbps s p) (piece + 8))

/-- Why a head frame is discarded before it is chosen (R196, R259). -/
inductive HeadDrop where
  | oversize | sdu | neverFits | shaperOversize
  deriving DecidableEq, Repr

/-- The reason, if any, for which a head frame of class `q` of port `p` is discarded (R196, R224, R259). -/
def headDrop (s : State) (p q : Nat) (v : VFrame) : Option HeadDrop :=
  let len := wireLen p v
  let c := qcfgAt s (8 * p + q)
  let piece := if macOfQueue s p q = .preemptable then firstPiece len else len
  if p < 18 ∧ maxFrameOf s p < len then some .oversize
  else if c.maxSdu ≠ 0 ∧ c.maxSdu < len then some .sdu
  else if p < 18 && tooLongForGate s p q piece then some .neverFits
  else if (shapersOf s v (8 * p + q)).any (fun i => decide ((judgedBy s i).burst < shaperCharge (judgedBy s i) len))
    then some .shaperOversize
  else none

/-- A head frame is discarded and counted (R196, R259). -/
def discardHead (s : State) (p q k : Nat) (e : QEnt) (why : HeadDrop) : State :=
  let s := match why with
    | .oversize => countPort s p 15
    | .sdu => count s 0x02 (8 * p + q) 0
    | .neverFits => count s 0x02 (8 * p + q) 1
    | .shaperOversize => count s 0x02 (8 * p + q) 2
  let s1 := untagHead (wfqIdle (setQueue s k (queueAt s k).tail) p) p q
  finishDest (dmaEgressDrop (perf s1 (pQueue p q 2)) (frameAt s e.h)) e.h (destOfQueue k)

/-- Head frames that can never be sent are discarded, one after another; the first argument is the number of frames in
the queue (R196). -/
def cleanHead : Nat → State → Nat → Nat → State
  | 0, s, _, _ => s
  | n + 1, s, p, q =>
    let k := queueKey s p q
    match headOf s k with
    | none => s
    | some e => match headDrop s p q (frameAt s e.h) with
      | none => s
      | some why => cleanHead n (discardHead (tagHead s p q) p q k e why) p q

/-- Every queue of a port with its unsendable heads discarded. -/
def cleanHeads (s : State) (p : Nat) : State :=
  (List.range 8).foldl (fun t q => cleanHead (queueAt t (queueKey t p q)).length t p q) s

/-- A queue of an edge or uplink port is eligible (R193, R200, R224). -/
def eligible (s : State) (p q : Nat) : Bool :=
  match headOf s (queueKey s p q) with
  | none => false
  | some e =>
    let v := frameAt s e.h
    let g := gateAt s p
    let piece := if macOfQueue s p q = .preemptable then firstPiece (wireLen p v) else wireLen p v
    bitOf g.states q && fitsGate s p q piece g && !paused s p q &&
      shapersHold s (shapersOf s v (8 * p + q)) (wireLen p v)

/-- The deficit-round-robin state of a port and MAC. -/
def drrAt (s : State) (i : Nat) : Drr := tblGet {} s.eg.drr i

/-- The state with a deficit-round-robin state replaced. -/
def setDrr (s : State) (i : Nat) (x : Drr) : State := { s with eg := { s.eg with drr := tblSet {} s.eg.drr i x } }

/-- The next lower-numbered queue of a set; after the lowest, the highest (R194). -/
def nextDrr (drr : List Nat) (q : Nat) : Nat :=
  match (drr.filter (· < q)).max? with
  | some m => m
  | none => drr.max?.getD q

/-- The loop of R194 over eligible queues `el` among the DRR-mode queues, with the head sizes; the first argument bounds
its turns: no deficit needs more quanta than a largest frame has smallest quanta. -/
def drrLoop : Nat → List Nat → List Nat → (Nat → Nat) → (Nat → Nat) → Drr → Option Nat × Drr
  | 0, _, _, _, _, d => (none, d)
  | n + 1, drr, el, quantum, size, d =>
    let q := d.ptr
    let d1 := if el.contains q && !d.granted.contains q then
      { d with deficit := tblSet 0 d.deficit q (tblGet 0 d.deficit q + quantum q), granted := q :: d.granted } else d
    if el.contains q && decide ((size q : Int) ≤ tblGet 0 d1.deficit q) then (some q, d1)
    else drrLoop n drr el quantum size { d1 with granted := setErase d1.granted q, ptr := nextDrr drr q }

/-- DRR state after a frame of a size starts from `q`; `empty` says that the queue is now empty (R194). -/
def drrStart (drr : List Nat) (d : Drr) (q size : Nat) (empty : Bool) : Drr :=
  if empty then { d with deficit := tblSet 0 d.deficit q 0, granted := setErase d.granted q, ptr := nextDrr drr q }
  else { d with deficit := tblSet 0 d.deficit q (tblGet 0 d.deficit q - size) }

/-- The queue with the earliest finish tag; on equal tags the higher-numbered one (R195). -/
def wfqPick (w : Wfq) (el : List Nat) : Option Nat :=
  el.foldl (fun acc q => match acc with
    | none => some q
    | some b =>
      let fq := tblGet 0 w.finish q
      let fb := tblGet 0 w.finish b
      if fq = fb then some (max q b) else if laterTag fq fb = fq then some b else some q) none

/-- The selection of R193 among the eligible queues `el` of one MAC (index 2p for express or H, 2p + 1 otherwise): the
queue picked, and the state with the DRR loop's or the tags' progress. -/
def selectQueue (s : State) (p mac : Nat) (mine el : List Nat) : Option Nat × State :=
  match (el.filter (fun q => !(qcfgAt s (8 * p + q)).drr)).max? with
  | some q => (some q, s)
  | none =>
    if el.isEmpty then (none, s)
    else if schedOf s p = 1 then (wfqPick (wfqAt s p) el, s)
    else
      let drr := (drrQueues s p).filter mine.contains
      let r := drrLoop 4096 drr el (fun q => (qcfgAt s (8 * p + q)).quantum)
        (fun q => match headOf s (queueKey s p q) with
          | some e => wireLen p (frameAt s e.h)
          | none => 0) (drrAt s (2 * p + mac))
      (r.1, setDrr s (2 * p + mac) r.2)

/-- Tags for every DRR-mode head of a port that serves WFQ. -/
def tagHeads (s : State) (p : Nat) : State :=
  if schedOf s p = 1 then setWfq s p ((drrQueues s p).foldl (wfqTag s p) (wfqAt s p)) else s

/-- The bookkeeping of the start of a head frame of class `q`: it leaves the queue, its shapers are charged, and the DRR
or WFQ state follows (R194, R195, R208). -/
def startHead (s : State) (p mac q : Nat) (mine : List Nat) (e : QEnt) : State :=
  let k := queueKey s p q
  let v := frameAt s e.h
  let rest := (queueAt s k).tail
  let s1 := chargeShapers (setQueue s k rest) (shapersOf s v (8 * p + q)) (wireLen p v)
  if !(qcfgAt s (8 * p + q)).drr then s1
  else if schedOf s p = 1 then
    let w := wfqAt s1 p
    tagHeads (wfqIdle (setWfq s1 p { w with vtime := tblGet 0 w.finish q, tagged := tblSet 0 w.tagged q 0 }) p) p
  else
    let drr := (drrQueues s p).filter mine.contains
    setDrr s1 (2 * p + mac) (drrStart drr (drrAt s1 (2 * p + mac)) q (wireLen p v) rest.isEmpty)

/-- The octets a port sends of a frame: padded to 60 before the FCS, with a new FCS, or with the driver's own (R259,
R330). -/
def txOctets (v : VFrame) : Octets :=
  if v.fcsOwn then v.data else
    let b := bodyOf v.data
    let b := if b.length < 60 then padTo 60 b else b
    b ++ fcsOf b

end Sys2Proof.Machine
end

