-- ==== Sys2Proof/Machine/Sha.lean ====
section
/-! DEFINITION. Sha.lean: SHA-256, as the digests of the audit journal and the image signature use it (R402, R481). -/

namespace Sys2Proof.Machine

open Sys2Proof

/-- The largest `r` below 2 to the number of bits with rᵏ ≤ n, found bit by bit from `r` on. -/
def rootFrom (k n : Nat) : Nat → Nat → Nat
  | 0, r => r
  | b + 1, r => rootFrom k n b (if (r + 2 ^ b) ^ k ≤ n then r + 2 ^ b else r)

/-- The first 32 bits of the fraction of the k-th root of a number below 2¹². -/
def rootBits (k n : Nat) : Nat := rootFrom k (n * 2 ^ (32 * k)) 38 0 % 2 ^ 32

/-- The primes below 312, of which there are 64: no prime of those whose square lies below 312 divides one but itself. -/
def shaPrimes : List Nat :=
  ((List.range 312).drop 2).filter (fun n => [2, 3, 5, 7, 11, 13, 17].all (fun d => n == d || n % d != 0))

/-- The round constants of SHA-256: the fractions of the cube roots of the first 64 primes. -/
def shaK : List Nat := shaPrimes.map (rootBits 3)

/-- The initial value of SHA-256: the fractions of the square roots of the first 8 primes. -/
def shaStart : List Nat := (shaPrimes.take 8).map (rootBits 2)

/-- A 32-bit rotation to the right. -/
def rotr32 (x n : Nat) : Nat := (x / 2 ^ n + x * 2 ^ (32 - n)) % 2 ^ 32

/-- The message schedule: `n` further words after those given (newest first). -/
def shaSchedule : Nat → List Nat → List Nat
  | 0, w => w
  | n + 1, w =>
    let w2 := w.getD 1 0
    let w7 := w.getD 6 0
    let w15 := w.getD 14 0
    let w16 := w.getD 15 0
    let s0 := rotr32 w15 7 ^^^ rotr32 w15 18 ^^^ (w15 / 2 ^ 3)
    let s1 := rotr32 w2 17 ^^^ rotr32 w2 19 ^^^ (w2 / 2 ^ 10)
    shaSchedule n ((w16 + s0 + w7 + s1) % 2 ^ 32 :: w)

/-- One round on the eight working words. -/
def shaRound (v : List Nat) (kw : Nat × Nat) : List Nat :=
  match v with
  | [a, b, c, d, e, f, g, h] =>
    let s1 := rotr32 e 6 ^^^ rotr32 e 11 ^^^ rotr32 e 25
    let ch := (e &&& f) ^^^ ((2 ^ 32 - 1 - e) &&& g)
    let t1 := (h + s1 + ch + kw.1 + kw.2) % 2 ^ 32
    let s0 := rotr32 a 2 ^^^ rotr32 a 13 ^^^ rotr32 a 22
    let maj := (a &&& b) ^^^ (a &&& c) ^^^ (b &&& c)
    [(t1 + s0 + maj) % 2 ^ 32, a, b, c, (d + t1) % 2 ^ 32, e, f, g]
  | v => v

/-- The sixteen big-endian words of a 64-octet block. -/
def shaWords (o : Octets) : List Nat := (List.range 16).map (fun i => beAt o (4 * i) 4)

/-- The compression of one block. -/
def shaBlock (hv : List Nat) (o : Octets) : List Nat :=
  let w := (shaSchedule 48 (shaWords o).reverse).reverse
  let v := (shaK.zip w).foldl shaRound hv
  (hv.zip v).map (fun p => (p.1 + p.2) % 2 ^ 32)

/-- The blocks of a padded message, one after another; the first argument bounds their number. -/
def shaBlocks : Nat → List Nat → Octets → List Nat
  | 0, hv, _ => hv
  | n + 1, hv, o => shaBlocks n (shaBlock hv (o.take 64)) (o.drop 64)

/-- A message with SHA-256's padding. -/
def shaPad (o : Octets) : Octets :=
  o ++ [0x80#8] ++ List.replicate ((119 - o.length % 64) % 64) 0 ++ beBytes 8 (8 * o.length)

/-- The SHA-256 digest, 32 octets. -/
def sha256 (o : Octets) : Octets :=
  let p := shaPad o
  (shaBlocks (p.length / 64) shaStart p).flatMap (beBytes 4)

end Sys2Proof.Machine
end

