-- ==== Sys2Proof/Machine/Journal.lean ====
section
/-! DEFINITION. Journal.lean: records of the audit journal (R401 to R406). -/

namespace Sys2Proof.Machine

open Sys2Proof

/-- The first 96 bits of the SHA-256 of an object's value; zeros where the object does not exist (R402, R403). -/
def digest96 : Option Octets → Octets
  | none => List.replicate 12 0
  | some v => (sha256 v).take 12

/-- Bytes 18 to 55 of an audit record: origin, node, flags, version, command, object and both digests (R402). -/
def auditBody (origin node flags version command object : Nat) (old new : Option Octets) : Octets :=
  leBytes 1 origin ++ leBytes 1 node ++ leBytes 1 flags ++ leBytes 1 version ++ leBytes 2 command ++ leBytes 8 object ++
    digest96 old ++ digest96 new

/-- The body with TIME_INVALID as the counter stands, and with further flags set. -/
def auditFlags (s : State) (body : Octets) (more : Nat) : Octets :=
  let f := leAt body 2 1
  overwrite body 2 (leBytes 1 (f ||| more ||| (if s.time.timeValid then 0 else 2)))

/-- The whole record: SEQ, time, body, CHAIN and CRC (R402). -/
def auditRecord (s : State) (body : Octets) (t16 : Nat) : Octets :=
  let r := leBytes 8 s.kn.seq ++ leBytes 8 (t16 / 65536) ++ leBytes 2 (t16 % 65536) ++ body ++ leBytes 4 s.kn.chain
  r ++ leBytes 4 (crc32c r)

/-- A record with its flags as given is written to the journal and its mirror (R401, R402, R407). -/
def writeRecord (s : State) (body : Octets) (t16 : Nat) : State :=
  let r := auditRecord s body t16
  perf { s with kn := { s.kn with journal := (r :: s.kn.journal).take 16384
                                  mirror := (r :: s.kn.mirror).take 128
                                  seq := s.kn.seq + 1
                                  chain := leAt r 60 4 } } (pPkg 6)

/-- A record is written now, or kept until the Control region is back and reaches the MRAM (R22, R27, R32, R406). -/
def writeAudit (s : State) (body : Octets) (more t16 : Nat) : State :=
  let b := auditFlags s body more
  if mramUp s then writeRecord s b t16
  else { s with kn := { s.kn with acts := s.kn.acts ++ [(b, t16)] } }

/-- The record of an activation of an accepted change of an object (R406). -/
def activationRecord (s : State) (obj t16 : Nat) : State :=
  let body := tblGet [] s.kn.tmpl obj
  if body = [] then s
  else writeAudit { s with kn := { s.kn with tmpl := tblErase s.kn.tmpl obj } } body 1 t16

/-- The records that waited are written once the MRAM is reached, oldest first (R22, R32, R406). -/
def flushActs (s : State) : State :=
  if mramUp s then s.kn.acts.foldl (fun t a => writeRecord t a.1 a.2) { s with kn := { s.kn with acts := [] } } else s

/-- The object number of a class and an index (R411). -/
def objId (cls idx : Nat) : Nat := cls * 2 ^ 56 + idx

end Sys2Proof.Machine
end

