-- ==== Sys2Proof/Machine/Egress.lean ====
section
/-! DEFINITION. Egress.lean: transmission on edge and uplink ports, gates, shapers, sampling, preemption and pauses. -/

namespace Sys2Proof.Machine

open Sys2Proof

/-! ### Transmission -/

/-- Octets of frame data that the fragment in progress has sent by now: none before the 8 octets of preamble. -/
def sentNow (s : State) (p : Nat) : Nat :=
  (now s - (macAt s p).start) * lineMbps s p / 10000 - 8

/-- The octets of frame data of a frame on the wire: its length without FCS (R218). -/
def dataLen (p : Nat) (v : VFrame) : Nat := wireLen p v - 4

/-- The earliest length of frame data at which the fragment in progress may end: at least 60 octets sent and 60 left
(R218, R220); none where it runs to its end. -/
def splitPoint (sent sofar total : Nat) : Option Nat :=
  let c := max 60 sofar
  if sent + c + 60 ≤ total then some c else none

/-- The fragment in progress of a preemptable frame ends after `c` octets of its data, with its mCRC and the gap (R218). -/
def endPiece (s : State) (p h c : Nat) : State :=
  let m := macAt s p
  let d := bodyOf (txOctets (frameAt s h))
  let s1 := setMac s p { m with susp := true, sent := m.sent + c, frag := nextFrag m.sent m.frag,
                                freeAt := m.start + octetTicks (lineMbps s p) (8 + c + 4 + 12) }
  emitPiece (perf s1 (pPort p 6)) p .low m.cnt m.frag m.sent (slice d m.sent c) (mcrcOf (d.take (m.sent + c)))

/-- The preemptable frame in progress is interrupted where it can be split (R220). -/
def interrupt (s : State) (p : Nat) : State :=
  let m := macAt s p
  match m.pm with
  | none => s
  | some h =>
    if m.susp then s else
    match splitPoint m.sent (sentNow s p) (dataLen p (frameAt s h)) with
    | none => s
    | some c =>
      endPiece s p h c

/-- The preemptable frame in progress on a closing gate ends its fragment at the latest point that leaves the fragment with its mCRC
before the closing, and 60 octets of data for the last one (R218, R224); one whose last octet has left needs no cut. -/
def cutAtGate (s : State) (p : Nat) : State :=
  let m := macAt s p
  match m.pm with
  | none => s
  | some h =>
    let left := dataLen p (frameAt s h) - m.sent
    let c := min (sentNow s p - 4) (left - 60)
    if m.susp || decide (left + 4 ≤ sentNow s p) || decide (c < 60) then s else endPiece s p h c

/-- The queues an edge or uplink port's MAC serves. -/
def macQueues (s : State) (p : Nat) (mac : Mac) : List Nat :=
  (List.range 8).filter (fun q => decide (macOfQueue s p q = mac))

/-- A chosen head frame starts on a MAC (R193, R208). -/
def startFrame (s : State) (p q : Nat) (mac : Mac) (mine : List Nat) (e : QEnt) (ts : Nat) : State :=
  let v := frameAt s e.h
  let i := match mac with
    | .express => 0
    | .preemptable => 1
  let s1 := startHead s p i q mine e
  let m := macAt s1 p
  let m1 := match mac with
    | .express => { m with ex := some e.h, exQ := q, start := now s }
    | .preemptable => { m with pm := some e.h, pmQ := q, start := now s, sent := 0, susp := false, frag := 0,
                               cnt := (m.cnt + 1) % 4 }
  let back := (portAt s1 p).cfg.loopback == 1 || (portAt s1 p).cfg.loopback == 2
  let s2 := if back then setMac s1 p m1 else emit (setMac s1 p m1) (.frame p (txOctets v))
  match v.tsq with
  | some (qi, idx) => dmaDepart s2 qi idx ts
  | none => s2

/-- The head frame of a queue starts where it was picked. -/
def startPicked (r : Option Nat × State) (p : Nat) (mac : Mac) (mine : List Nat) (ts : Nat) : State :=
  match r.1 with
  | none => r.2
  | some q => match headOf r.2 (queueKey r.2 p q) with
    | none => r.2
    | some e => startFrame r.2 p q mac mine e ts

/-- A transmission opportunity of an edge or uplink port's MAC (R193, R223). -/
def edgeOpportunity (s0 : State) (p : Nat) (mac : Mac) (ts : Nat) : State :=
  let s := tagHeads (cleanHeads s0 p) p
  let m := macAt s p
  let exQ := macQueues s p .express
  let exEl := exQ.filter (eligible s p)
  match mac with
  | .express =>
    if m.ex.isSome || exEl.isEmpty then s
    else if m.pm.isSome && !m.susp then interrupt s p
    else if !due s m.freeAt then s
    else startPicked (selectQueue s p 0 exQ exEl) p .express exQ ts
  | .preemptable =>
    if m.ex.isSome || m.hold || !exEl.isEmpty || !due s m.freeAt then s
    else match m.pm with
      | some h =>
        let left := wireLen p (frameAt s h) - m.sent
        if m.susp && bitOf (gateAt s p).states m.pmQ && fitsGate s p m.pmQ (firstPiece left) (gateAt s p) then
          countPort (setMac s p { m with susp := false, start := now s }) p 54
        else s
      | none =>
        let pq := macQueues s p .preemptable
        startPicked (selectQueue s p 1 pq (pq.filter (eligible s p))) p .preemptable pq ts

/-- A frame's last octet has left an edge or uplink port: counters, and its cells for this destination (R259, R262). -/
def frameLeft (s : State) (p q h : Nat) : State :=
  let len := wireLen p (frameAt s h)
  let s := countN (countPort s p 13) 0x01 p 14 len
  let s := perfN (perf s (pPort p 2)) (pPort p 3) len
  let s := perfN (perf s (pQueue p q 0)) (pQueue p q 1) len
  finishDest s h (destOfQueue (8 * p + q))

/-- FRAME_TX_END on an edge or uplink port, where the frame's last octet is due (R259). -/
def edgeTxEnd (s : State) (p : Nat) (mac : Mac) : State :=
  let m := macAt s p
  let mb := lineMbps s p
  match mac with
  | .express => match m.ex with
    | none => s
    | some h =>
      let t := m.start + octetTicks mb (8 + wireLen p (frameAt s h))
      if due s t then frameLeft (setMac s p { m with ex := none, freeAt := t + octetTicks mb 12 }) p m.exQ h else s
  | .preemptable => match m.pm with
    | none => s
    | some h =>
      let t := m.start + octetTicks mb (8 + (wireLen p (frameAt s h) - m.sent))
      if !m.susp && due s t then
        let o := txOctets (frameAt s h)
        let s1 := emitPiece s p .low m.cnt m.frag m.sent ((bodyOf o).drop m.sent) (o.drop (o.length - 4))
        frameLeft (setMac s1 p { m with pm := none, sent := 0, freeAt := t + octetTicks mb 12 }) p m.pmQ h
      else s

/-! ### Gates -/

/-- HOLD_ADVANCE in 2⁻¹⁶ ns: 143 octet times rounded up to a whole nanosecond (R225). -/
def holdAdvance (s : State) (p : Nat) : Nat := ceilDiv (143 * 8000) (lineMbps s p) * 65536

/-- The operation of the entry in force, given the start of the gate cycle and the entry; none before the first gate cycle. -/
def opAt (g : Gate) (start : Option Nat) (entry : Nat) : Nat :=
  if start.isNone then 0 else entryOp (g.oper.entries.getD entry 0)

/-- The operation of the entry that begins at the next boundary: of the pending list where that is its ACT_TIME (R201, R225). -/
def nextOp (g : Gate) : Nat :=
  let g1 := match g.pend with
    | some (_, act) => if act ≤ g.next then gateSwitched g else g
    | none => g
  opAt g1 (gatePos g1 g.next).start (gatePos g1 g.next).entry

/-- A port's gates take the position of their list at the present instant (R199, R204). -/
def positionGates (s : State) (p : Nat) : State :=
  let g := gateAt s p
  let x := gatePos g (nt16 s)
  setGate s p { g with start := x.start, entry := x.entry, states := x.states, next := x.next.getD 0,
                       ext := match skippedCycle g with
                         | some st => decide (st ≤ nt16 s)
                         | none => false }

/-- A hold is raised on the preemptable MAC: it is counted, and the fragment in progress ends (R220, R225, R526). -/
def raiseHold (s : State) (p : Nat) : State :=
  interrupt (countPort (setMac s p { macAt s p with hold := true }) p 55) p

/-- The operation of the entry that has begun acts on the preemptable MAC (R225). -/
def entryActs (s : State) (p op : Nat) : State :=
  let m := macAt s p
  if !preemptActive s p then s
  else if op = 1 then (if m.hold then s else raiseHold s p)
  else if op = 2 then setMac s p { m with hold := false } else s

/-- The preemptable frame in progress, where its gate is now closed, ends its fragment (R224). -/
def gateCloses (s : State) (p : Nat) : State :=
  let m := macAt s p
  if m.pm.isSome && !bitOf (gateAt s p).states m.pmQ then cutAtGate s p else s

/-- A port's gates follow another list, and a preemptable frame whose gate closes ends its fragment (R203, R224). -/
def regate (s : State) (p : Nat) (g : Gate) : State := gateCloses (positionGates (setGate s p g) p) p

/-- GATE_ENTRY_BOUNDARY (R199): at the boundary the gates take the entry's states, its operation acts, and a preemptable
frame whose gate closes ends its fragment (R224). -/
def gateEntryBoundary (s : State) (p : Nat) : State :=
  let g := gateAt s p
  if g.next ≠ 0 ∧ g.next ≤ nt16 s then
    let s1 := gateCloses (positionGates s p) p
    let g1 := gateAt s1 p
    entryActs s1 p (opAt g1 g1.start g1.entry)
  else s

/-- A port's pending list becomes operative at its instant: a hold in force is released unless entry 0 of the new list is SetAndHoldMAC,
and the entry it begins with acts (R201, R225, R406). -/
def gateActivate (s : State) (p : Nat) : State :=
  let g := gateAt s p
  match g.pend with
  | none => s
  | some (n, act) =>
    let s1 := regate s p { gateSwitched g with ext := false, byImage := false }
    let m := macAt s1 p
    let e0hold := n.enabled && entryOp (n.entries.getD 0 0) == 1
    let s2 := setMac s1 p { m with hold := m.hold && e0hold }
    let g2 := gateAt s2 p
    let s3 := entryActs s2 p (opAt g2 g2.start g2.entry)
    if g.byImage then s3 else activationRecord s3 (objId 0x0B p) act

/-- GATE_LIST_ACTIVATION (R201): every pending list whose ACT_TIME has come becomes operative together. -/
def gateListActivation (s : State) : State :=
  (List.range 18).foldl (fun t p => match (gateAt t p).pend with
    | some (_, act) => if act ≤ nt16 t then gateActivate t p else t
    | none => t) s

/-- HOLD_ADVANCE (R225): before a SetAndHoldMAC entry the preemptable MAC is held and ends its fragment. -/
def holdAdvanceCmd (s : State) (p : Nat) : State :=
  let g := gateAt s p
  let m := macAt s p
  if preemptActive s p && decide (g.next ≠ 0) && nextOp g == 1 && decide (g.next ≤ nt16 s + holdAdvance s p) && !m.hold
  then raiseHold s p
  else s

/-! ### Shapers and sampling -/

/-- A port-class shaper at a refill instant `t`: tokens at the old rate, then the change that committed before it
(R210, R211). -/
def classRefill (s : State) (t : Nat) (x : Shaper) : Shaper :=
  let add := x.rate * 2 ^ 25 / 625 + (if x.rate * 2 ^ 25 % 625 = 0 then 0 else drawVal s 2)
  let x1 := if x.enable then { x with tokens := min (x.burst * 2 ^ 32) (x.tokens + add) } else x
  match x1.pend with
  | some (en, rate, burst, ovh) =>
    if x1.pendTick < t then
      { x1 with enable := en, rate := rate, burst := burst, overhead := ovh, pend := none
                tokens := if en && !x1.enable then burst * 2 ^ 32 else min (burst * 2 ^ 32) x1.tokens }
    else x1
  | none => x1

/-- SHAPER_REFILL (R210): at every 125th tick each port-class shaper is refilled. -/
def shaperRefill (s : State) : State :=
  let t := s.eg.lastRefill + 125
  if due s t then
    let up := s.eg.shapers.foldl (fun u e => if e.1 < 1024 then u else drawn (setShaper u e.1 (classRefill u t e.2))) s
    { up with eg := { up.eg with lastRefill := t } }
  else s

/-- The bin of a sojourn in ns for a base of 2^e ns (R213). -/
def sojournBin (e soj : Nat) : Nat :=
  ((List.range 15).find? (fun b => decide (soj < 2 ^ e * 2 ^ b))).getD 15

/-- Depth in bytes, depth in frames and head sojourn of a queue at a sample instant `t`, in ns (R212). -/
def queueSample (s : State) (t k : Nat) : Nat × Nat × Nat :=
  let l := queueAt s k
  ((l.map (fun e => (frameAt s e.h).len)).sum, l.length,
    match l.head? with
    | some e => (ns16 t - e.admitAt) / 65536
    | none => 0)

/-- A sample's values enter the sampling values of a queue of R187 (8p + q) (R213). -/
def sampleWith (s : State) (i bytes frames soj : Nat) : State :=
  let x := tblGet {} s.eg.qs i
  let x1 : QSample :=
    { minBytes := min x.minBytes bytes
      maxBytes := max x.maxBytes bytes
      minFrames := min x.minFrames frames
      maxFrames := max x.maxFrames frames
      minSoj := min x.minSoj soj
      maxSoj := max x.maxSoj soj }
  let s1 := { s with eg := { s.eg with qs := tblSet {} s.eg.qs i x1 } }
  count (count s1 0x0B i 0) 0x0B i (1 + sojournBin s.eg.qsE soj)

/-- One queue is sampled; what its values were is kept for a read in the same tick (R212 to R214). -/
def sampleQueue (t : Nat) (s : State) (i : Nat) : State :=
  let v := queueSample s t (queueKey s (i / 8) (i % 8))
  let old : QSPrev :=
    { regs := tblGet {} s.eg.qs i, samples := tblGet {} s.ctr.stat (statIdx 0x0B i 0)
      bin := tblGet {} s.ctr.stat (statIdx 0x0B i (1 + sojournBin s.eg.qsE v.2.2))
      bytes := v.1, frames := v.2.1, soj := v.2.2 }
  sampleWith { s with eg := { s.eg with qsOld := tblSet {} s.eg.qsOld i old } } i v.1 v.2.1 v.2.2

/-- QSAMPLE_INSTANT (R212): at a whole multiple of the period every queue is sampled. -/
def qsampleInstant (s : State) : State :=
  if s.eg.qsPeriod ≠ 0 ∧ s.eg.qsNext ≤ ntNs s then
    let s1 := (List.range 160).foldl (sampleQueue s.eg.qsNext) s
    { s1 with eg := { s1.eg with qsTick := some (now s), qsNext := (ntNs s / (s.eg.qsPeriod * 1000) + 1) * (s.eg.qsPeriod * 1000) } }
  else s

/-! ### Verification of preemption -/

/-- Verification begins on link up or on KN_PREEMPT_SET (R222). -/
def startVerify (s : State) (p : Nat) : State :=
  let x := preAt s p
  if x.enable && (portAt s p).link then
    if x.verDis then setPre s p { x with ver := .disabled, tries := 0 }
    else emit (setPre s p { x with ver := .verifying, tries := 1, next := now s + msTicks x.verTime }) (.verify p .verifyP)
  else setPre s p { x with ver := if x.verDis then .disabled else .unknown, tries := 0 }

/-- VERIFY_TIME_EXPIRY (R222): SMD-V is repeated, up to 3 times; then verification has failed. -/
def verifyTimeExpiry (s : State) (p : Nat) : State :=
  let x := preAt s p
  if x.ver = .verifying ∧ due s x.next then
    if x.tries < 3 then
      emit (setPre s p { x with tries := x.tries + 1, next := now s + msTicks x.verTime }) (.verify p .verifyP)
    else countPort (setPre s p { x with ver := .failed }) p 41
  else s

/-- SMD_VERIFY_RX (R222, R234): an SMD-V is answered with SMD-R and an SMD-HV with SMD-HR; a response marks its level as
verified. -/
def smdVerifyRx (s : State) (p : Nat) (smd : Smd) : State :=
  match smd with
  | .verifyP => emit s (.verify p .responseP)
  | .verifyH => if p < 18 then s else emit s (.verify p .responseH)
  | .responseP =>
    if p < 18 then
      let x := preAt s p
      if x.ver = .verifying then setPre s p { x with ver := .succeeded } else s
    else
      let e := if p = 18 then RPort.east else RPort.west
      setRport s e { rport s e with verL := true }
  | .responseH =>
    if p < 18 then s
    else
      let e := if p = 18 then RPort.east else RPort.west
      setRport s e { rport s e with verH := true }
  | _ => s

/-! ### Pauses -/

/-- The classes a PAUSE or PFC frame names, each with its quanta (R238). -/
def pauseClasses (s : State) (p : Nat) (o : Octets) : List (Nat × Nat) :=
  let x := pauseAt s p
  if etypeAt o 14 = 1 then (maskList 8 x.mask).map (fun c => (c, etypeAt o 16))
  else
    let en := etypeAt o 16 % 256
    ((List.range 8).filter (fun c => bitOf en c && bitOf x.pfc c && bitOf x.mask c)).map (fun c => (c, etypeAt o (18 + 2 * c)))

/-- A frame names a class that the mask leaves alone (R238). -/
def pauseIgnored (s : State) (p : Nat) (o : Octets) : Bool :=
  let x := pauseAt s p
  if etypeAt o 14 = 1 then x.mask ≠ 0xFF
  else (maskList 8 (etypeAt o 16 % 256)).any (fun c => !bitOf x.mask c)

/-- A class is paused for a number of quanta of 512 bit times; 0 ends its pause (R239). -/
def pauseClass (s : State) (p : Nat) (e : Nat × Nat) : State :=
  let x := pauseAt s p
  let was := paused s p e.1
  let u := if e.2 = 0 then 0 else now s + octetTicks (lineMbps s p) (64 * e.2)
  setPause s p { x with upto := tblSet 0 x.upto e.1 u
                        since := if was && e.2 != 0 then x.since else tblSet 0 x.since e.1 (now s)
                        renewed := if was && e.2 != 0 then tblSet 0 x.renewed e.1 (now s + 1) else x.renewed }

/-- A received MAC control frame is consumed: a PAUSE or PFC whose FCS is checked and good acts, any other opcode is counted (R238, R261,
R262). -/
def macControl (s0 : State) (p : Nat) (o : Octets) (good : Bool) : State :=
  let s := perf s0 (pPort p 8)
  let op := etypeAt o 14
  if op = 1 ∨ op = 0x0101 then
    if !good then s
    else
      let s1 := countPort s p (if op = 1 then 10 else 11)
      let s2 := (pauseClasses s p o).foldl (fun t e => pauseClass t p e) s1
      if pauseIgnored s p o then countPort s2 p 46 else s2
  else countPort s p 12

/-- PAUSE_FRAME_RX: a MAC control frame acts where the port's link is up. -/
def pauseFrameRx (s : State) (p : Nat) (o : Octets) : State :=
  if (portAt s p).link && etypeAt o 12 == 0x8808 then macControl s p o (fcsGood o) else s

/-- PAUSE_EXPIRY (R239): a pause that has run out is over. -/
def pauseExpiry (s : State) (p c : Nat) : State :=
  let x := pauseAt s p
  if tblGet 0 x.upto c ≠ 0 ∧ due s (tblGet 0 x.upto c) then
    setPause s p { x with upto := tblSet 0 x.upto c 0, since := tblSet 0 x.since c 0 }
  else s

/-- The pause watchdog of a port is armed: at start-up and recovery, in test, and in fallback mode (R240). -/
def watchdogArmed (s : State) (p : Nat) : Bool :=
  let y := portAt s p
  !(pauseAt s p).started || !due s (pauseAt s p).armedTo || y.cfg.loopback != 0 || y.cableTest || s.boot.fallback

/-- PAUSE_WATCHDOG_BREAK (R240): an armed watchdog ends a pause longer than the watchdog time; a renewal of the same tick starts a new
pause (R241). -/
def pauseWatchdogBreak (s : State) (p c : Nat) : State :=
  let x := pauseAt s p
  if watchdogArmed s p && paused s p c && due s (tblGet 0 x.since c + msTicks x.wdTime) then
    let again := tblGet 0 x.renewed c == now s + 1
    let y := { x with upto := if again then x.upto else tblSet 0 x.upto c 0
                      since := tblSet 0 x.since c (if again then now s else 0) }
    signal (countPort (setPause s p y) p 47) (1763 + p)
  else s

/-! ### Meanings -/

/-- GATE_ENTRY_BOUNDARY (R199). -/
def execGateEntryBoundary (p : Nat) (s : State) : Host.Outcome State Fault Refusal :=
  checked (Instr.wf (.gateEntryBoundary p)) s (gateEntryBoundary s p)

/-- GATE_LIST_ACTIVATION (R201). -/
def execGateListActivation (s : State) : Host.Outcome State Fault Refusal :=
  checked (Instr.wf (.gateListActivation)) s (gateListActivation s)

/-- HOLD_ADVANCE (R225). -/
def execHoldAdvance (p : Nat) (s : State) : Host.Outcome State Fault Refusal :=
  checked (Instr.wf (.holdAdvance p)) s (holdAdvanceCmd s p)

/-- SHAPER_REFILL (R210). -/
def execShaperRefill (s : State) : Host.Outcome State Fault Refusal :=
  checked (Instr.wf (.shaperRefill)) s (shaperRefill s)

/-- QSAMPLE_INSTANT (R212). -/
def execQsampleInstant (s : State) : Host.Outcome State Fault Refusal :=
  checked (Instr.wf (.qsampleInstant)) s (qsampleInstant s)

/-- VERIFY_TIME_EXPIRY (R222). -/
def execVerifyTimeExpiry (p : Nat) (s : State) : Host.Outcome State Fault Refusal :=
  checked (Instr.wf (.verifyTimeExpiry p)) s (verifyTimeExpiry s p)

/-- SMD_VERIFY_RX (R222). -/
def execSmdVerifyRx (p : Nat) (smd : Smd) (s : State) : Host.Outcome State Fault Refusal :=
  checked (Instr.wf (.smdVerifyRx p smd)) s (smdVerifyRx s p smd)

/-- PAUSE_FRAME_RX (R238). -/
def execPauseFrameRx (p : Nat) (frame : Octets) (s : State) : Host.Outcome State Fault Refusal :=
  checked (Instr.wf (.pauseFrameRx p frame)) s (pauseFrameRx s p frame)

/-- PAUSE_EXPIRY (R239). -/
def execPauseExpiry (p : Nat) (c : Nat) (s : State) : Host.Outcome State Fault Refusal :=
  checked (Instr.wf (.pauseExpiry p c)) s (pauseExpiry s p c)

/-- PAUSE_WATCHDOG_BREAK (R240). -/
def execPauseWatchdogBreak (p : Nat) (c : Nat) (s : State) : Host.Outcome State Fault Refusal :=
  checked (Instr.wf (.pauseWatchdogBreak p c)) s (pauseWatchdogBreak s p c)

end Sys2Proof.Machine
end

