-- ==== Sys2Proof/Machine/RingCalc.lean ====
section
/-! DEFINITION. RingCalc.lean: the geometry of the Otfel cycle, the ring header, and what a node derives from its table of
reports (chapter 2, R49). Instants and delays are in units of 2⁻¹⁶ ns. -/

namespace Sys2Proof.Machine

open Sys2Proof

/-- The node's number (R478). -/
def me (s : State) : Nat := s.boot.cfg.node

/-- Cycle length T_cyc in ns (R45). -/
def tcycNs (i : Image) : Nat := i.c * i.mt

/-- Cycle length in 2⁻¹⁶ ns. -/
def tcyc (i : Image) : Nat := ns16 (tcycNs i)

/-- Macroticks in 2⁻¹⁶ ns. -/
def mts (i : Image) (n : Nat) : Nat := ns16 (n * i.mt)

/-- Precision Π in 2⁻¹⁶ ns: it is held in steps of 0.25 ns (R89). -/
def piT (i : Image) : Nat := i.pi * 16384

/-- The nodes an image names (R48), in rising order. -/
def imageNodes (i : Image) : List Nat :=
  (List.range 64).filter (fun n => i.sync.any (fun e => e.1 == n) || i.own.any (fun e => e.owner == n) ||
    i.dyn.any (fun e => e.2 == n) || i.tx.any (fun e => e.node == n) || i.rx.any (fun e => e.node == n))

/-- The boundary c_n of a cycle number, where a cycle origin and an image are held (R47). -/
def boundary (s : State) (n : Nat) : Option Nat :=
  match s.cyc.c0, s.cyc.image with
  | some c, some i => some ((c + n * tcyc i) % 2 ^ 80)
  | _, _ => none

/-- A whole nanosecond that names a cycle boundary: the number of the cycle that begins in [t, t + 1 ns) (R47). -/
def namedCycle (s : State) (t : Nat) : Option Nat :=
  match s.cyc.c0, s.cyc.image with
  | some c, some i =>
    let d := (ns16 t + 2 ^ 80 - c % 2 ^ 80) % 2 ^ 80
    let n := ceilDiv d (tcyc i)
    if n * tcyc i < d + 65536 then some n else none
  | _, _ => none

/-! ### The report table -/

/-- Largest hop delay of a line rate (R82). -/
def maxHop (s : State) : Nat :=
  ns16 (match ringMbps s with
    | 50000 => 152
    | 25000 => 210
    | _ => 460)

/-- The applied report of a node. -/
def reportAt (s : State) (n : Nat) : Option Report := (s.ring.reports.find? (fun e => e.1 == n)).map (·.2)

/-- The neighbour of a node on a port, as it last reported; none where no valid value was ever applied. -/
def nbOf (r : Report) (e : RPort) : Option Nat :=
  let n := match e with
    | .east => r.eastNb
    | .west => r.westNb
  if n < 64 then some n else none

/-- The delay into a port of a node, as last reported as valid; 1 000 ns where none ever was (R49). -/
def dinOf (r : Option Report) (e : RPort) : Nat :=
  (match r with
    | none => none
    | some r => match e with
      | .east => r.eastIn
      | .west => r.westIn).getD (ns16 1000)

/-- The hop delay of a node from one port to the other: as last reported, else the largest of the line rate (R49). -/
def hopOf (s : State) (r : Option Report) (inp : RPort) : Nat :=
  match r with
  | none => maxHop s
  | some r => if r.bypassed then ns16 40 else match inp with
    | .east => r.e2w
    | .west => r.w2e

/-- The port of a neighbour that its reports show to face the port `out` of a node. Where both of them name that node, as in a ring
of two, this node takes the facing of its own port from the RESP_PORT it last received there; with none, the neighbour's other
side is taken (R49, R130). -/
def facing (s : State) (r : Report) (n : Nat) (out : RPort) : Option RPort :=
  let a := nbOf r .east == some n
  let b := nbOf r .west == some n
  if a && b then some (if n = me s then (rport s out).respPort.getD (otherPort out) else otherPort out)
  else if a then some .east
  else if b then some .west
  else none

/-- The nodes met from a node leaving by a port, each with the port it is entered by, up to the starting node; the first
argument bounds their number. -/
def walk : Nat → State → Nat → Nat → RPort → List (Nat × RPort)
  | 0, _, _, _, _ => []
  | k + 1, s, start, n, out =>
    match reportAt s n with
    | none => []
    | some r => match nbOf r out with
      | none => []
      | some b =>
        if b = start then []
        else match reportAt s b with
          | none => []
          | some rb => match facing s rb n out with
            | none => []
            | some inp => (b, inp) :: walk k s start b (otherPort inp)

/-- The ring in CW order, this node first: each node with the port that CW enters it by. Where the chain ends at ports
never valid, it is followed on across the span between them (R49, R130; log entry 9). -/
def ringOrder (s : State) : List (Nat × RPort) :=
  let self := (me s, otherPort s.ring.cwPort)
  let fwd := walk 64 s (me s) (me s) s.ring.cwPort
  let bwd := walk 64 s (me s) (me s) (otherPort s.ring.cwPort)
  let rest := (bwd.map (fun e => (e.1, otherPort e.2))).reverse.filter (fun e => fwd.all (fun f => f.1 != e.1))
  self :: (fwd ++ rest)

/-- What entering a node costs on a rotation: the span into it and its hop (R49). -/
def entryCost (s : State) (rot : Rot) (e : Nat × RPort) : Nat :=
  let inp := match rot with
    | .cw => e.2
    | .ccw => otherPort e.2
  let r := reportAt s e.1
  dinOf r inp + hopOf s r inp

/-- The lap delay D of a rotation (R49). -/
def lap (s : State) (rot : Rot) : Nat := ((ringOrder s).map (entryCost s rot)).sum

/-- The reference node of a rotation: the lowest (CW) or highest (CCW) node of the image that has a report (R49). -/
def refNode (s : State) (rot : Rot) : Option Nat :=
  match s.cyc.image with
  | none => none
  | some i =>
    let l := imageNodes i
    let withRep := l.filter (fun n => (reportAt s n).isSome)
    let pick := fun (l : List Nat) => match rot with
      | .cw => l.head?
      | .ccw => l.getLast?
    match pick l with
    | none => none
    | some n => if n ∈ withRep then some n else pick withRep

/-- The calibrated delay σ of this node on a rotation (R49): what entering each node after the reference costs, up to this
one. -/
def sigma (s : State) (rot : Rot) : Nat :=
  match refNode s rot with
  | none => 0
  | some ref =>
    let o := ringOrder s
    let seq := match rot with
      | .cw => o
      | .ccw => match o with
        | [] => []
        | x :: t => x :: t.reverse
    match seq.findIdx? (fun e => e.1 == ref) with
    | none => 0
    | some 0 => 0
    | some k => ((seq.drop (k + 1)).map (entryCost s rot)).sum + (match seq.head? with
        | some e => entryCost s rot e
        | none => 0)

/-- This node's own hop delay on a rotation (R98). -/
def ownHop (s : State) (rot : Rot) : Nat :=
  hopOf s (reportAt s (me s)) (match rot with
    | .cw => otherPort s.ring.cwPort
    | .ccw => s.ring.cwPort)

/-! ### Slots -/

/-- Window position of a slot on a rotation (R50). -/
def winPos (i : Image) (rot : Rot) (k : Nat) : Nat :=
  match rot with
  | .cw => k
  | .ccw => i.s + 1 - k

/-- The owner of a slot in a cycle by ownership entry (R54). -/
def ownerOf (i : Image) (k cyc : Nat) : Option Nat :=
  (i.own.find? (fun e => e.slot == k && cyc % 64 % e.m == e.b)).map (·.owner)

/-- The pier entry of a slot in a cycle (R73). -/
def pierOf (i : Image) (k cyc : Nat) : Option Pier := i.piers.find? (fun e => e.slot == k && cyc % 64 % e.m == e.b)

/-- The key of a pier slot entry: two entries may share a slot in different phases (R73, R523). -/
def Pier.idx (p : Pier) : Nat := p.slot * 8192 + p.b * 128 + p.m

/-- The claim on a pier slot entry. -/
def claimAt (s : State) (x : Nat) : Claim := tblGet {} s.cyc.claims x

/-- The state with the claim on a pier slot entry replaced. -/
def setClaim (s : State) (x : Nat) (c : Claim) : State :=
  { s with cyc := { s.cyc with claims := tblSet {} s.cyc.claims x c } }

/-- Pier slots of the image whose key and range match this node (R73). -/
def ownPiers (s : State) : List Pier :=
  match s.cyc.image with
  | none => []
  | some i => i.piers.filter (fun p => p.key != 0 && s.boot.cfg.keys.contains p.key && decide (p.lo ≤ me s) &&
      decide (me s ≤ p.hi))

/-- The claim on a pier slot entry lets the node send in a cycle: CLAIMING or HELD; from OBSERVING with count 8 the occurrence after
the present cycle is the first of CLAIMING (R74, R79). -/
def claimSends (s : State) (p : Pier) (cyc : Nat) : Bool :=
  let c := claimAt s p.idx
  (ownPiers s).contains p && (c.state == .claiming || c.state == .held ||
    (c.state == .observing && decide (8 ≤ c.count) && decide (s.cyc.n < cyc)))

/-- This node holds a slot in a cycle, by ownership entry or by claim (R55). -/
def holdsSlot (s : State) (i : Image) (k cyc : Nat) : Bool :=
  ownerOf i k cyc == some (me s) || (match pierOf i k cyc with
    | some p => claimSends s p cyc
    | none => false)

/-- The start of a static slot in this node's view of cycle `n` (R51, R110). -/
def slotStart (s : State) (i : Image) (n : Nat) (rot : Rot) (k : Nat) : Nat :=
  (boundary s n).getD 0 + sigma s rot + mts i ((winPos i rot k - 1) * i.lst)

/-- t_send of a slot (R51). -/
def tSend (s : State) (i : Image) (n : Nat) (rot : Rot) (k : Nat) : Nat := slotStart s i n rot k + mts i i.apo

/-- The start of the dynamic segment in this node's view (R69). -/
def dynStart (s : State) (i : Image) (n : Nat) (rot : Rot) : Nat :=
  (boundary s n).getD 0 + sigma s rot + mts i (i.s * i.lst + i.lambda)

/-- The end of the dynamic segment in this node's view. -/
def dynEnd (s : State) (i : Image) (n : Nat) (rot : Rot) : Nat := dynStart s i n rot + mts i (i.ndyn * i.lms)

/-- The end of the open segment in this node's view (R71). -/
def openEnd (s : State) (i : Image) (n : Nat) (rot : Rot) : Nat := dynEnd s i n rot + mts i i.lopen

/-- The time a frame occupies a span (R45). -/
def tOcc (s : State) (len : Nat) : Nat := octetTime (ringMbps s) (len + 20)

/-- The node is SYNCHRONISED. -/
def synced (s : State) : Bool := s.ring.state == .synchronised

/-- The node's view of the open segment of a cycle on a rotation is in progress (R71). -/
def openOf (s : State) (i : Image) (rot : Rot) (n : Nat) : Bool :=
  decide (dynEnd s i n rot ≤ nt16 s) && decide (nt16 s < openEnd s i n rot)

/-- The view of an open segment is in progress: σ puts its end past the start of the next cycle where it exceeds the
network-idle interval, so the cycle before may still show it (R71). -/
def inOpenView (s : State) (rot : Rot) : Bool :=
  match s.cyc.image with
  | none => false
  | some i => s.cyc.c0.isSome && (openOf s i rot s.cyc.n || (decide (0 < s.cyc.n) && openOf s i rot (s.cyc.n - 1)))

/-- A synchronised node is within its view of the open segment on a rotation (R71, R193). -/
def openView (s : State) (rot : Rot) : Bool := synced s && inOpenView s rot

/-- The cycle in whose view on a rotation an instant at the receiving port falls (R51, R59). -/
def viewCycle (s : State) (rot : Rot) (t : Nat) : Nat :=
  match s.cyc.image, s.cyc.c0 with
  | some i, some c => if tcyc i = 0 then s.cyc.n else (t + ownHop s rot - (c + sigma s rot)) / tcyc i
  | _, _ => s.cyc.n

/-- The image has express periods (R232). -/
def hasExpress (i : Image) : Bool := decide (0 < i.s) || decide (0 < i.ndyn)

/-- The end of the express period of a cycle on a rotation (R232). -/
def expressEnd (s : State) (i : Image) (n : Nat) (rot : Rot) : Nat :=
  (boundary s n).getD 0 + sigma s rot + mts i (i.s * i.lst + i.lambda + i.ndyn * i.lms) + lap s rot

/-! ### The ring header -/

/-- Control addresses (R96). -/
def macOne : Nat := 0x034548000001
/-- The address of frames for every node. -/
def macAll : Nat := 0x034548000002

/-- The fields of a ring header (R57). -/
structure Hdr where
  etype : Nat := 0
  ver : Nat := 1
  seg : Nat := 0
  rot : Nat := 0
  origin : Nat := 0
  id : Nat := 0
  cyc : Nat := 0
  hops : Nat := 0
  seq : Nat := 0
  flags : Nat := 0
  dest : Nat := 0
  destAll : Bool := false
  tc : Nat := 0
  hcrc : Nat := 0
  deriving DecidableEq, Repr

/-- Flag bits of octets 10 and 11 (R57). -/
def Hdr.sync (h : Hdr) : Bool := bitOf h.flags 0
/-- PIER. -/
def Hdr.pier (h : Hdr) : Bool := bitOf h.flags 1
/-- WITHDRAW. -/
def Hdr.withdraw (h : Hdr) : Bool := bitOf h.flags 2
/-- FIRST. -/
def Hdr.first (h : Hdr) : Bool := bitOf h.flags 3
/-- MGMT. -/
def Hdr.mgmt (h : Hdr) : Bool := bitOf h.flags 4
/-- LOOPED. -/
def Hdr.looped (h : Hdr) : Bool := bitOf h.flags 5

/-- The header a frame on a span carries after its source address (R56, R57). -/
def parseHdr (o : Octets) : Hdr :=
  let h := padTo 16 (slice o 12 16)
  let w := beAt h 2 2
  { etype := beAt h 0 2, ver := fld w 12 4, seg := fld w 10 2, rot := fld w 9 1, origin := fld w 0 6, id := beAt h 4 2,
    cyc := beAt h 6 1 % 64, hops := beAt h 7 1, seq := beAt h 8 2, flags := beAt h 10 2, dest := beAt h 12 1 % 64,
    destAll := bitOf (beAt h 12 1) 7, tc := beAt h 13 1 / 32, hcrc := beAt h 14 2 }

/-- Octets 0 to 13 of a header. -/
def hdrBody (h : Hdr) : Octets :=
  beBytes 2 h.etype ++ beBytes 2 (h.ver * 2 ^ 12 + h.seg * 2 ^ 10 + h.rot * 2 ^ 9 + h.origin) ++ beBytes 2 h.id ++
    beBytes 1 h.cyc ++ beBytes 1 h.hops ++ beBytes 2 h.seq ++ beBytes 2 h.flags ++
    beBytes 1 (b2n h.destAll * 128 + h.dest) ++ beBytes 1 (h.tc * 32)

/-- A header's 16 octets with its check (R58). -/
def hdrBytes (h : Hdr) : Octets := hdrBody h ++ beBytes 2 (crc16 (hdrBody h))

/-- The header check of a frame is right (R58). -/
def hcrcGood (o : Octets) : Bool := crc16 (slice o 12 14) == beAt o 26 2

/-- A frame put on a span: the header after the source address, and the FCS over all (R56). -/
def ringFrame (body : Octets) (h : Hdr) : Octets :=
  let b := body.take 12 ++ hdrBytes h ++ body.drop 12
  let b := if b.length < 60 then padTo 60 b else b
  b ++ fcsOf b

/-- A frame as stored: without its ring header, its FCS recomputed (R56, R176). -/
def unringed (o : Octets) : Octets :=
  let b := o.take 12 ++ (bodyOf o).drop 28
  b ++ fcsOf b

/-- The octets of a frame before its FCS, as far as they have come, with HOPS one more and the header check recomputed
(R58, R80). -/
def hopBody (b : Octets) : Octets :=
  let b := overwrite b 19 (beBytes 1 (beAt b 19 1 + 1))
  overwrite b 26 (beBytes 2 (crc16 (slice b 12 14)))

/-- A forwarded frame: HOPS one more, header check and FCS recomputed (R58, R80, R231). -/
def hopped (o : Octets) : Octets := hopBody (bodyOf o) ++ fcsOf (hopBody (bodyOf o))

/-- The cycle counter carried in a header: of the cycle in progress (R57). -/
def cycNow (s : State) : Nat := s.cyc.n % 64

/-- RING_ETYPE of the image in force, else its default (R44). -/
def ringEtype (s : State) : Nat := (s.cyc.image.map (·.etype)).getD 0x88B5

/-- A ring-control frame of this node (R96, R128): type, payload, destination and DEST_ALL. -/
def ctlFrame (s : State) (typ : Nat) (payload : Octets) (toAll : Bool) (rot : Rot) : Octets :=
  let da := if toAll then macAll else macOne
  ringFrame (beBytes 6 da ++ beBytes 6 s.boot.cfg.mac ++ payload)
    { etype := ringEtype s, seg := 3, rot := (match rot with
        | .cw => 0
        | .ccw => 1), origin := me s, id := typ, cyc := cycNow s, destAll := toAll }

/-- A time of 10 octets: 8 of nanoseconds and 2 of fraction (R96). -/
def timeBytes (t : Nat) : Octets := beBytes 8 (t / 65536) ++ beBytes 2 (t % 65536)

/-- The time that 10 octets spell. -/
def timeAt (o : Octets) (i : Nat) : Nat := beAt o i 8 * 65536 + beAt o (i + 8) 2

end Sys2Proof.Machine
end

