-- ==== Sys2Proof/Machine/RingTx.lean ====
section
/-! DEFINITION. RingTx.lean: the egress of a ring port: its levels, pieces and gaps, transit frames, the node's own ring-control
frames, and express frames (R145, R218, R220, R227 to R236). -/

namespace Sys2Proof.Machine

open Sys2Proof

/-! ### Ports -/

/-- A port is in the ring (R143). -/
def inRing (s : State) (e : RPort) : Bool := (rport s e).state == .inRing

/-- 0 EAST, 1 WEST. -/
def rpBit : RPort → Nat
  | .east => 0
  | .west => 1

/-- A time quantised to 250 ps (R85). -/
def quant (t : Nat) : Nat := t / 16384 * 16384

/-! ### Levels -/

/-- What a ring egress holds at one level. -/
structure LvTx where
  cur : Option RFrame
  susp : Bool
  q : Option Nat
  start : Nat
  sent : Nat
  cnt : Nat
  frag : Nat
  deriving DecidableEq, Repr

/-- A level of an egress. -/
def lvOf (x : RingTx) : Level → LvTx
  | .high => { cur := x.curH, susp := x.suspH, q := x.curHQ, start := x.startH, sent := x.sentH, cnt := x.cntH, frag := x.fragH }
  | .low => { cur := x.curL, susp := x.suspL, q := x.curLQ, start := x.startL, sent := x.sentL, cnt := x.cntL, frag := x.fragL }

/-- An egress with a level replaced. -/
def setLv (x : RingTx) (l : Level) (v : LvTx) : RingTx :=
  match l with
  | .high => { x with curH := v.cur, suspH := v.susp, curHQ := v.q, startH := v.start, sentH := v.sent, cntH := v.cnt
                      fragH := v.frag }
  | .low => { x with curL := v.cur, suspL := v.susp, curLQ := v.q, startL := v.start, sentL := v.sent, cntL := v.cnt
                     fragL := v.frag }

/-- A level's frame is in transmission. -/
def busyLv (x : RingTx) (l : Level) : Bool := (lvOf x l).cur.isSome && !(lvOf x l).susp

/-- The transit buffer of a level (R231). -/
def transitOf (x : RingTx) : Level → List RFrame
  | .high => x.transitH
  | .low => x.transitL

/-- An egress with the transit buffer of a level replaced. -/
def setTransit (x : RingTx) (l : Level) (t : List RFrame) : RingTx :=
  match l with
  | .high => { x with transitH := t }
  | .low => { x with transitL := t }

/-- Octets of frame data of a frame as far as they have come: without the FCS of a whole one (R218). -/
def RFrame.known (f : RFrame) : Nat := if f.ctx.isSome then f.data.length else f.data.length - 4

/-- The check sequence a whole frame ends with (R80, R231). -/
def RFrame.fcs (f : RFrame) : Octets :=
  if f.bad then badFcs (bodyOf f.data) else f.data.drop (f.data.length - 4)

/-- The earliest length of data at which the piece in progress may end (R218, R220): of a frame still arriving at least 60 octets
follow in its next fragment. -/
def RFrame.split (f : RFrame) (sent sofar : Nat) : Option Nat :=
  if f.ctx.isSome then (if sent + max 60 sofar ≤ f.data.length then some (max 60 sofar) else none)
  else splitPoint sent sofar f.known

/-- A local frame in progress gives its place in the vat back (R179). -/
def releaseLocal (s : State) (h : Option Nat) (o : Option RFrame) : State :=
  match h, o with
  | some x, some f => finishDest s x (1232 + (parseHdr f.data).tc)
  | _, _ => s

/-- A frame has left a ring port: its counters (R262). -/
def ringSent (s : State) (e : RPort) (octets kind : Nat) : State :=
  let p := rpIdx e
  perfN (perfN (perf (countN (countPort s p 13) 0x01 p 14 octets) (pPort p 2)) (pPort p 3) octets)
    (pRot (rotOfPort s e) kind) octets

/-- The fragment in progress at a level ends after `c` octets of data, with its mCRC and the gap (R218). -/
def ringEndPiece (s : State) (e : RPort) (l : Level) (c : Nat) : State :=
  let x := rtx s e
  let v := lvOf x l
  match v.cur with
  | none => s
  | some f =>
    let x1 := setLv x l { v with susp := true, sent := v.sent + c, frag := nextFrag v.sent v.frag }
    let s1 := setRtx s e { x1 with freeAt := v.start + octetTicks (ringMbps s) (8 + c + 4 + 12) }
    emitPiece (perf s1 (pPort (rpIdx e) 6)) (rpIdx e) l v.cnt v.frag v.sent (slice f.data v.sent c)
      (mcrcOf (f.data.take (v.sent + c)))

/-- The level of the preemptable frame in transmission on a ring egress. -/
def levelInProgress (x : RingTx) : Option Level :=
  if busyLv x .high then some .high else if busyLv x .low then some .low else none

/-- The preemptable frame in progress on a ring egress ends its fragment at the earliest point where it can be split; one that
cannot be split runs to its end (R220, R232). -/
def ringInterrupt (s : State) (e : RPort) : State :=
  match levelInProgress (rtx s e) with
  | none => s
  | some l =>
    let v := lvOf (rtx s e) l
    match v.cur with
    | none => s
    | some f => match f.split v.sent ((now s - v.start) * ringMbps s / 10000 - 8) with
      | some c => ringEndPiece s e l c
      | none => s

/-- The egress carries nothing and the gap after its last piece has ended (R218, R230). -/
def egressFree (s : State) (e : RPort) : Bool :=
  let x := rtx s e
  x.express.isNone && !busyLv x .high && !busyLv x .low && due s x.freeAt

/-! ### What may start -/

/-- The instant of the next hold on a ring egress, where one will come: of the cycle in progress while it is still ahead, else of the
next (R232, R234). -/
def nextHold (s : State) (e : RPort) : Option Nat :=
  match s.cyc.image, boundary s s.cyc.n, boundary s (s.cyc.n + 1) with
  | some i, some c, some d =>
    if synced s && hasExpress i then
      let lead := octetTime (ringMbps s) 143 + piT i
      let h := c + sigma s (rotOfPort s e) - lead
      some (if nt16 s < h then h else d + sigma s (rotOfPort s e) - lead)
    else none
  | _, _, _ => none

/-- A ring port has verified both preemptable levels (R234). -/
def levelsVerified (s : State) (e : RPort) : Bool := (rport s e).verL && (rport s e).verH

/-- A piece of a frame may start on a ring egress: on a port that has not verified its levels only where it ends before the next
hold (R234). -/
def mayStartPiece (s : State) (e : RPort) (octets : Nat) : Bool :=
  levelsVerified s e || (match nextHold s e with
    | some t => decide (nt16 s + octetTime (ringMbps s) (8 + octets) ≤ t)
    | none => true)

/-- An open frame or fragment may start on a ring egress: with no hold, and at a synchronised node within its view of the open
segment (R71, R232, R233). -/
def openMayStart (s : State) (e : RPort) : Bool :=
  !(rtx s e).hold && (!synced s || openView s (rotOfPort s e))

/-- A frame that arrives on the other ring port is being forwarded out of this egress and is not whole yet (R231, R233). -/
def arrivingHere (x : RingTx) : Bool :=
  (x.transitH ++ x.transitL ++ x.curH.toList ++ x.curL.toList).any (fun f => f.ctx.isSome)

/-- A transit frame may start: a ring-control frame with no hold, an open frame as R71 says. -/
def frameMayStart (s : State) (e : RPort) (o : Octets) : Bool :=
  !(rtx s e).hold && mayStartPiece s e o.length && ((parseHdr o).seg == 3 || openMayStart s e)

/-- A beat or calibration frame for the neighbour (R96, R128). -/
def nearFrame (o : Octets) : Bool := [0x10, 0x11, 0x21].contains (parseHdr o).id

/-- An own ring-control or management frame may start: with no hold; at a synchronised node in its view of the open segment (R94, R95,
R128, R147); at any other only with nothing to forward waiting or arriving (R233). -/
def ctlMayStart (s : State) (e : RPort) (o : Octets) : Bool :=
  let x := rtx s e
  !x.hold && mayStartPiece s e o.length &&
    (if synced s then openView s (rotOfPort s e)
     else x.transitH.isEmpty && x.transitL.isEmpty && x.exNext.isNone && !arrivingHere x)

/-! ### Starting -/

/-- A frame starts on a level of a ring egress, with the handle of a local one; one that has moved here goes on with the counts of the
egress it comes from (R229, R236). -/
def ringStart (s : State) (e : RPort) (l : Level) (f : RFrame) (h : Option Nat) : State :=
  let x := rtx s e
  let v := lvOf x l
  let s1 := setRtx s e (setLv x l { cur := some f, susp := false, q := h, start := now s, sent := f.sent
                                    cnt := if f.sent = 0 then (v.cnt + 1) % 4 else f.cnt, frag := f.frag })
  if f.sent = 0 then emit s1 (.ring e f.data) else countPort s1 (rpIdx e) 54

/-- A suspended frame goes on (R230, R526). -/
def ringResume (s : State) (e : RPort) (l : Level) : State :=
  countPort (setRtx s e (setLv (rtx s e) l { lvOf (rtx s e) l with susp := false, start := now s })) (rpIdx e) 54

/-- A ring-control frame with its departure timestamp inserted as it is sent: T3 of DELAY_RESP, T_ANN of ANNOUNCE, T_TX of
LINK_BEAT (R90, R96, R129). -/
def stampCtl (o : Octets) (ts : Nat) : Octets :=
  let put := fun (i : Nat) => let b := overwrite (bodyOf o) (28 + i) (timeBytes (quant ts)); b ++ fcsOf b
  match (parseHdr o).id with
  | 0x11 => put 14
  | 0x20 => put 8
  | 0x21 => put 8
  | _ => o

/-- An own ring-control frame starts at level H; the departure of a DELAY_REQ is its t1 (R90). -/
def startCtl (s : State) (e : RPort) (o : Octets) (ts : Nat) : State :=
  let s1 := if (parseHdr o).id = 0x10 then setRport s e { rport s e with outT1 := some (quant ts) } else s
  ringStart s1 e .high { data := stampCtl o ts, since := now s } none

/-- The own ring-control or management frame that is next on an egress, with the rest: only a synchronised node sends a management frame,
which is an open one (R106, R387). -/
def ctlNext (s : State) (e : RPort) : Option (Octets × List Octets) :=
  let l := (rtx s e).ctl
  match l.find? (fun o => synced s || (parseHdr o).seg == 3) with
  | some o => if ctlMayStart s e o then some (o, l.erase o) else none
  | none => none

/-- The next own ring-control frame of an egress starts where it may; an L frame in progress is interrupted for it (R230, R231,
R234). -/
def ctlKick (s : State) (e : RPort) (ts : Nat) : State :=
  let x := rtx s e
  match ctlNext s e with
  | none => s
  | some (o, t) =>
    if x.curH.isSome || x.exNext.isSome then s
    else if egressFree s e then startCtl (setRtx s e { x with ctl := t }) e o ts
    else if busyLv x .low && x.express.isNone && levelsVerified s e then ringInterrupt s e
    else s

/-- An own ring-control frame is placed ahead of every local queue of an egress, a beat ahead of the others (R128, R231). -/
def sendCtl (s : State) (e : RPort) (o : Octets) (ts : Nat) : State :=
  let x := rtx s e
  ctlKick (setRtx s e { x with ctl := if (parseHdr o).id = 0x21 then o :: x.ctl else x.ctl ++ [o] }) e ts

/-! ### Transit and loops -/

/-- The level of an open or ring-control frame that arrives with no code of a level: H for ring control, else by the TC map in force
(R227, R228). -/
def levelBy (s : State) (o : Octets) : Level :=
  let h := parseHdr o
  if h.seg == 3 || bitOf ((s.cyc.image.map (·.tcMap)).getD 0xE0) h.tc then .high else .low

/-- Octets waiting in a transit buffer. -/
def octetsOf (l : List RFrame) : Nat := (l.map (fun f => f.data.length)).sum

/-- A forwarded frame enters the transit buffer of its level on an egress, or is not forwarded for want of room for
16 000 octets (R231). -/
def toTransit (s : State) (e : RPort) (l : Level) (f : RFrame) : State :=
  let x := rtx s e
  let t := transitOf x l
  if octetsOf t + 16000 ≤ 65536 then setRtx s e (setTransit x l (t ++ [{ f with since := now s }]))
  else perf (countPort s (rpIdx e) 43) (pRot (rotOfPort s e) 12)

/-- A forwarded frame's octets, whole or still arriving, with one more hop (R80, R231). -/
def hopFrame (f : RFrame) : RFrame := { f with data := if f.ctx.isSome then hopBody f.data else hopped f.data }

/-- A frame with LOOPED set and one more hop (R145). -/
def loopFrame (f : RFrame) : RFrame :=
  hopFrame { f with data := overwrite f.data 22 (beBytes 2 (beAt f.data 22 2 ||| 0x20)) }

/-- An open or ring-control frame that would leave through a port that is not in the ring: looped out of the other port,
or discarded where no port is in the ring (R145). A frame whose first fragment has already left keeps its header (R236). -/
def loopOut (s : State) (e : RPort) (l : Level) (f : RFrame) : State :=
  if inRing s (otherPort e) then
    toTransit (perf (countPort s (rpIdx e) 35) (pRot (rotOfPort s e) 10)) (otherPort e) l
      (if f.sent = 0 then loopFrame f else f)
  else perf (countPort s (rpIdx e) 34) (pRot (rotOfPort s e) 11)

/-- An open or ring-control frame is forwarded out of a port, or looped there (R80, R145, R231). -/
def forwardOut (s : State) (e : RPort) (l : Level) (f : RFrame) : State :=
  if inRing s e then toTransit s e l (hopFrame f) else loopOut s e l f

/-- A frame that is forwarded and whose FCS turns out bad is counted; one cut at 16 000 octets is not judged by its FCS (R80, R260). -/
def countBad (s : State) (e : RPort) (good trunc : Bool) : State := if good || trunc then s else countPort s (rpIdx e) 25

/-- A whole open or ring-control frame that arrived on a port goes on out of the other; one with a bad FCS, or cut, is ended as invalid
(R80, R145, R231, R260). -/
def forwardFrom (s : State) (e : RPort) (l : Level) (o : Octets) (good trunc : Bool) : State :=
  forwardOut (countBad s e good trunc) (otherPort e) l { data := o, bad := !good }

/-- An own ring-control frame for every node, or a management frame, leaves through a port (R128, R145, R387). -/
def sendOut (s : State) (e : RPort) (o : Octets) : State :=
  if inRing s e then sendCtl s e o (nt16 s) else loopOut s e .high { data := stampCtl o (nt16 s) }

/-- A beat or calibration frame leaves a port that has link (R145). -/
def sendNear (s : State) (e : RPort) (typ : Nat) (payload : Octets) (ts : Nat) : State :=
  if (rport s e).state = .down then s else sendCtl s e (ctlFrame s typ payload false (rotOfPort s e)) ts

/-- A ring-control frame for every node is sent on both ring ports. -/
def sendBoth (s : State) (typ : Nat) (payload : Octets) : State :=
  let one := fun (t : State) (e : RPort) => sendOut t e (ctlFrame t typ payload true (rotOfPort t e))
  one (one s .east) .west

/-- What arrives on a ring port leaves the other one unchanged while the bypass is on (R26, R153). -/
def throughBypass (s : State) (e : RPort) (o : Octets) : State :=
  if s.ring.bypassOn then emit s (.bypass (otherPort e) o) else s

/-! ### Frames still arriving (R231, R235) -/

/-- A change to the frame, wherever it is on an egress, that arrives through a reassembly context. -/
def onArriving (x : RingTx) (c : Nat) (g : RFrame → RFrame) : RingTx :=
  let h := fun (f : RFrame) => if f.ctx = some c then g f else f
  { x with transitH := x.transitH.map h, transitL := x.transitL.map h, curH := x.curH.map h, curL := x.curL.map h }

/-- The same change on both egresses: a loop may have put the frame on either. -/
def onArrivingBoth (s : State) (c : Nat) (g : RFrame → RFrame) : State :=
  let s1 := setRtx s .east (onArriving (rtx s .east) c g)
  setRtx s1 .west (onArriving (rtx s1 .west) c g)

/-- The next fragment of a frame in forwarding has arrived (R231). -/
def fwdMore (s : State) (c : Nat) (d : Octets) : State :=
  onArrivingBoth s c (fun f => { f with data := f.data ++ d })

/-- The last fragment of a frame in forwarding has arrived: it is whole, with its FCS recomputed, or bad (R80, R231). -/
def fwdLast (s : State) (c : Nat) (d : Octets) (good : Bool) : State :=
  onArrivingBoth s c (fun f =>
    let b := f.data ++ bodyOf d
    { f with ctx := none, bad := !good, data := b ++ fcsOf b })

/-- A frame in forwarding fails: it ends with a last fragment of at least 60 octets carrying an invalid FCS; what fills the fragment up
has no stated value and is free (R218, R231, R235; log entry 6). -/
def fwdFail (s : State) (c : Nat) : State :=
  drawn (onArrivingBoth s c (fun f =>
    let b := f.data ++ beBytes 60 (drawVal s (2 ^ 480))
    { f with ctx := none, bad := true, data := b ++ fcsOf b }))

/-- A reassembly context is dropped: what has been forwarded of its frame ends as invalid (R231, R235). -/
def dropCtx (s : State) (c : Nat) : State :=
  let s1 := if (tblGet {} s.ring.reasm c : Reasm).fwd then fwdFail s c else s
  { s1 with ring := { s1.ring with reasm := tblErase s1.ring.reasm c } }

/-! ### Ends of pieces -/

/-- The last piece of a level's frame has left: its check, its counters, and its place in the vat (R179, R218, R259, R262). -/
def ringFrameDone (s : State) (e : RPort) (l : Level) (f : RFrame) : State :=
  let x := rtx s e
  let v := lvOf x l
  let s1 := setRtx s e (setLv x l { v with cur := none, q := none, sent := 0, frag := 0 })
  let s2 := emitPiece s1 (rpIdx e) l v.cnt v.frag v.sent ((bodyOf f.data).drop v.sent) f.fcs
  releaseLocal (if f.bad then s2 else ringSent s2 e f.data.length 15) v.q (some f)

/-- The end of what a level has to send: the frame's last octet, or, of a frame still arriving, the last octet that has come, where
its fragment ends until more comes (R218, R231, R259). -/
def ringLevelEnd (s : State) (e : RPort) (l : Level) : State :=
  let v := lvOf (rtx s e) l
  match v.cur with
  | none => s
  | some f =>
    let left := f.known - v.sent
    if v.susp || !due s (v.start + octetTicks (ringMbps s) (8 + left + 4 + 12)) then s
    else if f.ctx.isSome then (if 60 ≤ left then ringEndPiece s e l left else s)
    else ringFrameDone s e l f

/-! ### Express frames -/

/-- An express frame starts on an egress, with the closing of its window (R110, R114). -/
def expressStart (s : State) (e : RPort) (o : Octets) (close : Nat) (own good : Bool) (buf : Option Nat) : State :=
  emit (setRtx s e { rtx s e with express := some o, exClose := close, exOwn := own, exBad := !good, exBuf := buf
                                  exEnd := now s + octetTicks (ringMbps s) (8 + o.length + 12) }) (.ring e o)

/-- The express frame in transmission is ended with an invalid check sequence, and the gap follows (R112, R114, R218). -/
def expressCut (s : State) (e : RPort) : State :=
  let x := { rtx s e with express := none, exOwn := false, exBad := false, exBuf := none
                          freeAt := now s + octetTicks (ringMbps s) 12 }
  emit (setRtx s e x) (.cut e)

/-- The express frame in transmission has left: a frame whose check sequence was bad ends so (R80, R262). -/
def expressDone (s : State) (e : RPort) : State :=
  let x := rtx s e
  let s1 := setRtx s e { x with express := none, exOwn := false, exBad := false, exBuf := none }
  match x.express with
  | none => s1
  | some o => if x.exBad then emit s1 (.cut e) else ringSent s1 e o.length 14

/-- A forwarded express frame that waited for a piece to end starts once the egress is free (R220, R230). -/
def expressNext (s : State) (e : RPort) : State :=
  match (rtx s e).exNext with
  | some (o, close, good) =>
    if egressFree s e then expressStart (setRtx s e { rtx s e with exNext := none }) e o close false good none else s
  | none => s

/-! ### An egress that stops or loops -/

/-- The frames in progress on a ring egress end, and its queues of transit and control frames are empty. -/
def clearEgress (s : State) (e : RPort) : State :=
  let x := rtx s e
  let s1 := releaseLocal (releaseLocal s x.curHQ x.curH) x.curLQ x.curL
  setRtx s1 e { cntH := x.cntH, cntL := x.cntL }

/-- The suspended frame of a level with the counts its remaining fragments go on with (R236). -/
def suspended (x : RingTx) (l : Level) : Option RFrame :=
  let v := lvOf x l
  if v.susp then v.cur.map (fun f => { f with sent := v.sent, cnt := v.cnt, frag := v.frag }) else none

/-- The suspended frame of a level leaves an egress. -/
def unsuspend (x : RingTx) (l : Level) : RingTx :=
  let v := lvOf x l
  if v.susp then setLv x l { v with cur := none, susp := false, q := none, sent := 0, frag := 0 } else x

/-- Frames of an egress that loops move to the other egress as forwarded frames, suspended ones with their contexts; own
ring-control frames for every node are looped as any other, those for the neighbour stay with a port that has link; with no
port in the ring they are discarded (R145, R236). -/
def moveTransit (s : State) (e : RPort) : State :=
  let x := rtx s e
  let hs := (suspended x .high).toList ++ x.transitH
  let ls := (suspended x .low).toList ++ x.transitL
  let own := x.ctl.filter (fun o => !nearFrame o)
  let s1 := releaseLocal s (if x.suspH then x.curHQ else none) x.curH
  let s2 := releaseLocal s1 (if x.suspL then x.curLQ else none) x.curL
  let near := if (rport s e).state = .down then [] else x.ctl.filter nearFrame
  let s3 := setRtx s2 e { unsuspend (unsuspend x .high) .low with transitH := [], transitL := [], ctl := near }
  let s4 := hs.foldl (fun t f => loopOut t e .high f) s3
  let s5 := ls.foldl (fun t f => loopOut t e .low f) s4
  own.foldl (fun t o => loopOut t e .high { data := stampCtl o (nt16 t) }) s5

end Sys2Proof.Machine
end

