-- ==== Sys2Proof/Machine/RingOps.lean ====
section
/-! DEFINITION. RingOps.lean: ring states, port states, loss of synchronisation, and the sending of ring-control frames
(chapters 3 and 4). -/

namespace Sys2Proof.Machine

open Sys2Proof

/-! ### States -/

/-- STATE of HOST_TIME_STATUS (R88, R125). -/
def timeState (s : State) : Nat :=
  match s.ring.state with
  | .integrating => 1
  | .synchronised => 2
  | _ => 0

/-- The looped port of an abutment: exactly one port is in the ring (R143). -/
def loopedPort (s : State) : Option RPort :=
  match inRing s .east, inRing s .west with
  | true, false => some .west
  | false, true => some .east
  | _, _ => none

/-- The node is a cold-start node (R132). -/
def coldStart (s : State) : Bool :=
  decide (s.boot.cfg.rank < 8) &&
    (match s.cyc.image with
      | some i => i.sync.any (fun e => e.1 == me s)
      | none => false)

/-- Cycle length in ticks of the span clock; 25 µs where no image is in force. -/
def tcycTicks (s : State) : Nat :=
  nsTicks (match s.cyc.image with
    | some i => tcycNs i
    | none => 25000)

/-- The node is a ring member (R87). -/
def ringMember (s : State) : Bool :=
  s.cyc.c0.isSome || s.ring.state == .announce || s.ring.state == .integrating || s.ring.state == .synchronised

/-! ### Loss of synchronisation -/

/-- A correction not yet in full effect is abandoned; the next pair computes no drift (R103). -/
def abandon (s : State) : State :=
  { s with time := { s.time with phiNext := none, rhoNext := none, slew := none, prev := none, cur := [], limitFail := 0 } }

/-- An own express frame in transmission is ended by the guardian (R108, R112). -/
def cutOwn (s : State) (e : RPort) : State :=
  let x := rtx s e
  if x.express.isSome && x.exOwn then expressCut (countPort s (rpIdx e) 30) e else s

/-- The halves of a transmit buffer swap: the content is new for both rotations (R61, R62). -/
def TxBuf.swap (x : TxBuf) (d : Octets) : TxBuf :=
  { x with front := some d, back := none, sentCur := false, newCW := true, newCCW := true }

/-- No read of a transmit buffer is in progress any more: a swap that waited takes place (R61, R64). -/
def TxBuf.unread (x : TxBuf) : TxBuf :=
  let x1 := { x with latCW := none, latCCW := none }
  match x.back with
  | some d => x1.swap d
  | none => x1

/-- Own express frames not yet started are cancelled (R108). -/
def cancelLatched (s : State) : State :=
  { s with cyc := { s.cyc with tx := s.cyc.tx.map (fun e => (e.1, e.2.unread)), armCW := none, armCCW := none } }

/-- Timers that stop on loss of synchronisation are driven low (R124). -/
def stopTimers (s : State) : State :=
  (List.range 4).foldl (fun t i =>
    let x := tblGet {} t.time.timers i
    if x.running && !x.cont then
      { t with time := { t.time with timers := tblSet {} t.time.timers i { x with running := false, level := false } } }
    else t) s

/-- What a node does at once on leaving SYNCHRONISED for a state: its windows close, its pier slots are released, its
correction is abandoned, holdover begins and its outputs follow (R76, R103, R108, R118, R120, R124). -/
def syncEnds (s : State) (st : RingState) : State :=
  let hold := decide (1 ≤ s.time.pairsInSync) && decide (0 < s.time.cfg.holdoverLimit)
  let s1 := cancelLatched (abandon (cutOwn (cutOwn s .east) .west))
  let s2 := { s1 with
    cyc := { s1.cyc with claims := [], msCW := none, msCCW := none, dynBusyCW := [], dynBusyCCW := [] }
    ring := { s1.ring with state := st, eastTx := { s1.ring.eastTx with hold := false }
                           westTx := { s1.ring.westTx with hold := false } }
    time := { s1.time with holdover := hold, holdoverEnd := now s + msTicks (1000 * s.time.cfg.holdoverLimit)
                           gptpStopped := !hold, pairsInSync := 0, syncCycles := 0, thin := 0, thinArmed := false
                           outWin := 0, pps := s.time.pps && (hold || s.time.cfg.ppsFreeRun) } }
  stopTimers s2

/-- The present ring state is left for another; SYNCHRONISED and INTEGRATING are left as R103 and R108 say. -/
def goState (s : State) (st : RingState) : State :=
  if s.ring.state = .synchronised then syncEnds s st
  else if s.ring.state = .integrating then
    let s1 := abandon s
    { s1 with ring := { s1.ring with state := st } }
  else { s with ring := { s.ring with state := st } }

/-- A synchronised node leaves SYNCHRONISED with a reason: it is recorded, counted and fed to FS-273 (R107). -/
def leaveSync (s : State) (code : Nat) (st : RingState) : State :=
  let s1 := perf (countRing { s with time := { s.time with lossReason := code } } 7) (pPkg 3)
  feedSystem (syncEnds s1 st) 273 0 code

/-! ### Entering the states of R127 -/

/-- A calibration burst is due on a port with link (R91, R94). -/
def startBurst (s : State) (e : RPort) : State :=
  let x := rport s e
  if x.state = .down then s
  else setRport s e { x with burstNo := some 0, exch := [], outT1 := none, burstCycle := none, burstNext := now s }

/-- The node holds no cycle origin (R126). -/
def dropOrigin (s : State) : State :=
  { s with cyc := { s.cyc with c0 := none, n := 0, msCW := none, msCCW := none }
           ring := { s.ring with keystone := 0xFF, withdrawAt := none, withdrawBypCycle := none } }

/-- The node enters CALIBRATING: bursts on every ring port with link (R125, R131). -/
def enterCalibrating (s : State) : State :=
  let s1 := goState s .calibrating
  let f := fun (t : State) (e : RPort) => startBurst (setRport t e { rport t e with burstOk := false }) e
  let s2 := f (f s1 .east) .west
  { s2 with ring := { s2.ring with calEnded := false, calDeadline := 0 } }

/-- The node enters OFFLINE; the origin is dropped where the ring logic itself stops (R125, R127; log entry 11). -/
def enterOffline (s : State) (drop : Bool) : State :=
  let s1 := if s.ring.state = .offline then s else goState s .offline
  if drop then dropOrigin s1 else s1

/-- A node that is OFFLINE enters CALIBRATING once its Ring region runs with an image in force, the bypass is off and a
ring port has link (R127). -/
def ringRecheck (s : State) : State :=
  if s.ring.state = .offline && inService s .ring && s.cyc.image.isSome && !s.ring.bypassOn &&
      (s.ring.east.link || s.ring.west.link) then enterCalibrating s else s

/-- The listen period of a cold-start node begins (R133); a node that may not cold-start has none (R132, R157). -/
def startListen (s : State) : State :=
  let rank := s.boot.cfg.rank
  let s1 := if rank < 8 ∧ ¬ coldStart s then countRing s 10 else s
  let cycles := if s.time.everSync then 64 else 2
  { s1 with ring := { s1.ring with
      listenEnd := if coldStart s && !s.ring.readmitted then some (now s + cycles * tcycTicks s + usTicks (4 * rank))
                   else none } }

/-- The node enters LISTEN (R127, R133). -/
def enterListen (s : State) : State := startListen (goState s .listen)

/-- The payload of an ANNOUNCE (R129). -/
def announcePayload (s : State) (confirmed : Bool) (t c0 : Nat) : Octets :=
  padTo 48 (beBytes 1 (me s) ++ beBytes 1 (s.boot.cfg.rank % 8 + 128 * b2n confirmed) ++ beBytes 2 s.ring.annSeq ++
    beBytes 4 ((s.cyc.image.map (·.id)).getD 0) ++ timeBytes t ++ timeBytes c0)

/-- The candidate's announce goes out on both ring ports with its counter at departure (R134). -/
def sendAnnounce (s : State) (confirmed : Bool) : State :=
  let s1 := { s with ring := { s.ring with annSeq := (s.ring.annSeq + 1) % 65536 } }
  sendBoth s1 0x20 (announcePayload s1 confirmed (quant (nt16 s1)) s1.ring.annC0)

/-- A candidacy begins: an unconfirmed announce with C0 three cycles ahead, and the announcement window (R134). -/
def enterAnnounce (s : State) : State :=
  let t := tcycTicks s
  let s1 := goState s .announce
  let len := (s.cyc.image.map tcyc).getD 0
  sendAnnounce { s1 with ring := { s1.ring with annC0 := quant (nt16 s1) + 3 * len, annEnd := now s1 + 2 * t
                                                annNext := now s1 + t, confirmed := false, listenEnd := none } } false

/-- A cold-start conflict of equal ranks: one announce where none has gone out, the fault source, and a random backoff
(R135). -/
def rankConflict (s : State) : State :=
  let s1 := if s.ring.state = .listen then
    sendAnnounce { s with ring := { s.ring with annC0 := quant (nt16 s) + 3 * (s.cyc.image.map tcyc).getD 0 } } false else s
  let s2 := feedSystem (countRing (goState s1 .rankBackoff) 13) 271 0 0
  let k := drawVal s2 16
  let s3 := drawn s2
  { s3 with ring := { s3.ring with backoffEnd := now s3 + k * tcycTicks s3 } }

/-- The counter is set: the correction is abandoned, the setting counted, and what goes by network time moves to the new time:
gates, the sampling instants and the last captured edges, with which later ones cannot be compared (R84, R103, R205, R212). -/
def setCounter (s : State) (t16 : Nat) : State :=
  let s0 := abandon (countRing { s with time := { s.time with nt := t16 * 2 ^ 32 } } 5)
  let per := s0.eg.qsPeriod * 1000
  let s1 := { s0 with
    eg := { s0.eg with qsNext := if per = 0 then s0.eg.qsNext else ceilDiv t16 (ns16 per) * per }
    time := { s0.time with caps := s0.time.caps.map (fun e => (e.1, { e.2 with lastEdge := none })) }
    ports := { s0.ports with port := s0.ports.port.map (fun e => (e.1, { e.2 with frameWas := none })) } }
  (List.range 18).foldl (fun t p => match (gateAt t p).pend with
    | some (_, act) => if act ≤ nt16 t then gateActivate (count t 0x0D p 7) p else positionGates t p
    | none => positionGates t p) s1

/-- The node enters INTEGRATING with the time, origin and cycle number it has received (R137). -/
def enterIntegrating (s : State) (t16 c0 n keystone : Nat) : State :=
  let s1 := setCounter (goState s .integrating) t16
  { s1 with
    cyc := { s1.cyc with c0 := some c0, n := n }
    ring := { s1.ring with keystone := keystone, listenEnd := none }
    time := { s1.time with consistent := 0, intCycles := 0
                           gptpStopped := s1.time.gptpStopped || !s1.time.everSync } }

/-- Claims of a synchronised node leave UNCLAIMED (R76, R79). -/
def startClaims (s : State) : State :=
  (ownPiers s).foldl (fun t p =>
    if (claimAt t p.idx).state = .unclaimed then setClaim t p.idx { state := .observing } else t) s

/-- The node enters SYNCHRONISED (R79, R86, R101, R118, R127, R140). -/
def enterSynced (s : State) : State :=
  let s1 := abandon s
  startClaims { s1 with
    ring := { s1.ring with state := .synchronised, readmitted := false, listenEnd := none }
    time := { s1.time with timeValid := true, everSync := true, syncCycles := 0, pairsInSync := 0, thin := 0
                           thinArmed := false, holdover := false, gptpStopped := false } }

/-! ### Port states -/

/-- A ring event is due: EVENT, PORT and SUBJECT, with the cycle the loop changed in (R147). -/
def dueEvent (s : State) (ev : Nat) (e : RPort) (subject : Nat) : State :=
  { s with ring := { s.ring with evOut := s.ring.evOut ++ [(ev, rpBit e, subject, s.cyc.n)] } }

/-- What follows a change of port states: abutments begin and end, and a synchronised node with no port in the ring has
lost the ring (R107, R144, R147). -/
def afterPorts (s : State) (old : Option RPort) (fresh : List RPort) : State :=
  let s1 := fresh.foldl (fun t e => if inRing t e then t else moveTransit t e) s
  let s2 := match loopedPort s1 with
    | some x => if old = some x then s1 else signal (dueEvent s1 1 x (rport s1 x).beatFrom) 1784
    | none => s1
  let s3 := match old with
    | some x => if inRing s2 .east && inRing s2 .west then signal (dueEvent s2 2 x (rport s2 x).beatFrom) 1784 else s2
    | none => s2
  if s3.ring.state = .synchronised && !inRing s3 .east && !inRing s3 .west then ringRecheck (leaveSync s3 6 .offline)
  else s3

/-- A ring port takes a state (R144). -/
def setPortState (s : State) (e : RPort) (st : PortState) : State :=
  if (rport s e).state = st then s
  else
    let x := rport s e
    let lost := st == .down || decide (8 ≤ x.beatMiss)
    let s1 := setRport s e { x with state := st, ready := x.ready && !lost, restore := 0, beatMiss := 0 }
    afterPorts s1 (loopedPort s) [e]

/-- Both ring ports go IN_RING at once where they have link (R144, R156). -/
def bothInRing (s : State) : State :=
  let f := fun (t : State) (e : RPort) =>
    if (rport t e).state = .down then t
    else setRport t e { rport t e with state := .inRing, restore := 0, beatMiss := 0, beatRun := 0, beatSeen := false }
  afterPorts (f (f s .east) .west) (loopedPort s) [.east, .west]

/-! ### Reports -/

/-- The lap check of R46: the lap-overrun event and its fault source. -/
def lapCheck (s : State) : State :=
  match s.cyc.image with
  | none => s
  | some i =>
    let bad := fun r => decide (mts i i.lambda < lap s r + 2 * piT i)
    if bad .cw || bad .ccw then feedSystem (signal s 1781) 268 0 0 else s

/-- The nodes present in the report chain (R130). -/
def chainNodes (s : State) : List Nat := (ringOrder s).map (·.1)

/-- The spans of a walk round the ring at which node numbers fall (R48, R130). -/
def seams : List Nat → Nat → Nat
  | [], _ => 0
  | [a], first => if first < a then 1 else 0
  | a :: b :: t, first => (if b < a then 1 else 0) + seams (b :: t) first

/-- The CW port the chain gives (R130): the port through which the next higher node number is met first; from the highest
node, the lowest. -/
def chainCw (s : State) : Option RPort :=
  let e := (walk 64 s (me s) (me s) .east).map (·.1)
  let w := (walk 64 s (me s) (me s) .west).map (·.1)
  let all := e ++ w
  let goal := match (all.filter (fun n => decide (me s < n))).min? with
    | some n => some n
    | none => all.min?
  match goal with
  | none => none
  | some g =>
    if all.eraseDups.length ≤ 1 then
      (if me s < g then some .east
       else if s.ring.east.beatPort = 1 then some .east
       else if s.ring.west.beatPort = 1 then some .west else none)
    else match e.findIdx? (· == g), w.findIdx? (· == g) with
      | some i, some j => some (if i ≤ j then .east else .west)
      | some _, none => some .east
      | none, some _ => some .west
      | none, none => none

/-- The report chain closes on itself, or ends at two reports that each mark one port not valid (R131). -/
def chainComplete (s : State) : Bool :=
  let endOk := fun (out : RPort) =>
    let l := walk 64 s (me s) (me s) out
    let last := match l.getLast? with
      | none => (me s, out)
      | some e => (e.1, otherPort e.2)
    match reportAt s last.1 with
    | none => (none, false)
    | some r =>
      let valid := match last.2 with
        | .east => r.eastValid
        | .west => r.westValid
      (nbOf r last.2, valid)
  let a := endOk .east
  let b := endOk .west
  (a.2 && a.1 == some (me s)) || (!a.2 && !b.2 && (reportAt s (me s)).isSome)

/-- The CW port is learnt from the chain; a seam that is not unique is a ring-order fault (R130). -/
def learnCw (s : State) : State :=
  match chainCw s with
  | none => s
  | some e =>
    let s1 := { s with ring := { s.ring with cwPort := e, cwLearnt := true,
                                             cwChange := if e = s.ring.cwPort then s.ring.cwChange else now s } }
    if 1 < seams (chainNodes s1) (me s1) ∧ chainComplete s1 then feedSystem (countRing s1 8) 270 0 0 else s1

/-- The seam of the closed chain is unique. -/
def seamUnique (s : State) : Bool := decide (seams (chainNodes s) (me s) ≤ 1)

/-- A node in CALIBRATING enters LISTEN once its bursts have results and its chain is complete (R131). -/
def calCheck (s : State) : State :=
  let ok := fun (e : RPort) => (rport s e).state == .down || (rport s e).burstOk
  if s.ring.state = .calibrating && ok .east && ok .west && chainComplete s && seamUnique s then enterListen s else s

/-- Deviations of the previous measuring cycle are recomputed from its raw arrivals wherever the drifts are formed, so a
report changes nothing else here (R102). A report is applied: the table, the CW port, and the check of R46 (R95, R96). -/
def applyReport (s : State) (n : Nat) (r : Report) : State :=
  let old := (reportAt s n).getD {}
  let x : Report := { r with
    eastIn := if r.eastValid then r.eastIn else old.eastIn
    westIn := if r.westValid then r.westIn else old.westIn
    eastNb := if r.eastValid then r.eastNb else old.eastNb
    westNb := if r.westValid then r.westNb else old.westNb
    bypassed := old.bypassed }
  let s1 := { s with ring := { s.ring with reports := tblInsert n x (tblErase s.ring.reports n) } }
  let own := fun (t : State) (e : RPort) (valid : Bool) =>
    if n = me s ∧ valid = true ∧ (rport t e).burstOk = true then setRport t e { rport t e with reportApplied := true } else t
  lapCheck (learnCw (own (own s1 .east r.eastValid) .west r.westValid))

/-! ### Bypass -/

/-- Number of a cause of R442: 0 NOT_READY, 1 CORE_DOWN, 2 FALLBACK, 3 PLL_LOSS, 4 RING_OUT, 5 COMMAND. -/
def setCause (s : State) (c : Nat) : State :=
  { s with boot := { s.boot with cause := s.boot.cause ||| 2 ^ c } }

/-- A cause of the bypass is over; with the last one the ring is observed through the bypass copy for 1 ms from here (R156, R442). -/
def clearCause (s : State) (c : Nat) : State :=
  let left := if bitOf s.boot.cause c then s.boot.cause - 2 ^ c else s.boot.cause
  let s1 := { s with boot := { s.boot with cause := left } }
  if left = 0 ∧ s.boot.cause ≠ 0 then
    { s1 with ring := { s1.ring with bypassBeats := 0, bypassC0 := none, bypassSince := now s1 } }
  else s1

/-- NOT_READY follows the Ring region and the image in force (R442). -/
def notReady (s : State) : State :=
  if inService s .ring && s.cyc.image.isSome then clearCause s 0
  else if inService s .ring then setCause s 0 else s

/-- The bypass joins EAST and WEST: the node goes OFFLINE and its egresses are empty (R127, R153, R154); the operation is recorded
(R442). -/
def bypassNow (s : State) : State :=
  let s1 := clearEgress (clearEgress (enterOffline (recordOp s 2) true) .east) .west
  { s1 with
    ring := { s1.ring with bypassOn := true, reasm := [], bypassBeats := 0, bypassC0 := none
                           bypassSince := now s1, evOut := [] }
    boot := { s1.boot with opState := if s1.boot.opState = 1 ∧ s1.boot.opLast = 2 then 2 else s1.boot.opState } }

end Sys2Proof.Machine
end

