-- ==== Sys2Proof/Machine/RingSync.lean ====
section
/-! DEFINITION. RingSync.lean: cycle boundaries, clock correction, slot buffers and their sending, mini-slots, hold periods
and pier claims (chapters 2 and 3). -/

namespace Sys2Proof.Machine

open Sys2Proof

/-! ### Measuring (R98 to R102) -/

/-- Whether a frame of an origin reaches this node across the seam on a rotation (R51). -/
def wrapped (s : State) (rot : Rot) (origin : Nat) : Bool :=
  match rot with
  | .cw => decide (me s < origin)
  | .ccw => decide (origin < me s)

/-- The expected arrival of a static slot's frame of an origin (R98). -/
def tExp (s : State) (i : Image) (n : Nat) (rot : Rot) (slot origin : Nat) : Int :=
  (tSend s i n rot slot + (if wrapped s rot origin then lap s rot else 0) : Nat) - (ownHop s rot : Nat)

/-- Twice the value of a sync node in 2⁻¹⁶ ns: the mean of its two deviations, or the one present (R99). -/
def valueOf (s : State) (i : Image) (n : Nat) (v : SyncVal) : Option Int :=
  match i.sync.find? (fun e => e.1 == v.node) with
  | none => none
  | some (node, slot) =>
    let dev := fun (rot : Rot) (a : Option Nat) => a.map (fun t => (t : Int) - tExp s i n rot slot node)
    match dev .cw v.arrCW, dev .ccw v.arrCCW with
    | some a, some b => some (a + b)
    | some a, none => some (2 * a)
    | none, some b => some (2 * b)
    | none, none => none

/-- The values of a measuring cycle, by node; a synchronised sync node counts itself with 0 (R99, R138). -/
def valuesOf (s : State) (i : Image) (n : Nat) (l : List SyncVal) : List (Nat × Int) :=
  (if synced s && i.sync.any (fun e => e.1 == me s) then [(me s, 0)] else []) ++
    l.filterMap (fun v => if v.node = me s then none else (valueOf s i n v).map (fun x => (v.node, x)))

/-- Signed numbers in rising order. -/
def sortInt (l : List Int) : List Int :=
  l.foldr (fun x acc => acc.filter (fun y => decide (y < x)) ++ x :: acc.filter (fun y => decide (x ≤ y))) []

/-- The mean of doubled values, truncated towards zero to 2⁻¹⁶ ns. -/
def meanOf (l : List Int) : Int := Int.tdiv l.sum (2 * l.length)

/-- The fault-tolerant midpoint of doubled values (R100); an integrating node with fewer than 3 takes their mean (R138). -/
def ftm (integrating : Bool) (l : List Int) : Option Int :=
  let n := l.length
  if n < 3 then (if integrating && decide (0 < n) then some (meanOf l) else none)
  else
    let k := if n < 8 then 1 else 2
    some (meanOf (((sortInt l).drop k).take (n - 2 * k)))

/-- The drifts of the sync nodes valued in both measuring cycles, doubled (R101, R102). -/
def driftsOf (s : State) (i : Image) (now2 : List (Nat × Int)) : List Int :=
  match s.time.prev with
  | none => []
  | some p =>
    let old := valuesOf s i s.time.prevCycle p
    now2.filterMap (fun e =>
      if e.1 = me s then some 0
      else (old.find? (fun o => o.1 == e.1)).map (fun o => e.2 - o.2 - 2 * s.time.phiPrev))

/-- The rate correction that drifts give (R101). -/
def rateOf (s : State) (i : Image) (integrating : Bool) (drifts : List Int) : Int :=
  match ftm integrating drifts with
  | none => s.time.rho
  | some d => s.time.rho - roundDiv (d * 65536) (2 * tcycNs i)

/-- End of a measuring cycle: the correction pair is formed and checked (R101, R104, R107, R139). -/
def correctionPair (s : State) (i : Image) : State :=
  let vals := valuesOf s i s.cyc.n s.time.cur
  let n := vals.length
  let integ := s.ring.state == .integrating
  let phi := (ftm integ (vals.map (·.2))).map (fun x => -x)
  let rho := rateOf s i integ (driftsOf s i vals)
  let thin := decide (n < 3)
  let out := synced s && thin && decide (3 ≤ s.time.outWin)
  let fail := match phi with
    | none => 0
    | some p => if (i.phiLim * 65536 : Nat) < p.natAbs then 1 else if i.rhoLim < rho.natAbs then 2 else 0
  let apply := fail == 0 && phi.isSome
  let s1 := { s with time := { s.time with
    nval := n % 16, prev := some s.time.cur, prevCycle := s.cyc.n, cur := [], outWin := 0
    phiNext := if apply then phi else none
    rhoNext := if apply then some rho else none
    phiPrev := if apply then phi.getD 0 else 0
    limitFail := if synced s then fail else 0
    thin := if !thin then 0 else if synced s && s.time.thinArmed then s.time.thin + 1 else s.time.thin
    thinArmed := s.time.thinArmed || (synced s && !thin) } }
  let s2 := perf s1 (pPkg 1)
  let s3 := if thin then perf s2 (pPkg 2) else s2
  if out then leaveSync s3 3 .listen
  else if integ then
    let good : Bool := match phi with
      | some p => decide (p.natAbs ≤ piT i)
      | none => false
    let c : Nat := if good then s3.time.consistent + 1 else 0
    let s4 := { s3 with time := { s3.time with consistent := c, intCycles := s3.time.intCycles + 1 } }
    if fail ≠ 0 then countRing (goState s4 .listen) 14
    else if 2 ≤ c then enterSynced s4
    else if 16 ≤ s4.time.intCycles then countRing (goState s4 .listen) 14
    else s4
  else s3

/-- A node that integration or loss of synchronisation has put in LISTEN starts its listen period. -/
def listenIfNew (before after : State) : State :=
  if after.ring.state = .listen ∧ before.ring.state ≠ .listen then startListen after else after

/-- End of an applying cycle: a failed check of R104 or starvation ends synchronisation, else the rate takes effect (R103,
R104, R107). -/
def pairEnd (s : State) (i : Image) : State :=
  if synced s && s.time.limitFail != 0 then leaveSync s s.time.limitFail .listen
  else if synced s && decide (i.nStarve ≤ s.time.thin) then leaveSync s 4 .listen
  else
    { s with time := { s.time with rho := s.time.rhoNext.getD s.time.rho, rhoNext := none, phiNext := none
                                   pairsInSync := if synced s && s.time.prev.isSome then s.time.pairsInSync + 1
                                                  else s.time.pairsInSync } }

/-! ### Ring events and reports at boundaries -/

/-- A port whose span runs to a node, by this node's report or by the last beat, starts a burst (R94). -/
def burstTowards (s : State) (node : Nat) : State :=
  let one := fun (t : State) (e : RPort) =>
    if (reportAt s (me s)).bind (fun r => nbOf r e) = some node ∨ (rport s e).beatFrom = node then startBurst t e else t
  one (one s .east) .west

/-- A bypass event is applied: the hop delay of its subject is replaced, and a burst runs on this node's spans to it (R94, R147,
R155). -/
def applyBypassEvent (s : State) (ev subject : Nat) : State :=
  let s1 := { s with ring := { s.ring with recentEvs := (ev, subject, s.cyc.n, now s) :: s.ring.recentEvs } }
  burstTowards (match reportAt s1 subject with
    | none => s1
    | some r => lapCheck { s1 with ring := { s1.ring with
        reports := tblInsert subject { r with bypassed := ev == 3 } (tblErase s1.ring.reports subject) } }) subject

/-- What was applied in a cycle and at a tick lies in the last 8 cycles: by cycle numbers where an origin is held, else by the node's
own counter (R126, R147). -/
def inLast8 (s : State) (n t : Nat) : Bool :=
  if s.cyc.c0.isSome then decide (s.cyc.n < n + 8) else decide (now s < t + 8 * tcycTicks s)

/-- An event equal to one applied in the last 8 cycles. DESIGN CHOICE (log entry 99): the rule on equal EVENT and SUBJECT is used for
bypass events; ABUT events, whose SUBJECT does not identify their span, are told apart by the span (R147). -/
def recentEvent (s : State) (ev subject : Nat) : Bool :=
  s.ring.recentEvs.any (fun e => e.1 == ev && e.2.1 == subject && inLast8 s e.2.2.1 e.2.2.2)

/-- What the start of an odd cycle applies: reports and bypass events whose cycle has come (R95, R147). -/
def applyDue (s : State) : State :=
  let n := s.cyc.n
  let reps := s.ring.pendReps.filter (fun p => decide (p.cycle ≤ n))
  let evs := s.ring.pendEvs.filter (fun p => decide (p.cycle ≤ n))
  let s1 := { s with ring := { s.ring with pendReps := s.ring.pendReps.filter (fun p => decide (n < p.cycle))
                                           pendEvs := s.ring.pendEvs.filter (fun p => decide (n < p.cycle)) } }
  let s2 := reps.foldl (fun t p => applyReport t p.node p.rep) s1
  calCheck (evs.foldl (fun t p => if recentEvent t p.ev p.subject then t else applyBypassEvent t p.ev p.subject) s2)

/-- The count of beats of a port at a cycle's end (R142, R149). -/
def beatCycle (s : State) (e : RPort) : State :=
  let x := rport s e
  setRport s e (if x.beatSeen then { x with beatSeen := false, beatRun := x.beatRun + 1, beatMiss := 0 }
    else { x with beatRun := 0, beatMiss := x.beatMiss + 1 })

/-- READY is set once a port has link, 8 cycles of beats and an applied report (R149). -/
def readyCheck (s : State) (e : RPort) : State :=
  let x := rport s e
  if x.link ∧ 8 ≤ x.beatRun ∧ x.reportApplied then setRport s e { x with ready := true } else s

/-- A restore cycle that the other end has not repeated by the start of the cycle before it is given up (R149). -/
def restoreCheck (s : State) (e : RPort) : State :=
  let x := rport s e
  if x.restore ≠ 0 ∧ s.cyc.n + 1 = x.restore ∧ x.beatRestore ≠ x.restore % 2 ^ 32 then
    setRport s e { x with restore := 0 } else s

/-- OFFSET_SLEW (R103): in the network-idle interval of an applying cycle the slew begins. -/
def offsetSlew (s : State) : State :=
  match s.cyc.image, boundary s (s.cyc.n + 1), s.time.phiNext with
  | some i, some c, some phi =>
    if s.cyc.n % 2 = 1 ∧ c ≤ nt16 s + mts i i.lnit then
      { s with time := { s.time with slew := some (phi, 0), phiNext := none } }
    else s
  | _, _, _ => s

/-! ### Hold periods (R232) -/

/-- HOLD_RAISE (R232): 143 octet times and Π before the express period the egress is kept free of preemptable traffic. -/
def holdRaise (s : State) (e : RPort) : State :=
  match s.cyc.image, boundary s s.cyc.n with
  | some i, some _ =>
    let rot := rotOfPort s e
    let lead := octetTime (ringMbps s) 143 + piT i
    let dueAt := fun (n : Nat) => decide ((boundary s n).getD 0 + sigma s rot ≤ nt16 s + lead) &&
      decide (nt16 s ≤ expressEnd s i n rot + piT i)
    let n := if dueAt (s.cyc.n + 1) then s.cyc.n + 1 else s.cyc.n
    if !(synced s && hasExpress i && dueAt n) then s
    else if (rtx s e).hold then setRtx s e { rtx s e with holdCyc := max (rtx s e).holdCyc n }
    else ringInterrupt (countPort (setRtx s e { rtx s e with hold := true, holdCyc := n }) (rpIdx e) 55) e
  | _, _ => s

/-- HOLD_RELEASE (R232): Π after the express period it was raised for the hold ends. -/
def holdRelease (s : State) (e : RPort) : State :=
  match s.cyc.image with
  | some i =>
    if (rtx s e).hold ∧ expressEnd s i (rtx s e).holdCyc (rotOfPort s e) + piT i ≤ nt16 s then
      setRtx s e { rtx s e with hold := false } else s
  | none => s

/-! ### Slot buffers (R60 to R64) -/

/-- A transmit slot buffer. -/
def txAt (s : State) (b : Nat) : TxBuf := tblGet {} s.cyc.tx b

/-- The state with a transmit slot buffer replaced. -/
def setTx (s : State) (b : Nat) (x : TxBuf) : State := { s with cyc := { s.cyc with tx := tblSet {} s.cyc.tx b x } }

/-- A receive slot buffer. -/
def rxAt (s : State) (b : Nat) : RxBuf := tblGet {} s.cyc.rx b

/-- The state with a receive slot buffer replaced. -/
def setRx (s : State) (b : Nat) (x : RxBuf) : State := { s with cyc := { s.cyc with rx := tblSet {} s.cyc.rx b x } }

/-- The image's entry of a transmit buffer of this node. -/
def txEnt (s : State) (b : Nat) : Option BufEnt :=
  match s.cyc.image with
  | none => none
  | some i => i.tx.find? (fun e => e.node == me s && e.buf == b)

/-- The image's entry of a receive buffer of this node. -/
def rxEnt (s : State) (b : Nat) : Option BufEnt :=
  match s.cyc.image with
  | none => none
  | some i => i.rx.find? (fun e => e.node == me s && e.buf == b)

/-- The withdrawal's announcement runs in a cycle: WITHDRAW is carried (R490). -/
def withdrawing (s : State) (cyc : Nat) : Bool :=
  match s.ring.withdrawAt with
  | some n => decide (s.ring.withdrawFrom ≤ cyc) && decide (cyc < n)
  | none => false

/-- The zero filler of a buffer: 46 bytes, or its capacity where smaller (R97, R490). -/
def filler (e : BufEnt) : Octets := List.replicate (min 46 e.cap) 0

/-- A transmit buffer sends in a cycle: its phase applies, and it is synchronised; a pier slot only under claim (R54, R73, R112). -/
def txActive (s : State) (e : BufEnt) (cyc : Nat) : Bool :=
  synced s && (cyc % 64 % e.m == e.b) &&
    (match s.cyc.image with
      | none => false
      | some i => if e.isDyn then i.dyn.any (fun d => d.1 == e.id && d.2 == me s) else holdsSlot s i e.id cyc)

/-- The content latched for a rotation. -/
def TxBuf.lat (x : TxBuf) : Rot → Option (Nat × Octets)
  | .cw => x.latCW
  | .ccw => x.latCCW

/-- The occurrence last fetched for a rotation. -/
def TxBuf.fet (x : TxBuf) : Rot → Option (Nat × Nat)
  | .cw => x.fetCW
  | .ccw => x.fetCCW

/-- The pending flag of a rotation (R68). -/
def TxBuf.pend (x : TxBuf) : Rot → Bool
  | .cw => x.pendCW
  | .ccw => x.pendCCW

/-- A buffer with the latch and the occurrence of a rotation replaced. -/
def TxBuf.setLat (x : TxBuf) (rot : Rot) (l : Option (Nat × Octets)) (f : Option (Nat × Nat)) : TxBuf :=
  match rot with
  | .cw => { x with latCW := l, fetCW := f }
  | .ccw => { x with latCCW := l, fetCCW := f }

/-- The tick of the 625 MHz RING domain (R37, R61). -/
def ringTick (s : State) : Nat := now s / 2

/-- What the fetch point of an occurrence in a cycle latches: the front half, where it is to be sent on that rotation; a dynamic frame
only while it is pending there (R61, R62, R68, R490). -/
def fetchContent (s : State) (e : BufEnt) (x : TxBuf) (rot : Rot) (cyc : Nat) : Option Octets :=
  let fresh := match rot with
    | .cw => x.newCW
    | .ccw => x.newCCW
  if e.isDyn && !(x.pend rot || withdrawing s cyc) then none
  else match x.front with
    | none => if withdrawing s cyc then some (filler e) else none
    | some d => if !e.sendNothing || fresh || withdrawing s cyc then some d else none

/-- The fetch point of an occurrence latches a buffer's content with its SEQ (R61). -/
def latch (s : State) (b : Nat) (e : BufEnt) (rot : Rot) (cyc : Nat) : State :=
  let x := txAt s b
  let q := if x.sentCur then x.seq else (x.seq + 1) % 65536
  setTx s b (x.setLat rot ((fetchContent s e x rot cyc).map (fun d => (q, d))) (some (cyc, ringTick s)))

/-- The transmitter's read of a buffer ends on a rotation; a swap that waited takes place (R61, R64). -/
def txReadEnd (s : State) (b : Nat) (rot : Rot) : State :=
  let x := txAt s b
  let x1 := x.setLat rot none (x.fet rot)
  setTx s b (if x1.latCW.isNone && x1.latCCW.isNone then x1.unread else x1)

/-- The fetch of a rotation took place in the present tick. -/
def fetchedNow (s : State) (x : TxBuf) (rot : Rot) : Bool :=
  match x.fet rot with
  | some (_, t) => t == ringTick s
  | none => false

/-- A fetch of the present tick takes place again, with what a write of this tick has put in front (R64). -/
def refetch (s : State) (b : Nat) (rot : Rot) : State :=
  match txEnt s b, (txAt s b).fet rot with
  | some e, some (cyc, _) => latch s b e rot cyc
  | _, _ => s

/-- A write of a transmit slot buffer completes: the halves swap, or wait for the transmitter's read; a fetch in the same tick takes the
new content; a dynamic frame is pending on each rotation (R61, R64, R68). -/
def txWrite (s : State) (b : Nat) (d : Octets) : State :=
  let x := txAt s b
  let x1 := { x with pendCW := true, pendCCW := true }
  let cw := fetchedNow s x .cw
  let ccw := fetchedNow s x .ccw
  if (x.latCW.isSome && !cw) || (x.latCCW.isSome && !ccw) then setTx s b { x1 with back := some d }
  else
    let s1 := setTx s b (({ x1 with latCW := none, latCCW := none } : TxBuf).swap d)
    let s2 := if cw then refetch s1 b .cw else s1
    if ccw then refetch s2 b .ccw else s2

/-- The instant after the start of a cycle at which a static slot's frame starts on a rotation (R51). -/
def sendOffset (s : State) (i : Image) (rot : Rot) (k : Nat) : Nat :=
  sigma s rot + mts i ((winPos i rot k - 1) * i.lst) + mts i i.apo

/-- The cycle of the slot occurrence whose t_send is the latest by an instant; none before the first (R51). -/
def occCycle (s : State) (i : Image) (rot : Rot) (k t : Nat) : Option Nat :=
  match s.cyc.c0 with
  | none => none
  | some c =>
    if tcyc i = 0 ∨ t < c + sendOffset s i rot k then none else some ((t - (c + sendOffset s i rot k)) / tcyc i)

/-- The header of an own slot frame (R57, R61, R74, R490). -/
def slotHdr (s : State) (i : Image) (e : BufEnt) (x : TxBuf) (rot : Rot) (q cyc : Nat) : Hdr :=
  let pier := !e.isDyn && ownerOf i e.id cyc != some (me s)
  let first := match rot with
    | .cw => x.firstCW
    | .ccw => x.firstCCW
  let sync := !e.isDyn && i.sync.contains (me s, e.id)
  { etype := i.etype, seg := b2n e.isDyn, rot := (match rot with
      | .cw => 0
      | .ccw => 1), origin := me s, id := e.id, cyc := cyc % 64, seq := q
    flags := b2n sync + 2 * b2n pier + 4 * b2n (withdrawing s cyc) + 8 * b2n first }

/-- An own express frame starts on a rotation with the guardian's window closing at `close`; through a port that is not in
the ring it is not sent, and on an egress that is not free it is late (R61, R62, R111, R115, R145). -/
def startExpress (s : State) (i : Image) (b : Nat) (e : BufEnt) (rot : Rot) (cyc q : Nat) (d : Octets) (close : Nat) : State :=
  let port := portOfRot s rot
  let x := txAt s b
  let o := ringFrame d (slotHdr s i e x rot q cyc)
  if !inRing s port then
    txReadEnd (perf (countPort s (rpIdx port) 34) (pRot rot 11)) b rot
  else if !egressFree s port then txReadEnd (countPort (ringInterrupt s port) (rpIdx port) 29) b rot
  else
    let x1 := match rot with
      | .cw => { x with firstCW := false, newCW := false, pendCW := false, seq := q, sentCur := true }
      | .ccw => { x with firstCCW := false, newCCW := false, pendCCW := false, seq := q, sentCur := true }
    perf (expressStart (setTx s b x1) port o close true true (some b)) (pRot rot (b2n e.isDyn))

/-- An own express frame is due at an instant: it starts, within 1 ns of it, or is late (R111). -/
def sendAt (s : State) (i : Image) (b : Nat) (e : BufEnt) (rot : Rot) (cyc q : Nat) (d : Octets) (at' close : Nat) : State :=
  if at' + ns16 1 < nt16 s then txReadEnd (countPort s (rpIdx (portOfRot s rot)) 29) b rot
  else startExpress s i b e rot cyc q d close

/-- GUARDIAN_CUT (R112): an own express frame still in transmission when its window closes is cut off. -/
def guardianCut (s : State) (e : RPort) : State :=
  let x := rtx s e
  if x.express.isSome && x.exOwn && (!synced s || decide (x.exClose ≤ nt16 s)) then
    let s1 := cutOwn s e
    match x.exBuf with
    | some b => txReadEnd s1 b (rotOfPort s e)
    | none => s1
  else s

/-- A forwarded express frame that is not complete at the end of its window is cut off or not begun, and counted. DESIGN CHOICE (log
entry 100): on the egress that cuts it (R114). -/
def windowOver (s : State) (e : RPort) : State := perf (countPort s (rpIdx e) 31) (pRot (rotOfPort s e) 9)

/-- FORWARD_WINDOW_CUT (R114): a forwarded express frame not complete at the end of its window is cut off, and counted on the egress. DESIGN
CHOICE (log entry 100): R114 does not say on which port. -/
def forwardCut (s : State) (e : RPort) : State :=
  let x := rtx s e
  if x.express.isSome && !x.exOwn && decide (x.exClose ≤ nt16 s) then expressCut (windowOver s e) e
  else match x.exNext with
    | some (_, close, _) => if close ≤ nt16 s then windowOver (setRtx s e { x with exNext := none }) e else s
    | none => s

/-- The last octet of an express frame and its gap have left a ring port: its buffer's read ends (R61, R64, R259). -/
def expressTxEnd (s : State) (e : RPort) : State :=
  let x := rtx s e
  if !due s x.exEnd then s
  else
    let s1 := expressDone s e
    match x.exBuf with
    | some b => txReadEnd s1 b (rotOfPort s e)
    | none => s1

/-! ### The dynamic segment (R68 to R70) -/

/-- The frame IDs of an image in rising order. -/
def dynIds (i : Image) : List Nat := (i.dyn.map (·.1)).foldr (fun x acc =>
  acc.filter (fun y => decide (y < x)) ++ x :: acc.filter (fun y => decide (x < y))) []

/-- The counter, the index of the next boundary and the frames that hold the counter on a rotation. -/
def msOf (s : State) (rot : Rot) : Option Nat × Nat × List (Nat × Nat) :=
  match rot with
  | .cw => (s.cyc.msCW, s.cyc.msIdxCW, s.cyc.dynBusyCW)
  | .ccw => (s.cyc.msCCW, s.cyc.msIdxCCW, s.cyc.dynBusyCCW)

/-- The state with a rotation's mini-slot counter, index and holding frames replaced. -/
def setMs (s : State) (rot : Rot) (c : Option Nat) (j : Nat) (busy : List (Nat × Nat)) : State :=
  match rot with
  | .cw => { s with cyc := { s.cyc with msCW := c, msIdxCW := j, dynBusyCW := busy } }
  | .ccw => { s with cyc := { s.cyc with msCCW := c, msIdxCCW := j, dynBusyCCW := busy } }

/-- The own dynamic frame that starts at its window's opening on a rotation: buffer and boundary. -/
def armOf (s : State) (rot : Rot) : Option (Nat × Nat) :=
  match rot with
  | .cw => s.cyc.armCW
  | .ccw => s.cyc.armCCW

/-- The state with that replaced. -/
def setArm (s : State) (rot : Rot) (a : Option (Nat × Nat)) : State :=
  match rot with
  | .cw => { s with cyc := { s.cyc with armCW := a } }
  | .ccw => { s with cyc := { s.cyc with armCCW := a } }

/-- The first frame ID of a rotation's order. -/
def msFirst (i : Image) (rot : Rot) : Option Nat :=
  match rot with
  | .cw => (i.dyn.map (·.1)).min?
  | .ccw => (i.dyn.map (·.1)).max?

/-- The counter's next ID; none once the node has passed its own last ID (R69). DESIGN CHOICE (log entry 101): the next ID is the next
number, whether or not the image has a frame of that ID. -/
def msNext (s : State) (i : Image) (rot : Rot) (c : Nat) : Option Nat :=
  let mine := (i.dyn.filter (fun e => e.2 == me s)).map (·.1)
  match rot with
  | .cw => if mine.any (fun x => decide (c < x)) then some (c + 1) else none
  | .ccw => if mine.any (fun x => decide (x < c)) then some (c - 1) else none

/-- The instant of a mini-slot boundary in the node's view (R69). -/
def msBound (s : State) (i : Image) (rot : Rot) (j : Nat) : Nat := dynStart s i s.cyc.n rot + mts i (j * i.lms)

/-- A frame of an earlier boundary still occupies the span at boundary `j` (R69). -/
def msHeld (s : State) (i : Image) (rot : Rot) (j : Nat) : Bool :=
  (msOf s rot).2.2.any (fun b => decide (b.1 < j) && decide (msBound s i rot j ≤ b.2))

/-- The counter at boundary `j`, given what it is at the boundary before (R69). -/
def msStep (s : State) (i : Image) (rot : Rot) (c : Option Nat) (j : Nat) : Option Nat :=
  if j = 0 then msFirst i rot
  else match c with
    | none => none
    | some c => if msHeld s i rot j then some c else msNext s i rot c

/-- The mini-slot counter at the boundary that comes next (R69). -/
def msCounter (s : State) (i : Image) (rot : Rot) : Option Nat := msStep s i rot (msOf s rot).1 (msOf s rot).2.1

/-- The counter at boundary `j` as far as it is known: the one in use, or from there on as the frames seen so far hold it (R69, R113). -/
def counterAt (s : State) (i : Image) (rot : Rot) (j : Nat) : Option Nat :=
  let m := msOf s rot
  (List.range (j + 1 - m.2.1)).foldl (fun c k => msStep s i rot c (m.2.1 + k)) m.1

/-- The transmit buffer of this node for a dynamic frame ID whose phase applies in the present cycle (R60, R68). -/
def dynBuf (s : State) (i : Image) (id : Nat) : Option BufEnt :=
  i.tx.find? (fun e => e.node == me s && e.isDyn && e.id == id && s.cyc.n % 64 % e.m == e.b)

/-- A dynamic frame with a content that starts at a boundary + APO leaves the span at least g before the dynamic segment ends in the
node's view (R70). -/
def dynFits (s : State) (i : Image) (rot : Rot) (bnd len : Nat) : Bool :=
  decide (bnd + mts i i.apo + tOcc s (max 64 (len + 20)) + mts i i.g ≤ dynEnd s i s.cyc.n rot)

/-- At a boundary where the counter equals an own ID whose frame is pending and fits, the frame is due at the boundary + APO;
otherwise its ID stays empty on this rotation in this cycle (R70). -/
def dynArm (s : State) (i : Image) (rot : Rot) (id bnd : Nat) : State :=
  match dynBuf s i id with
  | none => s
  | some e =>
    let x := txAt s e.buf
    let d := (x.lat rot).map (·.2) |>.or (fetchContent s e x rot s.cyc.n)
    match d with
    | some d =>
      if txActive s e s.cyc.n && dynFits s i rot bnd d.length then setArm s rot (some (e.buf, bnd))
      else txReadEnd s e.buf rot
    | none => s

/-- MINI_SLOT_BOUNDARY (R69): at a boundary in the node's view the counter starts, holds or steps, and an own pending frame
is due after it (R70). -/
def miniSlot (s : State) (rot : Rot) : State :=
  match s.cyc.image with
  | none => s
  | some i =>
    let m := msOf s rot
    let bnd := msBound s i rot m.2.1
    if !synced s || decide (i.ndyn ≤ m.2.1) || decide (nt16 s + ns16 8 ≤ bnd) then s
    else
      let counter := msCounter s i rot
      let s1 := setArm (setMs s rot counter (m.2.1 + 1) (m.2.2.filter (fun b => decide (bnd ≤ b.2)))) rot none
      match counter with
      | some c =>
        if !msHeld s i rot m.2.1 && i.dyn.any (fun e => e.1 == c && e.2 == me s) then dynArm s1 i rot c bnd else s1
      | none => s1

/-- The boundary at which an own dynamic frame ID is, or will next be, the counter's (R61, R69). -/
def dynBoundOf (s : State) (i : Image) (rot : Rot) (id : Nat) : Option Nat :=
  let m := msOf s rot
  if m.1 = some id ∧ 0 < m.2.1 then some (msBound s i rot (m.2.1 - 1))
  else if msCounter s i rot = some id then some (msBound s i rot m.2.1)
  else none

/-- SLOT_FETCH_POINT (R61, R68): 96 ns before t_send of an occurrence on a rotation the transmitter latches the front half of its
buffer, once for an occurrence of a static slot. -/
def slotFetch (s : State) (b : Nat) (rot : Rot) : State :=
  match s.cyc.image, txEnt s b with
  | some i, some e =>
    let fresh := fun (n at' : Nat) => txActive s e n && decide (nt16 s < at' + ns16 1) && decide (at' ≤ nt16 s + ns16 104)
    if e.isDyn then
      (match dynBoundOf s i rot e.id with
        | some bnd => if fresh s.cyc.n (bnd + mts i i.apo) && (rtx s (portOfRot s rot)).exBuf != some b
                        then latch s b e rot s.cyc.n else s
        | none => s)
    else match occCycle s i rot e.id (nt16 s + ns16 104) with
      | some n => if fresh n (tSend s i n rot e.id) && ((txAt s b).fet rot).map (·.1) != some n then latch s b e rot n else s
      | none => s
  | _, _ => s

/-- A dynamic frame that has started holds the counter until its span occupancy ends (R69). -/
def holdOwn (s : State) (i : Image) (rot : Rot) (bnd len : Nat) : State :=
  let m := msOf s rot
  setMs s rot m.1 m.2.1 ((m.2.1 - 1, bnd + mts i i.apo + tOcc s len) :: m.2.2)

/-- SLOT_SEND (R110, R111): the transmitter starts an express frame at its window's opening instant; a frame that cannot
start within 1 ns of it is late. -/
def slotSend (s : State) (b : Nat) (rot : Rot) : State :=
  match s.cyc.image, txEnt s b, (txAt s b).lat rot, (txAt s b).fet rot with
  | some i, some e, some (q, d), some (n, _) =>
    if (rtx s (portOfRot s rot)).exBuf == some b then s
    else if e.isDyn then
      (match armOf s rot with
        | some (b', bnd) =>
          if b' ≠ b ∨ nt16 s + ns16 8 ≤ bnd + mts i i.apo then s
          else
            let t := sendAt (setArm s rot none) i b e rot n q d (bnd + mts i i.apo) (dynEnd s i n rot - mts i i.g)
            if (rtx t (portOfRot s rot)).exBuf = some b then holdOwn t i rot bnd (max 64 (d.length + 20)) else t
        | none => s)
    else if nt16 s + ns16 8 ≤ tSend s i n rot e.id then s
    else if !txActive s e n then txReadEnd s b rot
    else sendAt s i b e rot n q d (tSend s i n rot e.id) (slotStart s i n rot e.id + mts i i.lst - mts i i.g)
  | _, _, _, _ => s

/-! ### Missed slots and piers (R66, R74 to R79) -/

/-- The receiver's view of a pier slot entry. -/
def expectAt (s : State) (x : Nat) : Expect := tblGet {} s.cyc.expects x

/-- The origin a slot is expected from in the present cycle: its owner, or the last origin accepted in an expected pier slot
(R66, R77). -/
def expectedOrigin (s : State) (i : Image) (k : Nat) : Option Nat :=
  match ownerOf i k s.cyc.n, pierOf i k s.cyc.n with
  | some o, _ => some o
  | none, some p => if (expectAt s p.idx).expected then some (expectAt s p.idx).origin else none
  | none, none => none

/-- A rotation's path from an owner to a port crosses one of some looped spans (R148, R253). -/
def crosses (s : State) (folds : List (Nat × Nat)) (e : RPort) (origin : Nat) : Bool :=
  let rec spans : List (Nat × RPort) → Nat → Bool
    | [], _ => false
    | (n, inp) :: t, stop => folds.contains (n, rpBit inp) || (n != stop && (folds.contains (n, rpBit (otherPort inp)) || spans t stop))
  loopedPort s == some e || folds.contains (me s, rpBit e) ||
    (match walk 64 s (me s) (me s) e with
      | [] => false
      | l => spans (l.map (fun x => (x.1, x.2))) origin)

/-- A rotation's path from an owner to a port crosses a span known to be looped (R148). -/
def crossesFold (s : State) (e : RPort) (origin : Nat) : Bool := crosses s s.ring.folds e origin

/-- The latent-error test leaves an origin out: a span on one of its rotations is looped, or its ABUT_OFF was applied less than 2 cycles
ago (R251, R253). -/
def latentOff (s : State) (origin : Nat) : Bool :=
  let folds := s.ring.folds ++ (s.ring.unfolded.filter (fun x => decide (s.cyc.n < x.2.2 + 2))).map (fun x => (x.1, x.2.1))
  crosses s folds .east origin || crosses s folds .west origin

/-- Whether a slot's frame was accepted on a port in the present occurrence. -/
def slotSeen (s : State) (k : Nat) (e : RPort) : Bool :=
  let c := tblGet {} s.cyc.seen k
  match e with
  | .east => c.east
  | .west => c.west

/-- The present occurrence's marks of a slot. -/
def checkAt (s : State) (k : Nat) : SlotCheck := tblGet {} s.cyc.seen k

/-- The state with a slot's marks replaced. -/
def setCheck (s : State) (k : Nat) (c : SlotCheck) : State :=
  { s with cyc := { s.cyc with seen := tblSet {} s.cyc.seen k c } }

/-- A slot's frame is marked as accepted on a port. -/
def markSeen (s : State) (k : Nat) (e : RPort) : State :=
  setCheck s k (match e with
    | .east => { checkAt s k with east := true }
    | .west => { checkAt s k with west := true })

/-- A slot's miss on a port is marked as counted (R66). -/
def markMissed (s : State) (k : Nat) (e : RPort) : State :=
  setCheck s k (match e with
    | .east => { checkAt s k with missE := true }
    | .west => { checkAt s k with missW := true })

/-- A slot's miss on a port has been counted in the present occurrence. -/
def slotMissCounted (s : State) (k : Nat) (e : RPort) : Bool :=
  match e with
  | .east => (checkAt s k).missE
  | .west => (checkAt s k).missW

/-- SLOT_MISSED (R66): the window of an expected slot has passed on a port with no frame accepted. -/
def slotMissed (s : State) (k : Nat) (e : RPort) : State :=
  match s.cyc.image with
  | none => s
  | some i => match expectedOrigin s i k with
    | none => s
    | some o =>
      let rot := match rotOfPort s e with
        | .cw => Rot.ccw
        | .ccw => .cw
      if !synced s || holdsSlot s i k s.cyc.n || slotSeen s k e || slotMissCounted s k e ||
          decide ((nt16 s : Int) < tExp s i s.cyc.n rot k o + (piT i : Nat)) then s
      else
        let s1 := perf (count (markMissed s k e) 0x07 (rpBit e * 2048 + k - 1) 0) (pRot rot 8)
        if s.cyc.withdrawn.contains (k, o) || crossesFold s e o then s1 else feedSystem s1 (258 + rpBit e) k 0

/-- An occurrence of a pier slot entry ends, once: the claim and the receiver's view advance (R74, R76, R77, R79). -/
def pierEnds (s : State) (p : Pier) : State :=
  if (checkAt s p.slot).done then s
  else
    let seen := slotSeen s p.slot .east || slotSeen s p.slot .west
    let x := expectAt s p.idx
    let n := if seen then 0 else x.empty + 1
    let x1 : Expect := if x.expected && decide (8 ≤ n) then {} else { x with empty := if x.expected then n else 0 }
    let s1 := setCheck { s with cyc := { s.cyc with expects := tblSet {} s.cyc.expects p.idx x1 } } p.slot
      { checkAt s p.slot with done := true }
    if !synced s || !(ownPiers s).contains p then s1
    else
      let c := claimAt s p.idx
      match c.state with
      | .observing => setClaim s1 p.idx { c with seen := false, count := if c.seen || seen then 0 else min 8 (c.count + 1) }
      | .claiming => setClaim s1 p.idx { c with seen := false, state := .held }
      | _ => setClaim s1 p.idx { c with seen := false }

/-- PIER_OCCURRENCE_END (R79): with the end of its cycle an occurrence of a pier slot ends (R74, R76). -/
def pierOccurrenceEnd (s : State) (k : Nat) : State :=
  match s.cyc.image, boundary s (s.cyc.n + 1) with
  | some i, some c => match pierOf i k s.cyc.n with
    | none => s
    | some p => if nt16 s < c then s else pierEnds s p
  | _, _ => s

/-- A claim that has seen 8 empty occurrences enters CLAIMING as the next occurrence begins: its first frames carry FIRST (R61, R74,
R79). -/
def startClaiming (s : State) (i : Image) (p : Pier) : State :=
  let c := claimAt s p.idx
  if synced s && c.state == .observing && decide (8 ≤ c.count) && s.cyc.n % 64 % p.m == p.b then
    (i.tx.filter (fun e => e.node == me s && !e.isDyn && e.id == p.slot)).foldl
      (fun t e => setTx t e.buf { txAt t e.buf with firstCW := true, firstCCW := true })
      (setClaim s p.idx { c with state := .claiming })
  else s

/-- A node that claims or holds a pier slot sees another's frame in it in a cycle: it releases the slot and backs off (R75). -/
def pierConflict (s : State) (k cyc : Nat) : State :=
  let s1 := countRing s 4
  let v := drawVal s1 64
  let s2 := match s.cyc.image.bind (fun i => pierOf i k cyc) with
    | some p => setClaim (drawn s1) p.idx { state := .backoff, backoff := v + 1 }
    | none => s1
  match s2.cyc.image with
  | none => s2
  | some i => (i.tx.filter (fun e => e.node == me s2 && !e.isDyn && e.id == k)).foldl (fun t e =>
      let one := fun (t : State) (rot : Rot) =>
        if (rtx t (portOfRot t rot)).exBuf = some e.buf then t else txReadEnd t e.buf rot
      one (one t .cw) .ccw) s2

/-- PIER_BACKOFF_END (R75): after the backoff the observation starts again. -/
def pierBackoffEnd (s : State) (k : Nat) : State :=
  (ownPiers s).foldl (fun t p =>
    let c := claimAt t p.idx
    if p.slot = k ∧ c.state = .backoff ∧ c.backoff = 0 then setClaim t p.idx { state := .observing } else t) s

/-! ### The cycle boundary (R47) -/

/-- Backoffs of pier claims run down by one cycle. DESIGN CHOICE (log entry 102): a backoff of k cycles counts k cycle boundaries, the
cycle in which it began counting as one (R75). -/
def backoffCycle (s : State) : State :=
  { s with cyc := { s.cyc with claims := s.cyc.claims.map (fun e =>
      (e.1, { e.2 with backoff := e.2.backoff - 1 })) } }

/-- A latched content whose occurrence has passed and that is not being sent is read no longer (R61). -/
def dropStale (s : State) (e : Nat × TxBuf) : State :=
  let one := fun (t : State) (rot : Rot) =>
    if ((e.2.fet rot).any (fun f => decide (f.1 < t.cyc.n))) && (e.2.lat rot).isSome &&
        (rtx t (portOfRot t rot)).exBuf != some e.1 then txReadEnd t e.1 rot else t
  one (one s .cw) .ccw

/-- The occurrences of pier slots that end with a cycle (R76, R77, R79). -/
def endPiers (s : State) (i : Image) : State :=
  (i.piers.filter (fun p => s.cyc.n % 64 % p.m == p.b)).foldl pierEnds s

/-- CYCLE_BOUNDARY (R47): at c_n of the next cycle everything bound to that boundary takes place. -/
def cycleBoundary (s : State) : State :=
  match s.cyc.image, boundary s (s.cyc.n + 1) with
  | some i, some c =>
    if nt16 s < c then s
    else
      let s0 := endPiers s i
      let s1 := if s.cyc.n % 2 = 1 then pairEnd s0 i
                else if synced s || s.ring.state == .integrating then correctionPair s0 i else s0
      let s2 := listenIfNew s s1
      let s3 := perf { s2 with cyc := { s2.cyc with n := s2.cyc.n + 1, msIdxCW := 0, msIdxCCW := 0, msCW := none
                                                    msCCW := none, dynBusyCW := [], dynBusyCCW := [], seen := []
                                                    armCW := none, armCCW := none }
                               time := { s2.time with
                                 syncCycles := s2.time.syncCycles + b2n (synced s2)
                                 thinArmed := s2.time.thinArmed || decide (synced s2 ∧ s2.time.syncCycles + 1 = 64) }
                               ring := { s2.ring with recentEvs :=
                                 s2.ring.recentEvs.filter (fun e => decide (s2.cyc.n < e.2.2.1 + 8)) } } (pPkg 0)
      let s4 := if s3.cyc.n % 2 = 1 then applyDue s3 else s3
      let s5 := backoffCycle (beatCycle (beatCycle s4 .east) .west)
      let s7 := restoreCheck (restoreCheck (readyCheck (readyCheck s5 .east) .west) .east) .west
      let s6 := (ownPiers s7).foldl (fun t p => startClaiming t i p) (s7.cyc.tx.foldl dropStale s7)
      if synced s6 && s6.cyc.n % 1024 == 16 * me s6 % 1024 then startBurst (startBurst s6 .east) .west else s6
  | _, _ => s

/-! ### Meanings -/

/-- CYCLE_BOUNDARY (R47). -/
def execCycleBoundary (s : State) : Host.Outcome State Fault Refusal :=
  checked (Instr.wf (.cycleBoundary)) s (cycleBoundary s)

/-- OFFSET_SLEW (R103). -/
def execOffsetSlew (s : State) : Host.Outcome State Fault Refusal :=
  checked (Instr.wf (.offsetSlew)) s (offsetSlew s)

/-- SLOT_FETCH_POINT (R61). -/
def execSlotFetchPoint (buf : Nat) (rot : Rot) (s : State) : Host.Outcome State Fault Refusal :=
  checked (Instr.wf (.slotFetchPoint buf rot)) s (slotFetch s buf rot)

/-- SLOT_SEND (R111). -/
def execSlotSend (buf : Nat) (rot : Rot) (s : State) : Host.Outcome State Fault Refusal :=
  checked (Instr.wf (.slotSend buf rot)) s (slotSend s buf rot)

/-- GUARDIAN_CUT (R112). -/
def execGuardianCut (port : RPort) (s : State) : Host.Outcome State Fault Refusal :=
  checked (Instr.wf (.guardianCut port)) s (guardianCut s port)

/-- FORWARD_WINDOW_CUT (R114). -/
def execForwardWindowCut (port : RPort) (s : State) : Host.Outcome State Fault Refusal :=
  checked (Instr.wf (.forwardWindowCut port)) s (forwardCut s port)

/-- MINI_SLOT_BOUNDARY (R69). -/
def execMiniSlotBoundary (rot : Rot) (s : State) : Host.Outcome State Fault Refusal :=
  checked (Instr.wf (.miniSlotBoundary rot)) s (miniSlot s rot)

/-- HOLD_RAISE (R232). -/
def execHoldRaise (port : RPort) (s : State) : Host.Outcome State Fault Refusal :=
  checked (Instr.wf (.holdRaise port)) s (holdRaise s port)

/-- HOLD_RELEASE (R232). -/
def execHoldRelease (port : RPort) (s : State) : Host.Outcome State Fault Refusal :=
  checked (Instr.wf (.holdRelease port)) s (holdRelease s port)

/-- PIER_OCCURRENCE_END (R79). -/
def execPierOccurrenceEnd (slot : Nat) (s : State) : Host.Outcome State Fault Refusal :=
  checked (Instr.wf (.pierOccurrenceEnd slot)) s (pierOccurrenceEnd s slot)

/-- PIER_BACKOFF_END (R75). -/
def execPierBackoffEnd (slot : Nat) (s : State) : Host.Outcome State Fault Refusal :=
  checked (Instr.wf (.pierBackoffEnd slot)) s (pierBackoffEnd s slot)

/-- SLOT_MISSED (R66). -/
def execSlotMissed (slot : Nat) (port : RPort) (s : State) : Host.Outcome State Fault Refusal :=
  checked (Instr.wf (.slotMissed slot port)) s (slotMissed s slot port)

end Sys2Proof.Machine
end

