-- ==== Sys2Proof/Machine/Admit.lean ====
section
/-! DEFINITION. Admit.lean: classification, cells, admission and delivery of the frames that enter the vat (chapter 5, R190,
R242 to R252). -/

namespace Sys2Proof.Machine

open Sys2Proof

/-! ### Rotations of open frames (R71, R150) -/

/-- The number of nodes passed before a looped span on a walk that leaves this node. -/
def foldAfter (s : State) : List (Nat × RPort) → Nat → Option Nat
  | [], _ => none
  | (n, inp) :: t, i =>
    if s.ring.folds.contains (n, rpBit inp) then some i
    else if s.ring.folds.contains (n, rpBit (otherPort inp)) then some (i + 1)
    else foldAfter s t (i + 1)

/-- Forwarders to a node by a rotation, over the folded path where its path crosses a looped span (R71, R150). -/
def forwarders (s : State) (rot : Rot) (dest : Nat) : Option Nat :=
  let out := portOfRot s rot
  let there := walk 64 s (me s) (me s) out
  let back := walk 64 s (me s) (me s) (otherPort out)
  let fold := if loopedPort s = some out || s.ring.folds.contains (me s, rpBit out) then some 0 else foldAfter s there 0
  match there.findIdx? (fun e => e.1 == dest), fold with
  | some j, none => some j
  | some j, some f => if j < f then some j else (back.findIdx? (fun e => e.1 == dest)).map (2 * f + ·)
  | none, some f => (back.findIdx? (fun e => e.1 == dest)).map (2 * f + ·)
  | none, none => none

/-- The rotation an open frame travels: CW for every node; else the one with fewer forwarders, CW on a tie (R71, R150). -/
def openRot (s : State) (dest : Nat) (all : Bool) : Rot :=
  if all then .cw
  else match forwarders s .cw dest, forwarders s .ccw dest with
    | some a, some b => if a ≤ b then .cw else .ccw
    | none, some _ => .ccw
    | _, none => .cw

/-- The sub-queue of a rotation and class (R188). -/
def openKey (rot : Rot) (tc : Nat) : Nat := (match rot with
  | .cw => 144
  | .ccw => 152) + tc

/-! ### Cells (R176, R177) -/

/-- An overflow of an ingress account: 0 to 15 edge ports, 16 and 17 uplinks, 18 the ring, 19 to 22 the DMA clusters (R180). -/
def countOverflow (s : State) (acct : Nat) : State :=
  let s1 := perf s (pAcct acct 2)
  if acct < 18 then perf (countPort s1 acct 40) (pPort acct 5)
  else if acct = 18 then countRing s1 16
  else count s1 0x09 (acct - 19) 6

/-- Frame handles in use (R174): of stored frames, and of arriving frames that hold their first cell. -/
def handlesUsed (s : State) : Nat := s.vat.frames.length + (s.vat.waits.filter (fun a => decide (0 < a.got))).length

/-- Why a cell is not granted: the account's LIMIT, an empty shared pool, no handle, or an empty staging pool. -/
inductive NoCell where
  | limit | pool | handle | staging
  deriving DecidableEq, Repr

/-- Where a granted cell comes from (R176, R184). -/
inductive CellFrom where
  | reserve | pool | staging
  deriving DecidableEq, Repr

/-- Whether an arriving frame's next cell can be granted now, and from where (R176, R182, R184). -/
def cellSource (s : State) (a : Arrival) : Except NoCell CellFrom :=
  let first := a.got == 0
  let held := acctCells s a.fr.acct
  let limit := if first then (acctQuota s a.fr.acct).limit else a.limit
  let resv := if first then acctReserve s a.fr.acct else a.reserve
  if first && decide (131072 ≤ handlesUsed s) then .error .handle
  else if limit ≤ held then .error .limit
  else if !first && !a.fr.spillDests.isEmpty then (if stagingFree s = 0 then .error .staging else .ok .staging)
  else if held < resv then .ok .reserve
  else if poolFree s = 0 then .error .pool else .ok .pool

/-- A granted cell is charged to the account, its pool and the frame's charged destinations (R174, R176). -/
def takeCell (s : State) (a : Arrival) (c : CellFrom) : State × Arrival :=
  let r := b2n (decide (c = .reserve))
  let p := b2n (decide (c = .pool))
  let g := b2n (decide (c = .staging))
  let fr := { a.fr with resv := a.fr.resv + r, pool := a.fr.pool + p, staging := a.fr.staging + g }
  let a1 := if a.got = 0 then
    { a with limit := (acctQuota s a.fr.acct).limit, reserve := acctReserve s a.fr.acct } else a
  (perf { s with vat := { s.vat with
      acctCells := tblAdd s.vat.acctCells fr.acct 1
      acctResv := tblAdd s.vat.acctResv fr.acct r
      poolUsed := s.vat.poolUsed + p
      stagingUsed := s.vat.stagingUsed + g
      destCells := fr.charged.foldl (fun t d => tblAdd t d 1) s.vat.destCells } } (pAcct fr.acct 1),
    { a1 with fr := fr, got := a.got + 1 })

/-- A live destination is dropped from an arriving frame: its cells are no longer charged there (R179). -/
def dropLive (s : State) (a : Arrival) (d : Nat) : State × Arrival :=
  let fr := { a.fr with dests := a.fr.dests.filter (· != d), charged := a.fr.charged.filter (· != d)
                        spillDests := a.fr.spillDests.filter (· != d), mirror := a.fr.mirror.filter (fun m => 1241 + m != d) }
  let s1 := if d ∈ a.fr.charged then
    { s with vat := { s.vat with destCells := tblAdd s.vat.destCells d (-(a.fr.cells : Int)) } } else s
  (s1, { a with fr := fr })

/-- Destinations at their LIMIT are dropped from the frame and counted (R176, R179). -/
def dropFull (s : State) (a : Arrival) : State × Arrival :=
  a.fr.charged.foldl (fun (x : State × Arrival) d =>
    let lim := ((a.dlimit.find? (fun e => e.1 == d)).map (·.2)).getD 0
    if lim ≤ destCells x.1 d then dropLive (count x.1 0x03 d 0) x.2 d else x) (s, a)

/-- At classification the first cell is charged to each destination, which must stand below its LIMIT; a destination marked
for spill is not charged (R176, R184; log entry 16). -/
def chargeDests (s : State) (a : Arrival) : State × Arrival :=
  let l := a.fr.dests.eraseDups.filter (fun d => !a.fr.spillDests.contains d)
  let a1 := { a with dlimit := l.map (fun d => (d, (destQuota s d).limit))
                     ylimit := l.map (fun d => (d, (destQuota s d).yellow)) }
  l.foldl (fun (x : State × Arrival) d =>
    if (destQuota x.1 d).limit ≤ destCells x.1 d then dropLive (count x.1 0x03 d 0) x.2 d
    else
      ({ x.1 with vat := { x.1.vat with destCells := tblAdd x.1.vat.destCells d x.2.fr.cells } },
        { x.2 with fr := { x.2.fr with charged := x.2.fr.charged ++ [d] } })) (s, a1)

/-- An arriving frame is discarded whole (R180). -/
def discardArrival (s : State) (a : Arrival) : State := freeCells s a.fr

/-- A frame whose cell request fails is discarded whole and counted with its cause (R180, R185). -/
def failArrival (s : State) (a : Arrival) (c : NoCell) : State :=
  let s1 := countOverflow (discardArrival s a) a.fr.acct
  match c with
  | .limit => s1
  | .pool => count s1 0x03 0xFFFF 2
  | .handle => count s1 0x03 0xFFFF 3
  | .staging => count s1 0x03 0xFFFF 4

/-- A cell request waits (R177). -/
def waitArrival (s : State) (a : Arrival) : State :=
  { s with vat := { s.vat with waits := s.vat.waits ++ [{ a with since := now s }] } }

/-! ### Delivery -/

/-- A frame with every cell enters the vat under the lowest free handle. -/
def storeFrame (s : State) (fr : VFrame) : Nat × State :=
  let h := freshKey s.vat.frames
  (h, perf (setFrame s h fr) (pAcct fr.acct 0))

/-- A stored frame joins an egress queue, in the cellar where it is marked for spill there (R184, R191). -/
def enqueueEgress (s : State) (k h : Nat) : State :=
  let v := frameAt s h
  let spilt := v.spillDests.contains (destOfQueue k)
  let e : QEnt := { h := h, admitAt := nt16 s, state := if spilt then .inCellar else .ready }
  setQueue s k (queueAt s k ++ [e])

/-- The region an egress queue, slot transfer, receive queue or record stream belongs to. -/
def destRegion (d : Nat) : Region :=
  if d < 1088 then .host else if d < 1232 then .edge else if d < 1241 then .ring else .record

/-! ### Receive slot buffers (R63, R64, R190) -/

/-- A slot egress copy that holds its cells joins its queue (R190). -/
def finishCopy (s : State) (a : Arrival) : State :=
  let x := storeFrame s a.fr
  let k := a.slotCnt.getD 0
  if inService x.2 .edge then enqueueEgress x.2 k x.1
  else finishDest (boundaryDrop x.2 .edge) x.1 (destOfQueue k)

/-- The egress binding that a swap of a receive buffer follows: in the tick of a command's commit the one before it (R190). -/
def bindAt (s : State) (b : Nat) : Bool × Nat × Nat :=
  match tblGet (0, false, 0, 0) s.cyc.bindWas b with
  | (t, x) => if t = now s / 2 + 1 then x else tblGet (false, 0, 0) s.cyc.binds b

/-- A copy of a bound buffer's new front half goes to its egress queue (R190). -/
def slotCopy (s : State) (b : Nat) (x : RxHalf) : State :=
  match bindAt s b with
  | (false, _) => s
  | (true, p, q) =>
    let o := x.data ++ fcsOf x.data
    let k := 8 * p + q
    waitArrival s { data := o, kind := .slotEgress, slotCnt := some k
                    fr := { data := o, acct := 18, ingress := 18, dests := [destOfQueue k], ts := x.ts
                            tsFlags := timeFlags s, origLen := o.length } }

/-- The halves of a receive buffer swap: the new content is in front (R63, R190). -/
def rxSwap (s : State) (b : Nat) (h : RxHalf) : State :=
  slotCopy (setRx s b { rxAt s b with front := some h, back := none }) b h

/-- A frame that has passed the strainer reaches a receive buffer: it is kept where it is newer, and swapped in once no host
read is in progress (R63, R64). -/
def rxTake (s : State) (b : Nat) (h : RxHalf) (first : Bool) : State :=
  let x := rxAt s b
  let keep := first || (match x.front with
    | none => true
    | some f => let d := (h.seq + 65536 - f.seq) % 65536
      decide (1 ≤ d) && decide (d ≤ 32767))
  if !keep then countRing s 3
  else if x.reading then setRx s b { x with back := some h }
  else rxSwap s b h

/-- A host read of a receive buffer ends: a swap that waited takes place (R64). -/
def rxReadEnd (s : State) (b : Nat) : State :=
  let x := rxAt s b
  let s1 := setRx s b { x with reading := false }
  match x.back with
  | some h => rxSwap s1 b h
  | none => s1

/-- Frames whose second copy is overdue count as missing, but those of an origin behind a looped span (R251, R253). -/
def latentMissing (s : State) (x : Rcvy) : Rcvy :=
  let late := fun (e : Nat × Nat × Nat) => decide (e.2.1 < now s)
  { x with missing := x.missing + (x.awaiting.filter (fun e => late e && !latentOff s e.2.2)).length
           awaiting := x.awaiting.filter (fun e => !late e) }

/-- The ring entry of a receive buffer decides on a frame; a second copy ends the wait for it, whatever the decision (R247, R250,
R251). -/
def strainRing (s : State) (b : Nat) (h : Hdr) : Bool × State :=
  let i := 8192 + b
  let x0 := latentMissing s (rcvyAt s i)
  let x := if h.first || h.origin != x0.origin then { x0 with takeAny := true } else x0
  let rot := if h.rot = 0 then Rot.cw else .ccw
  let r := strainVector { x with history := 32 } h.seq
  let by_ := now s + nsTicks (tcycNs (s.cyc.image.getD {}) + max (lap s .cw) (lap s .ccw) / 65536)
  let second := x.awaiting.any (fun e => e.1 == h.seq && e.2.2 == h.origin)
  let rest := x.awaiting.filter (fun e => !(e.1 == h.seq && e.2.2 == h.origin))
  let pass := fun (y : Rcvy) =>
    { y with origin := h.origin, history := x.history, lastPass := now s, passed := y.passed + 1
             awaiting := if second || latentOff s h.origin then rest else rest ++ [(h.seq, by_, h.origin)] }
  let passed := fun (y : Rcvy) => count (setRcvy s i (pass y)) 0x05 i 0
  match r.1 with
  | .pass => (true, perf (passed r.2) (pRot rot 6))
  | .outOfOrder => (true, perf (count (passed r.2) 0x05 i 2) (pRot rot 6))
  | .rogue => (true, perf (count (passed { x with rseq := h.seq, hist := 1 }) 0x05 i 3) (pRot rot 6))
  | .discard =>
    (false, perf (count (setRcvy s i { r.2 with history := x.history, disc := r.2.disc + 1, awaiting := rest }) 0x05 i 1) (pRot rot 7))

/-- A static or dynamic frame with all its cells: the strainer, then the receive buffer (R63, R250). -/
def finishSlotRx (s : State) (a : Arrival) : State :=
  let h := parseHdr a.fr.raw
  let r := strainRing s a.fr.slotBuf h
  let s1 := discardArrival (perf r.2 (pAcct 18 0)) a
  if r.1 then
    rxTake s1 a.fr.slotBuf { data := bodyOf a.data, seq := h.seq, origin := h.origin, cyc := h.cyc, ts := a.fr.ts } h.first
  else s1

/-! ### Steering (R163 to R166) -/

/-- A host queue takes new frames: it is neither DISABLED nor DRAINING (R167). -/
def hostUp (s : State) (q : Nat) : Bool :=
  let x := (qAt s q).state
  x != .disabled && x != .draining

/-- The queue after the last one chosen in a round-robin set, passing over those that are not RUNNING (R164). -/
def rrNext (s : State) (l : List Nat) (lastPos : Nat) : Option (Nat × Nat) :=
  ((List.range l.length).map (fun i => (lastPos + i) % l.length)).findSome? (fun i =>
    match l[i]? with
    | some q => if (qAt s (0x1000 + q)).state = .running then some (i, q) else none
    | none => none)

/-- The main destinations of an action, and the state after a round-robin choice or a count (R163, R164, R167, R245). -/
def steer (s : State) (ing handle w : Nat) (o : Octets) : List Nat × State :=
  let t := targetOf w
  let down := ([], count s 0x09 0 5)
  let host := fun (d : Nat) => if !inService s .host || hostUp s (rxOfDest d) then ([d], s) else down
  let g := genAt s handle
  let split := if handle < 8192 ∧ g.enable then g.split else 0
  let upOk := fun (u : Nat) => (portAt s (16 + u)).cfg.adminUp && !(portAt s (16 + u)).disabled
  match actOf w with
  | 1 => host (t % 2048)
  | 2 => host (t % 2048 + flowHash s ing o % (t / 65536 % 64 + 1))
  | 3 =>
    let set := t % 16
    (match rrNext s (tblGet [] s.cls.rrSets set) (tblGet 0 s.cls.rrLast set) with
      | some (i, q) => ([q], { s with cls := { s.cls with rrLast := tblSet 0 s.cls.rrLast set (i + 1) } })
      | none => ([], count s 0x09 0 3))
  | 4 => ([1240], s)
  | 5 => (if split = 2 ∧ ¬ bitOf t 6 then [1232 + t / 256 % 8, 1232 + t / 256 % 8] else [1232 + t / 256 % 8], s)
  | 6 =>
    let q := t / 16 % 8
    let want := if split = 1 then [0, 1] else [t % 2]
    let ok := want.filter upOk
    (ok.map (fun u => 1216 + 8 * u + q), if ok.length < want.length then count s 0x09 0 5 else s)
  | 7 => if mirrorOf w && mirrorStream w == t % 256 then ([], s) else ([1241 + t % 256], s)
  | _ => ([], s)

/-- The queue holds frames in the cellar. -/
def hasSpilt (s : State) (d : Nat) : Bool :=
  let keys := if d < 1232 then [if d < 1216 then d - 1088 else 128 + (d - 1216)] else [144 + (d - 1232), 152 + (d - 1232)]
  keys.any (fun k => (queueAt s k).any (fun e => e.state != .ready))

/-- Destinations for which a frame is marked for spill (R183, R184, R436). -/
def spillMarks (s : State) (dests : List Nat) : List Nat :=
  if s.vat.spillOff then [] else dests.eraseDups.filter (fun d => (tblGet {} s.vat.spill d).enable &&
    (hasSpilt s d || decide ((destQuota s d).limit ≤ destCells s d) || decide (poolFree s < 8192)))

/-- Stages 3 and 4 of a frame from a port or from the ring: stream, R-TAG, rule, destinations, spill mark (R158 to R167,
R184, R242, R246, R258). A frame left without a destination is discarded (R180). -/
def classifyArrival (s0 : State) (a : Arrival) : State × Arrival :=
  let s := wake s0 [194, 195, 196, 198, 201]
  let ing := a.fr.ingress
  let bad := a.fr.status != 0
  let handle := if bad then 0xFFFF else streamOf s ing a.data
  let x := rcvyAt s handle
  let seq := rtagSeq a.data
  let o := if handle < 8192 ∧ x.enable ∧ x.popRtag then popRtag a.data else a.data
  let rule := findRule s ing (classKey s ing handle o)
  let w := match rule with
    | some r => ruleWord r
    | none => (portDef s ing).action
  let s1 := if rule.isNone then count s 0x09 ing 2 else s
  let d := steer s1 ing handle w o
  let main := if bad then d.1.filter (fun d => decide (d < 1088) && (qAt s (rxOfDest d)).errored) else d.1
  let mir := if mirrorOf w && !bad then [mirrorStream w] else []
  let dests := main ++ mir.map (1241 + ·)
  let fr := { a.fr with data := o, raw := if mir.isEmpty then [] else a.data, stream := handle, dests := dests, mirror := mir
                        target := targetOf w, slotBuf := targetOf w % 4096, spillDests := spillMarks d.2 dests
                        origLen := o.length }
  (d.2, { a with data := o, fr := fr, word := w, seqNo := seq })

/-! ### Admission (R169 to R186) -/

/-- Several destinations are dropped from an arriving frame. -/
def dropMany (s : State) (a : Arrival) (l : List Nat) : State × Arrival :=
  l.foldl (fun (x : State × Arrival) d => dropLive x.1 x.2 d) (s, a)

/-- The destinations of the action itself: every one but the mirror's (R166). -/
def mainDests (a : Arrival) : List Nat := a.fr.dests.filter (fun d => !(a.fr.mirror.map (1241 + ·)).contains d)

/-- Stage 5: the meter acts on a frame and its colour action follows, by the parameters in force (R169 to R173). -/
def meterArrival (s : State) (a : Arrival) : State × Arrival :=
  let m := meterOf a.word
  if a.fr.status ≠ 0 ∨ 8192 ≤ m ∨ (actOf a.word = 0 ∧ ¬ mirrorOf a.word) then (s, a)
  else
    let r := meterFrame s m a.fr.ingress a.data.length a.data
    let x := meterJudged s m
    let act := colourAction x r.1
    let a1 := { a with fr := { a.fr with colour := r.1 } }
    match act % 4 with
    | 1 =>
      let o := remark a.data (act / 4 % 8) (act / 32 % 2)
      let o := bodyOf o ++ fcsOf (bodyOf o)
      (r.2, { a1 with data := o, fr := { a1.fr with data := o } })
    | 2 => if (mainDests a1).isEmpty then (r.2, a1) else dropMany (count r.2 0x04 m 3) a1 (mainDests a1).eraseDups
    | _ => (r.2, a1)

/-- A yellow frame is dropped for destinations it takes above the YELLOW_LIMIT in force at its first cell (R178, R182, R184). -/
def yellowArrival (s : State) (a : Arrival) : State × Arrival :=
  if a.fr.colour ≠ 1 then (s, a)
  else a.fr.charged.foldl (fun (x : State × Arrival) d =>
    if ((a.ylimit.find? (fun e => e.1 == d)).map (·.2)).getD 0 < destCells x.1 d then dropLive (count x.1 0x03 d 0) x.2 d else x) (s, a)

/-- Sequence generation and the length limit of a frame for an uplink or the open segment (R56, R244). -/
def generateArrival (s : State) (a : Arrival) : State × Arrival :=
  let eg := (mainDests a).filter (fun d => decide (1088 ≤ d) && decide (d < 1240))
  let ring := eg.any (fun d => decide (1232 ≤ d))
  if eg.isEmpty then (s, a)
  else
    let r := generate s a.fr.stream (if ring then 15984 else 16000) (bodyOf a.data)
    match r.1 with
    | none => dropMany r.2 a eg.eraseDups
    | some b =>
      if ring && decide (15984 < b.length + 4) then dropMany (countRing r.2 2) a eg.eraseDups
      else if genAt s a.fr.stream = genAt r.2 a.fr.stream then (r.2, a)
      else
        let o := b ++ fcsOf b
        (r.2, { a with fr := { a.fr with data := o } })

/-- Ticks for which spill writes may wait for the cellar's best-effort share of 200 Gb/s, 20 bytes a tick, before more of them would
eat into the recorder's reservation. DESIGN CHOICE (log entry 112): what the staging pool holds (R34, R35). -/
def spillWait : Nat := 2048 * 256 / 20

/-- A frame marked for spill is refused: the Record region or its cellar is out, the cellar controller refuses it, or it would
exceed SPILL_LIMIT or the spill area (R35, R185). -/
def spillRefused (s : State) (a : Arrival) : Bool :=
  let len := a.fr.data.length
  !a.fr.spillDests.isEmpty && (!cellarUp s || decide (now s + spillWait < s.vat.spillBusy) ||
    decide (s.vat.spillArea * 1048576 < spillTotal s + len * a.fr.spillDests.length) ||
    a.fr.spillDests.any (fun d =>
      decide ((tblGet {} s.vat.spill d).limit * 1048576 < tblGet 0 s.vat.spillUsed d + len)))

/-- The cluster that serves a destination is in reset (R23). -/
def destClusterDown (s : State) (d : Nat) : Bool :=
  if d < 1088 then clusterDown s (320 + 8 * qCluster (rxOfDest d))
  else if d < 1216 then clusterDown s (112 + 4 * ((d - 1088) / 8))
  else if d < 1232 then clusterDown s (202 + 4 * ((d - 1216) / 8))
  else false

/-- An admitted frame is handed to one destination; a withdrawn node drops what is steered to the ring (R165, R166, R180, R187
to R189, R490). -/
def deliverTo (s : State) (h d : Nat) (a : Arrival) : State :=
  let v := a.fr
  let gone := fun (t : State) => finishDest t h d
  let each := fun (f : State → State) => (v.dests.filter (· == d)).foldl (fun t _ => f t) s
  if !inService s (destRegion d) || destClusterDown s d then each (fun t => gone (boundaryDrop t (destRegion d)))
  else if s.ring.state = .withdrawn ∧ destRegion d = .ring then each (fun t => dropDest t h d 1)
  else if d < 1088 then
    if hostUp s (rxOfDest d) then rxEnqueue s (rxOfDest d) h else gone (count s 0x09 0 5)
  else if d < 1232 then enqueueEgress s (d - 1088) h
  else if d < 1240 then
    let t := v.target
    let tc := d - 1232
    if (v.dests.filter (· == d)).length = 2 then enqueueEgress (enqueueEgress s (openKey .cw tc) h) (openKey .ccw tc) h
    else enqueueEgress s (openKey (openRot s (t % 64) (bitOf t 6)) tc) h
  else if d = 1240 then
    let b := bodyOf v.data
    gone (match txEnt s v.slotBuf with
      | none => count s 0x09 0 5
      | some e =>
        if 15984 < v.data.length then countRing s 2
        else if e.cap < b.length then count s 0x09 0 4
        else txWrite s v.slotBuf b)
  else gone (recordFrame s (d - 1241) (v.mirror.contains (d - 1241)) v)

/-- Stage 6 of a metered frame from a port or from the ring, its last octet arrived and every cell granted (R178 to R185, R247). A frame
refused for spill is not admitted and takes no sequence number (R244). -/
def finishArrival (s : State) (a0 : Arrival) : State :=
  let st := if a0.fr.stream < 8192 ∧ a0.fr.status = 0 then strain s a0.fr.stream a0.seqNo else (true, s)
  if !st.1 then discardArrival st.2 a0
  else
    let y := yellowArrival st.2 a0
    if y.2.fr.dests.isEmpty then discardArrival y.1 y.2
    else if spillRefused y.1 y.2 then count (countOverflow (discardArrival y.1 y.2) y.2.fr.acct) 0x03 0xFFFF 4
    else
      let g := generateArrival y.1 y.2
      let a := g.2
      if a.fr.dests.isEmpty then discardArrival g.1 a
      else
        let x := storeFrame g.1 a.fr
        let len := a.fr.data.length
        let s1 := if a.fr.spillDests.isEmpty then x.2 else
          perf { x.2 with vat := { x.2.vat with
            spillBusy := max x.2.vat.spillBusy (now s) + ceilDiv len 20
            spillUsed := a.fr.spillDests.foldl (fun t d => tblAdd t d len) x.2.vat.spillUsed } }
            (pAcct a.fr.acct 3)
        toCellar (a.fr.dests.eraseDups.foldl (fun t d => deliverTo t x.1 d a) s1) x.1

/-- A frame has arrived: it is classified, and asks for its first cell, unless no destination is left (R158, R176, R177, R180). The
allocator grants its cells at the ticks that follow. -/
def continueArrival (s : State) (a : Arrival) : State :=
  if a.kind = .slotRx then waitArrival s a
  else
    let c := classifyArrival s a
    if c.2.fr.dests.isEmpty then c.1 else waitArrival c.1 c.2

/-- The end of a frame that holds its cells, by where it came from (R63, R180, R190). -/
def finishCells (s : State) (a : Arrival) : State :=
  match a.kind with
  | .slotRx => finishSlotRx s a
  | .slotEgress => finishCopy s a
  | _ => finishArrival s a

/-- Destinations that stand at their LIMIT drop out before a cell after the first is requested for them (R176, R179). -/
def stillLive (s : State) (a : Arrival) : State × Arrival := if a.got = 0 then (s, a) else dropFull s a

/-- The waiting request of place `i` is granted: the cell is charged, and the frame asks for its next one, is admitted with its last, or
is discarded with no destination left (R176, R177, R180). -/
def grantCell (s0 : State) (i : Nat) (a0 : Arrival) : State :=
  let z := stillLive s0 a0
  let out := fun (t : State) => { t with vat := { t.vat with waits := t.vat.waits.eraseIdx i } }
  if z.2.fr.dests.isEmpty then discardArrival (out z.1) z.2
  else match cellSource z.1 z.2 with
    | .error _ => z.1
    | .ok c =>
      let x := takeCell z.1 z.2 c
      let y := if z.2.got = 0 then chargeDests x.1 x.2 else x
      if y.2.fr.dests.isEmpty then discardArrival (out y.1) y.2
      else if y.2.got < cellsOf y.2.data.length then
        { y.1 with vat := { y.1.vat with waits := y.1.vat.waits.set i { y.2 with since := now s0 } } }
      else finishCells (out y.1) y.2

end Sys2Proof.Machine
end

