-- ==== Sys2Proof/Machine/TimeOut.lean ====
section
/-! DEFINITION. TimeOut.lean: gPTP on the edge and uplink ports, PPS_OUT, captures, timers and holdover (R117 to R124). -/

namespace Sys2Proof.Machine

open Sys2Proof

/-! ### gPTP (R117 to R119; the message layouts are those of IEEE Std 802.1AS, log entry 15) -/

/-- gPTP state of a port. -/
def gptpAt (s : State) (p : Nat) : GptpPort := tblGet {} s.time.gptp p

/-- The state with a port's gPTP state replaced. -/
def setGptp (s : State) (p : Nat) (x : GptpPort) : State :=
  { s with time := { s.time with gptp := tblSet {} s.time.gptp p x } }

/-- clockIdentity: the EUI-64 of the base MAC address. -/
def clockId (s : State) : Octets :=
  let m := beBytes 6 s.boot.cfg.mac
  m.take 3 ++ [0xFF, 0xFE] ++ m.drop 3

/-- clockClass, clockAccuracy and timeSource of the messages a port sends now; none while Sync and Announce are not sent
(R117 to R119). -/
def gptpClock (s : State) : Option (Nat × Nat × Nat) :=
  let c := s.time.cfg
  let src := if c.traceable then (0x21, c.timeSource) else (0xFE, 0xA0)
  if s.time.gptpStopped then none
  else if synced s then some (if c.traceable then 6 else 248, src)
  else if s.time.holdover then some (7, src)
  else if !s.time.everSync && s.time.timeByOwner && !ringMember s then some (248, 0xFE, 0xA0)
  else none

/-- A message header: type, length, flags, correction, port, sequence, control and logMessageInterval. -/
def gptpHeader (s : State) (p typ len flags corr seq ctl : Nat) (log : Int) : Octets :=
  beBytes 1 (0x10 + typ) ++ beBytes 1 2 ++ beBytes 2 len ++ beBytes 1 0 ++ beBytes 1 0 ++ beBytes 2 flags ++
    beBytes 8 corr ++ beBytes 4 0 ++ clockId s ++ beBytes 2 (p + 1) ++ beBytes 2 seq ++ beBytes 1 ctl ++
    beBytes 1 (ofSigned 8 log)

/-- A PTP timestamp: 48 bits of seconds and 32 bits of nanoseconds. -/
def ptpTime (t16 : Nat) : Octets :=
  beBytes 6 (t16 / 65536 / 1000000000) ++ beBytes 4 (t16 / 65536 % 1000000000)

/-- The time a PTP timestamp at an offset spells, with a correction field. -/
def ptpAt (o : Octets) (i corr : Nat) : Nat := (beAt o i 6 * 1000000000 + beAt o (i + 6) 4) * 65536 + corr

/-- A frame is sent by a port's own MAC (R259, R262). -/
def portSend (s : State) (p : Nat) (body : Octets) : State :=
  let b := if body.length < 60 then padTo 60 body else body
  let o := b ++ fcsOf b
  perfN (perf (countN (countPort (emit s (.frame p o)) p 13) 0x01 p 14 o.length) (pPort p 2)) (pPort p 3) o.length

/-- A gPTP message leaves a port. -/
def gptpFrame (s : State) (p : Nat) (msg : Octets) : State :=
  perf (portSend s p (beBytes 6 0x0180C200000E ++ beBytes 6 s.boot.cfg.mac ++ beBytes 2 0x88F7 ++ msg)) (pPort p 15)

/-- The Follow_Up information TLV. -/
def followTlv : Octets :=
  beBytes 2 3 ++ beBytes 2 28 ++ beBytes 3 0x0080C2 ++ beBytes 3 1 ++ List.replicate 22 0

/-- Sync, with its Follow_Up where the port is two-step (R117). -/
def sendSync (s : State) (p ts : Nat) : State :=
  let x := gptpAt s p
  let q := (x.seqSync + 1) % 65536
  let i := s.time.cfg.syncInterval
  let s := setGptp s p { x with seqSync := q }
  if bitOf s.time.cfg.oneStep p then
    gptpFrame s p (gptpHeader s p 0 76 0x0008 (ts % 65536) q 0 i ++ ptpTime ts ++ followTlv)
  else
    let s1 := gptpFrame s p (gptpHeader s p 0 44 0x0208 0 q 0 i ++ List.replicate 10 0)
    gptpFrame s1 p (gptpHeader s1 p 8 76 0x0008 (ts % 65536) q 2 i ++ ptpTime ts ++ followTlv)

/-- Announce (R117). -/
def sendGptpAnnounce (s : State) (p : Nat) (c : Nat × Nat × Nat) : State :=
  let x := gptpAt s p
  let q := (x.seqAnn + 1) % 65536
  let s := setGptp s p { x with seqAnn := q }
  let utc := s.time.utcOffset
  let flags := 0x08 + (if utc.isSome then 0x04 else 0) + (if c.1 = 6 then 0x30 else 0)
  gptpFrame s p (gptpHeader s p 0xB 76 flags 0 q 5 s.time.cfg.announceInterval ++ List.replicate 10 0 ++
    beBytes 2 (ofSigned 16 (utc.getD 0)) ++ beBytes 1 0 ++ beBytes 1 s.time.cfg.priority1 ++ beBytes 1 c.1 ++
    beBytes 1 c.2.1 ++ beBytes 2 0x4100 ++ beBytes 1 s.time.cfg.priority2 ++ clockId s ++ beBytes 2 0 ++ beBytes 1 c.2.2 ++
    beBytes 2 8 ++ beBytes 2 8 ++ clockId s)

/-- A port's transmit side is turned back into its receive side: loopback MAC or PCS_NEAR (R267). -/
def loopedBack (s : State) (p : Nat) : Bool :=
  decide (p < 18) && ((portAt s p).cfg.loopback == 1 || (portAt s p).cfg.loopback == 2)

/-- A port of the Edge region is able to send and receive: its region runs and its link is up, or it is turned back. -/
def portLive (s : State) (p : Nat) : Bool := inService s .edge && ((portAt s p).link || loopedBack s p)

/-- GPTP_SEND (R117 to R119): Sync and Announce while the part sends them and the peer is asCapable; Pdelay_Req in every
state. -/
def gptpSend (s : State) (p : Nat) (msg : GptpMsg) (ts : Nat) : State :=
  if !portLive s p then s
  else
    let x := gptpAt s p
    match msg with
    | .pdelayReq =>
      let lost := if x.waiting then x.lost + 1 else x.lost
      let q := (x.seqReq + 1) % 65536
      let s1 := setGptp s p { x with seqReq := q, waiting := true, t1 := quant ts, lost := lost
                                     asCapable := x.asCapable && decide (lost < 9)
                                     prev := if lost < 9 then x.prev else none }
      gptpFrame s1 p (gptpHeader s1 p 2 54 0x0008 0 q 5 0 ++ List.replicate 20 0)
    | .sync => match gptpClock s with
      | some _ => if x.asCapable then sendSync s p (quant ts) else s
      | none => s
    | .announce => match gptpClock s with
      | some c => if x.asCapable then sendGptpAnnounce s p c else s
      | none => s

/-- The threshold of the mean link delay beyond which a peer is not asCapable: that of the copper ports; the uplinks have none. PRESUMED
(log entry 15). -/
def delayThreshold (p : Nat) : Option Nat := if p < 16 then some (ns16 800) else none

/-- The mean link delay of a complete exchange, with the ratio of the peer's rate to this node's as its last two exchanges give it. PRESUMED
(R117; log entry 15). -/
def linkDelay (x : GptpPort) (t3 : Nat) : Nat :=
  let turn : Int := (x.t4 : Int) - x.t1
  let turn1 := match x.prev with
    | some (a, b) => if a < t3 ∧ b < x.t4 then turn * ((t3 - a : Nat) : Int) / ((x.t4 - b : Nat) : Int) else turn
    | none => turn
  ((turn1 - ((t3 : Int) - x.t2)) / 2).toNat

/-- A complete exchange with a peer: its delay, and whether the peer is asCapable: its delay lies within the threshold and it is not
this node itself. PRESUMED (R117; log entry 15). -/
def exchanged (s : State) (p : Nat) (x : GptpPort) (t3 : Nat) (peer : Octets) : GptpPort :=
  let d := linkDelay x t3
  let near := match delayThreshold p with
    | some t => decide (d ≤ t)
    | none => true
  { x with waiting := false, lost := 0, prev := some (t3, x.t4), t2 := 0, t4 := 0, asCapable := near && peer != clockId s
           delay := some d }

/-- GPTP_RX (R117): peer delay is answered and measured; Sync and Announce are counted and ignored; messages of other domains
are dropped and counted. -/
def gptpRx (s0 : State) (p : Nat) (o : Octets) (ts0 : Nat) : State :=
  if !portLive s0 p || !fcsGood o || etypeAt o 12 != 0x88F7 then s0
  else
    let s := perf s0 (pPort p 14)
    let ts := quant ts0
    let m := (bodyOf o).drop 14
    let typ := beAt m 0 1 % 16
    let seq := beAt m 30 2
    let corr := beAt m 8 8
    let x := gptpAt s p
    if beAt m 4 1 ≠ 0 then count s 0x0D p 2
    else match typ with
      | 0 => count s 0x0D p 3
      | 0xB => count s 0x0D p 3
      | 2 =>
        let who := slice m 20 10
        let s1 := gptpFrame s p (gptpHeader s p 3 54 0x0208 (ts % 65536) seq 5 0x7F ++ ptpTime ts ++ who)
        let t3 := quant (nt16 s)
        gptpFrame s1 p (gptpHeader s1 p 0xA 54 0x0008 (t3 % 65536) seq 5 0x7F ++ ptpTime t3 ++ who)
      | 3 =>
        if x.waiting ∧ seq = x.seqReq ∧ slice m 44 8 = clockId s then
          setGptp s p { x with t2 := ptpAt m 34 corr, t4 := ts } else s
      | 0xA =>
        if x.waiting ∧ seq = x.seqReq ∧ x.t4 ≠ 0 ∧ slice m 44 8 = clockId s then
          setGptp s p (exchanged s p x (ptpAt m 34 corr) (slice m 20 8))
        else s
      | _ => s

/-- HOLDOVER_END (R118, R120): Sync and Announce stop, and PPS_OUT is driven low unless it runs free. -/
def holdoverOver (s : State) : State :=
  if s.time.holdover && due s s.time.holdoverEnd then
    { s with time := { s.time with holdover := false, gptpStopped := true, pps := s.time.pps && s.time.cfg.ppsFreeRun } }
  else s

/-! ### PPS_OUT (R120) -/

/-- One second in 2⁻¹⁶ ns. -/
def sec16 : Nat := 1000000000 * 65536

/-- PPS_OUT runs: in SYNCHRONISED, in holdover, or free. -/
def ppsRuns (s : State) : Bool := synced s || s.time.holdover || s.time.cfg.ppsFreeRun

/-- The time since the last PPS edge's nominal place, with the board-delay correction applied. -/
def ppsPhase (s : State) : Nat := (((nt16 s : Int) - s.time.cfg.ppsDelay * 16384) % (sec16 : Int)).toNat

/-- PPS_OUT_EDGE (R120): the output rises on a whole second of network time, which the counter passes in steps of 8 ns and a share of a
slew, and falls after its high time. -/
def ppsOutEdge (s : State) : State :=
  let high := s.time.cfg.ppsHigh * 1000 * 65536
  if !s.clk.pllLocked then s
  else if !s.time.pps && ppsRuns s && decide (ppsPhase s < ns16 16) then
    perf { s with time := { s.time with pps := true } } (pPkg 17)
  else if s.time.pps && (!ppsRuns s || decide (high ≤ ppsPhase s)) then { s with time := { s.time with pps := false } }
  else s

/-! ### REF10M_OUT (R121) -/

/-- 100 ns in 2⁻⁴⁸ ns. -/
def refPeriod : Nat := 100 * 2 ^ 48

/-- How far network time is ahead of REF10M_OUT, whose rising edges belong on whole multiples of 100 ns (R121). -/
def refError (s : State) (phase : Nat) : Int :=
  (((s.time.nt + refPeriod / 2 + (refPeriod - phase % refPeriod)) % refPeriod : Nat) : Int) - (refPeriod / 2 : Nat)

/-- What the loop adds to the output in a step of 8 ns (R121). DESIGN CHOICE (log entry 111): a first-order loop, whose bandwidth of 10 Hz
makes it 1 part in 1 989 437 of the error; after the first 8 pairs in SYNCHRONISED it holds the error within 2 ns. Without
network time to follow it adds nothing. -/
def refLoop (s : State) (e : Int) : Int :=
  let c := e / 1989437
  let lim : Int := 2 * 2 ^ 48
  if !(synced s || s.time.holdover) then 0
  else if synced s && decide (8 ≤ s.time.pairsInSync) then max (e - lim) (min (e + lim) c) else c

/-- REF10M_OUT after a step `d` of the counter, by the local counter and the loop: high in the first half of its period (R121). -/
def refTick (s : State) (d : Nat) : State :=
  let a := s.time.refPhase + d
  let b := (((a : Int) + refLoop s (refError s a)) % (refPeriod : Nat)).toNat
  let placed := (((b : Int) - s.time.cfg.ref10mDelay * 2 ^ 46) % (refPeriod : Nat)).toNat
  { s with time := { s.time with refPhase := b, ref10m := decide (placed < refPeriod / 2) } }

/-! ### Captures (R122, R123) -/

/-- A capture input. -/
def capAt (s : State) (i : Nat) : CapIn := tblGet {} s.time.caps i

/-- The state with a capture input replaced. -/
def setCap (s : State) (i : Nat) (x : CapIn) : State :=
  { s with time := { s.time with caps := tblSet {} s.time.caps i x } }

/-- Records an input's FIFO holds (R122). -/
def capDepth (i : Nat) : Nat := if i = 0 then 16 else 64

/-- The edge is one that the input captures: PPS_IN rising only, the others as selected (R122). -/
def capSelected (s : State) (i : Nat) (rising : Bool) : Bool :=
  let e := if i = 0 then 0 else (capAt s i).edges
  e == 2 || (e == 0 && rising) || (e == 1 && !rising)

/-- The timestamp of an edge with its board-delay correction, quantised to 250 ps (R85, R122). -/
def capTime (x : CapIn) (ts : Nat) : Nat := quant ((ts : Int) + x.delay * 16384).toNat

/-- A capture record (R123). -/
def capRecord (s : State) (t16 : Nat) (falling lost : Bool) : Nat :=
  t16 / 65536 % 2 ^ 64 + t16 % 65536 * 2 ^ 64 + b2n falling * 2 ^ 80 + b2n s.time.timeValid * 2 ^ 81 +
    b2n (!synced s) * 2 ^ 82 + b2n lost * 2 ^ 83

/-- EVCAP_EDGE (R122): a selected edge is timestamped into its input's FIFO. -/
def evcapEdge (s : State) (i : Nat) (rising : Bool) (ts : Nat) : State :=
  let x := capAt s i
  let close := match x.lastEdge with
    | none => false
    | some t => decide (ts < t + 16 * 65536)
  if !s.clk.pllLocked || !capSelected s i rising then s
  else if close then count s 0x0D i 4
  else if capDepth i ≤ x.fifo.length then count (setCap s i { x with lost := true }) 0x0D i 5
  else
    signal (perf (setCap s i { x with fifo := x.fifo ++ [capRecord s (capTime x ts) (!rising) x.lost], lost := false
                                      lastEdge := some ts }) (pPkg 18)) (1740 + i)

/-! ### Timers (R124) -/

/-- A timer. -/
def timerAt (s : State) (i : Nat) : Timer := tblGet {} s.time.timers i

/-- The state with a timer replaced. -/
def setTimer (s : State) (i : Nat) (x : Timer) : State :=
  { s with time := { s.time with timers := tblSet {} s.time.timers i x } }

/-- TIMER_EDGE (R124): at its instant, with the pin's board-delay correction, the output rises, taking up a changed period at this
boundary, or falls; after the last pulse of a counted train the timer stops. DESIGN CHOICE (log entry 109): a changed pulse count of a
running train is compared at the next falling edge with the pulses made since its start. -/
def timerEdge (s : State) (i : Nat) : State :=
  let x := timerAt s i
  if !s.clk.pllLocked || !x.running || decide ((nt16 s : Int) < x.nextEdge + x.delay * 16384) then s
  else if x.level then
    let stop := decide (x.count ≠ 0) && decide (x.count ≤ x.done + 1)
    setTimer s i { x with level := false, done := x.done + 1, running := !stop
                          nextEdge := x.nextEdge + (x.curPeriod - x.curHigh) * 16384 }
  else
    setTimer s i { x with level := true, curPeriod := x.period, curHigh := x.high
                          nextEdge := x.nextEdge + x.high * 16384 }

/-! ### Meanings -/

/-- GPTP_SEND (R117). -/
def execGptpSend (p : Nat) (msg : GptpMsg) (ts : Nat) (s : State) : Host.Outcome State Fault Refusal :=
  checked (Instr.wf (.gptpSend p msg ts)) s (gptpSend s p msg ts)

/-- GPTP_RX (R117). -/
def execGptpRx (p : Nat) (frame : Octets) (ts : Nat) (s : State) : Host.Outcome State Fault Refusal :=
  checked (Instr.wf (.gptpRx p frame ts)) s (gptpRx s p frame ts)

/-- HOLDOVER_END (R118). -/
def execHoldoverEnd (s : State) : Host.Outcome State Fault Refusal :=
  checked (Instr.wf (.holdoverEnd)) s (holdoverOver s)

/-- PPS_OUT_EDGE (R120). -/
def execPpsOutEdge (s : State) : Host.Outcome State Fault Refusal :=
  checked (Instr.wf (.ppsOutEdge)) s (ppsOutEdge s)

/-- EVCAP_EDGE (R122). -/
def execEvcapEdge (i : Nat) (rising : Bool) (ts : Nat) (s : State) : Host.Outcome State Fault Refusal :=
  checked (Instr.wf (.evcapEdge i rising ts)) s (evcapEdge s i rising ts)

/-- TIMER_EDGE (R124). -/
def execTimerEdge (i : Nat) (s : State) : Host.Outcome State Fault Refusal :=
  checked (Instr.wf (.timerEdge i)) s (timerEdge s i)

end Sys2Proof.Machine
end

