-- ==== Sys2Proof/Machine/Ingress.lean ====
section
/-! DEFINITION. Ingress.lean: reception on edge and uplink ports, cell requests that fail, and frames that return from the
cellar. -/

namespace Sys2Proof.Machine

open Sys2Proof

/-- The first fault source of the unit of an edge or uplink port (R415). -/
def portUnit (p : Nat) : Nat := if p < 16 then 112 + 4 * p else 202 + 4 * (p - 16)

/-- A port receives: its region runs, its link is up and its unit is in service. -/
def portReceives (s : State) (p : Nat) : Bool :=
  portLive s p && !(portAt s p).disabled && !unitBusy s (portUnit p)

/-- The MAC status of a frame of a length before the cut (R256, R257). -/
def macStatus (maxFrame len : Nat) (fcsOk sym : Bool) : Nat :=
  let runt := decide (len < 64)
  let trunc := decide (maxFrame < len)
  b2n (!runt && !trunc && !fcsOk) + 2 * b2n sym + 4 * b2n runt + 8 * b2n trunc

/-- The counters of a frame of 18 octets or more (R262). -/
def countRx (s : State) (p status : Nat) (o : Octets) : State :=
  let s1 := perfN (perf (countN (countPort s p 0) 0x01 p 1 o.length) (pPort p 0)) (pPort p 1) o.length
  let kind := if dmacOf o = 2 ^ 48 - 1 then 4 else if bitOf (dmacOf o) 40 then 3 else 2
  let s2 := if bitOf status 0 then countPort s1 p 5 else countPort s1 p kind
  let s3 := if bitOf status 1 then countPort s2 p 6 else s2
  let s4 := if bitOf status 2 then countPort s3 p 7 else s3
  let s5 := if bitOf status 3 then countPort s4 p 8 else s4
  if status = 0 then s5 else perf s5 (pPort p 4)

/-- MAX_FRAME in force at the first octet of a frame, which arrived at an instant (R255, R285). -/
def maxFrameAt (s : State) (p ts : Nat) : Nat :=
  match (portAt s p).frameWas with
  | some (was, t) => if ts < t then was else (portAt s p).cfg.maxFrame
  | none => (portAt s p).cfg.maxFrame

/-- A whole frame at the receive MAC of an edge or uplink port (R256 to R261): runts of fewer than 18 octets are discarded, MAC
control and gPTP messages are consumed, and any other frame is stored, classified, metered and admitted. -/
def macFrame (s : State) (p : Nat) (o : Octets) (sym : Bool) (ts : Nat) : State :=
  let maxF := maxFrameAt s p ts
  let good := fcsGood o
  if o.length < 18 then countPort s p 7
  else
    let status := macStatus maxF o.length good sym
    let s1 := countRx s p status o
    let et := etypeAt o 12
    if et = 0x8808 then macControl s1 p o (good && decide (o.length ≤ maxF))
    else if et = 0x88F7 ∧ status = 0 then gptpRx s1 p o ts
    else
      continueArrival s1 { data := o.take maxF, kind := .edge
                           fr := { data := o.take maxF, acct := p, ingress := p, status := status, ts := quant ts
                                   tsFlags := timeFlags s } }

/-- A frame that fails reassembly on an edge or uplink port is discarded whole (R235, R526). -/
def fragFail (s : State) (p : Nat) : State :=
  countPort (countPort (setPort s p { portAt s p with asmb := {} }) p 45) p 50

/-- A preemptable frame whose last mPacket has arrived joined to those before it is whole (R235, R526). -/
def edgeWhole (s : State) (p : Nat) (r : Reasm) : State :=
  macFrame (countPort (setPort s p { portAt s p with asmb := {} }) p 52) p r.data r.sym r.ts

/-- One mPacket of a preemptable frame on an edge or uplink port: a start opens the port's context unless it is the whole frame, and a
continuation must follow on in it (R218, R235, R526). -/
def edgeFragment (s : State) (p : Nat) (mp : Mpacket) (start : Bool) (ts : Nat) : State :=
  let x := (portAt s p).asmb
  let put := fun (t : State) (r : Reasm) => setPort t p { portAt t p with asmb := r }
  if start then
    let s1 := if x.isOpen then fragFail s p else s
    if mp.last then macFrame s1 p mp.data (packetSym mp) ts
    else if !mp.crcOk then fragFail s1 p
    else put s1 { isOpen := true, data := mp.data, cnt := mp.frameCount % 4, frag := 0, since := now s, ts := ts, sym := packetSym mp }
  else if !x.isOpen then countPort (countPort s p 45) p 51
  else
    let s1 := perf (countPort s p 53) (pPort p 7)
    let y := { x with data := x.data ++ mp.data, frag := (x.frag + 1) % 4, since := now s, sym := x.sym || packetSym mp }
    if x.cnt ≠ mp.frameCount % 4 ∨ x.frag ≠ mp.fragCount % 4 ∨ (mp.last = false ∧ mp.crcOk = false) then fragFail s1 p
    else if mp.last then edgeWhole s1 p y
    else put s1 y

/-- What a port in loopback PMA_FAR receives is returned to the partner as it came (R267). -/
def returned (s : State) (p : Nat) (mp : Mpacket) : State :=
  let n := if mp.last then mp.data.length - 4 else mp.data.length
  let all := if mp.smd = .contP then (portAt s p).asmb.data ++ mp.data else mp.data
  let crc := if mp.last then mp.data.drop n else if mp.crcOk then mcrcOf all else badFcs all
  if (portAt s p).cfg.loopback ≠ 3 then s
  else match mp.smd with
    | .express => emit s (.frame p mp.data)
    | .startP => emit s (.fragment p (startCode .low mp.frameCount) none (mp.data.take n) crc)
    | .contP => emit s (.fragment p (contCode .low mp.frameCount) (some (fragCode mp.fragCount)) (mp.data.take n) crc)
    | x => emit s (.verify p x)

/-- MAC_FRAME_RX (R256): one mPacket arrives on an edge or uplink port, whose gated clock comes back (R23). -/
def macFrameRx (s0 : State) (p : Nat) (mp : Mpacket) (ts : Nat) : State :=
  let s := if portReceives s0 p then returned (countFec (wake s0 [portUnit p]) p mp) p mp else s0
  if !portReceives s p then s
  else if mp.shortGap then countPort s p 9
  else match mp.smd with
    | .express => macFrame s p mp.data (packetSym mp) ts
    | .startP => edgeFragment s p mp true ts
    | .contP => edgeFragment s p mp false ts
    | .verifyP => smdVerifyRx s p .verifyP
    | .responseP => smdVerifyRx s p .responseP
    | _ => countPort (countPort s p 9) p 51

/-- CELL_REQUEST_TIMEOUT (R177): a request ungranted after 32 ticks fails, and its frame is discarded whole. -/
def cellTimeout (s : State) (i : Nat) : State :=
  match s.vat.waits[i]? with
  | none => s
  | some a =>
    if due s (a.since + 32) then
      let s1 := { s with vat := { s.vat with waits := s.vat.waits.eraseIdx i } }
      match cellSource s1 a with
      | .error c => failArrival s1 a c
      | .ok _ => failArrival s1 a .limit
    else s

/-- The request that the allocator grants: of those that can be granted, the one whose account comes first in rotating order (R177). -/
def nextGrant (s : State) : Option Nat :=
  let rank : Nat → Nat := fun i => match s.vat.waits[i]? with
    | some a => (a.fr.acct + 23 - s.vat.rotor % 23) % 23
    | none => 23
  let ok := (List.range s.vat.waits.length).filter (fun i => match s.vat.waits[i]? with
    | some a => (cellSource s a).isOk
    | none => false)
  ok.foldl (fun (acc : Option Nat) i => match acc with
    | none => some i
    | some j => if rank i < rank j then some i else some j) none

/-- A frame marked for spill whose request meets an empty staging pool is discarded (R185). -/
def failStaging (s : State) : State :=
  match s.vat.waits.findIdx? (fun a => match cellSource s a with
    | .error .staging => true
    | _ => false) with
  | none => s
  | some i => match s.vat.waits[i]? with
    | none => s
    | some a => failArrival { s with vat := { s.vat with waits := s.vat.waits.eraseIdx i } } a .staging

/-- The allocator grants one request per tick, serving waiting accounts in rotating order; a cell freed in a tick can be granted from
the next (R177, R182). -/
def grantWaiting (s0 : State) : State :=
  let s := failStaging s0
  match nextGrant s with
  | none => s
  | some i => match s.vat.waits[i]? with
    | none => s
    | some a => grantCell { s with vat := { s.vat with rotor := a.fr.acct + 1 } } i a

/-- The meter acts on one frame of the tick that ends; one that it leaves no destination is discarded (R169, R180). -/
def meterOne (x : State × List Arrival) (a : Arrival) : State × List Arrival :=
  if a.kind = .slotRx ∨ a.kind = .slotEgress then (x.1, x.2 ++ [{ a with metered := true }])
  else
    let r := meterArrival x.1 a
    if r.2.fr.dests.isEmpty then (discardArrival r.1 r.2, x.2) else (r.1, x.2 ++ [{ r.2 with metered := true }])

/-- The meters act on the frames whose last octets arrived in the tick that ends, in ascending ingress-port number (R169, R172). -/
def meterArrivals (s : State) : State :=
  let fresh := s.vat.waits.filter (fun a => !a.metered)
  let r := ((List.range 23).flatMap (fun g => fresh.filter (fun a => a.fr.ingress == g))).foldl meterOne
    (s, s.vat.waits.filter (·.metered))
  { r.1 with vat := { r.1.vat with waits := r.2 } }

/-! ### Returns from the cellar (R186) -/

/-- The oldest spilled entry of a queue. -/
def spiltEntry (s : State) (k : Nat) : Option QEnt := (queueAt s k).find? (fun e => e.state == .inCellar)

/-- An entry of a queue takes a state. -/
def setEntry (s : State) (k h : Nat) (st : QState) : State :=
  setQueue s k ((queueAt s k).map (fun e => if e.h = h then { e with state := st } else e))

/-- SPILL_RETURN (R186): below half its LIMIT a queue starts the return of its oldest spilled frame, with cells of the shared
pool. -/
def spillReturn (s : State) (k : Nat) : State :=
  let d := destOfQueue k
  match spiltEntry s k with
  | none => s
  | some e =>
    let v := frameAt s e.h
    let n := if v.inCellar then cellsOf v.data.length else 0
    if 2 * destCells s d < (destQuota s d).limit ∧ n ≤ poolFree s ∧ cellarUp s = true ∧
        (queueAt s k).all (fun x => x.state != .returning) then
      let s1 := { s with vat := { s.vat with
        poolUsed := s.vat.poolUsed + n
        acctCells := tblAdd s.vat.acctCells v.acct n
        destCells := tblAdd s.vat.destCells d (v.cells + n) } }
      let s2 := setFrame s1 e.h { v with pool := v.pool + n, inCellar := false, charged := setInsert v.charged d }
      useCellar (setEntry s2 k e.h .returning)
    else s

/-- SPILL_RETURN_DONE (R186): the returning frame is in the vat again and may be the head of its queue; it no longer counts
towards SPILL_LIMIT (R184). -/
def spillReturnDone (s : State) (k : Nat) : State :=
  match (queueAt s k).find? (fun e => e.state == .returning) with
  | none => s
  | some e =>
    let d := destOfQueue k
    let v := frameAt s e.h
    let s1 := setFrame s e.h { v with spillDests := v.spillDests.erase d }
    let s2 := if d ∈ v.spillDests then
      { s1 with vat := { s1.vat with spillUsed := tblAdd s1.vat.spillUsed d (-(v.data.length : Int)) } } else s1
    perfN (perf (setEntry s2 k e.h .ready) (pPkg 13)) (pPkg 14) v.data.length

/-! ### Meanings -/

/-- MAC_FRAME_RX (R256). -/
def execMacFrameRx (p : Nat) (mp : Mpacket) (ts : Nat) (s : State) : Host.Outcome State Fault Refusal :=
  checked (Instr.wf (.macFrameRx p mp ts)) s (macFrameRx s p mp ts)

/-- CELL_REQUEST_TIMEOUT (R177). -/
def execCellRequestTimeout (i : Nat) (s : State) : Host.Outcome State Fault Refusal :=
  checked (Instr.wf (.cellRequestTimeout i)) s (cellTimeout s i)

/-- SPILL_RETURN (R186). -/
def execSpillReturn (q : Nat) (s : State) : Host.Outcome State Fault Refusal :=
  checked (Instr.wf (.spillReturn q)) s (spillReturn s q)

/-- SPILL_RETURN_DONE (R186). -/
def execSpillReturnDone (q : Nat) (s : State) : Host.Outcome State Fault Refusal :=
  checked (Instr.wf (.spillReturnDone q)) s (spillReturnDone s q)

end Sys2Proof.Machine
end

