-- ==== Sys2Proof/Machine/PortOps.lean ====
section
/-! DEFINITION. PortOps.lean: links of the edge and uplink ports and what ends with them (R241, R263 to R266, R282, R489). -/

namespace Sys2Proof.Machine

open Sys2Proof

/-- Frames in progress at a port's MAC are discarded: its transmit frames are counted nowhere, and what was arriving goes with
its reassembly (R180, R266). -/
def dropPortWork (s : State) (p : Nat) : State :=
  let m := macAt s p
  let fin := fun (t : State) (h : Option Nat) (q : Nat) => match h with
    | some x => finishDest t x (destOfQueue (8 * p + q))
    | none => t
  let s1 := fin (fin s m.ex m.exQ) m.pm m.pmQ
  let s2 := setMac s1 p { hold := m.hold, cnt := m.cnt }
  let s3 := setPort s2 p { portAt s2 p with asmb := {} }
  let gone := fun (a : Arrival) => a.kind == .edge && a.fr.acct == p
  (s3.vat.waits.filter gone).foldl discardArrival
    { s3 with vat := { s3.vat with waits := s3.vat.waits.filter (fun a => !gone a) } }

/-- A port's link goes down: its event is raised, its pauses and its verification end with it (R222, R241, R266, R282). -/
def portLinkDown (s : State) (p : Nat) : State :=
  if !(portAt s p).link then s
  else
    let s1 := dropPortWork (perf (countPort s p 18) (pPort p 9)) p
    let s2 := setPort s1 p { portAt s1 p with link := false, rate := 0, anDone := false }
    let s3 := setPause s2 p { pauseAt s2 p with upto := [], since := [] }
    let s4 := setPre s3 p { preAt s3 p with ver := if (preAt s3 p).verDis then .disabled else .unknown, tries := 0 }
    signal (setGptp s4 p {}) (1745 + p)

/-- A port's link comes up (R222, R266, R282). -/
def portLinkUp (s : State) (p : Nat) (x : PortSt) : State :=
  startVerify (setPause (setPort s p { x with link := true }) p { pauseAt s p with upto := [], since := [] }) p

/-- A port may have a link: its region runs, it is administratively up, its PHY die is there, and it is neither disabled nor in
a cable test (R23, R266, R269, R432). -/
def mayLink (s : State) (p : Nat) : Bool :=
  let x := portAt s p
  inService s .edge && x.cfg.adminUp && !x.link && !x.disabled && !x.cableTest && !loopedBack s p &&
    !s.clk.rxClockLost.contains p && !(decide (p < 16) && s.clk.d2dDown.contains (1 + p / 8))

/-- EDGE_LINK_UP (R263 to R266): training has ended at a rate that the port's parameters allow; a role that a FORCE role excludes
leaves the link down and is counted. -/
def edgeLinkUp (s : State) (p rate : Nat) (master inverted : Bool) : State :=
  let x := portAt s p
  let ok := if x.cfg.an then bitOf x.cfg.adv rate else x.cfg.forced == rate
  let want : Option Bool := if x.cfg.an then (match x.cfg.role with
      | 2 => some true
      | 3 => some false
      | _ => none)
    else some (x.cfg.role % 2 == 0)
  if !mayLink s p || !ok then s
  else if want.isSome && want != some master then (if x.cfg.an then countPort s p 48 else s)
  else portLinkUp s p { x with rate := rate + 1, master := master, anDone := x.cfg.an, polInv := inverted }

/-- EDGE_LINK_DOWN (R266). -/
def edgeLinkDown (s : State) (p : Nat) : State := portLinkDown s p

/-- UPLINK_LINK_DOWN (R282). -/
def uplinkLinkDown (s : State) (u : Nat) : State := portLinkDown s (16 + u)

/-- A port whose drain has found it empty, or whose drain has timed out, goes down; frames left are dropped (R488, R489). -/
def endPortDrain (s : State) (p : Nat) : State :=
  let s1 := (List.range 8).foldl (fun t q => dropQueue t (8 * p + q) 1) s
  portLinkDown (setPort s1 p { portAt s1 p with draining := false }) p

/-- A draining port with nothing left to send ends its drain (R489). -/
def portDrainCheck (s : State) (p : Nat) : State :=
  if (portAt s p).draining && (macAt s p).ex.isNone && (macAt s p).pm.isNone &&
      (List.range 8).all (fun q => (queueAt s (8 * p + q)).isEmpty) then endPortDrain s p
  else s

/-- ADMIN_UP is cleared: the port drains, or goes down at once where nothing waits (R489). -/
def startPortDrain (s : State) (p : Nat) : State :=
  portDrainCheck (setPort s p { portAt s p with draining := true, drainEnd := now s + msTicks s.dma.drainMs }) p

/-! ### Meanings -/

/-- EDGE_LINK_UP (R266). -/
def execEdgeLinkUp (p : Nat) (rate : Nat) (master : Bool) (inverted : Bool) (s : State) : Host.Outcome State Fault Refusal :=
  checked (Instr.wf (.edgeLinkUp p rate master inverted)) s (edgeLinkUp s p rate master inverted)

/-- EDGE_LINK_DOWN (R266). -/
def execEdgeLinkDown (p : Nat) (s : State) : Host.Outcome State Fault Refusal :=
  checked (Instr.wf (.edgeLinkDown p)) s (edgeLinkDown s p)

/-- UPLINK_LINK_DOWN (R282). -/
def execUplinkLinkDown (u : Nat) (s : State) : Host.Outcome State Fault Refusal :=
  checked (Instr.wf (.uplinkLinkDown u)) s (uplinkLinkDown s u)

end Sys2Proof.Machine
end

