-- ==== Sys2Proof/Machine/RingCtl.lean ====
section
/-! DEFINITION. RingCtl.lean: ring-control frames: calibration, reports, beats, announces and ring events; bypass and
withdrawal (chapters 3, 4 and 15). -/

namespace Sys2Proof.Machine

open Sys2Proof

/-! ### Checks of a received ring frame -/

/-- The rotation a ring port receives (R48). -/
def rxRot (s : State) (e : RPort) : Rot :=
  match rotOfPort s e with
  | .cw => .ccw
  | .ccw => .cw

/-- The strip limit 2P (R151). -/
def stripLimit (s : State) : Nat := 2 * (s.cyc.image.map (·.p)).getD 64

/-- The ID of a header is in range for its SEG and exists (R59). -/
def idGood (s : State) (h : Hdr) : Bool :=
  match h.seg with
  | 0 => (match s.cyc.image with
    | some i => decide (1 ≤ h.id) && decide (h.id ≤ i.s) && (i.own.any (fun e => e.slot == h.id) || i.piers.any (fun e => e.slot == h.id))
    | none => false)
  | 1 => (match s.cyc.image with
    | some i => i.dyn.any (fun e => e.1 == h.id)
    | none => false)
  | 2 => h.id == 0
  | _ => [0x10, 0x11, 0x12, 0x20, 0x21, 0x22].contains h.id

/-- The first check of R59 that a frame arriving on a port fails, as its counter; the cycle is that in whose view the frame falls, and
is not checked outside SYNCHRONISED (R51, R106). -/
def hdrCheck (s : State) (e : RPort) (o : Octets) (ts : Nat) : Option Nat :=
  let h := parseHdr o
  if h.etype ≠ ringEtype s then some 19
  else if !hcrcGood o then some 20
  else if h.ver ≠ 1 then some 21
  else if !idGood s h then some 22
  else if synced s && decide (h.seg < 2) && h.cyc != viewCycle s (rxRot s e) ts % 64 then some 23
  else if stripLimit s ≤ h.hops then some 24
  else none

/-- A frame received on a ring port is counted (R262). -/
def ringRxCount (s : State) (e : RPort) (o : Octets) : State :=
  let p := rpIdx e
  perfN (perf (countN (countPort s p 0) 0x01 p 1 o.length) (pPort p 0)) (pPort p 1) o.length

/-- The stripping rules for a frame of the node's own number: none where it travels on (R151). -/
def stripOwn (s : State) (e : RPort) (h : Hdr) : Option State :=
  if h.origin ≠ me s then none
  else
    let along := h.rot == (match rxRot s e with
      | .cw => 0
      | .ccw => 1)
    if along || (!h.looped && decide (now s < s.ring.cwChange + msTicks 1)) then
      some (countPort s (rpIdx e) 38)
    else if h.looped then none
    else some (feedSystem (countPort s (rpIdx e) 39) 270 0 0)

/-- The Ring region takes ring-control frames: it runs and the bypass is off. -/
def ctlRuns (s : State) : Bool := inService s .ring && !s.ring.bypassOn

/-- A ring-control frame of a type that passes R59, where part of it has not passed it already: its header and whether its FCS is good,
and the counters it has advanced (R59, R80). -/
def ctlAccept (s : State) (e : RPort) (o : Octets) (typ ts : Nat) (fwd : Bool) : Option (Hdr × Bool) × State :=
  let s1 := ringRxCount s e o
  match if fwd then none else hdrCheck s e o ts with
  | some ev => (none, countPort s1 (rpIdx e) ev)
  | none =>
    let h := parseHdr o
    if h.seg ≠ 3 ∨ h.id ≠ typ then (none, s1)
    else (some (h, fcsGood o), if fcsGood o then s1 else countPort s1 (rpIdx e) 5)

/-- The payload of a ring-control frame (R96). -/
def ctlPayload (o : Octets) : Octets := padTo 48 ((bodyOf o).drop 28)

/-- A delay report leaves through a port: as a calibration frame it passes a LINKED port, and at an abutment it is looped
too (R145; log entry 12). -/
def outReport (s : State) (e : RPort) (f : RFrame) (fwd : Bool) : State :=
  let go := if fwd then toTransit s e .high (hopFrame f) else sendCtl s e f.data (nt16 s)
  match (rport s e).state with
  | .inRing => go
  | .linked => if inRing s (otherPort e) then loopOut go e .high f else go
  | .down => loopOut s e .high f

/-- A ring-control frame for every node is forwarded out of the other port; a report passes a LINKED one too (R80, R128, R145). -/
def forwardCtl (s : State) (e : RPort) (o : Octets) (good report : Bool) : State :=
  if report then
    outReport (countBad s e good false) (otherPort e) { data := o, bad := !good } true
  else forwardFrom s e .high o good false

/-- A ring-control frame for every node arrives: discarded on a port that is not in the ring, stripped at its origin, else
forwarded, unless it went on as it arrived; whether its contents act here (R81, R145, R151). -/
def passAll (s : State) (e : RPort) (o : Octets) (h : Hdr) (good fwd report : Bool) : Bool × State :=
  let acts := good && h.origin != me s
  if fwd then (acts, s)
  else if !inRing s e && !report then (false, countPort s (rpIdx e) 36)
  else match stripOwn s e h with
    | some t => (false, t)
    | none => (acts, forwardCtl s e o good report)

/-- A ring-control frame for every node (R80, R81, R96, R128): it goes on, and its contents act here where R81 gives the node a copy. With
the bypass on it has gone on unchanged, and the Ring region acts on the copy (R153). -/
def ctlForAll (s : State) (e : RPort) (o : Octets) (typ ts : Nat) (fwd report : Bool) (act : State → Octets → State) : State :=
  let byp := s.ring.bypassOn
  if !inService s .ring || (!byp && (rport s e).state == .down) then s
  else match ctlAccept s e o typ ts fwd with
    | (none, t) => t
    | (some (h, good), t) =>
      let r := if byp then (good && h.origin != me t, t) else passAll t e o h good fwd report
      if r.1 then act r.2 (ctlPayload o) else r.2

/-- A calibration frame for the node itself (R90, R96): it acts here and goes no further; a node in bypass leaves it alone (R153). -/
def ctlForNear (s : State) (e : RPort) (o : Octets) (typ ts : Nat) (act : State → Hdr → Octets → State) : State :=
  if !ctlRuns s || (rport s e).state == .down then s
  else match ctlAccept s e o typ ts false with
    | (some (h, true), t) => act t h (ctlPayload o)
    | (_, t) => t

/-- The view of the open segment of the cycle in progress is still to come or in progress on an egress; the end of the one before is
over (R71, R94, R95, R128, R147). -/
def viewAhead (s : State) (e : RPort) : Bool :=
  match s.cyc.image with
  | none => false
  | some i =>
    let rot := rotOfPort s e
    decide (nt16 s < openEnd s i s.cyc.n rot) && !(decide (0 < s.cyc.n) && openOf s i rot (s.cyc.n - 1))

/-! ### Calibration (R90 to R96) -/

/-- The delay into a port with its asymmetry correction (R92). -/
def dIn (s : State) (e : RPort) : Nat :=
  let x := rport s e
  (((x.d.getD 0 : Nat) : Int) + x.alpha).toNat

/-- The next exchange of a burst may go out: one per port in each cycle, in the view of the open segment; in falsework one every 25 µs
(R91, R94, R126). -/
def exchangeMayGo (s : State) (e : RPort) : Bool :=
  let x := rport s e
  if s.cyc.c0.isSome then x.burstCycle != some s.cyc.n && (!synced s || viewAhead s e) else due s x.burstNext

/-- CAL_BURST_START (R94): the next exchange of a burst begins with a DELAY_REQ. -/
def calBurstStart (s : State) (e : RPort) (ts : Nat) : State :=
  let x := rport s e
  match x.burstNo, x.outT1 with
  | some k, none =>
    if ctlRuns s && x.state != .down && (rtx s e).ctl.all (fun o => (parseHdr o).id != 0x10) && exchangeMayGo s e then
      let q := (x.reqSeq + 1) % 65536
      let pay := padTo 32 (beBytes 2 q ++ beBytes 1 (rpBit e) ++ beBytes 1 k)
      sendNear (setRport s e { x with reqSeq := q, burstCycle := some s.cyc.n, burstNext := now s + usTicks 25 }) e 0x10 pay ts
    else s
  | _, _ => s

/-- A DELAY_REQ is timestamped and answered (R90). -/
def delayReqIn (s : State) (e : RPort) (o : Octets) (ts : Nat) : State :=
  ctlForNear s e o 0x10 ts (fun t h p =>
    sendNear t e 0x11 (padTo 32 (slice p 0 2 ++ beBytes 1 h.origin ++ slice p 3 1 ++ timeBytes (quant ts) ++
      timeBytes (quant (nt16 t)) ++ beBytes 1 (rpBit e))) (nt16 t))

/-- DELAY_REQ_RX (R90): the request is answered, or passes through the bypass. -/
def delayReqRx (s : State) (e : RPort) (o : Octets) (ts : Nat) : State := delayReqIn (throughBypass s e o) e o ts

/-- A quotient whose rounding the spec does not state: the sense is a free value (log entry 6). -/
def openDiv (s : State) (a : Int) (b : Nat) : Int :=
  if b = 0 then 0 else a / (b : Int) + (if a % (b : Int) = 0 then 0 else (drawVal s 2 : Nat))

/-- The first and last good exchanges of a burst fall in one cycle (R91). -/
def oneCycle (s : State) (a b : Exch) : Bool :=
  match s.cyc.c0, s.cyc.image with
  | some c, some i => (a.t1 + 2 ^ 80 - c % 2 ^ 80) % 2 ^ 80 / tcyc i == (b.t1 + 2 ^ 80 - c % 2 ^ 80) % 2 ^ 80 / tcyc i
  | _, _ => false

/-- The result of a burst from its good exchanges (R91). DESIGN CHOICE (log entry 103): where the last t3 does not exceed the first, so
that no ratio has a positive base, ν is 1. -/
def burstResult (s : State) (l : List Exch) : Option Int :=
  match l.head?, l.getLast? with
  | some a, some b =>
    let big : Int := (b.t4 : Int) - (a.t4 : Int)
    let base : Int := (b.t3 : Int) - (a.t3 : Int)
    let single := l.length = 1 ∨ oneCycle s a b ∨ base ≤ 0
    let num := if single then 1 else big
    let den : Int := if single then 1 else base
    let terms := l.map (fun x => ((x.t4 : Int) - (x.t1 : Int)) * den - num * ((x.t3 : Int) - (x.t2 : Int)))
    some (openDiv s terms.sum (2 * den.toNat * l.length))
  | _, _ => none

/-- The span delay of a port after a burst result (R92). DESIGN CHOICE (log entry 104): a delay below 0, which the unsigned report field
cannot carry, is held as 0, and so is d_in. -/
def updateDelay (s : State) (e : RPort) (dn : Int) : State :=
  let x := rport s e
  let fin := fun (t : State) (v : Int) => setRport t e { rport t e with
    d := some v.toNat, firstBurst := false, burstOk := true, dinSinceReset := true }
  match x.d with
  | none => fin s dn
  | some d =>
    if x.firstBurst then fin s dn
    else if 8 * 65536 < (dn - (d : Int)).natAbs then signal (countPort (fin s dn) (rpIdx e) 28) (1782 + rpBit e)
    else drawn (fin s ((d : Int) + openDiv s (dn - (d : Int)) 4))

/-- The hop delays measured during a burst become the node's own (R93). DESIGN CHOICE (log entry 105): the mean is rounded down to
2⁻¹⁶ ns. -/
def takeHops (s : State) : State :=
  let r := s.ring
  let a := if r.hopAccE2W.2 = 0 then none else some (r.hopAccE2W.1 / r.hopAccE2W.2)
  let b := if r.hopAccW2E.2 = 0 then none else some (r.hopAccW2E.1 / r.hopAccW2E.2)
  { s with ring := { r with hopE2W := a, hopW2E := b, hopAccE2W := (0, 0), hopAccW2E := (0, 0) } }

/-- A port's burst has ended, or the port has no link. -/
def burstOver (s : State) (e : RPort) : Bool := (rport s e).state == .down || (rport s e).burstNo.isNone

/-- With the bursts of both ports over the hop delays are taken, a report is due, and CALIBRATING goes on (R93, R95, R131). -/
def burstRound (s : State) : State :=
  if burstOver s .east && burstOver s .west then
    let s3 := takeHops s
    let s4 := { s3 with ring := { s3.ring with reportDue := some (if s3.cyc.c0.isSome then s3.cyc.n + 1 else 0) } }
    if s4.ring.state = .calibrating then
      let again := fun (t : State) (x : RPort) =>
        if (rport t x).state != .down && !(rport t x).burstOk then startBurst t x else t
      calCheck (again (again { s4 with ring := { s4.ring with calEnded := true, calDeadline := now s4 + msTicks 20 } }
        .east) .west)
    else s4
  else s

/-- The end of a burst: its result, and what follows the bursts of both ports (R91, R92). -/
def finishBurst (s : State) (e : RPort) : State :=
  let l := (rport s e).exch
  let s1 := setRport s e { rport s e with burstNo := none, exch := [] }
  burstRound (match burstResult s1 l with
    | none => countPort s1 (rpIdx e) 27
    | some d => updateDelay (drawn s1) e d)

/-- An exchange of a burst is over, good or failed. -/
def nextExchange (s : State) (e : RPort) (good : List Exch) : State :=
  let x := rport s e
  match x.burstNo with
  | none => s
  | some k =>
    let s1 := setRport s e { x with outT1 := none, exch := x.exch ++ good, burstNo := some (k + 1) }
    if k + 1 < 4 then s1 else finishBurst s1 e

/-- A DELAY_RESP completes the exchange that waits for it; one that took more than 10 µs fails it (R90, R91). -/
def delayRespIn (s : State) (e : RPort) (o : Octets) (ts : Nat) : State :=
  ctlForNear s e o 0x11 ts (fun t h p =>
    let x := rport t e
    match x.outT1 with
    | none => t
    | some t1 =>
      if beAt p 0 2 = x.reqSeq ∧ beAt p 2 1 = me t then
        let t2 := setRport t e { x with calNb := h.origin, respPort := some (if beAt p 24 1 % 2 = 0 then .east else .west) }
        if t1 + ns16 10000 < quant ts then nextExchange (countPort t2 (rpIdx e) 26) e []
        else nextExchange t2 e [{ t1 := t1, t2 := timeAt p 4, t3 := timeAt p 14, t4 := quant ts }]
      else t)

/-- DELAY_RESP_RX (R91): the response is taken, or passes through the bypass. -/
def delayRespRx (s : State) (e : RPort) (o : Octets) (ts : Nat) : State := delayRespIn (throughBypass s e o) e o ts

/-- CAL_TIMEOUT (R90): no response within 10 µs fails the exchange. -/
def calTimeout (s : State) (e : RPort) : State :=
  match (rport s e).outT1 with
  | some t1 => if t1 + ns16 10000 ≤ nt16 s then nextExchange (countPort s (rpIdx e) 26) e [] else s
  | none => s

/-- This node's report (R96). DESIGN CHOICE (log entry 106): a port is marked valid while it has link and a delay has ever been measured
on it. -/
def ownReport (s : State) : Report :=
  { eastValid := s.ring.east.link && s.ring.east.d.isSome, westValid := s.ring.west.link && s.ring.west.d.isSome
    calSeq := s.ring.calSeq, eastNb := s.ring.east.calNb, westNb := s.ring.west.calNb
    eastIn := s.ring.east.d.map (fun _ => dIn s .east), westIn := s.ring.west.d.map (fun _ => dIn s .west)
    e2w := s.ring.hopE2W.getD (maxHop s), w2e := s.ring.hopW2E.getD (maxHop s) }

/-- The payload of a DELAY_REPORT (R96). -/
def reportPayload (s : State) (r : Report) (apply : Nat) : Octets :=
  padTo 48 (beBytes 1 (me s) ++ beBytes 1 (b2n r.eastValid + 2 * b2n r.westValid) ++ beBytes 2 r.calSeq ++
    beBytes 4 (apply % 2 ^ 32) ++ beBytes 1 r.eastNb ++ beBytes 1 r.westNb ++ beBytes 4 (r.eastIn.getD 0) ++
    beBytes 4 (r.westIn.getD 0) ++ beBytes 4 r.e2w ++ beBytes 4 r.w2e)

/-- The next odd cycle from `n` on. -/
def oddFrom (n : Nat) : Nat := if n % 2 = 1 then n else n + 1

/-- A report waits for its cycle. -/
def pendReport (s : State) (node cyc : Nat) (r : Report) : State :=
  { s with ring := { s.ring with pendReps := s.ring.pendReps.filter (fun p => decide (p.node ≠ node)) ++
      [{ node := node, cycle := cyc, rep := r }] } }

/-- DELAY_REPORT_SEND (R95): in the cycle after a burst the node sends its report, and applies it as every node does. -/
def delayReportSend (s : State) : State :=
  match s.ring.reportDue with
  | none => s
  | some c =>
    if !ctlRuns s || (s.cyc.c0.isSome && decide (s.cyc.n < c)) || (synced s && !(viewAhead s .east && viewAhead s .west)) then s
    else
      let s1 := { s with ring := { s.ring with reportDue := none, calSeq := (s.ring.calSeq + 1) % 65536 } }
      let r := ownReport s1
      let held := s1.cyc.c0.isSome
      let ap := if held then oddFrom (s1.cyc.n + 4) else 0
      let send := fun (t : State) (e : RPort) =>
        outReport t e { data := ctlFrame t 0x12 (reportPayload t r ap) true (rotOfPort t e) } false
      let s2 := send (send s1 .east) .west
      if held then pendReport s2 (me s2) ap r else calCheck (applyReport s2 (me s2) r)

/-- The absolute cycle number nearest to `n` with the given low 32 bits. -/
def near32 (n v : Nat) : Nat := ((n : Int) + toSigned 32 (v + 2 ^ 32 - n % 2 ^ 32)).toNat

/-- The report that a payload carries. -/
def parseReport (p : Octets) : Report :=
  let f := beAt p 1 1
  { eastValid := bitOf f 0, westValid := bitOf f 1, calSeq := beAt p 2 2, eastNb := beAt p 8 1, westNb := beAt p 9 1
    eastIn := if bitOf f 0 then some (beAt p 10 4) else none, westIn := if bitOf f 1 then some (beAt p 14 4) else none
    e2w := beAt p 18 4, w2e := beAt p 22 4 }

/-- The first copy of a report is applied on receipt, or at its odd cycle boundary (R95). -/
def takeReport (s : State) (p : Octets) : State :=
  let node := beAt p 0 1 % 64
  let rep := parseReport p
  if s.ring.repSeen.contains (node, rep.calSeq) then s
  else
    let t := { s with ring := { s.ring with
      repSeen := (node, rep.calSeq) :: s.ring.repSeen.filter (fun x => x.1 != node) } }
    if t.cyc.c0.isNone then calCheck (applyReport t node rep)
    else
      let c := beAt p 4 4
      let n := near32 t.cyc.n c
      if c = 0 then pendReport t node (oddFrom (t.cyc.n + 1)) rep
      else if n ≤ t.cyc.n then pendReport (countRing t 6) node (oddFrom (t.cyc.n + 1)) rep
      else pendReport t node n rep

/-- A DELAY_REPORT, of which part may have gone on already (R80, R95). -/
def delayReportIn (fwd : Bool) (s : State) (e : RPort) (o : Octets) (ts : Nat) : State :=
  ctlForAll s e o 0x12 ts fwd true takeReport

/-- DELAY_REPORT_RX (R95). -/
def delayReportRx (s : State) (e : RPort) (o : Octets) (ts : Nat) : State :=
  delayReportIn false (throughBypass s e o) e o ts

/-- CAL_CHAIN_TIMEOUT (R131): 20 ms after its bursts a node leaves CALIBRATING with an incomplete chain. -/
def calChainTimeout (s : State) : State :=
  let ok := fun (e : RPort) => (rport s e).state == .down || (rport s e).burstOk
  if s.ring.state = .calibrating && s.ring.calEnded && due s s.ring.calDeadline && ok .east && ok .west &&
      !chainComplete s then enterListen (countRing s 9) else s

/-! ### Beats (R128, R129, R142 to R149) -/

/-- STATE of a beat (R129). -/
def beatStateOct (s : State) (e : RPort) : Nat :=
  timeState s + 4 * b2n (s.ring.state == .withdrawn) + 8 * b2n (loopedPort s == some e) + 16 * b2n (rport s e).ready

/-- A beat is due on a port: once per cycle in the view of the open segment where an origin is held, else every 25 µs (R128). -/
def beatDue (s : State) (e : RPort) : Bool :=
  let x := rport s e
  if s.cyc.c0.isSome then
    x.beatSent != boundary s s.cyc.n && (if synced s then viewAhead s e else inOpenView s (rotOfPort s e))
  else due s x.beatNext

/-- LINK_BEAT_SEND (R128): a beat with the counter at departure, once per cycle, or every 25 µs without an origin, when a beat period of
the port ends (R142). -/
def linkBeatSend (s : State) (e : RPort) (ts : Nat) : State :=
  let x := rport s e
  let held := s.cyc.c0.isSome
  if !ctlRuns s || x.state == .down || !beatDue s e then s
  else
    let pay := padTo 48 (beBytes 1 (me s) ++ beBytes 1 (beatStateOct s e) ++ beBytes 1 (rpBit e) ++
      beBytes 1 s.ring.keystone ++ beBytes 4 ((s.cyc.image.map (·.id)).getD 0) ++ timeBytes (quant ts) ++
      timeBytes (s.cyc.c0.getD 0) ++ beBytes 8 (if held then s.cyc.n else 0) ++
      beBytes 4 (if x.state = .linked then x.restore % 2 ^ 32 else 0) ++ beBytes 1 s.time.nval)
    let s1 := sendNear s e 0x21 pay ts
    if held then setRport s1 e { rport s1 e with beatSent := boundary s s.cyc.n }
    else readyCheck (beatCycle (setRport s1 e { rport s1 e with beatNext := now s1 + usTicks 25 }) e) e

/-- A bypass change is seen in a beat from another sender than before; the burst follows as it is applied (R94, R155). -/
def bypassDetect (s : State) (e : RPort) (sender : Nat) : State :=
  let prev := (rport s e).beatFrom
  if prev = 0xFF ∨ prev = sender then s
  else
    let beyond := match reportAt s prev with
      | some r => (nbOf r .east == some sender || nbOf r .west == some sender)
      | none => false
    let was := match reportAt s sender with
      | some r => r.bypassed
      | none => false
    if was then dueEvent s 4 e sender else if beyond then dueEvent s 3 e prev else s

/-- Whether an end that holds an origin agrees to restore a span with the other end of the latest beat (R149). -/
def mayRestore (s : State) (x : RingPort) (id : Nat) : Bool :=
  match s.cyc.c0, s.cyc.image with
  | some c, some i =>
    if x.beatC0 = 0 then x.beatState % 4 == 0
    else x.beatC0 == c && i.id == id && decide (x.beatDiff.natAbs ≤ i.phiLim * 65536)
  | _, _ => true

/-- The restore handshake of a LINKED port whose ends are both READY (R149). -/
def restoreStep (s : State) (e : RPort) (sender cycNo id : Nat) : State :=
  let x := rport s e
  let held := s.cyc.c0.isSome
  let other := x.beatC0 ≠ 0
  if !x.ready || !bitOf x.beatState 4 || !(held || other) then s
  else if !mayRestore s x id then feedSystem (countPort s (rpIdx e) 37) 272 0 0
  else
    let chooser := if held ∧ other then decide (me s < sender) else held
    if chooser then
      (if x.restore = 0 then setRport s e { x with restore := s.cyc.n + 8 } else s)
    else if x.beatRestore ≠ 0 then
      setRport s e { x with restore := near32 (if held then s.cyc.n else cycNo) x.beatRestore } else s

/-- What a beat does to the state of the port it arrived on (R144). DESIGN CHOICE (log entry 107): a beat whose C0 is all 0, of a sender
that holds no origin, is no beat with a C0 other than the node's. -/
def beatPortState (s : State) (e : RPort) (st c0 cycNo : Nat) (otherImage : Bool) : State :=
  let x := rport s e
  let held := s.cyc.c0.isSome
  match x.state with
  | .inRing =>
    let joining := bitOf st 4 && !held && c0 == 0
    let early := x.restore ≠ 0 ∧ cycNo < x.restore
    if (bitOf st 3 && !joining && !early) || (held && (otherImage || (c0 != 0 && s.cyc.c0 != some c0))) then
      setPortState s e .linked else s
  | .linked => if !held && c0 == 0 && x.burstOk && bitOf st 4 then setPortState s e .inRing else s
  | .down => s

/-- A beat with a C0 received through the bypass copy renews the time for which none has come; with the node's image it estimates the
ring's time (R156). -/
def bypassBeat (s : State) (e : RPort) (known : Bool) (c0 ttx ts : Nat) : State :=
  if c0 = 0 then s
  else if !known then { s with ring := { s.ring with bypassSince := now s } }
  else { s with ring := { s.ring with
    bypassBeats := if s.ring.bypassC0 = some c0 then s.ring.bypassBeats + 1 else 1
    bypassC0 := some c0, bypassSince := now s
    bypassEst := ((ttx + dIn s e : Nat) : Int) - (ts : Nat) } }

/-- An image identifier is that of the image in force, or of one staged for a cycle (R129). -/
def imageKnown (s : State) (id : Nat) (cyc : Option Nat) : Bool :=
  (match s.cyc.image with
    | some i => i.id == id
    | none => false) ||
  (match s.sched.pending, s.sched.actCycle, cyc with
    | some i, some a, some c => i.id == id && a == c
    | _, _, _ => false)

/-- The node is in a state from which it integrates (R133, R137). -/
def mayIntegrate (s : State) : Bool :=
  s.ring.state == .listen || s.ring.state == .rankBackoff || (s.ring.state == .announce && !s.ring.confirmed)

/-- An image identifier is that of the image in force (R133, R149). -/
def ownImage (s : State) (id : Nat) : Bool := s.cyc.image.any (fun i => i.id == id)

/-- A beat of a known image at a node out of bypass: integration from a running ring, or a longer listen period (R133, R137). -/
def beatRing (s : State) (e : RPort) (p : Octets) (ts : Nat) : State :=
  let st := beAt p 1 1
  let c0 := timeAt p 18
  if mayIntegrate s && st % 4 == 2 && c0 != 0 && ownImage s (beAt p 4 4) then
    enterIntegrating s (((nt16 s : Int) + ((timeAt p 8 + dIn s e : Nat) : Int) - (ts : Int)).toNat) c0 (beAt p 28 8) (beAt p 3 1)
  else if s.ring.state = .listen ∧ s.time.everSync ∧ (st % 4 = 1 ∨ st % 4 = 2) then startListen s
  else s

/-- What a beat leaves in the port it arrived on (R129, R130, R142, R149). -/
def beatTaken (s : State) (e : RPort) (p : Octets) (ts : Nat) : State :=
  setRport s e { rport s e with
    beatFrom := beAt p 0 1, beatC0 := timeAt p 18, beatState := beAt p 1 1, beatPort := beAt p 2 1 % 2
    beatDiff := (ts : Int) - ((timeAt p 8 + dIn s e : Nat) : Int), beatRestore := beAt p 36 4, beatSeen := true }

/-- A beat drives port states, integration, the restore handshake and bypass detection; a node in bypass takes it into account for the
switch alone (R129, R144, R156). -/
def linkBeatIn (s : State) (e : RPort) (o : Octets) (ts0 : Nat) : State :=
  let ts := quant ts0
  if !inService s .ring then s
  else match ctlAccept s e o 0x21 ts0 false with
    | (some (_, true), t) =>
      let p := ctlPayload o
      let sender := beAt p 0 1
      let st := beAt p 1 1
      let id := beAt p 4 4
      let c0 := timeAt p 18
      let cycNo := beAt p 28 8
      let known := imageKnown t id (some cycNo)
      let t0 := if known then t else countPort t (rpIdx e) 33
      if t.ring.bypassOn then bypassBeat t0 e known c0 (timeAt p 8) ts
      else if (rport t e).state == .down then t
      else if !known then beatPortState t0 e st c0 cycNo true
      else
        let t2 := beatTaken (bypassDetect t e sender) e p ts
        beatRing (restoreStep (beatPortState t2 e st c0 cycNo false) e sender cycNo id) e p ts
    | (_, t) => t

/-- LINK_BEAT_RX (R144): a beat is consumed, or passes through the bypass (R128, R153). -/
def linkBeatRx (s : State) (e : RPort) (o : Octets) (ts : Nat) : State := linkBeatIn (throughBypass s e o) e o ts

/-- MISSING_BEATS (R142): 8 cycles, or 8 beat periods, without a beat take a port out of the ring. -/
def missingBeats (s : State) (e : RPort) : State :=
  if inRing s e && decide (8 ≤ (rport s e).beatMiss) then setPortState s e .linked else s

/-- LOSS_OF_SIGNAL (R142): the port goes DOWN and a burst on it ends; with no ring port left with link the node is OFFLINE (R127, R131,
R235). -/
def ringLinkDown (s : State) (e : RPort) : State :=
  if !(rport s e).link then s
  else
    let s0 := perf (countPort s (rpIdx e) 18) (pPort (rpIdx e) 9)
    let burst := (rport s e).burstNo.isSome
    let s1 := setPortState s0 e .down
    let s2 := setRport s1 e { rport s1 e with link := false, burstNo := none, outT1 := none, exch := [], firstBurst := true
                                              burstOk := false, reportApplied := false, beatRun := 0
                                              verL := false, verH := false, verTries := 0, verNext := 0 }
    let s3 := dropCtx (dropCtx s2 (2 * rpBit e)) (2 * rpBit e + 1)
    if !s3.ring.east.link && !s3.ring.west.link then enterOffline s3 false
    else if burst then burstRound s3 else s3

/-- A ring port's link comes up: DOWN becomes LINKED and a burst is due (R94, R144). -/
def ringLinkUp (s : State) (e : RPort) : State :=
  if (rport s e).link || s.flt.disabled.contains (262 + rpBit e) then s
  else
    let s1 := setRport s e { rport s e with link := true, firstBurst := true, burstOk := false, reportApplied := false
                                            beatRun := 0, beatMiss := 0 }
    let s2 := setPortState s1 e .linked
    let s3 := ringRecheck s2
    if s3.ring.state = .offline then s3 else startBurst s3 e

/-- RESTORE_CYCLE_REACHED (R149): at the agreed cycle a LINKED port returns to the ring, and the node sends ABUT_OFF for it. -/
def restoreReached (s : State) (e : RPort) : State :=
  let x := rport s e
  let at' : Option Int := match s.cyc.c0, s.cyc.image with
    | some _, _ => (boundary s x.restore).map (fun b => (b : Int))
    | none, some i => if x.beatC0 = 0 then none else some (((x.beatC0 + x.restore * tcyc i) % 2 ^ 80 : Nat) + x.beatDiff)
    | _, _ => none
  match at' with
  | none => s
  | some t =>
    if x.state = .linked ∧ x.restore ≠ 0 ∧ x.beatRestore = x.restore % 2 ^ 32 ∧ t ≤ (nt16 s : Int) then
      let s1 := setPortState s e .inRing
      let s2 := setRport s1 e { rport s1 e with restore := x.restore }
      if loopedPort s = some e then s2 else dueEvent s2 2 e x.beatFrom
    else s

/-! ### Announces (R132 to R136) -/

/-- The delay from a candidate's egress to this node's port on the arriving rotation; none where the chain does not cover
it (R130, R131, R137). -/
def pathDelay (s : State) (e : RPort) (cand : Nat) : Option Nat :=
  let l := walk 64 s (me s) (me s) e
  match l.findIdx? (fun x => x.1 == cand) with
  | none => none
  | some k =>
    let mid := (l.take k).map (fun x =>
      let r := reportAt s x.1
      dinOf r (otherPort x.2) + hopOf s r (otherPort x.2))
    some (mid.sum + dIn s e)

/-- A cold-start node that may announce now: not readmitted, and never synchronised since chip reset (R132). -/
def mayAnnounce (s : State) : Bool := coldStart s && !s.ring.readmitted

/-- An unconfirmed announce of another node at a cold-start node (R134, R135). -/
def unconfirmed (s : State) (rank : Nat) : State :=
  let mine := s.boot.cfg.rank
  let back := fun (t : State) =>
    let u := goState t .listen
    { u with ring := { u.ring with listenEnd := some (now u + 4 * tcycTicks u + usTicks (4 * mine)) } }
  if !mayAnnounce s then s
  else if s.ring.state = .listen then
    (if rank = mine then rankConflict s
     else if rank < mine then back s
     else if s.time.everSync then s else enterAnnounce s)
  else if s.ring.state = .announce ∧ ¬ s.ring.confirmed then
    (if rank = mine then rankConflict s else if rank < mine then back (countRing s 12) else s)
  else s

/-- An announce of another node decides the cold start, or starts integration (R134, R137); in bypass the node is OFFLINE and it does
neither. -/
def takeAnnounce (e : RPort) (ts : Nat) (s : State) (p : Octets) : State :=
  let cand := beAt p 0 1
  let seq := beAt p 2 2
  if s.ring.bypassOn || cand == me s then s
  else if !imageKnown s (beAt p 4 4) none then countPort s (rpIdx e) 33
  else if bitOf (beAt p 1 1) 7 then
    match pathDelay s e cand with
    | some d => if mayIntegrate s then
        enterIntegrating s (((nt16 s : Int) + ((timeAt p 8 + d : Nat) : Int) - (quant ts : Nat)).toNat) (timeAt p 18) 0 cand
      else s
    | none => s
  else if s.ring.annHeard.contains (cand, seq) then s
  else
    let heard := (cand, seq) :: s.ring.annHeard.filter (fun x => x.1 != cand)
    unconfirmed { s with ring := { s.ring with annHeard := heard } } (beAt p 1 1 % 8)

/-- An ANNOUNCE, of which part may have gone on already (R80, R134). -/
def announceIn (fwd : Bool) (s : State) (e : RPort) (o : Octets) (ts : Nat) : State :=
  ctlForAll s e o 0x20 ts fwd false (takeAnnounce e ts)

/-- ANNOUNCE_RX (R134): an announce is forwarded, and decides the cold start or starts integration. -/
def announceRx (s : State) (e : RPort) (o : Octets) (ts : Nat) : State := announceIn false (throughBypass s e o) e o ts

/-- LISTEN_PERIOD_END (R133): a cold-start node whose listen period has ended announces. -/
def listenPeriodEnd (s : State) : State :=
  match s.ring.state, s.ring.listenEnd with
  | .listen, some t => if due s t then enterAnnounce (if s.time.everSync then countRing s 11 else s) else s
  | _, _ => s

/-- ANNOUNCE_RESEND (R134): within its window the candidate repeats its announce every cycle. -/
def announceResend (s : State) : State :=
  if s.ring.state = .announce ∧ ¬ s.ring.confirmed ∧ due s s.ring.annNext ∧ ¬ due s s.ring.annEnd then
    sendAnnounce { s with ring := { s.ring with annNext := s.ring.annNext + tcycTicks s } } false
  else s

/-- ANNOUNCE_WINDOW_END (R136): a candidate still standing becomes the keystone and confirms. -/
def announceWindowEnd (s : State) : State :=
  if s.ring.state = .announce ∧ ¬ s.ring.confirmed ∧ due s s.ring.annEnd then
    sendAnnounce { s with ring := { s.ring with confirmed := true, keystone := me s }
                          cyc := { s.cyc with c0 := some s.ring.annC0, n := 0 } } true
  else s

/-- CYCLE_ORIGIN_REACHED (R136): at c_0 the keystone is synchronised with its counter unchanged and ρ = 0. -/
def cycleOriginReached (s : State) : State :=
  if s.ring.state = .announce ∧ s.ring.confirmed ∧ s.ring.annC0 ≤ nt16 s then
    enterSynced { s with time := { s.time with rho := 0 } }
  else s

/-- RANK_BACKOFF_END (R135). -/
def rankBackoffEnd (s : State) : State :=
  if s.ring.state = .rankBackoff ∧ due s s.ring.backoffEnd then enterListen s else s

/-! ### Ring events (R147) -/

/-- The ends of the span beyond a node's port: the node's own, and its neighbour's that faces it. -/
def spanEnds (s : State) (node port : Nat) : List (Nat × Nat) :=
  let e := if port = 0 then RPort.east else .west
  (node, port) :: (match (reportAt s node).bind (fun r => nbOf r e) with
    | none => []
    | some b => match (reportAt s b).bind (fun r => facing s r node e) with
      | none => []
      | some f => [(b, rpBit f)])

/-- The abutments cleared lately, with some cleared in the present cycle (R253). -/
def unfoldedAlso (s : State) (l : List (Nat × Nat)) : List (Nat × Nat × Nat) :=
  s.ring.unfolded.filter (fun x => decide (s.cyc.n < x.2.2 + 2)) ++ l.map (fun x => (x.1, x.2, s.cyc.n))

/-- An ABUT event is applied to the node's view of the ring (R147). -/
def applyAbut (s : State) (ev node port : Nat) : State :=
  if ev = 1 then
    (if s.ring.folds.contains (node, port) then s
     else signal { s with ring := { s.ring with folds := (node, port) :: s.ring.folds } } 1784)
  else
    let ends := spanEnds s node port
    if s.ring.folds.any ends.contains then
      signal { s with ring := { s.ring with folds := s.ring.folds.filter (fun x => !ends.contains x)
                                            unfolded := unfoldedAlso s (s.ring.folds.filter ends.contains) } } 1784
    else s

/-- A bypass event waits for its cycle, or acts on receipt without an origin (R147). -/
def pendBypass (s : State) (cyc ev subject : Nat) : State :=
  if s.cyc.c0.isSome then
    { s with ring := { s.ring with pendEvs := s.ring.pendEvs ++ [{ cycle := cyc, ev := ev, subject := subject }] } }
  else if recentEvent s ev subject then s else applyBypassEvent s ev subject

/-- One ring event is sent on both ports; each ABUT_ON feeds the span-break source (R147, R148). -/
def sendEvent (s : State) (x : Nat × Nat × Nat × Nat) : State :=
  let held := s.cyc.c0.isSome
  let eff := if !held then 0 else if x.1 < 3 then x.2.2.2 else oddFrom (s.cyc.n + 2)
  let s1 := { s with ring := { s.ring with evSeq := (s.ring.evSeq + 1) % 65536 } }
  let pay := padTo 48 (beBytes 1 (me s1) ++ beBytes 1 x.1 ++ beBytes 1 x.2.1 ++ beBytes 1 x.2.2.1 ++ beBytes 2 s1.ring.evSeq ++
    beBytes 4 (eff % 2 ^ 32))
  let s2 := sendBoth s1 0x22 pay
  if x.1 = 1 then feedSystem s2 (256 + x.2.1) 0 0
  else if x.1 < 3 then { s2 with ring := { s2.ring with unfolded := unfoldedAlso s2 [(me s2, x.2.1)] } } else pendBypass s2 eff x.1 x.2.2.1

/-- RING_EVENT_SEND (R147): the events that are due go out, at a synchronised node in its next view of the open segment. -/
def ringEventSend (s : State) : State :=
  if ctlRuns s && (!synced s || (viewAhead s .east && viewAhead s .west)) then
    s.ring.evOut.foldl sendEvent { s with ring := { s.ring with evOut := [] } }
  else s

/-- A ring event of another node is applied on receipt or at its cycle (R147). -/
def takeEvent (s : State) (p : Octets) : State :=
  let ev := beAt p 1 1
  let subject := beAt p 3 1
  if ev = 1 ∨ ev = 2 then applyAbut s ev (beAt p 0 1 % 64) (beAt p 2 1 % 2)
  else if ev = 3 ∨ ev = 4 then
    let v := beAt p 6 4
    let c := near32 s.cyc.n v
    if s.cyc.c0.isNone then pendBypass s 0 ev subject
    else if recentEvent s ev subject then s
    else if v = 0 then pendBypass s (oddFrom (s.cyc.n + 1)) ev subject
    else if c ≤ s.cyc.n then pendBypass (countRing s 15) (oddFrom (s.cyc.n + 1)) ev subject
    else pendBypass s c ev subject
  else s

/-- A RING_EVENT, of which part may have gone on already (R80, R147). -/
def ringEventIn (fwd : Bool) (s : State) (e : RPort) (o : Octets) (ts : Nat) : State :=
  ctlForAll s e o 0x22 ts fwd false takeEvent

/-- RING_EVENT_RX (R147): an event is forwarded and applied on receipt or at its cycle. -/
def ringEventRx (s : State) (e : RPort) (o : Octets) (ts : Nat) : State := ringEventIn false (throughBypass s e o) e o ts

/-! ### Bypass and withdrawal -/

/-- BYPASS_SWITCH_ON (R153): a cause has arisen and the bypass is switched on. -/
def bypassSwitchOn (s : State) : State := if s.boot.cause ≠ 0 ∧ ¬ s.ring.bypassOn then bypassNow s else s

/-- The middle of a network-idle interval of the ring as estimated through the bypass has come (R156). -/
def bypassIdle (s : State) (i : Image) (c0 : Nat) : Bool :=
  if !s.ring.east.dinSinceReset && !s.ring.west.dinSinceReset then true
  else
    let t : Int := (nt16 s : Int) + s.ring.bypassEst - (c0 : Int)
    decide ((tcyc i - mts i i.lnit / 2 : Nat) ≤ (t % (tcyc i : Nat)))

/-- BYPASS_SWITCH_OFF (R156): with every cause clear and the ring's beats judged, both ports go IN_RING and the node
calibrates. -/
def bypassSwitchOff (s : State) : State :=
  match s.cyc.image with
  | none => s
  | some i =>
    let seen := due s (s.ring.bypassSince + msTicks 1) || (match s.ring.bypassC0 with
      | some c => decide (2 ≤ s.ring.bypassBeats) && bypassIdle s i c
      | none => false)
    if s.ring.bypassOn && s.boot.cause == 0 && inService s .ring && seen then
      let s1 := { s with
        ring := { s.ring with bypassOn := false, bypassBeats := 0, bypassC0 := none }
        boot := { s.boot with opState := if s.boot.opState = 3 ∨ (s.boot.opState = 1 ∧ s.boot.opLast = 3) then 2
                                         else s.boot.opState } }
      ringRecheck (bothInRing (recordOp s1 3))
    else s

/-- The open sub-queues' frames are dropped (R490). -/
def dropOpen (s : State) : State := (List.range 16).foldl (fun t k => dropQueue t (144 + k) 1) s

/-- WITHDRAW_ACT_TIME (R490): at its cycle the node leaves synchronisation with COMMANDED and is WITHDRAWN, its open frames dropped; a
node that is no longer synchronised has nothing to leave (R127). -/
def withdrawActTime (s : State) : State :=
  match s.ring.withdrawAt with
  | none => s
  | some n => match boundary s n with
    | none => s
    | some b =>
      if nt16 s < b then s
      else
        let s1 := { s with ring := { s.ring with withdrawAt := none
                                                 withdrawBypCycle := if s.ring.withdrawByp then some (n + 1) else none } }
        activationRecord (if synced s1 then dropOpen (leaveSync s1 7 .withdrawn) else s1) (objId 0x1B 0) b

/-- WITHDRAW_BYPASS (R490): one cycle later the bypass is switched on with the cause COMMAND. -/
def withdrawBypass (s : State) : State :=
  match s.ring.withdrawBypCycle with
  | none => s
  | some n => match boundary s n with
    | none => s
    | some b =>
      if nt16 s < b then s
      else
        let s1 := { s with ring := { s.ring with withdrawBypCycle := none, cmdBypassByWithdraw := true }
                           boot := { s.boot with opLast := 2, opState := 2 } }
        bypassNow (setCause s1 5)

/-! ### Meanings -/

/-- CAL_BURST_START (R94). -/
def execCalBurstStart (port : RPort) (ts : Nat) (s : State) : Host.Outcome State Fault Refusal :=
  checked (Instr.wf (.calBurstStart port ts)) s (calBurstStart s port ts)

/-- DELAY_REQ_RX (R90). -/
def execDelayReqRx (port : RPort) (frame : Octets) (ts : Nat) (s : State) : Host.Outcome State Fault Refusal :=
  checked (Instr.wf (.delayReqRx port frame ts)) s (delayReqRx s port frame ts)

/-- DELAY_RESP_RX (R91). -/
def execDelayRespRx (port : RPort) (frame : Octets) (ts : Nat) (s : State) : Host.Outcome State Fault Refusal :=
  checked (Instr.wf (.delayRespRx port frame ts)) s (delayRespRx s port frame ts)

/-- CAL_TIMEOUT (R90). -/
def execCalTimeout (port : RPort) (s : State) : Host.Outcome State Fault Refusal :=
  checked (Instr.wf (.calTimeout port)) s (calTimeout s port)

/-- DELAY_REPORT_SEND (R95). -/
def execDelayReportSend (s : State) : Host.Outcome State Fault Refusal :=
  checked (Instr.wf (.delayReportSend)) s (delayReportSend s)

/-- DELAY_REPORT_RX (R95). -/
def execDelayReportRx (port : RPort) (frame : Octets) (ts : Nat) (s : State) : Host.Outcome State Fault Refusal :=
  checked (Instr.wf (.delayReportRx port frame ts)) s (delayReportRx s port frame ts)

/-- RING_EVENT_RX (R147). -/
def execRingEventRx (port : RPort) (frame : Octets) (ts : Nat) (s : State) : Host.Outcome State Fault Refusal :=
  checked (Instr.wf (.ringEventRx port frame ts)) s (ringEventRx s port frame ts)

/-- CAL_CHAIN_TIMEOUT (R131). -/
def execCalChainTimeout (s : State) : Host.Outcome State Fault Refusal :=
  checked (Instr.wf (.calChainTimeout)) s (calChainTimeout s)

/-- LINK_BEAT_SEND (R128). -/
def execLinkBeatSend (port : RPort) (ts : Nat) (s : State) : Host.Outcome State Fault Refusal :=
  checked (Instr.wf (.linkBeatSend port ts)) s (linkBeatSend s port ts)

/-- LINK_BEAT_RX (R144). -/
def execLinkBeatRx (port : RPort) (frame : Octets) (ts : Nat) (s : State) : Host.Outcome State Fault Refusal :=
  checked (Instr.wf (.linkBeatRx port frame ts)) s (linkBeatRx s port frame ts)

/-- MISSING_BEATS (R142). -/
def execMissingBeats (port : RPort) (s : State) : Host.Outcome State Fault Refusal :=
  checked (Instr.wf (.missingBeats port)) s (missingBeats s port)

/-- LOSS_OF_SIGNAL (R142). -/
def execLossOfSignal (port : RPort) (s : State) : Host.Outcome State Fault Refusal :=
  checked (Instr.wf (.lossOfSignal port)) s (ringLinkDown s port)

/-- RESTORE_CYCLE_REACHED (R149). -/
def execRestoreCycleReached (port : RPort) (s : State) : Host.Outcome State Fault Refusal :=
  checked (Instr.wf (.restoreCycleReached port)) s (restoreReached s port)

/-- ANNOUNCE_RX (R134). -/
def execAnnounceRx (port : RPort) (frame : Octets) (ts : Nat) (s : State) : Host.Outcome State Fault Refusal :=
  checked (Instr.wf (.announceRx port frame ts)) s (announceRx s port frame ts)

/-- LISTEN_PERIOD_END (R133). -/
def execListenPeriodEnd (s : State) : Host.Outcome State Fault Refusal :=
  checked (Instr.wf (.listenPeriodEnd)) s (listenPeriodEnd s)

/-- ANNOUNCE_RESEND (R134). -/
def execAnnounceResend (s : State) : Host.Outcome State Fault Refusal :=
  checked (Instr.wf (.announceResend)) s (announceResend s)

/-- ANNOUNCE_WINDOW_END (R136). -/
def execAnnounceWindowEnd (s : State) : Host.Outcome State Fault Refusal :=
  checked (Instr.wf (.announceWindowEnd)) s (announceWindowEnd s)

/-- CYCLE_ORIGIN_REACHED (R136). -/
def execCycleOriginReached (s : State) : Host.Outcome State Fault Refusal :=
  checked (Instr.wf (.cycleOriginReached)) s (cycleOriginReached s)

/-- RANK_BACKOFF_END (R135). -/
def execRankBackoffEnd (s : State) : Host.Outcome State Fault Refusal :=
  checked (Instr.wf (.rankBackoffEnd)) s (rankBackoffEnd s)

/-- RING_EVENT_SEND (R147). -/
def execRingEventSend (s : State) : Host.Outcome State Fault Refusal :=
  checked (Instr.wf (.ringEventSend)) s (ringEventSend s)

/-- BYPASS_SWITCH_ON (R153). -/
def execBypassSwitchOn (s : State) : Host.Outcome State Fault Refusal :=
  checked (Instr.wf (.bypassSwitchOn)) s (bypassSwitchOn s)

/-- BYPASS_SWITCH_OFF (R156). -/
def execBypassSwitchOff (s : State) : Host.Outcome State Fault Refusal :=
  checked (Instr.wf (.bypassSwitchOff)) s (bypassSwitchOff s)

/-- WITHDRAW_BYPASS (R490). -/
def execWithdrawBypass (s : State) : Host.Outcome State Fault Refusal :=
  checked (Instr.wf (.withdrawBypass)) s (withdrawBypass s)

end Sys2Proof.Machine
end

