-- ==== Sys2Proof/Machine/KnSubmit.lean ====
section
/-! DEFINITION. KnSubmit.lean: how a request of each master reaches Keanak, and how the answer goes back (R385 to R393,
R524). -/

namespace Sys2Proof.Machine

open Sys2Proof

/-! ### The catalogue (R412, R413) -/

/-- Class of a command: R, W, O, or one that its own rules check (R412, R413). -/
inductive CmdClass where
  | own | r | w | o
  deriving DecidableEq, Repr

/-- A row of the catalogue: code, lowest version, class, and whether fallback mode allows it. -/
structure Cmd where
  code : Nat
  ver : Nat
  cls : CmdClass
  fb : Bool
  deriving DecidableEq, Repr

/-- Part A of the catalogue (R413). -/
def catalogueA : List Cmd :=
  [⟨0x0001, 1, .own, true⟩, ⟨0x0002, 1, .w, true⟩, ⟨0x0003, 1, .o, true⟩, ⟨0x0004, 2, .w, true⟩, ⟨0x0005, 2, .own, true⟩,
   ⟨0x0006, 2, .own, true⟩, ⟨0x0007, 1, .r, true⟩, ⟨0x0008, 2, .r, true⟩, ⟨0x0009, 3, .w, false⟩, ⟨0x000A, 3, .w, false⟩,
   ⟨0x000B, 1, .r, true⟩, ⟨0x000C, 1, .r, true⟩, ⟨0x0101, 2, .r, false⟩, ⟨0x0102, 2, .w, false⟩, ⟨0x0103, 2, .w, false⟩,
   ⟨0x0104, 2, .w, false⟩, ⟨0x0105, 2, .w, false⟩, ⟨0x0106, 2, .o, false⟩, ⟨0x0201, 1, .w, false⟩, ⟨0x0202, 2, .w, false⟩,
   ⟨0x0203, 2, .w, false⟩, ⟨0x0204, 2, .w, false⟩, ⟨0x0205, 1, .w, false⟩, ⟨0x0206, 1, .w, false⟩, ⟨0x0207, 2, .w, false⟩]

/-- Part B of the catalogue (R413). -/
def catalogueB : List Cmd :=
  [⟨0x0208, 3, .w, false⟩, ⟨0x0301, 1, .w, false⟩, ⟨0x0302, 2, .w, false⟩, ⟨0x0303, 2, .w, false⟩, ⟨0x0304, 2, .r, false⟩,
   ⟨0x0305, 1, .w, false⟩, ⟨0x0306, 2, .w, false⟩, ⟨0x0307, 2, .w, false⟩, ⟨0x0308, 2, .o, false⟩, ⟨0x0309, 3, .w, false⟩,
   ⟨0x0401, 2, .w, false⟩, ⟨0x0402, 2, .r, false⟩, ⟨0x0403, 1, .w, false⟩, ⟨0x0404, 2, .w, false⟩, ⟨0x0405, 2, .w, false⟩,
   ⟨0x0406, 2, .w, false⟩, ⟨0x0501, 1, .w, false⟩, ⟨0x0502, 1, .r, false⟩, ⟨0x0503, 2, .w, false⟩, ⟨0x0504, 2, .w, false⟩,
   ⟨0x0505, 2, .r, false⟩, ⟨0x0601, 2, .w, false⟩, ⟨0x0602, 1, .w, false⟩, ⟨0x0603, 1, .w, false⟩, ⟨0x0604, 1, .w, false⟩]

/-- Part C of the catalogue (R413). -/
def catalogueC : List Cmd :=
  [⟨0x0605, 1, .r, true⟩, ⟨0x0606, 3, .w, false⟩, ⟨0x0701, 3, .w, false⟩, ⟨0x0702, 3, .o, false⟩, ⟨0x0703, 3, .w, false⟩,
   ⟨0x0704, 3, .w, false⟩, ⟨0x0705, 3, .w, false⟩, ⟨0x0706, 3, .w, false⟩, ⟨0x0707, 3, .r, false⟩, ⟨0x0801, 2, .w, true⟩,
   ⟨0x0802, 2, .w, true⟩, ⟨0x0803, 1, .r, true⟩, ⟨0x0804, 2, .w, true⟩, ⟨0x0805, 1, .r, true⟩, ⟨0x0901, 2, .w, false⟩,
   ⟨0x0902, 2, .r, false⟩, ⟨0x0903, 2, .w, false⟩, ⟨0x0904, 2, .w, false⟩, ⟨0x0905, 2, .w, false⟩, ⟨0x0906, 1, .w, true⟩,
   ⟨0x0907, 1, .w, true⟩, ⟨0x0908, 1, .w, true⟩, ⟨0x0909, 2, .w, true⟩, ⟨0x090A, 2, .r, true⟩, ⟨0x090B, 3, .w, false⟩]

/-- The command catalogue (R413). -/
def catalogue : List Cmd := catalogueA ++ catalogueB ++ catalogueC

/-- The catalogue's row of a code. -/
def cmdOf (code : Nat) : Option Cmd := catalogue.find? (fun c => c.code == code)

/-! ### The fields of a request (R389) -/

/-- COMMAND. -/
def Request.cmd (r : Request) : Nat := leAt r.image 0 2
/-- VERSION. -/
def Request.ver (r : Request) : Nat := leAt r.image 2 1
/-- FLAGS. -/
def Request.flags (r : Request) : Nat := leAt r.image 3 1
/-- TAG. -/
def Request.tag (r : Request) : Nat := leAt r.image 4 2
/-- PARAM_LEN. -/
def Request.plen (r : Request) : Nat := leAt r.image 6 2
/-- BULK_LEN. -/
def Request.blen (r : Request) : Nat := leAt r.image 8 4
/-- BULK. -/
def Request.isBulk (r : Request) : Bool := bitOf r.flags 0

/-- PARAMS: bytes beyond PARAM_LEN count as 0 (R409). -/
def Request.params (r : Request) : Octets := padTo 240 (slice r.image 16 (min r.plen 240))

/-- Bytes of the bulk window of a master, each direction (R385); of the boot script, 7, what a store may hold (R478). -/
def bulkWindow (m : Nat) : Nat := [524288, 524288, 65536, 8192, 0, 0, 0, 524288].getD m 0

/-! ### Mailboxes -/

/-- A master's mailbox. -/
def mbxAt (s : State) (m : Nat) : Mbx := tblGet {} s.kn.mbx m

/-- The state with a mailbox replaced. -/
def setMbx (s : State) (m : Nat) (x : Mbx) : State := { s with kn := { s.kn with mbx := tblSet {} s.kn.mbx m x } }

/-- FALLBACK_REASON: 0 outside fallback mode (R386). -/
def fallbackReason (s : State) : Nat := if s.boot.fallback then s.boot.fbReason else 0

/-- OWNER: 0 to 4, or 7 where the part is unowned. -/
def ownerCode (s : State) : Nat := s.kn.owner.getD 7

/-- OWNER_NODE: the node of an owning M3, else 0xFF. -/
def ownerNodeCode (s : State) : Nat := if s.kn.owner = some 3 then s.kn.ownerNode else 0xFF

/-- The image of a response (R390). -/
def respImage (s : State) (r : Request) (status detail : Nat) (result : Octets) (bulkLen : Nat) : Octets :=
  leBytes 2 r.cmd ++ leBytes 1 (if status = 1 then 3 else r.ver) ++ leBytes 1 status ++ leBytes 2 r.tag ++
    leBytes 2 result.length ++ leBytes 4 bulkLen ++ leBytes 1 (fallbackReason s) ++
    leBytes 1 (ownerCode s + (if s.kn.owner = some 3 then 128 else 0)) ++ leBytes 1 (ownerNodeCode s) ++ leBytes 1 detail ++
    result

/-- The character of a hexadecimal digit, upper case. -/
def hexChar (n : Nat) : Byte := BitVec.ofNat 8 (if n < 10 then 48 + n else 55 + n)

/-- Octets as upper-case hexadecimal characters. -/
def hexOf (o : Octets) : Octets := o.flatMap (fun b => [hexChar (b.toNat / 16), hexChar (b.toNat % 16)])

/-- A management frame of this node to another, with TC 7 (R387). -/
def mgmtFrame (s : State) (node : Nat) (payload : Octets) (rot : Rot) : Octets :=
  ringFrame (beBytes 6 macOne ++ beBytes 6 s.boot.cfg.mac ++ payload)
    { etype := ringEtype s, seg := 2, rot := (match rot with
        | .cw => 0
        | .ccw => 1), origin := me s, cyc := cycNow s, flags := 0x10, dest := node, tc := 7 }

/-- A management frame takes the control-frame path of its rotation's egress; through a port that is not in the ring it is
looped, or discarded (R81, R145, R387). -/
def sendMgmt (s : State) (node : Nat) (payload : Octets) : State :=
  let rot := openRot s node false
  let e := portOfRot s rot
  let o := mgmtFrame s node payload rot
  if !inService s .ring || s.ring.bypassOn then s
  else sendOut s e o

/-- An answer reaches its master: the response mailbox and window with STATE DONE, a management frame, or a console
line (R386 to R388, R390). -/
def answer (s : State) (r : Request) (status detail : Nat) (result bulk : Octets) : State :=
  let img := respImage s r status detail result bulk.length
  let s1 := setMbx s r.master { mbxAt s r.master with resp := img, respBulk := bulk, state := .done, held := false }
  let s2 := match r.master with
    | 3 => sendMgmt s1 r.node (img ++ bulk)
    | 4 => emit s1 (.console (ascii "<" ++ hexOf img ++ leBytes 2 0x0A0D))
    | _ => s1
  signal s2 (1728 + r.master)

/-! ### Held requests (R27, R28) -/

/-- The region an object lies in, where it lies in one: the vat is in none, and the strainer is the Ring region's (R19, R20, R411). -/
def objRegion (obj : Nat) : Option Region :=
  let c := obj / 2 ^ 56
  let i := obj % 2 ^ 56
  let port := fun (p : Nat) => if p < 18 then Region.edge else .ring
  match c with
  | 0x01 => some (port i)
  | 0x02 => some (port (i / 8))
  | 0x05 => some (if i < 1024 then .edge else port ((i - 1024) / 8))
  | 0x03 | 0x04 | 0x06 | 0x0B | 0x18 | 0x19 | 0x1C | 0x1D => some .edge
  | 0x0C | 0x0D | 0x0E => some .host
  | 0x0F | 0x10 => some .record
  | 0x07 | 0x08 | 0x11 | 0x1A => some .ring
  | 0x12 => some (srcRegion i)
  | 0x13 => some (regionOf i)
  | _ => none

/-- The region a request targets: of its object, or of what the catalogue says it touches (R28, R413). -/
def Request.region (r : Request) : Option Region :=
  match r.cmd with
  | 0x0102 | 0x0103 | 0x0903 | 0x0904 => some .ring
  | 0x0204 | 0x0302 | 0x0307 => some .edge
  | 0x0601 => some .host
  | 0x0702 | 0x0703 | 0x0704 | 0x0706 => some .record
  | 0x0208 => if leAt r.params 0 8 / 2 ^ 56 = 0x1B then some .record else none
  | 0x0101 | 0x0505 | 0x0707 | 0x0803 | 0x0805 | 0x0901 | 0x0902 | 0x0905 | 0x0907 | 0x0908 | 0x0909 | 0x090A | 0x090B => none
  | _ => if r.cmd < 0x09 ∨ r.cmd = 0x0B then none else objRegion (leAt r.params 0 8)

/-- A command that needs the MRAM: one that writes an audit record, or that reads the journal or the fault log (R22, R404). -/
def needsMram (c : Cmd) : Bool := c.cls == .w || c.cls == .own || c.code == 0x0008 || c.code == 0x0803

/-- A request is held: every request while the Control region is out, and a command whose object lies in a region under restart (R27,
R28). DESIGN CHOICE (log entry 116): one that needs the MRAM also while the Control region cannot reach it (R22, R32). -/
def heldNow (s : State) (r : Request) : Bool :=
  !inService s .control ||
  (match cmdOf r.cmd with
    | none => false
    | some c => (needsMram c && !mramUp s) || (match r.region with
      | some g => s.regs.restarting.contains g
      | none => false))

/-- The marks of held requests follow the regions; a request newly held under R27 is counted (R27, R386). -/
def updateHeld (s : State) : State :=
  let one := fun (t : State) (r : Request) =>
    let h := heldNow s r
    let t1 := if r.master < 3 then setMbx t r.master { mbxAt t r.master with held := h } else t
    if h && !r.held && !inService s .control then count t1 0x0D 4 1 else t1
  let s1 := s.kn.waiting.foldl one s
  { s1 with kn := { s1.kn with waiting := s1.kn.waiting.map (fun r => { r with held := heldNow s r }) } }

/-- The request that executes next: the first that is not held (R393). -/
def nextRequest (s : State) : Option Request := s.kn.waiting.find? (fun r => !heldNow s r)

/-- The state without a request that has been answered; a master has one at most. -/
def dropRequest (s : State) (m : Nat) : State :=
  { s with kn := { s.kn with waiting := s.kn.waiting.filter (fun r => r.master != m) } }

/-! ### Submission -/

/-- The checks of VERSION and COMMAND: their status where one fails (R391, checks 1 to 3). -/
def badHeader (r : Request) : Option Nat :=
  if r.ver = 0 ∨ 3 < r.ver then some 1
  else match cmdOf r.cmd with
    | none => some 2
    | some c => if r.ver < c.ver then some 1 else none

/-- Requests at the front whose header fails are answered; the first argument bounds them (R391, R393). -/
def answerBad : Nat → State → State
  | 0, s => s
  | n + 1, s =>
    match nextRequest s with
    | none => s
    | some r =>
      match badHeader r with
      | none => s
      | some st => answerBad n (answer (dropRequest s r.master) r st 0 [] [])

/-- A request joins the order: by its 10 ns window, and within one window by master number (R393). -/
def insertRequest (r : Request) : List Request → List Request
  | [] => [r]
  | x :: t => if r.win < x.win ∨ (r.win = x.win ∧ r.master < x.master) then r :: x :: t else x :: insertRequest r t

/-- A request is submitted: it waits in the order of R393. -/
def submit (s : State) (m node : Nat) (image bulk : Octets) (e : RPort) : State :=
  let r : Request := { master := m, node := node, image := padTo 256 image, bulk := bulk, port := e, arr := now s,
                       win := now s * 2 / 25 }
  let s1 := { s with kn := { s.kn with waiting := insertRequest r s.kn.waiting } }
  let s2 := updateHeld (setMbx s1 m { mbxAt s1 m with state := .busy })
  answerBad s2.kn.waiting.length s2

/-- A doorbell of a master reaches its mailbox: PF0 and PF1 through BAR0, M2 over SPI (R27, R385). -/
def doorbellReaches (s : State) (m : Nat) : Bool :=
  m == 2 || (inService s .host && funcExists s (m * 64) && !(funcAt s (m * 64)).d3 && !(funcAt s (m * 64)).flr)

/-- MBX_GO (R386): GO submits the request in MBX_REQ; while STATE is BUSY it is ignored and counted. -/
def mbxGo (s : State) (m : Nat) : State :=
  let x := mbxAt s m
  if !doorbellReaches s m then s
  else if x.state = .busy then count s 0x09 m 8
  else
    let r : Request := { image := padTo 256 x.req }
    submit s m 0xFF x.req (if r.isBulk then padTo (min r.blen (bulkWindow m)) x.bulk else []) .east

/-- A management frame for this node has arrived whole: an M3 request, or, while one is outstanding, one that is answered at
once (R387). -/
def mgmtRequest (s : State) (e : RPort) (h : Hdr) (payload : Octets) : State :=
  let img := padTo 256 (payload.take (16 + min (leAt payload 6 2) 240))
  let bulk := (payload.drop (16 + leAt payload 6 2)).take (leAt payload 8 4)
  let r : Request := { master := 3, node := h.origin, image := img, bulk := bulk, port := e }
  if s.kn.waiting.any (fun x => x.master == 3) then
    sendMgmt s h.origin (respImage s r 0x14 0 [] 0)
  else submit s 3 h.origin img bulk e

/-- MGMT_FRAME_RX (R387): an open-segment frame with MGMT = 1 and DEST equal to this node arrives with a good FCS. It goes on as any
open frame (R80, R151), or through the bypass (R153). -/
def mgmtFrameRx (s : State) (e : RPort) (o : Octets) : State :=
  let h := parseHdr o
  let byp := s.ring.bypassOn
  let s0 := throughBypass s e o
  if !inService s .ring || (!byp && (rport s e).state == .down) then s0
  else
    let s1 := ringRxCount s0 e o
    let mine := h.seg == 2 && h.mgmt && !h.destAll && h.dest == me s && h.origin != me s
    match hdrCheck s e o (nt16 s) with
    | some ev => countPort s1 (rpIdx e) ev
    | none =>
      let s2 := if fcsGood o then s1 else countPort s1 (rpIdx e) 5
      if h.seg ≠ 2 then s2
      else if !byp && !inRing s e then countPort s2 (rpIdx e) 36
      else match (if byp then none else stripOwn s2 e h) with
        | some t => t
        | none =>
          let s3 := if byp then s2 else forwardFrom s2 e (levelBy s o) o (fcsGood o) false
          if mine && fcsGood o then mgmtRequest s3 e h ((bodyOf o).drop 28) else s3

/-- The value of a hexadecimal character. -/
def hexVal (b : Byte) : Option Nat :=
  let n := b.toNat
  if 48 ≤ n ∧ n ≤ 57 then some (n - 48)
  else if 65 ≤ n ∧ n ≤ 70 then some (n - 55)
  else if 97 ≤ n ∧ n ≤ 102 then some (n - 87)
  else none

/-- The octets that hexadecimal characters spell; none where one is no digit or their number is odd. -/
def hexBytes : Octets → Option Octets
  | [] => some []
  | [_] => none
  | a :: b :: t => match hexVal a, hexVal b, hexBytes t with
    | some x, some y, some r => some (BitVec.ofNat 8 (x * 16 + y) :: r)
    | _, _, _ => none

/-- CONSOLE_LINE (R388): a line of the console, without its CR; LF characters and empty lines are ignored, a faulty line is
counted, and a line while a request of M4 is outstanding is ignored as a GO would be. -/
def consoleLine (s : State) (line : Octets) : State :=
  let l := line.filter (fun b => b != 10)
  match l with
  | [] => s
  | c :: digits =>
    match (if c = 62 then hexBytes digits else none) with
    | none => count s 0x09 4 10
    | some img =>
      if img.length < 16 ∨ 256 < img.length then count s 0x09 4 10
      else if (mbxAt s 4).state = .busy then count s 0x09 4 8
      else submit s 4 0xFF img [] .east

/-! ### Meanings -/

/-- MBX_GO (R386). -/
def execMbxGo (m : Nat) (s : State) : Host.Outcome State Fault Refusal :=
  checked (Instr.wf (.mbxGo m)) s (mbxGo s m)

/-- MGMT_FRAME_RX (R387). -/
def execMgmtFrameRx (port : RPort) (frame : Octets) (s : State) : Host.Outcome State Fault Refusal :=
  checked (Instr.wf (.mgmtFrameRx port frame)) s (mgmtFrameRx s port frame)

/-- CONSOLE_LINE (R388). -/
def execConsoleLine (line : Octets) (s : State) : Host.Outcome State Fault Refusal :=
  checked (Instr.wf (.consoleLine line)) s (consoleLine s line)

end Sys2Proof.Machine
end

