-- ==== Sys2Proof/Machine/RingRx.lean ====
section
/-! DEFINITION. RingRx.lean: frames that arrive on the ring ports: checks, forwarding, draining, stripping and delivery
(R55 to R81, R98, R113 to R115, R145, R151, R152, R227 to R237). -/

namespace Sys2Proof.Machine

open Sys2Proof

/-! ### Acceptance (R98, R113) -/

/-- A static frame's arrival lies in its acceptance window of a cycle (R113). -/
def inStaticWindow (s : State) (i : Image) (rot : Rot) (n : Nat) (h : Hdr) (ts : Nat) : Bool :=
  decide (((ts : Int) - tExp s i n rot h.id h.origin).natAbs ≤ piT i)

/-- The index of the mini-slot boundary of a cycle that a dynamic frame's arrival belongs to, where it lies within Π of one (R113). -/
def dynIndex (s : State) (i : Image) (rot : Rot) (n : Nat) (h : Hdr) (ts : Nat) : Option Nat :=
  let base : Int := ((dynStart s i n rot + mts i i.apo + (if wrapped s rot h.origin then lap s rot else 0) : Nat) : Int) -
    (ownHop s rot : Nat)
  let len := mts i i.lms
  let j : Int := if len = 0 then 0 else ((ts : Int) - base + (len / 2 : Nat)) / (len : Nat)
  if 0 ≤ j && decide (j < (i.ndyn : Nat)) && decide (((ts : Int) - base - j * (len : Nat)).natAbs ≤ piT i) then some j.toNat
  else none

/-- A dynamic frame's arrival lies in its acceptance window; an unwrapped frame also meets the boundary at which a counter in
use stands at its ID (R113). -/
def inDynWindow (s : State) (i : Image) (rot : Rot) (n : Nat) (h : Hdr) (ts : Nat) : Bool :=
  match dynIndex s i rot n h ts with
  | none => false
  | some j =>
    wrapped s rot h.origin || n != s.cyc.n || (match counterAt s i rot j with
      | some c => c == h.id
      | none => true)

/-- An unwrapped dynamic frame holds the mini-slot counter from its boundary until its occupancy has ended (R69). -/
def holdCounter (s : State) (i : Image) (rot : Rot) (n : Nat) (h : Hdr) (ts len : Nat) : State :=
  match dynIndex s i rot n h ts with
  | none => s
  | some j =>
    let m := msOf s rot
    if wrapped s rot h.origin || n != s.cyc.n then s
    else setMs s rot m.1 m.2.1 ((j, msBound s i rot j + mts i i.apo + tOcc s len) :: m.2.2)

/-- A sync frame of a measuring cycle is measured where its deviation lies within φ_lim (R98). -/
def measureSync (s : State) (i : Image) (rot : Rot) (n : Nat) (h : Hdr) (ts : Nat) : State :=
  let runs := synced s || s.ring.state == .integrating
  if !runs || h.seg != 0 || !h.sync || n % 2 != 0 || n != s.cyc.n || !i.sync.contains (h.origin, h.id) then s
  else if ((ts : Int) - tExp s i n rot h.id h.origin).natAbs ≤ i.phiLim * 65536 then
    let old := (s.time.cur.find? (fun v => v.node == h.origin)).getD { node := h.origin }
    let v := match rot with
      | .cw => { old with arrCW := some ts }
      | .ccw => { old with arrCCW := some ts }
    { s with time := { s.time with cur := s.time.cur.filter (fun v => v.node != h.origin) ++ [v] } }
  else { s with time := { s.time with outWin := s.time.outWin + 1 } }

/-! ### Forwarding (R80, R115, R145, R231) -/

/-- The hop delay of a forwarded express frame is measured during a burst: its value is the port's own measurement, a free
value up to the largest of the line rate (R82, R93; log entry 6). -/
def measureHop (s : State) (e : RPort) : State :=
  if s.ring.east.burstNo.isNone && s.ring.west.burstNo.isNone then s
  else
    let v := drawVal s (maxHop s + 1)
    let s1 := drawn s
    match e with
    | .east => { s1 with ring := { s1.ring with hopAccE2W := (s1.ring.hopAccE2W.1 + v, s1.ring.hopAccE2W.2 + 1) } }
    | .west => { s1 with ring := { s1.ring with hopAccW2E := (s1.ring.hopAccW2E.1 + v, s1.ring.hopAccW2E.2 + 1) } }

/-- A static or dynamic frame goes on out of the other port: not through a port that is not in the ring, and not into another
express frame; it waits for a preemptable piece to end. One with a bad FCS, or cut, is ended as invalid (R80, R114, R115, R145, R220,
R260). -/
def forwardExpress (s : State) (e : RPort) (o : Octets) (good trunc : Bool) (close : Nat) : State :=
  let out := otherPort e
  if !inRing s out then perf (countPort s (rpIdx out) 34) (pRot (rotOfPort s out) 11)
  else if (rtx s out).express.isSome || (rtx s out).exNext.isSome then countPort s (rpIdx out) 32
  else
    let s1 := ringInterrupt (countBad (if good then measureHop s e else s) e good trunc) out
    if egressFree s1 out then expressStart s1 out (hopped o) close false good none
    else setRtx s1 out { rtx s1 out with exNext := some (hopped o, close, good) }

/-! ### Delivery (R81, R106, R152) -/

/-- The ring port that receives a rotation. -/
def portReceiving (s : State) (rot : Rot) : RPort := otherPort (portOfRot s rot)

/-- The node lies on the intact path from an origin along a rotation up to a looped span that it knows of (R152). -/
def onIntactPath (s : State) (rot : Rot) (origin : Nat) : Bool :=
  let out := portOfRot s rot
  let ahead := loopedPort s == some out || s.ring.folds.contains (me s, rpBit out) ||
    (foldAfter s (walk 64 s (me s) (me s) out) 0).isSome
  ahead && !crossesFold s (otherPort out) origin

/-- A node delivers a frame as it passes; one that has been looped only against its rotation, off the intact path (R152). -/
def delivers (s : State) (e : RPort) (h : Hdr) : Bool :=
  let rot := if h.rot = 0 then Rot.cw else .ccw
  !h.looped || (rxRot s e != rot && !onIntactPath s rot h.origin)

/-- The receive buffers of this node bound to a slot or frame ID in a cycle (R54, R81). -/
def boundBuffers (s : State) (i : Image) (n : Nat) (h : Hdr) : List BufEnt :=
  i.rx.filter (fun b => b.node == me s && b.isDyn == (h.seg == 1) && b.id == h.id && n % 64 % b.m == b.b)

/-- A copy of a static or dynamic frame goes to its receive buffers, through the vat (R63, R81, R176). -/
def deliverSlot (s : State) (i : Image) (n : Nat) (h : Hdr) (o : Octets) (ts : Nat) : State :=
  (boundBuffers s i n h).foldl (fun t b =>
    continueArrival t { data := unringed o, kind := .slotRx, since := now t
                        fr := { data := unringed o, acct := 18, ingress := 18, dests := [1240], raw := o, slotBuf := b.buf
                                ts := ts } }) s

/-- An open frame addressed to this node goes to classification, a management frame to master M3; never one of its own (R81, R152,
R387). -/
def deliverOpen (s : State) (e : RPort) (h : Hdr) (o : Octets) (sym : Bool) (ts : Nat) : State :=
  if h.origin == me s || !(h.destAll || h.dest == me s) || !delivers s e h then s
  else if h.mgmt then (if h.destAll then s else mgmtRequest s e h ((bodyOf o).drop 28))
  else
    continueArrival s { data := unringed o, kind := .ringOpen, since := now s
                        fr := { data := unringed o, acct := 18, ingress := 18, status := 2 * b2n sym, ts := ts
                                tsFlags := timeFlags s } }

/-! ### Static and dynamic frames -/

/-- A frame in a slot this node holds in a cycle is drained: by ownership entry it is a schedule conflict, by claim a pier conflict
(R55, R75). -/
def drainSlot (s : State) (i : Image) (n : Nat) (h : Hdr) : State :=
  if ownerOf i h.id n = some (me s) then feedSystem (countRing s 1) 269 h.id 0
  else pierConflict s h.id n

/-- What the acceptance of a static frame leaves: the occurrence seen, the withdrawal mark, the pier slot's expectation and an
observed claim (R66, R67, R74, R77). -/
def acceptStatic (s : State) (i : Image) (e : RPort) (n : Nat) (h : Hdr) : State :=
  let k := h.id
  let s1 := markSeen s k e
  let w := s1.cyc.withdrawn.filter (fun x => x != (k, h.origin))
  let s2 := { s1 with cyc := { s1.cyc with withdrawn := if h.withdraw then w ++ [(k, h.origin)] else w } }
  match ownerOf i k n, pierOf i k n with
  | none, some p =>
    let s3 := { s2 with cyc := { s2.cyc with expects := tblSet {} s2.cyc.expects p.idx { expectAt s2 p.idx with
      expected := true, origin := h.origin } } }
    if (claimAt s3 p.idx).state = .observing then setClaim s3 p.idx { claimAt s3 p.idx with seen := true } else s3
  | _, _ => s2

/-- A static or dynamic frame of another node at a synchronised node, in the cycle in whose view it falls (R51, R55, R75, R80, R98,
R113). -/
def slotFrameRx (s : State) (i : Image) (e : RPort) (h : Hdr) (o : Octets) (good trunc sym : Bool) (ts : Nat) : State :=
  let rot := rxRot s e
  let n := viewCycle s rot ts
  let s1 := if good then measureSync s i rot n h ts else s
  if h.seg = 0 && holdsSlot s1 i h.id n then drainSlot s1 i n h
  else if !(if h.seg = 0 then inStaticWindow s1 i rot n h ts else inDynWindow s1 i rot n h ts) then
    feedSystem (perf (countPort s1 (rpIdx e) 31) (pRot rot 9)) (260 + rpBit e) h.id 0
  else
    let s2 := if h.seg = 1 then holdCounter s1 i rot n h ts o.length else s1
    let shift := if wrapped s rot h.origin then lap s rot else 0
    let close := (if h.seg = 0 then slotStart s i n rot h.id + mts i i.lst else dynEnd s i n rot) + shift - mts i i.g + piT i
    let s3 := forwardExpress s2 e o good trunc close
    if !good || sym then s3
    else
      let s4 := perf s3 (pRot rot (3 + h.seg))
      deliverSlot (if h.seg = 0 then acceptStatic s4 i e n h else s4) i n h o ts

/-! ### The whole frame -/

/-- A ring-control frame reaches the control-frame engine; part of it may have gone on already (R81, R96, R128). -/
def ctlDispatch (fwd : Bool) (s : State) (e : RPort) (h : Hdr) (o : Octets) (ts : Nat) : State :=
  match h.id with
  | 0x10 => delayReqIn s e o ts
  | 0x11 => delayRespIn s e o ts
  | 0x12 => delayReportIn fwd s e o ts
  | 0x20 => announceIn fwd s e o ts
  | 0x21 => linkBeatIn s e o ts
  | _ => ringEventIn fwd s e o ts

/-- A ring-control frame that every node forwards (R96, R128). -/
def forAll (h : Hdr) : Bool := h.seg == 3 && [0x12, 0x20, 0x22].contains h.id

/-- A frame that has passed R59, on a port that is in the ring; the level it arrived at, where it arrived at one (R80, R106, R151,
R228). -/
def passFrame (fwd trunc : Bool) (l : Option Level) (s : State) (e : RPort) (h : Hdr) (o : Octets) (sym : Bool) (ts : Nat) : State :=
  let good := !trunc && fcsGood o
  match (if fwd then none else stripOwn s e h) with
  | some t => t
  | none =>
    if 2 ≤ h.seg then
      let s1 := if fwd then countBad s e good trunc
                else if h.seg = 2 || forAll h then forwardFrom s e (l.getD (levelBy s o)) o good trunc else s
      if good then deliverOpen (perf s1 (pRot (rxRot s e) 5)) e h o sym ts else s1
    else match synced s, s.cyc.image with
      | true, some i => slotFrameRx s i e h o good trunc sym ts
      | _, im =>
        forwardExpress (if good then measureSync s (im.getD {}) (rxRot s e) s.cyc.n h ts else s) e o good trunc (2 ^ 96)

/-- A MAC control frame on a ring port is consumed (R237, R261). -/
def ringMacControl (s : State) (e : RPort) (o : Octets) : State :=
  let s1 := perf (countPort s (rpIdx e) 46) (pPort (rpIdx e) 8)
  if etypeAt o 14 = 1 ∨ etypeAt o 14 = 0x101 then s1 else countPort s1 (rpIdx e) 12

/-- A whole frame on a ring port, cut at 16 000 octets; part of it may have gone on already (R59, R80, R81, R145, R237, R260). With the
bypass on it is the copy, and goes nowhere else (R153). -/
def ringWhole (fwd : Bool) (l : Option Level) (s0 : State) (e : RPort) (o0 : Octets) (sym : Bool) (ts : Nat) : State :=
  let p := rpIdx e
  let s := if sym then countPort s0 p 6 else s0
  let trunc := decide (16000 < o0.length)
  let o := o0.take 16000
  let h := parseHdr o
  let rx := ringRxCount s e o0
  let s1 := if trunc then countPort rx p 8 else rx
  if o.length < 18 then s
  else if etypeAt o 12 = 0x8808 then ringMacControl s1 e o
  else match (if fwd then none else hdrCheck s e o ts) with
    | some ev => countPort s1 p ev
    | none =>
      if h.seg = 3 && !trunc then ctlDispatch fwd s e h o ts
      else
        let s2 := if trunc || fcsGood o then s1 else countPort s1 p 5
        if s.ring.bypassOn then
          (if h.seg = 2 && !trunc && fcsGood o then deliverOpen s2 e h o sym ts else s2)
        else if !inRing s e then countPort s2 p 36
        else passFrame fwd trunc l s2 e h o sym ts

/-! ### mPackets (R218, R229, R235) -/

/-- Number of a reassembly context: EAST H 0, EAST L 1, WEST H 2, WEST L 3. -/
def ctxOf (e : RPort) (l : Level) : Nat := 2 * rpBit e + (match l with
  | .high => 0
  | .low => 1)

/-- A reassembly context of a ring port. -/
def ctxAt (s : State) (e : RPort) (l : Level) : Reasm := tblGet {} s.ring.reasm (ctxOf e l)

/-- The state with a reassembly context replaced. -/
def setCtx (s : State) (e : RPort) (l : Level) (x : Reasm) : State :=
  { s with ring := { s.ring with reasm := tblSet {} s.ring.reasm (ctxOf e l) x } }

/-- A frame that fails reassembly is discarded whole, and what has been forwarded of it ends as invalid (R231, R235, R526). -/
def ringFragFail (s : State) (e : RPort) (l : Level) : State :=
  countPort (countPort (dropCtx s (ctxOf e l)) (rpIdx e) 45) (rpIdx e) 50

/-- The first fragment of a frame goes on as it arrives, where the frame passes R59, is not stripped, and is one that is forwarded (R80,
R231): whether it does, and the state after. -/
def fwdFirst (s : State) (e : RPort) (l : Level) (o : Octets) (ts : Nat) : Bool × State :=
  let h := parseHdr o
  if s.ring.bypassOn || !inRing s e || o.length < 60 || !(h.seg == 2 || forAll h) || (hdrCheck s e o ts).isSome ||
      (stripOwn s e h).isSome then (false, s)
  else (true, forwardOut s (otherPort e) l { data := o, ctx := some (ctxOf e l) })

/-- A later fragment of a frame of which part has gone on: it goes on too, the last with the FCS recomputed; a frame that passes
16 000 octets is cut (R80, R231, R260). -/
def fwdPiece (s : State) (e : RPort) (l : Level) (x : Reasm) (d : Octets) (last : Bool) : State :=
  let c := ctxOf e l
  if !x.fwd then s
  else if 16000 < x.data.length + d.length then fwdFail s c
  else if last then fwdLast s c d (fcsGood (x.data ++ d))
  else fwdMore s c d

/-- The start of a preemptable frame on a ring port (R235). -/
def ringFirst (s0 : State) (e : RPort) (l : Level) (mp : Mpacket) (ts : Nat) : State :=
  let s := if (ctxAt s0 e l).isOpen then ringFragFail s0 e l else s0
  if mp.last then ringWhole false (some l) s e mp.data (packetSym mp) ts
  else if !mp.crcOk then ringFragFail s e l
  else
    let r := fwdFirst s e l mp.data ts
    setCtx r.2 e l { isOpen := true, data := mp.data, cnt := mp.frameCount % 4, since := now s, ts := ts, sym := packetSym mp
                     fwd := r.1 }

/-- A continuation of a preemptable frame on a ring port: with no open context it is counted, else it joins the frame (R235, R526). -/
def ringMore (s : State) (e : RPort) (l : Level) (mp : Mpacket) : State :=
  let p := rpIdx e
  let x := ctxAt s e l
  if !x.isOpen then countPort (countPort s p 45) p 51
  else
    let s1 := perf (countPort s p 53) (pPort p 7)
    if x.cnt ≠ mp.frameCount % 4 ∨ x.frag ≠ mp.fragCount % 4 ∨ (mp.last = false ∧ mp.crcOk = false) then ringFragFail s1 e l
    else
      let s2 := fwdPiece s1 e l x mp.data mp.last
      let sym := x.sym || packetSym mp
      if mp.last then
        ringWhole x.fwd (some l) (countPort (setCtx s2 e l {}) p 52) e (x.data ++ mp.data) sym x.ts
      else setCtx s2 e l { x with data := x.data ++ mp.data, frag := (x.frag + 1) % 4, since := now s, sym := sym }

/-- RING_FRAME_RX (R80): an mPacket arrives on a ring port; with the bypass on it leaves the other port unchanged, and a running Ring
region receives a copy (R26, R27, R153). Its timestamp is quantised (R85). -/
def ringFrameRx (s0 : State) (e : RPort) (mp : Mpacket) (ts0 : Nat) : State :=
  let p := rpIdx e
  let ts := quant ts0
  let s1 := throughBypass s0 e mp.data
  let s := if inService s1 .ring && (rport s1 e).link then countFec s1 p mp else s1
  if !inService s .ring || !(rport s e).link then s
  else if mp.shortGap then countPort s p 9
  else match mp.smd with
    | .express => ringWhole false none s e mp.data (packetSym mp) ts
    | .startH => ringFirst s e .high mp ts
    | .contH => ringMore s e .high mp
    | .startP => ringFirst s e .low mp ts
    | .contP => ringMore s e .low mp
    | .invalid => countPort (countPort s p 42) p 51
    | smd => smdVerifyRx s p smd

/-- REASSEMBLY_TIMEOUT (R235): a context with no continuation within two cycles is discarded. -/
def reassemblyTimeout (s : State) (e : RPort) (l : Level) : State :=
  let x := ctxAt s e l
  if x.isOpen && due s (x.since + 2 * tcycTicks s) then ringFragFail s e l else s

/-! ### Meanings -/

/-- RING_FRAME_RX (R80). -/
def execRingFrameRx (port : RPort) (mp : Mpacket) (ts : Nat) (s : State) : Host.Outcome State Fault Refusal :=
  checked (Instr.wf (.ringFrameRx port mp ts)) s (ringFrameRx s port mp ts)

/-- REASSEMBLY_TIMEOUT (R235). -/
def execReassemblyTimeout (port : RPort) (level : Level) (s : State) : Host.Outcome State Fault Refusal :=
  checked (Instr.wf (.reassemblyTimeout port level)) s (reassemblyTimeout s port level)

end Sys2Proof.Machine
end

