-- ==== Sys2Proof/Machine/RingEgress.lean ====
section
/-! DEFINITION. RingEgress.lean: transmission opportunities and the ends of frames on every port, and the timed rules of the
strainer (R193, R228 to R236, R248, R249, R251). -/

namespace Sys2Proof.Machine

open Sys2Proof

/-! ### Local frames of a ring egress -/

/-- The ring port of a port index 18 or 19. -/
def rpOf (p : Nat) : RPort := if p = 18 then .east else .west

/-- The image in force maps a class to level H (R228). -/
def tcIsHigh (s : State) (tc : Nat) : Bool := bitOf ((s.cyc.image.map (·.tcMap)).getD 0xE0) tc

/-- The queues of a ring egress at a level (R193, R228). -/
def levelQueues (s : State) (l : Level) : List Nat := (List.range 8).filter (fun q => tcIsHigh s q == (l == .high))

/-- A local queue of a ring egress is eligible (R106, R193). -/
def ringEligible (s : State) (p q : Nat) : Bool :=
  match headOf s (queueKey s p q) with
  | none => false
  | some e =>
    let v := frameAt s e.h
    synced s && openMayStart s (rpOf p) && mayStartPiece s (rpOf p) (wireLen p v) &&
      shapersHold s (shapersOf s v (8 * p + q)) (wireLen p v)

/-- A local open frame as it enters the ring; the SEQ of an open frame has no stated value: it is a free one (R56, R57; log
entry 6). -/
def localFrame (s : State) (e : RPort) (q : Nat) (v : VFrame) : Octets :=
  ringFrame (bodyOf v.data)
    { etype := ringEtype s, seg := 2, rot := (match rotOfPort s e with
        | .cw => 0
        | .ccw => 1), origin := me s, cyc := cycNow s, seq := drawVal s 65536
      dest := if bitOf v.target 6 then 0 else v.target % 64, destAll := bitOf v.target 6, tc := q }

/-! ### Starting -/

/-- A local head frame chosen on a ring egress starts; where the port is not in the ring it is looped or discarded (R145,
R193, R329). -/
def ringLocal (s : State) (e : RPort) (l : Level) (ts : Nat) (q : Nat) (mine : List Nat) (c : QEnt) : State :=
  let p := rpIdx e
  let v := frameAt s c.h
  let k := queueKey s p q
  let o := localFrame s e q v
  let s1 := drawn (startHead s p (match l with
    | .high => 0
    | .low => 1) q mine c)
  let s2 := match v.tsq with
    | some (qi, idx) => dmaDepart s1 qi idx ts
    | none => s1
  let s3 := perfN (perf (perf s2 (pQueue p q 0)) (pRot (rotOfPort s e) 2)) (pQueue p q 1) o.length
  if inRing s e then ringStart s3 e l { data := o, since := now s3 } (some c.h)
  else finishDest (loopOut s3 e l { data := o }) c.h (destOfQueue k)

/-- The LINK_BEAT of the cycle in progress is still to go out on an egress of a synchronised node: it is the first frame that starts in
the node's view of the open segment (R128). -/
def beatOwed (s : State) (e : RPort) : Bool :=
  synced s && viewAhead s e && (rport s e).state != .down && (rport s e).beatSent != boundary s s.cyc.n

/-- The first of an egress's own frames that waits is its LINK_BEAT. -/
def beatFirst (s : State) (e : RPort) : Bool := ((rtx s e).ctl.head?.map (fun o => (parseHdr o).id)) == some 0x21

/-- The oldest transit frame of a level, where it may start, with the transit buffer without it; a node that is not synchronised forwards
in arrival order over both levels (R231, R233). -/
def frontStart (s : State) (e : RPort) (l : Level) : Option (RFrame × List RFrame) :=
  let x := rtx s e
  match transitOf x l with
  | [] => none
  | f :: t =>
    let older := !synced s && ((transitOf x (match l with
      | .high => .low
      | .low => .high)).head?.any (fun g => decide (g.since < f.since)))
    if !older && frameMayStart s e f.data then some (f, t) else none

/-- The local choice at a level of a ring egress (R193). -/
def ringPick (s : State) (e : RPort) (l : Level) : Option Nat × State :=
  let p := rpIdx e
  let mine := levelQueues s l
  selectQueue s p (match l with
    | .high => 0
    | .low => 1) mine (mine.filter (ringEligible s p))

/-- The next transit frame of a level starts (R231). -/
def startTransit (s : State) (e : RPort) (l : Level) : Option State :=
  (frontStart s e l).map (fun r => ringStart (setRtx s e (setTransit (rtx s e) l r.2)) e l r.1 none)

/-- The next own ring-control or management frame starts (R231). -/
def startOwn (s : State) (e : RPort) (ts : Nat) : Option State :=
  (ctlNext s e).map (fun r => startCtl (setRtx s e { rtx s e with ctl := r.2 }) e r.1 ts)

/-- A local frame of a level starts (R193, R231). -/
def startLocal (s : State) (e : RPort) (l : Level) (ts : Nat) : Option State :=
  let r := ringPick s e l
  match r.1 with
  | none => none
  | some q => (headOf r.2 (queueKey r.2 (rpIdx e) q)).map (fun c => ringLocal r.2 e l ts q (levelQueues s l) c)

/-- A new frame of level H starts: the cycle's LINK_BEAT, then transit, then the node's own control frames, then a local frame (R128,
R230, R231); at a node that is not synchronised none while an L frame is unfinished (R233). -/
def newHigh (s : State) (e : RPort) (ts : Nat) : Option State :=
  if beatOwed s e || (!synced s && (rtx s e).curL.isSome) then none
  else if beatFirst s e && synced s then startOwn s e ts
  else match startTransit s e .high with
    | some t => some t
    | none => match startOwn s e ts with
      | some t => some t
      | none => startLocal s e .high ts

/-- A new frame of level L starts: transit, then local (R230, R231). -/
def newLow (s : State) (e : RPort) (ts : Nat) : Option State :=
  if beatOwed s e || (beatFirst s e && synced s) then none
  else match startTransit s e .low with
    | some t => some t
    | none => startLocal s e .low ts

/-- The suspended frame of a level may go on; of a frame still arriving only with 60 octets more at hand (R218, R230). -/
def mayResume (s : State) (e : RPort) (l : Level) : Bool :=
  let v := lvOf (rtx s e) l
  v.susp && (match v.cur with
    | some f => !(rtx s e).hold && ((parseHdr f.data).seg == 3 || openMayStart s e) &&
        (f.ctx.isNone || decide (v.sent + 60 ≤ f.data.length))
    | none => false)

/-- A transmission opportunity of a level of a ring egress (R220, R230, R231, R233, R234). -/
def ringOpportunity (s0 : State) (p : Nat) (mac : Mac) (ts : Nat) : State :=
  let e := rpOf p
  let s := expressNext (tagHeads (cleanHeads s0 p) p) e
  let x := rtx s e
  if !inService s .ring || s.ring.bypassOn || x.exNext.isSome || x.hold then s
  else match mac with
    | .express =>
      if busyLv x .low && x.express.isNone then
        (if x.curH.isSome || !levelsVerified s e || (newHigh s e ts).isNone then s else ringInterrupt s e)
      else if !egressFree s e then s
      else if x.curH.isSome then (if mayResume s e .high then ringResume s e .high else s)
      else (newHigh s e ts).getD s
    | .preemptable =>
      if !egressFree s e || mayResume s e .high || (x.curH.isNone && (newHigh s e ts).isSome) then s
      else if x.curL.isSome then (if mayResume s e .low then ringResume s e .low else s)
      else (newLow s e ts).getD s

/-- FRAME_TX_END on a ring port: an express frame in transmission ends first; else what the level has to send, where its last octet
and its gap are due (R230, R259). -/
def ringTxEnd (s : State) (p : Nat) (mac : Mac) : State :=
  let e := rpOf p
  match mac with
  | .express => if (rtx s e).express.isSome then expressTxEnd s e else ringLevelEnd s e .high
  | .preemptable => ringLevelEnd s e .low

/-! ### Every port -/

/-- TRANSMISSION_OPPORTUNITY (R193): a MAC of an edge or uplink port, or a level of a ring egress, may begin a frame; a class refill due
by now is made first (R211). -/
def transmissionOpportunity (s0 : State) (p : Nat) (mac : Mac) (ts : Nat) : State :=
  let s := shaperRefill s0
  if p < 18 then
    (if portLive s p && !(portAt s p).disabled && !unitBusy s (portUnit p) && !unitBusy s (176 + p) then
      edgeOpportunity (wake s [portUnit p, 176 + p, 199]) p mac ts
     else s)
  else ringOpportunity s p mac ts

/-- A frame that a port in loopback MAC or PCS_NEAR has sent arrives at its own receive side (R267). -/
def turnBack (s : State) (p : Nat) (before after : Option Nat) (o : Octets) : State :=
  if before.isSome && after.isNone && loopedBack s p then macFrame s p o false (nt16 s) else s

/-- FRAME_TX_END (R179, R259, R267, R489). -/
def frameTxEnd (s : State) (p : Nat) (mac : Mac) : State :=
  if p < 18 then
    let sel : MacTx → Option Nat := fun m => match mac with
      | .express => m.ex
      | .preemptable => m.pm
    let o := match sel (macAt s p) with
      | some h => txOctets (frameAt s h)
      | none => []
    let s1 := edgeTxEnd s p mac
    portDrainCheck (turnBack s1 p (sel (macAt s p)) (sel (macAt s1 p)) o) p
  else ringTxEnd s p mac

/-! ### The strainer's timers (R248, R249, R251) -/

/-- RECOVERY_RESET_TIMEOUT (R248): an entry that has passed no frame for RESET_TIMEOUT takes any next frame. -/
def recoveryTimeout (s : State) (i : Nat) : State :=
  let x := rcvyAt s i
  if decide (i < 8192) && x.enable && !x.takeAny && due s (x.lastPass + msTicks x.timeout) then
    count (setRcvy s i { x with takeAny := true }) 0x05 i 5
  else s

/-- A latent error of an entry is raised and fed to FS-274 (R249, R251, R460). -/
def latentError (s : State) (i : Nat) : State := feedSystem (signal s 1789) 274 i 0

/-- LATENT_PERIOD_END (R249, R251): the latent-error test of a period. -/
def latentPeriodEnd (s : State) (i : Nat) : State :=
  let x := rcvyAt s i
  if i < 8192 then
    (if x.enable && x.latent && due s x.perEnd then
      let bad := decide (x.diff < x.passed * (x.paths - 1) - x.disc)
      let s1 := setRcvy s i { x with passed := 0, disc := 0, perEnd := now s + msTicks x.period }
      if bad then latentError s1 i else s1
     else s)
  else if (rxEnt s (i - 8192)).isSome && synced s && decide (x.perCycle + 1024 ≤ s.cyc.n) then
    let y := latentMissing s x
    let s1 := setRcvy s i { y with missing := 0, passed := 0, disc := 0, perCycle := s.cyc.n }
    if 8 < y.missing then latentError s1 i else s1
  else s

/-! ### Meanings -/

/-- TRANSMISSION_OPPORTUNITY (R193). -/
def execTransmissionOpportunity (p : Nat) (mac : Mac) (ts : Nat) (s : State) : Host.Outcome State Fault Refusal :=
  checked (Instr.wf (.transmissionOpportunity p mac ts)) s (transmissionOpportunity s p mac ts)

/-- FRAME_TX_END (R259). -/
def execFrameTxEnd (p : Nat) (mac : Mac) (s : State) : Host.Outcome State Fault Refusal :=
  checked (Instr.wf (.frameTxEnd p mac)) s (frameTxEnd s p mac)

/-- RECOVERY_RESET_TIMEOUT (R248). -/
def execRecoveryResetTimeout (i : Nat) (s : State) : Host.Outcome State Fault Refusal :=
  checked (Instr.wf (.recoveryResetTimeout i)) s (recoveryTimeout s i)

/-- LATENT_PERIOD_END (R249). -/
def execLatentPeriodEnd (i : Nat) (s : State) : Host.Outcome State Fault Refusal :=
  checked (Instr.wf (.latentPeriodEnd i)) s (latentPeriodEnd s i)

end Sys2Proof.Machine
end

