-- ==== Sys2Proof/Machine/ResetOps.lean ====
section
/-! DEFINITION. ResetOps.lean: what the resets below the chip do to the part's state: unit, cluster, die and region (R20 to
R30, R204, R240, R279, R356, R379, R424). -/

namespace Sys2Proof.Machine

open Sys2Proof

/-! ### Work that is discarded -/

/-- Arriving frames that wait for cells and meet a condition are discarded whole. -/
def dropArrivals (s : State) (gone : Arrival → Bool) : State :=
  (s.vat.waits.filter gone).foldl discardArrival
    { s with vat := { s.vat with waits := s.vat.waits.filter (fun a => !gone a) } }

/-- Queues of DMA clusters that hold work and meet a condition become DISABLED; their functions receive host.restarted (R424,
R461). -/
def discardQueues (s : State) (gone : Nat → QReg → Bool) : State :=
  let l := s.dma.q.filter (fun e => e.2.state != .disabled && gone e.1 e.2)
  let fs := l.foldl (fun acc e => match funcOfQueue s e.1 with
    | some f => setInsert acc f
    | none => acc) []
  broadcast (l.foldl (fun t e => disableQueue t e.1 true) s) fs

/-- The queues of cluster Dk whose work the reset of its unit `i` discards: 0 the descriptor cache, 1 the channel buffers, 2 the
completion engine, 3 the queue state, 4 the segmentation engine (R415, R424). -/
def unitHolds (s : State) (k i : Nat) (q : Nat) (x : QReg) : Bool :=
  qCluster q == k && (match i with
    | 0 => !x.cache.isEmpty || x.fetching
    | 1 => (jobsOf s q).any (fun j => j.state != .ready)
    | 2 => qKind q == 3 && (x.held.isSome || !x.kept.isEmpty)
    | 3 => true
    | 4 => (jobsOf s q).any (fun j => j.seg != 0)
    | _ => false)

/-! ### Units (R23, R415) -/

/-- The reset of an Edge region unit of FS-194 to FS-201: meters and shapers start with full buckets, the schedulers and the
sampling afresh; configuration stays. -/
def edgeEngineReset (s : State) (u : Nat) : State :=
  match u with
  | 196 => { s with meters := s.meters.map (fun e => (e.1, { e.2 with tc := e.2.cbs * 2 ^ 32, tp := e.2.pbs * 2 ^ 32,
                                                                      last := now s / 2 })) }
  | 197 => { s with eg := { s.eg with shapers := s.eg.shapers.map (fun e =>
      (e.1, { e.2 with tokens := e.2.burst * 2 ^ 32, last := now s / 2 })) } }
  | 199 => { s with eg := { s.eg with drr := [], wfq := [] } }
  | 200 => { s with eg := { s.eg with qs := [] } }
  | _ => s

/-- The contents that slot buffers hold: halves filled and not yet sent, or received (R60). -/
def slotContents (s : State) : Nat :=
  (s.cyc.tx.map (fun e => b2n e.2.front.isSome + b2n e.2.back.isSome)).sum +
    (s.cyc.rx.map (fun e => b2n e.2.front.isSome + b2n e.2.back.isSome)).sum

/-- The slot memory starts empty: what it held is counted, and every buffer's next frame carries FIRST (R23, R61; log entry 110). -/
def slotMemoryReset (s : State) : State :=
  (List.range (slotContents s)).foldl (fun t _ => boundaryDrop t .ring) { s with cyc := { s.cyc with tx := [], rx := [] } }

/-- The frames in progress at the MAC of a port (R23). -/
def portWork (s : State) (p : Nat) : Nat :=
  b2n (macAt s p).ex.isSome + b2n (macAt s p).pm.isSome + b2n (portAt s p).asmb.isOpen +
    (s.vat.waits.filter (fun a => a.kind == .edge && a.fr.acct == p)).length

/-- The reset of a port's MAC unit: the frames in progress are discarded and counted (R23; log entry 110). -/
def portReset (s : State) (p : Nat) : State :=
  (List.range (portWork s p)).foldl (fun t _ => boundaryDrop t .edge) (dropPortWork s p)

/-- The ring entries of the strainer take any next frame (R250). -/
def ringStrainerReset (s : State) : State :=
  { s with frer := { s.frer with rcvy := s.frer.rcvy.filter (fun e => decide (e.1 < 8192)) } }

/-- Frames that a reset discards on their way through the node are counted. DESIGN CHOICE (log entry 110): in ring.port.transit_drop of
the egress they were to leave by (R23). -/
def countDrops (s : State) (e : RPort) (n : Nat) : State :=
  (List.range n).foldl (fun t _ => perf (countPort t (rpIdx e) 43) (pRot (rotOfPort t e) 12)) s

/-- A forwarded express frame in transmission, or about to be, is cut off (R23, R114). -/
def cutForwarded (s : State) (e : RPort) : State :=
  let x := rtx s e
  let s1 := countDrops (setRtx s e { x with exNext := none }) e (b2n x.exNext.isSome)
  if x.express.isSome && !x.exOwn then countDrops (expressCut s1 e) e 1 else s1

/-- The transit buffers of a ring egress are empty (R23). -/
def transitReset (s : State) (e : RPort) : State :=
  let x := rtx s e
  countDrops (setRtx s e { x with transitH := [], transitL := [] }) e (x.transitH.length + x.transitL.length)

/-- The frames in reassembly on a ring port fail (R23, R235). -/
def reasmReset (s : State) (e : RPort) : State :=
  [Level.high, .low].foldl (fun t l => if (ctxAt t e l).isOpen then ringFragFail t e l else t) s

/-- The reset of a Ring region unit (R415). -/
def ringUnitReset (s : State) (u : Nat) : State :=
  match u with
  | 262 => reasmReset s .east
  | 263 => reasmReset s .west
  | 275 => slotMemoryReset s
  | 277 => ringStrainerReset s
  | 278 => transitReset (transitReset s .east) .west
  | 279 => cutForwarded (cutForwarded s .east) .west
  | 281 => abandon s
  | 282 => cutOwn (cutOwn s .east) .west
  | _ => s

/-- The reset of a recorder drive's unit, of a cellar channel or of the recorder logic: commands in progress are abandoned and what
was not released is written again (R379). -/
def recUnitReset (s : State) (u : Nat) : State :=
  match u with
  | 384 => setDrive s 0 (rewriteAll (driveAt s 0))
  | 385 => setDrive s 1 (rewriteAll (driveAt s 1))
  | 390 => setDrive (setDrive s 0 (rewriteAll (driveAt s 0))) 1 (rewriteAll (driveAt s 1))
  | _ => s

/-- A unit's reset, by the lowest source of the unit: its state and the work it holds are discarded (R23). A gate engine lets the
frame in progress complete and takes its position when the reset ends. -/
def unitReset (s : State) (u : Nat) : State :=
  if 112 ≤ u ∧ u < 176 then portReset s ((u - 112) / 4)
  else if 202 ≤ u ∧ u < 210 then portReset s (16 + (u - 202) / 4)
  else if 194 ≤ u ∧ u < 202 then edgeEngineReset s u
  else if 256 ≤ u ∧ u < 320 then ringUnitReset s u
  else if 320 ≤ u ∧ u < 352 then discardQueues s (unitHolds s ((u - 320) / 8) ((u - 320) % 8))
  else if u = 354 then { s with host := { s.host with vecs := s.host.vecs.map (fun e => (e.1, { e.2 with pend := false })) } }
  else if 384 ≤ u ∧ u < 448 then recUnitReset s u
  else s

/-- The first sources of the units of a cluster. -/
def clusterUnits (k : Nat) : List Nat :=
  if k < 4 then (List.range 4).flatMap (fun i => [112 + 4 * (4 * k + i), 176 + 4 * k + i])
  else if k < 8 then (List.range 5).map (fun i => 320 + 8 * (k - 4) + i)
  else if k = 8 then [202, 206, 192, 193]
  else [262, 263] ++ (List.range 8).map (275 + ·)

/-- A cluster's reset: every unit of it (R23). In a DMA cluster every queue that holds work becomes DISABLED (R424). -/
def clusterReset (s : State) (k : Nat) : State :=
  if 4 ≤ k ∧ k < 8 then discardQueues s (fun q _ => qCluster q == k - 4)
  else (clusterUnits k).foldl unitReset s

/-! ### Edge PHY dies (R23, R275, R279) -/

/-- A PoDL controller. -/
def podlAt (s : State) (p : Nat) : Podl := tblGet {} s.ports.podl p

/-- The state with a PoDL controller replaced; its gate pin is on in INRUSH and POWERED (R274). -/
def setPodl (s : State) (p : Nat) (x : Podl) : State :=
  let on := x.state == .inrush || x.state == .powered
  let s1 := { s with ports := { s.ports with podl := tblSet {} s.ports.podl p x } }
  { s1 with pins := { s1.pins with podlGate := if on then setInsert s1.pins.podlGate p else setErase s1.pins.podlGate p } }

/-- A port's PHY die is reset or powered down: the port turns off and stands DISABLED, or stays LOCKED_OUT (R275, R279). -/
def podlDieOff (s : State) (p : Nat) : State :=
  let x := podlAt s p
  setPodl s p { x with dieOff := true, budgetWait := false, state := if x.state = .lockout then .lockout else .disabled }

/-- Detection starts where the port is DISABLED with both enables set and its PHY die in service (R275). -/
def podlStart (s : State) (p : Nat) : State :=
  let x := podlAt s p
  let live := inService s .edge || (s.boot.fallback && s.boot.cfgApplied && s.boot.cfg.podlFb)
  if x.state = .disabled && x.enable && (portAt s p).cfg.adminUp && !x.dieOff && live then
    setPodl s p { x with state := .detecting, budgetWait := false }
  else s

/-- An edge PHY die's reset: both its clusters, and its eight PHYs retrain (R23, R279). -/
def dieReset (s : State) (d : Nat) : State :=
  let ports := (List.range 8).map (8 * d + ·)
  let s1 := clusterReset (clusterReset s (2 * d)) (2 * d + 1)
  ports.foldl (fun t p => podlDieOff (portLinkDown t p) p) s1

/-- A PHY die is back: its ports start detection where they are enabled (R279). -/
def dieBack (s : State) (d : Nat) : State :=
  ((List.range 8).map (8 * d + ·)).foldl (fun t p => podlStart (setPodl t p { podlAt t p with dieOff := false }) p) s

/-! ### Regions (R23, R27) -/

/-- The Edge region leaves service: every unit of it is reset, its PHYs retrain, and the frames in its queues are dropped. -/
def edgeDown (s : State) : State :=
  let s1 := (List.range 18).foldl (fun t p => portLinkDown (portReset t p) p) s
  let s2 := (List.range 144).foldl (fun t k => dropQueue t k 1) s1
  let s3 := dropArrivals s2 (fun a => a.kind == .edge || a.kind == .slotEgress)
  [196, 197, 199, 200].foldl edgeEngineReset s3

/-- The Ring region leaves service: the node is OFFLINE without an origin, and its buffers and egresses are empty (R127, R153; log
entry 11). -/
def ringDown (s : State) : State :=
  let s1 := clearEgress (clearEgress (enterOffline s true) .east) .west
  let s2 := (List.range 16).foldl (fun t k => dropQueue t (144 + k) 1) s1
  let s3 := dropArrivals s2 (fun a => a.kind == .ringOpen || a.kind == .slotRx)
  let s4 := ringStrainerReset (slotMemoryReset s3)
  setCause { s4 with cyc := { s4.cyc with claims := [], expects := [], withdrawn := [], seen := [] }
                     ring := { s4.ring with reasm := [], evOut := [], pendReps := [], pendEvs := [] } } 4

/-- The Host region leaves service: every queue is DISABLED, and frames that wait for host queues are dropped and counted at the
crossing (R27, R356). -/
def hostDown (s : State) : State :=
  let s1 := dropArrivals s (fun a => a.kind == .host)
  s1.dma.q.foldl (fun t e =>
    (qAt t e.1).rxq.foldl (fun u _ => boundaryDrop u .host) (disableQueue t e.1 false)) s1

/-- The Record region leaves service: commands in progress are abandoned; the cellar keeps what is staged (R27, R379). -/
def recordDown (s : State) : State :=
  recUnitReset { s with clk := { s.clk with cellarSelfRefresh := true } } 390

/-- The Control region leaves service: requests are held, and the lease and the handover window stand still (R27, R399). -/
def controlDown (s : State) : State :=
  updateHeld { s with kn := { s.kn with stoodAt := some (s.kn.stoodAt.getD (now s)) } }

/-- A region leaves service: to restart, or power-gated (R23, R27). -/
def regionDown (s : State) (r : Region) (restart : Bool) : State :=
  if r = .trestle then s
  else
    let was := inService s r
    let s0 := { s with regs := { s.regs with
      out := setInsert s.regs.out r
      restarting := if restart then setInsert s.regs.restarting r else s.regs.restarting
      gated := if restart then setErase s.regs.gated r else setInsert s.regs.gated r } }
    let s1 := if restart then perf s0 (pRegion (regionIdx r) 2) else s0
    if !was then updateHeld s1
    else match r with
      | .edge => updateHeld (edgeDown s1)
      | .ring => updateHeld (ringDown s1)
      | .host => updateHeld (hostDown s1)
      | .record => updateHeld (recordDown s1)
      | .control => controlDown s1
      | .trestle => s1

/-- The pause watchdog of a port is armed for 1 s after a reset of its cluster or region (R240). -/
def armWatchdog (s : State) (p : Nat) : State :=
  setPause s p { pauseAt s p with armedTo := max (pauseAt s p).armedTo (now s + msTicks 1000) }

/-- A port's gates once its region or cluster is back: the list whose ACT_TIME has passed is operative (R29, R204). -/
def gatesBack (s : State) (p : Nat) : State :=
  match (gateAt s p).pend with
  | some (_, act) => if act ≤ nt16 s then gateActivate s p else positionGates s p
  | none => positionGates s p

/-- The Edge region is back: gates take the position of the list now in force, watchdogs are armed and detection starts (R29,
R204, R240, R275). -/
def edgeUp (s : State) : State :=
  let s1 := (List.range 18).foldl (fun t p => armWatchdog (gatesBack t p) p) s
  (List.range 16).foldl podlStart s1

/-- RCn_PERST_N are released where the Record region runs and RCn_REFCLK have been stable for 1 ms; they stay so until a chip reset
(R508, R510). -/
def rcRelease (s : State) : State :=
  if inService s .record && s.pins.rcRefclk && due s (s.pins.rcClkSince + msTicks 1) then
    { s with pins := { s.pins with rcPerst := true } }
  else s

/-- The Record region runs: RCn_PERST_N are released, and each drive that is neither ABSENT nor FAILED mounts again (R378, R379, R508). -/
def recordUp (s0 : State) : State :=
  let s := rcRelease s0
  [0, 1].foldl (fun t d =>
    let x := driveAt t d
    if x.state = .absent ∨ x.state = .failed then t else setDriveState (setDrive t d (rewriteAll x)) d .init) s

/-- What waited for the MRAM is written: activation records and entries of the repair table (R22, R32, R435). -/
def mramBack (s : State) : State :=
  if mramUp s then flushActs { s with flt := { s.flt with repairsOwed := 0 } } else s

/-- The Control region is back: kept activation records are written, the lease goes on with its remaining time, and held requests
are released (R27, R32, R399). -/
def controlUp (s : State) : State :=
  let gap := now s - s.kn.stoodAt.getD (now s)
  let s1 := { s with kn := { s.kn with stoodAt := none, leaseEnd := s.kn.leaseEnd + gap, windowEnd := s.kn.windowEnd + gap } }
  mramBack s1

/-- A region is marked running again (R27 to R29). -/
def regionUp (s : State) (r : Region) : State :=
  let s1 := { s with regs := { s.regs with
    out := setErase s.regs.out r, restarting := setErase s.regs.restarting r, gated := setErase s.regs.gated r
    missedActivation := setErase s.regs.missedActivation r } }
  let s2 := match r with
    | .edge => edgeUp s1
    | .ring => ringRecheck (notReady (clearCause s1 4))
    | .host => broadcast s1 allFuncs
    | .record => recordUp s1
    | .control => controlUp s1
    | .trestle => s1
  let s3 := updateHeld s2
  answerBad s3.kn.waiting.length s3

/-! ### Reactions (R422) -/

/-- A start that fails is counted (R464). -/
def failedStart (s : State) : State :=
  let v := drawVal s 768
  latchRec { drawn s with boot := { s.boot with failCount := min 3 (s.boot.failCount + 1) } } 526
    { isNative := true, severity := v % 3, count := v / 3 }

/-- FALLBACK is requested: the trestle will start the part in fallback mode, with a reason; before running, the start counts as
failed (R464 to R466). -/
def requestFallback (s : State) (reason : Nat) : State :=
  let s1 := if s.boot.startMark && !s.boot.running && s.boot.fbPending.isNone then failedStart s else s
  { s1 with boot := { s1.boot with fbPending := some (s1.boot.fbPending.getD reason) } }

/-- The reset of a reaction, by its code of R422 and its source. -/
def reactReset (s : State) (code f : Nat) : State :=
  let r := regionIdx (srcRegion f)
  match code with
  | 3 => perf (unitReset s (unitOf f)) (pRegion r 3)
  | 4 => (match clusterOf f with
    | some k => perf (clusterReset s k) (pRegion r 4)
    | none => s)
  | 5 => (match phyDieOf f with
    | some d => dieReset s d
    | none => s)
  | 6 => regionDown s (restartRegion f) true
  | 7 => requestFallback s (if f = 97 then 5 else 4)
  | _ => s

/-- What a die-to-die link that is down does: fallback for the I/O die's, a reset of the edge PHY die behind it, or a restart of the
region (R23, R415). -/
def linkReaction (s : State) (k : Nat) : State := reactReset s (if k = 0 then 7 else if k < 3 then 5 else 6) (97 + 2 * k)

/-- A die-to-die link is down from now on. -/
def linkDead (s : State) (k : Nat) : State :=
  let t := { s with clk := { s.clk with d2dDown := setInsert s.clk.d2dDown k } }
  if s.clk.d2dDown.contains k then t else linkReaction t k

/-- A native event of a source, with the reset that its reaction takes (R420 to R424). -/
def feed (s : State) (f loc detail : Nat) : State := feedWith reactReset s f loc detail true false false

/-! ### Meanings -/

end Sys2Proof.Machine
end

