-- ==== Sys2Proof/Machine/FaultOps.lean ====
section
/-! DEFINITION. FaultOps.lean: reactions and shadows that end, self-tests and repair, forced and boundary events, and the fault
log (R417 to R441). -/

namespace Sys2Proof.Machine

open Sys2Proof

/-! ### Windows, reactions and shadows (R420 to R426) -/

/-- FAULT_WINDOW_END (R420): at the end of its window a source's count returns to 0. -/
def faultWindowEnd (s : State) (f : Nat) : State := setFsrc s f (windowClosed s f)

/-- What the end of a reaction's reset does to what it reset: gates take their position, PHYs start detection again, and pause
watchdogs are armed (R204, R240, R279). -/
def afterReset (s : State) (r : React) : State :=
  let gates := fun (t : State) => (List.range 18).foldl (fun t p => if inScope r (176 + p) then gatesBack t p else t) t
  let guard := fun (t : State) => (List.range 18).foldl (fun t p => if inScope r (portUnit p) then armWatchdog t p else t) t
  match r.code with
  | 3 => gates s
  | 4 => guard (gates s)
  | 5 => (match phyDieOf r.src with
    | some d => dieBack (guard (gates s)) d
    | none => s)
  | _ => s

/-- The running reaction with an ID. -/
def reactOf (s : State) (id : Nat) : Option React := s.flt.reacts.find? (fun r => r.id == id)

/-- REACTION_END (R423): the reset of a reaction has ended; fault.reaction_done is raised. A region restart ends once its region
runs again; a FALLBACK reaction ends with the chip reset. -/
def reactionEnd (s : State) (id : Nat) : State :=
  match reactOf s id with
  | none => s
  | some r =>
    if r.done || r.code == 7 || !due s r.resetEnd || (r.code == 6 && s.regs.restarting.contains (restartRegion r.src)) then s
    else
      let s1 := { s with flt := { s.flt with reacts := s.flt.reacts.map (fun o => if o.id = id then { o with done := true } else o) } }
      signal (afterReset s1 r) 1737

/-- SHADOW_END (R425, R426): the shadow is over, with the record of the hits it held. -/
def shadowEnd (s : State) (id : Nat) : State :=
  match reactOf s id with
  | none => s
  | some r =>
    if !r.done || r.test || !due s r.shadowEnd then s
    else
      let s1 := { s with flt := { s.flt with reacts := s.flt.reacts.filter (fun o => o.id != id) } }
      latchRec s1 r.src { kind := 2, detail := r.hits, id := id, reaction := r.code }

/-! ### Self-tests and repair (R417, R431 to R436) -/

/-- A kind of targeted self-test (R432). -/
inductive TestKind where
  | none | rowMarch | vatRow | tcamEntry | cellarBlock | dmaReplay | phyLoop | serdesMargin | d2dLink | coreLbist
  deriving DecidableEq, Repr

/-- The test of a source (R415). -/
def testOf (f : Nat) : TestKind :=
  if !(srcInfo f).test then .none
  else if f < 96 then .vatRow
  else if f < 106 then .d2dLink
  else if f < 176 then (if f % 4 = 1 then .phyLoop else .rowMarch)
  else if f = 194 then .tcamEntry
  else if f = 202 ∨ f = 206 ∨ f = 266 ∨ f = 267 then .serdesMargin
  else if 320 ≤ f ∧ f < 352 ∧ (f - 320) % 8 = 1 then .dmaReplay
  else if 386 ≤ f ∧ f < 390 then .cellarBlock
  else if 448 ≤ f ∧ f < 452 then .coreLbist
  else .rowMarch

/-- Spares of the memory that a source's repairs draw on (R435). -/
def sparesOf (k : TestKind) : Nat :=
  match k with
  | .rowMarch => 4
  | .vatRow => 8
  | .tcamEntry => 16
  | .cellarBlock => 256
  | _ => 0

/-- Two sources draw on the same spares: a vat bank's, a unit SRAM's, the TCAM's, the cellar's (R435). -/
def sameSpares (k : TestKind) (f g : Nat) : Bool :=
  match k with
  | .vatRow => decide (f < 96) && decide (g < 96) && f % 48 == g % 48
  | .cellarBlock => decide (386 ≤ g) && decide (g < 390)
  | _ => f == g

/-- A lasting verdict without a spare, or on a unit that has none, takes the unit out of use (R432, R436). -/
def disableUnit (s : State) (f : Nat) : State :=
  let off := { s with flt := { s.flt with disabled := setInsert s.flt.disabled (unitOf f) } }
  match testOf f with
  | .vatRow => takeBank { s with vat := { s.vat with banksClosing := setInsert s.vat.banksClosing (f % 48) } }
  | .cellarBlock => { s with vat := { s.vat with spillOff := true } }
  | .phyLoop =>
    let p := (f - 112) / 4
    portLinkDown (setPort off p { portAt off p with disabled := true }) p
  | .serdesMargin =>
    if f < 256 then
      let p := 16 + (f - 202) / 4
      portLinkDown (setPort off p { portAt off p with disabled := true }) p
    else ringLinkDown off (if f = 266 then .east else .west)
  | .dmaReplay =>
    let k := (f - 320) / 8
    { off with dma := { off.dma with chOff := tblSet 0 off.dma.chOff k (tblGet 0 off.dma.chOff k + 1) } }
  | .d2dLink => linkDead off ((f - 96) / 2)
  | _ => off

/-- A lasting verdict is repaired with a spare, or disables the unit; the answer is the spare used, 0xFE for a unit disabled, or
0xFF for no repair (R433, R435, R436). -/
def repair (s : State) (t : SelfTest) : Nat × State :=
  let k := testOf t.src
  let used := (s.flt.repairs.filter (fun e => sameSpares k t.src e.fs)).length
  if !t.repair then (0xFF, s)
  else if used < sparesOf k ∧ s.flt.repairs.length < 1024 then
    (used, perf { s with flt := { s.flt with
      repairs := s.flt.repairs ++ [{ fs := t.src, loc := t.loc, spare := used, ts := ntNs s }]
      repairsOwed := if mramUp s then 0 else s.flt.repairsOwed + 1
      cellarLasting := s.flt.cellarLasting + b2n (k == .cellarBlock) } } (pPkg 10))
  else (0xFE, disableUnit s t.src)

/-- A test of a unit runs. -/
def testRuns (s : State) (u : Nat) : Bool := s.flt.tests.any (fun t => t.running && unitOf t.src == u)

/-- The first queued test of a list that a source is to run. -/
def markRunning (f : Nat) : List SelfTest → List SelfTest
  | [] => []
  | t :: l => if t.src = f ∧ !t.running then { t with running := true } :: l else t :: markRunning f l

/-- A queued test starts: the unit is isolated, and the PENDING verdict is recorded (R433). -/
def startTest (s : State) (t : SelfTest) : State :=
  let s1 := { s with flt := { s.flt with tests := markRunning t.src s.flt.tests } }
  perf (perf (latchRec s1 t.src { kind := 1, loc := t.loc, id := t.id, verdict := 1 }) (pPkg 9)) (pRegion (regionIdx (srcRegion t.src)) 7)

/-- SELFTEST_START (R417, R431, R433): the oldest test requested for a source starts once its unit is neither in reset nor under
test. Where none is requested, the start comes from an error that the unit has corrected in line, at a row of its own (a free
value), where the source's tests are on (R417; log entry 21). -/
def selftestStart (s : State) (f : Nat) : State :=
  if testRuns s (unitOf f) || s.flt.reacts.any (fun r => !r.done && inScope r f) then s
  else match s.flt.tests.find? (fun t => t.src == f && !t.running) with
    | some t => startTest s t
    | none =>
      let k := testOf f
      let loc := drawVal s 65536
      let s1 := perf (count (drawn s) 0x0D 0 10) (pPkg 11)
      if !(k == .rowMarch || k == .tcamEntry) then s
      else if (fsrcCfg s f).selftest && mayTest s f loc then
        let t : SelfTest := { src := f, loc := loc }
        startTest { s1 with flt := { s1.flt with tests := s1.flt.tests ++ [t] } } t
      else s1

/-- A die-to-die link that its test finds sound is in use again, and the die behind it is back (R23, R279, R432). -/
def linkRestored (s : State) (k : Nat) : State :=
  if !s.clk.d2dDown.contains k then s
  else
    let s1 := { s with clk := { s.clk with d2dDown := setErase s.clk.d2dDown k } }
    if k = 1 then dieBack s1 0 else if k = 2 then dieBack s1 1
    else if k = 4 then
      let s2 := updateHeld (mramBack s1)
      answerBad s2.kn.waiting.length s2
    else s1

/-- SELFTEST_DONE (R432, R433): the running test of a source ends with its verdict; a lasting one leads to repair. -/
def selftestDone (s : State) (f : Nat) (v : Verdict) : State :=
  match s.flt.tests.find? (fun t => t.src == f && t.running) with
  | none => s
  | some t =>
    let s1 := { s with flt := { s.flt with
      tests := s.flt.tests.filter (fun x => !(x.src == f && x.running))
      reacts := s.flt.reacts.map (fun r =>
        if r.test && r.id == t.id then { r with test := false, shadowEnd := max r.shadowEnd (now s + usTicks 10) } else r) } }
    let r := match v with
      | .lasting => repair s1 t
      | _ => (0xFF, s1)
    let back := match testOf f, v with
      | .d2dLink, .passed => linkRestored r.2 ((f - 96) / 2)
      | .d2dLink, .transient => linkRestored r.2 ((f - 96) / 2)
      | _, _ => r.2
    let s2 := latchRec back f { kind := 1, loc := t.loc, id := t.id, detail := r.1, verdict := match v with
      | .lasting => 3
      | _ => 2 }
    if t.byCmd then signal s2 1738 else s2

/-! ### Forced and boundary events (R418, R427 to R430) -/

/-- A forced event of a source is due (R429). -/
def forceDue (s : State) (f : Nat) : Bool :=
  let x := fsrcAt s f
  x.force && decide (0 < x.fLeft) && due s x.fNext

/-- The train of forced events after one has been made. -/
def forceTaken (s : State) (f : Nat) : State :=
  let x := fsrcAt s f
  setFsrc s f { x with fLeft := x.fLeft - 1, force := decide (1 < x.fLeft), fNext := x.fNext + usTicks x.fSpacing }

/-- FORCED_EVENT (R429, R430): the next forced event of a source's train is made. -/
def forcedEvent (s : State) (f : Nat) : State :=
  if forceDue s f then
    let x := fsrcAt s f
    feedWith reactReset (forceTaken s f) f x.fLoc x.fDetail false true x.fRecOnly
  else s

/-- A native event of a source; where a forced event falls in the same sample the two are one (R430). -/
def nativeEvent (s : State) (f loc detail : Nat) : State :=
  if forceDue s f then feedWith reactReset (forceTaken s f) f loc detail true true (fsrcAt s f).fRecOnly
  else feed s f loc detail

/-! ### Cells that fail (R437) -/

/-- A frame waiting in an egress queue is dropped from it for a failed cell. -/
def eccQueue (s : State) (k h : Nat) : State :=
  if (queueAt s k).any (fun e => e.h == h) then
    let p := portOfKey s k
    let s1 := wfqIdle (setQueue s k ((queueAt s k).filter (fun e => e.h != h))) p
    let s2 := if (headOf s k).any (fun e => e.h == h) then untagHead s1 p (k % 8) else s1
    finishDest (dmaEgressDrop (perf s2 (pQueue (k / 8) (k % 8) 2)) (frameAt s2 h)) h (destOfQueue k)
  else s

/-- A frame in transmission on an edge or uplink port is ended with an invalid check sequence. -/
def eccMac (s : State) (p h : Nat) : State :=
  let m := macAt s p
  let gap := now s + octetTicks (lineMbps s p) 12
  if m.ex = some h then
    emit (finishDest (setMac s p { m with ex := none, freeAt := gap }) h (destOfQueue (8 * p + m.exQ))) (.badEnd p)
  else if m.pm = some h then
    emit (finishDest (setMac s p { m with pm := none, susp := false, sent := 0, freeAt := if m.susp then m.freeAt else gap }) h
      (destOfQueue (8 * p + m.pmQ))) (.badEnd p)
  else s

/-- A local frame in transmission on a level of a ring egress is ended with an invalid check sequence. -/
def eccRing (h : Nat) (s : State) (x : RPort × Level) : State :=
  let r := rtx s x.1
  let v := lvOf r x.2
  if v.q = some h then
    let r1 := setLv r x.2 { v with cur := none, q := none, susp := false, sent := 0, frag := 0 }
    releaseLocal (emit (setRtx s x.1 { r1 with freeAt := if v.susp then r.freeAt else now s + octetTicks (ringMbps s) 12 }) (.cut x.1))
      v.q v.cur
  else s

/-- A frame for a host queue: the beats of the failed cell of a frame being written are poisoned, and a frame that waits is dropped. -/
def eccHost (s : State) (q h lo : Nat) : State :=
  let x := qAt s q
  match (jobsOf s q).find? (fun j => j.state == .writing), x.rxq.head?.map (·.h) == some h with
  | some j, true => setJob s { j with poison := some lo }
  | _, _ =>
    if x.rxq.any (fun e => e.h == h) then
      let s1 := setQ s q { x with rxq := x.rxq.filter (fun e => e.h != h)
                                  headSince := if x.rxq.head?.map (·.h) = some h then now s else x.headSince }
      drainCheck (finishDest s1 h (destOfRx q)) q
    else s

/-- One consumer of a frame with a failed cell that begins at octet `lo` (R437). Record streams and slot buffers take a frame whole as
it is admitted, so that none is in progress. -/
def eccDest (h lo : Nat) (s : State) (d : Nat) : State :=
  if d < 1088 then eccHost s (rxOfDest d) h lo
  else if d < 1232 then
    let k := d - 1088
    eccQueue (eccMac s (k / 8) h) k h
  else if d < 1240 then
    let s1 := [(RPort.east, Level.high), (.east, .low), (.west, .high), (.west, .low)].foldl (eccRing h) s
    eccQueue (eccQueue s1 (144 + (d - 1232)) h) (152 + (d - 1232)) h
  else s

/-- A vat cell fails uncorrectably (R437): which frame it holds part of, or none, and which of its cells fails, is free (log entry 120).
The frame is counted, and each of its consumers is served as the table says; a frame that is still arriving is dropped for all. -/
def cellFails (s0 : State) : State :=
  let held := s0.vat.frames.filter (fun e => !e.2.inCellar)
  let waits := s0.vat.waits.filter (fun a => decide (0 < a.got))
  let i := drawVal s0 (held.length + waits.length + 1)
  let c := Config.freeNat (s0.free + 1)
  let s := drawn (drawn s0)
  match held[i]?, waits[i - held.length]? with
  | some (h, v), _ =>
    v.dests.eraseDups.foldl (eccDest h (256 * (c % max 1 (cellsOf v.data.length)))) (count s 0x03 0xFFFF 5)
  | none, some a =>
    discardArrival (count { s with vat := { s.vat with waits := s.vat.waits.erase a } } 0x03 0xFFFF 5) a
  | none, none => s

/-- BOUNDARY_DETECT (R418, R427): a unit sees that a neighbour does not answer. Once for each outage it is an event of its own
source, consequential while the neighbour is being reset or tested. -/
def boundaryDetect (s : State) (f nb : Nat) : State :=
  let x := fsrcAt s f
  if x.boundary = some nb ∧ unitBusy s nb = true then s
  else
    let s1 := setFsrc s f { x with boundary := some nb }
    let runs := s.flt.reacts.filter (fun r => !r.done && inScope r nb && !inScope r f)
    let wider := runs.foldl (fun (acc : Option React) r => match acc with
      | none => some r
      | some a => if a.code < r.code then some r else some a) none
    let test := s.flt.tests.find? (fun t => t.running && unitOf t.src == unitOf nb && unitOf nb != unitOf f)
    let cons := fun (id : Nat) =>
      if !(fsrcCfg s f).enable then count s1 0x0C f 0
      else latchRec (count s1 0x0C f 0) f { detail := 2 ^ 31, isNative := true, cons := true, id := id, count := (windowClosed s f).count
                                            severity := b2n (fsrcCfg s f).degraded }
    match wider, test with
    | some r, _ => cons r.id
    | none, some t => cons t.id
    | none, none => feed s1 f 0 (2 ^ 31)

/-! ### The fault log (R438 to R441) -/

/-- The oldest record that a latch holds. -/
def oldestRec (l : List FRec) : Option FRec :=
  l.foldl (fun (acc : Option FRec) r => match acc with
    | none => some r
    | some a => if r.tick < a.tick then some r else some a) none

/-- A list without the first record equal to one. -/
def dropRec (x : FRec) : List FRec → List FRec
  | [] => []
  | r :: t => if r = x then t else r :: dropRec x t

/-- FAULT_LOG_COLLECT (R439, R441): the oldest record that has been held for 20 µs is logged, with the next LOG_SEQ; records lost
from full latches feed FS-456 once the Control region runs. -/
def faultLogCollect (s : State) : State :=
  if !mramUp s then s
  else
    let s1 := match oldestRec s.flt.latches with
      | none => s
      | some r =>
        if !due s (r.tick + usTicks 20) then s
        else
          let w := r.word + s.flt.logSeq % 2 ^ 64 * 2 ^ 96
          perf { s with flt := { s.flt with
            latches := dropRec r s.flt.latches
            log := (w :: s.flt.log).take 16384
            mirror := (w :: s.flt.mirror).take 256
            logSeq := s.flt.logSeq + 1 } } (pPkg 7)
    if 0 < s1.flt.overflowOwed then
      feed { s1 with flt := { s1.flt with overflowOwed := s1.flt.overflowOwed - 1 } } 456 0 0
    else s1

/-! ### Regions -/

/-- The regions that stay out of service in fallback mode (R465). -/
def fallbackOut (r : Region) : Bool := r == .edge || r == .ring || r == .record

/-- REGION_RESTART_DONE (R27 to R29, R356): the Control region marks a restarted region running; in fallback mode Edge, Ring and Record
stay out of service (R465). -/
def regionRestartDone (s : State) (r : Region) : State :=
  if !s.regs.restarting.contains r then s
  else if s.boot.fallback && fallbackOut r then
    updateHeld { s with regs := { s.regs with restarting := setErase s.regs.restarting r } }
  else regionUp s r

/-! ### Meanings -/

/-- FAULT_WINDOW_END (R420). -/
def execFaultWindowEnd (src : Nat) (s : State) : Host.Outcome State Fault Refusal :=
  checked (Instr.wf (.faultWindowEnd src)) s (faultWindowEnd s src)

/-- REACTION_END (R423). -/
def execReactionEnd (id : Nat) (s : State) : Host.Outcome State Fault Refusal :=
  checked (Instr.wf (.reactionEnd id)) s (reactionEnd s id)

/-- SHADOW_END (R426). -/
def execShadowEnd (id : Nat) (s : State) : Host.Outcome State Fault Refusal :=
  checked (Instr.wf (.shadowEnd id)) s (shadowEnd s id)

/-- SELFTEST_START (R431). -/
def execSelftestStart (src : Nat) (s : State) : Host.Outcome State Fault Refusal :=
  checked (Instr.wf (.selftestStart src)) s (selftestStart s src)

/-- SELFTEST_DONE (R433). -/
def execSelftestDone (src : Nat) (verdict : Verdict) (s : State) : Host.Outcome State Fault Refusal :=
  checked (Instr.wf (.selftestDone src verdict)) s (selftestDone s src verdict)

/-- FORCED_EVENT (R430). -/
def execForcedEvent (src : Nat) (s : State) : Host.Outcome State Fault Refusal :=
  checked (Instr.wf (.forcedEvent src)) s (forcedEvent s src)

/-- BOUNDARY_DETECT (R418). -/
def execBoundaryDetect (src : Nat) (nb : Nat) (s : State) : Host.Outcome State Fault Refusal :=
  checked (Instr.wf (.boundaryDetect src nb)) s (boundaryDetect s src nb)

/-- FAULT_LOG_COLLECT (R439). -/
def execFaultLogCollect (s : State) : Host.Outcome State Fault Refusal :=
  checked (Instr.wf (.faultLogCollect)) s (faultLogCollect s)

/-- REGION_RESTART_DONE (R28). -/
def execRegionRestartDone (region : Region) (s : State) : Host.Outcome State Fault Refusal :=
  checked (Instr.wf (.regionRestartDone region)) s (regionRestartDone s region)

end Sys2Proof.Machine
end

