-- ==== Sys2Proof/Machine/KnCore.lean ====
section
/-! DEFINITION. KnCore.lean: how Keanak checks and executes a request, writes its audit record and answers, and the parameter
structures of R409 (R389 to R395, R399, R402 to R412, R524). -/

namespace Sys2Proof.Machine

open Sys2Proof

/-! ### Objects (R411) -/

/-- Class of an object identifier. -/
def objCls (obj : Nat) : Nat := obj / 2 ^ 56

/-- Index of an object identifier. -/
def objIdx (obj : Nat) : Nat := obj % 2 ^ 56

/-- An object of a class with its index below a bound. -/
def objIn (cls n obj : Nat) : Bool := objCls obj == cls && decide (objIdx obj < n)

/-- The units of R415 that carry an object (R28, R436; log entry 33). -/
def carriers (obj : Nat) : List Nat :=
  let i := objIdx obj
  let port := fun (p : Nat) => if p < 16 then 112 + 4 * p else if p < 18 then 202 + 4 * (p - 16) else 262 + (p - 18)
  match objCls obj with
  | 0x01 => [port i]
  | 0x02 => [port (i / 8), 199]
  | 0x03 => [if i < 512 then 194 else 195]
  | 0x04 => [196]
  | 0x05 => [197]
  | 0x06 => [198]
  | 0x07 | 0x08 => [277]
  | 0x0B => [176 + i, port i]
  | 0x0C => [320 + 8 * qCluster i, 323 + 8 * qCluster i]
  | 0x0E => [354]
  | 0x14 => [276]
  | 0x18 => [195]
  | 0x1A => [275]
  | 0x1D => [201]
  | _ => []

/-- An object that a unit disabled by repair carries (R28, R436). -/
def isAbsent (s : State) (obj : Nat) : Bool := (carriers obj).any s.flt.disabled.contains

/-! ### Owner and lease -/

/-- The request comes from the owner (R398). -/
def isOwner (s : State) (r : Request) : Bool :=
  s.kn.owner == some r.master && (r.master != 3 || s.kn.ownerNode == r.node)

/-- The lease starts again (R399). -/
def restartLease (s : State) : State := { s with kn := { s.kn with leaseEnd := now s + msTicks s.kn.leaseMs } }

/-- NODE of a request's records: the node of M3, else 0xFF (R402). -/
def Request.auditNode (r : Request) : Nat := if r.master = 3 then r.node else 0xFF

/-- STEWARD of a request's records: M2 holds ownership that it took over (R402). -/
def stewardFlag (s : State) (r : Request) : Nat := if s.kn.steward ∧ r.master = 2 ∧ s.kn.owner = some 2 then 16 else 0

/-- The body of the record of a request's change of an object. -/
def changeBody (s : State) (r : Request) (obj : Nat) (old new : Option Octets) : Octets :=
  auditBody r.master r.auditNode (stewardFlag s r) r.ver r.cmd obj old new

/-- The record of a request's change of an object (R404, R405). -/
def auditChange (s : State) (r : Request) (obj : Nat) (old new : Option Octets) : State :=
  writeAudit s (changeBody s r obj old new) 0 (nt16 s)

/-- The record of a change that takes effect at a later activation; its activation record is kept ready (R406). -/
def auditStaged (s : State) (r : Request) (obj : Nat) (old new : Option Octets) : State :=
  let t := auditChange s r obj old new
  { t with kn := { t.kn with tmpl := tblSet [] t.kn.tmpl obj (changeBody s r obj old new) } }

/-- A change that waited for its activation is replaced or cancelled: no activation record follows (R406). -/
def dropStaged (s : State) (obj : Nat) : State := { s with kn := { s.kn with tmpl := tblErase s.kn.tmpl obj } }

/-! ### Execution -/

/-- What executing a request gives: a failure with STATUS and DETAIL, or the part's new state with the result and its bulk; the
last form has an effect that follows the response; `failAs` is a failure that a counter records. -/
inductive Res where
  | fail (status detail : Nat)
  | failAs (t : State) (status detail : Nat)
  | ok (t : State) (result bulk : Octets)
  | thenDo (t : State) (after : State → State)

/-- A command as Keanak executes it: the bytes of parameters that must be there, whether it carries bulk (0 none, 1 a bulk read,
2 a load), and what it does. -/
structure Exe where
  need : Request → Nat := fun _ => 0
  bulk : Request → Nat := fun _ => 0
  run : State → Request → Res

/-- BULK and BULK_LEN suit the command and the master (R388, R391, R524). -/
def bulkSuits (kind : Nat) (r : Request) : Bool :=
  decide (r.blen ≤ bulkWindow r.master) && !(r.master == 4 && r.isBulk) &&
    (match kind with
      | 0 => !r.isBulk && r.blen == 0
      | 1 => r.blen == 0
      | _ => r.isBulk && decide (0 < r.blen))

/-- The checks 4 to 7 of R391: the status of the first that fails. -/
def preCheck (s : State) (x : Exe) (c : Cmd) (r : Request) : Option Nat :=
  if 240 < r.plen ∨ !bulkSuits (x.bulk r) r ∨ r.plen < x.need r then some 3
  else if 1 < r.flags ∨ leAt r.image 12 4 ≠ 0 then some 4
  else if s.boot.fallback ∧ !c.fb then some 8
  else if (c.cls = .w ∨ c.cls = .o) ∧ !isOwner s r then some 7
  else none

/-- A request is answered; for an accepted W command the result begins with the SEQ of its first record (R390), `seq` being the SEQ of
the next record before it executed. -/
def finish (s : State) (c : Cmd) (r : Request) (seq : Nat) (x : Res) : State :=
  let head := fun (t : State) => if c.cls = .w ∧ t.kn.seq ≠ seq then leBytes 8 seq else []
  match x with
  | .fail st d => answer s r st d [] []
  | .failAs t st d => answer t r st d [] []
  | .ok t res bulk => answer t r 0 0 (head t ++ res) bulk
  | .thenDo t after => after (answer t r 0 0 (head t) [])

/-- A request that has reached its turn executes whole (R391, R393, R399). -/
def execRequest (s : State) (x : Exe) (c : Cmd) (r : Request) : State :=
  let s1 := perf (dropRequest s r.master) (pPkg 5)
  match preCheck s1 x c r with
  | some st => finish s1 c r s.kn.seq (.fail st 0)
  | none =>
    let s2 := if c.cls = .w ∨ c.cls = .o then restartLease s1 else s1
    finish s2 c r s.kn.seq (x.run s2 r)

/-- A Keanak command's row: the request whose turn it is executes where it is this command; else nothing happens (R393). -/
def runKn (s : State) (code : Nat) (x : Exe) : State :=
  match nextRequest s, cmdOf code with
  | some r, some c =>
    if r.cmd = code ∧ badHeader r = none then
      let t := execRequest s x c r
      answerBad t.kn.waiting.length t
    else s
  | _, _ => s

/-! ### Parameter structures (R409) -/

/-- A parameter of a command's table: its bytes, whether it lies at a multiple of 8, which values are reserved encodings, which lie in
range, and whether it applies to the object. -/
structure PDef where
  size : Nat := 4
  wide : Bool := false
  enc : Nat → Bool := fun _ => true
  ok : Nat → Bool := fun _ => true
  applies : Bool := true

/-- A number from `lo` to `hi`. -/
def pNum (lo hi : Nat) : PDef := { ok := fun v => decide (lo ≤ v) && decide (v ≤ hi) }

/-- A signed number of 32 bits from `lo` to `hi`. -/
def pInt (lo hi : Int) : PDef := { ok := fun v => decide (lo ≤ toSigned 32 v) && decide (toSigned 32 v ≤ hi) }

/-- An enumeration of `n` names; a number beyond them is a reserved encoding. -/
def pEnum (n : Nat) : PDef := { enc := fun v => decide (v < n) }

/-- A number of 64 bits, up to `hi`. -/
def pWide (lo hi : Nat) : PDef := { size := 8, wide := true, ok := fun v => decide (lo ≤ v) && decide (v ≤ hi) }

/-- A signed number of 64 bits. -/
def pWideInt (lo hi : Int) : PDef :=
  { size := 8, wide := true, ok := fun v => decide (lo ≤ toSigned 64 v) && decide (toSigned 64 v ≤ hi) }

/-- A parameter that applies to the object only under a condition. -/
def PDef.when (p : PDef) (b : Bool) : PDef := { p with applies := b }

/-- Where each parameter begins, from offset `o` on. -/
def pOffsets : List PDef → Nat → List Nat
  | [], _ => []
  | p :: t, o =>
    let a := if p.wide then (o + 7) / 8 * 8 else o
    a :: pOffsets t (a + p.size)

/-- The parameters with their positions and offsets. -/
def pTable (l : List PDef) : List (Nat × Nat × PDef) := (List.range l.length).zip ((pOffsets l 16).zip l)

/-- Where the structure must reach for a MASK (R409). -/
def pEnd (l : List PDef) (mask : Nat) : Nat :=
  (pTable l).foldl (fun a x => if bitOf mask x.1 then max a (x.2.1 + x.2.2.size) else a) 16

/-- OBJECT of a request. -/
def Request.obj (r : Request) : Nat := leAt r.params 0 8

/-- MASK of a request. -/
def Request.mask (r : Request) : Nat := leAt r.params 8 4

/-- MASK of a read: every parameter that applies (R409). -/
def pMask (l : List PDef) : Nat := (pTable l).foldl (fun a x => if x.2.2.applies then a + 2 ^ x.1 else a) 0

/-- The structure of an object with its values (R409). -/
def pStruct (obj : Nat) (l : List PDef) (v : List Nat) : Octets :=
  (pTable l).foldl (fun o x => overwrite o x.2.1 (leBytes x.2.2.size (if x.2.2.applies then v.getD x.1 0 else 0)))
    (leBytes 8 obj ++ leBytes 4 (pMask l) ++ leBytes 4 0)

/-- The lowest position of a bit set at or above `n`, counted from 1. -/
def lowestFrom (mask n : Nat) : Nat :=
  ((List.range 32).find? (fun i => decide (n ≤ i) && bitOf mask i)).getD 0 + 1

/-- The checks 9 and 10 of a structure: STATUS and DETAIL where one fails (R391, R409). -/
def pCheck (l : List PDef) (p : Octets) (mask : Nat) : Option (Nat × Nat) :=
  let t := pTable l
  if leAt p 12 4 ≠ 0 then some (4, 0)
  else match t.find? (fun x => bitOf mask x.1 && x.2.2.applies && !x.2.2.enc (leAt p x.2.1 x.2.2.size)) with
    | some x => some (4, x.1 + 1)
    | none =>
      if mask / 2 ^ l.length ≠ 0 then some (4, lowestFrom mask l.length)
      else match t.find? (fun x => bitOf mask x.1 && (!x.2.2.applies || !x.2.2.ok (leAt p x.2.1 x.2.2.size))) with
        | some x => some (6, x.1 + 1)
        | none => none

/-- The values after a request: those its MASK gives, and the present ones (R409). -/
def pMerge (l : List PDef) (p : Octets) (mask : Nat) (v : List Nat) : List Nat :=
  (pTable l).map (fun x => if bitOf mask x.1 then leAt p x.2.1 x.2.2.size else v.getD x.1 0)

/-- A set command: its table for an object, whether the object exists, its present values, and what the new ones do, with the rules of
the command's own chapter. -/
structure SetCmd where
  defs : Nat → List PDef
  objOk : State → Nat → Bool
  get : State → Nat → List Nat
  put : State → Request → Nat → List Nat → Except (Nat × Nat) State
  /-- the change takes effect at a later activation (R406) -/
  staged : Bool := false

/-- An object's structure as its read returns it. -/
def SetCmd.read (c : SetCmd) (s : State) (obj : Nat) : Octets := pStruct obj (c.defs obj) (c.get s obj)

/-- A set command executes: checks 8 to 11, the audit record with both digests, and the commit (R391, R394, R403). -/
def SetCmd.run (c : SetCmd) (s : State) (r : Request) : Res :=
  let obj := r.obj
  let l := c.defs obj
  if !c.objOk s obj then .fail 5 0
  else match pCheck l r.params r.mask with
    | some e => .fail e.1 e.2
    | none =>
      let v := pMerge l r.params r.mask (c.get s obj)
      if isAbsent s obj then .fail 0xB 0
      else match c.put s r obj v with
      | .error e => .fail e.1 e.2
      | .ok t =>
        let old := some (c.read s obj)
        let new := some (c.read t obj)
        match c.put (if c.staged then auditStaged s r obj old new else auditChange s r obj old new) r obj v with
        | .error e => .fail e.1 e.2
        | .ok u => .ok u [] []

/-- A set command as Keanak executes it. -/
def SetCmd.exe (c : SetCmd) : Exe := { need := fun r => pEnd (c.defs r.obj) r.mask, run := c.run }

/-- A command on one object with no further parameters, and the object exists. -/
def onObject (ok : State → Nat → Bool) (f : State → Request → Nat → Res) : State → Request → Res := fun s r =>
  if !ok s r.obj then .fail 5 0 else if isAbsent s r.obj then .fail 0xB 0 else f s r r.obj

end Sys2Proof.Machine
end

