-- ==== Sys2Proof/Machine/KnOwner.lean ====
section
/-! DEFINITION. KnOwner.lean: ownership, its lease and handover, and the reads of the journal (R396 to R400, R403, R407,
R410). -/

namespace Sys2Proof.Machine

open Sys2Proof

/-- The OWNERSHIP object. -/
def ownershipObj : Nat := objId 0x17 0

/-- STATE of R396: 0 UNOWNED, 1 OWNED, 2 HANDOVER_PENDING. -/
def ownState (k : Keanak) : Nat := if k.owner.isNone then 0 else if k.target.isSome then 2 else 1

/-- Bytes 0 to 3 of the KN_OWNER_STATUS result (R410). -/
def ownBytes (k : Keanak) : Octets :=
  leBytes 1 (ownState k) ++ leBytes 1 (k.owner.getD 7) ++ leBytes 1 (if k.owner = some 3 then k.ownerNode else 0xFF) ++
    leBytes 1 (k.target.getD 7)

/-- The value of OWNERSHIP that a digest covers: those bytes and the lease granted or offered in ms (R403). -/
def ownValue (k : Keanak) : Octets :=
  ownBytes k ++ leBytes 4 (if k.owner.isNone then 0 else if k.target.isSome then k.targetLease else k.leaseMs)

/-- A change of ownership: it is audited and broadcast (R397, R461). -/
def ownChange (s : State) (k : Keanak) (origin node steward ver cmd : Nat) : State :=
  let body := auditBody origin node (4 + steward) ver cmd ownershipObj (some (ownValue s.kn)) (some (ownValue k))
  broadcast (writeAudit { s with kn := k } body 0 (nt16 s)) allFuncs

/-- A change of ownership by a request. -/
def ownChangeBy (s : State) (r : Request) (k : Keanak) (steward : Nat) : State :=
  ownChange s k r.master r.auditNode steward r.ver r.cmd

/-- The part without an owner and without an offer. -/
def unowned (k : Keanak) : Keanak :=
  { k with owner := none, ownerNode := 0xFF, steward := false, leaseMs := 0, leaseEnd := 0, target := none, targetNode := 0xFF
           targetLease := 0, windowEnd := 0 }

/-- The part owned by a master, with a lease. -/
def ownedBy (s : State) (m node lease : Nat) (steward : Bool) : Keanak :=
  { unowned s.kn with owner := some m, ownerNode := if m = 3 then node else 0xFF, steward := steward, leaseMs := lease
                      leaseEnd := now s + msTicks lease }

/-- The owner's lease lapses (R397). -/
def lapse (s : State) : State := signal (ownChange s (unowned s.kn) 7 0xFF 0 0 0) 1733

/-- The offer of a handover is over; the owner stays (R397). -/
def noOffer (k : Keanak) : Keanak := { k with target := none, targetNode := 0xFF, targetLease := 0, windowEnd := 0 }

/-- The instant that leases and windows are measured at: they stand still while the Control region is out (R399). -/
def leaseNow (s : State) : Nat := s.kn.stoodAt.getD (now s)

/-- LEASE_LAPSE (R399): the lease ends, unless a request of the owner that arrived before its end still waits. -/
def leaseLapse (s : State) : State :=
  let guarded := s.kn.waiting.any (fun r => isOwner s r && decide (r.arr < s.kn.leaseEnd))
  if s.kn.owner.isNone || !inService s .control || decide (now s < s.kn.leaseEnd) || guarded then s else lapse s

/-- HANDOVER_WINDOW_END (R397, R400): the window ends, unless the target's KN_ACCEPT that arrived before its end still waits. -/
def handoverWindowEnd (s : State) : State :=
  match s.kn.target with
  | none => s
  | some m =>
    let waits := s.kn.waiting.any (fun r => r.master == m && r.cmd == 5 && decide (r.arr < s.kn.windowEnd) &&
      (m != 3 || r.node == s.kn.targetNode))
    if !inService s .control || decide (now s < s.kn.windowEnd) || waits then s
    else ownChange s (noOffer s.kn) 7 0xFF 0 0 0

/-! ### The commands (R398, R410) -/

/-- LEASE as a request gives it: 0 means 5 000 ms. -/
def leaseOf (v : Nat) : Nat := if v = 0 then 5000 else v

/-- LEASE lies in its range. -/
def leaseOk (v : Nat) : Bool := decide (100 ≤ leaseOf v) && decide (leaseOf v ≤ 60000)

/-- The result of a command that grants or restarts a lease. -/
def leaseResult (t : State) : Octets := leBytes 8 ownershipObj ++ leBytes 4 t.kn.leaseMs

/-- KN_CLAIM (R397, R398). -/
def claimRun (s : State) (r : Request) : Res :=
  let l := leAt r.params 0 4
  if !leaseOk l then .fail 6 1
  else if s.kn.owner.isSome then .fail 0x11 0
  else
    let t := ownChangeBy s r (ownedBy s r.master r.node (leaseOf l) false) 0
    .ok t (leaseResult t) []

/-- KN_TAKEOVER (R397, R398): from M2, with STEWARD_N asserted (low) as it executes. -/
def takeoverRun (s : State) (r : Request) : Res :=
  let l := leAt r.params 0 4
  if !leaseOk l then .fail 6 1
  else if r.master ≠ 2 ∨ s.pins.stewardN = true then .fail 0x13 0
  else
    let t := ownChangeBy s r (ownedBy s 2 0xFF (leaseOf l) true) 16
    .ok t (leaseResult t) []

/-- KN_RELEASE (R397). -/
def releaseRun (s : State) (r : Request) : Res := .ok (ownChangeBy s r (unowned s.kn) (stewardFlag s r)) [] []

/-- KN_HEARTBEAT (R410): the lease has restarted at check 7. -/
def heartbeatRun (s : State) (_ : Request) : Res := .ok s (leaseResult s) []

/-- A PCIe function's link is up and the function exists. -/
def pfUp (s : State) (pf : Nat) : Bool :=
  funcExists s (pf * 64) && s.host.linkUp.contains (if s.host.bifurcated then pf else 0)

/-- A master's port is up: its PF, the ring for M3; SPI and the console always are (R398). -/
def masterUp (s : State) (m : Nat) : Bool :=
  match m with
  | 0 => pfUp s 0
  | 1 => pfUp s 1
  | 3 => inService s .ring && ((rport s .east).state != .down || (rport s .west).state != .down)
  | _ => true

/-- KN_HANDOVER (R397, R398). -/
def handoverRun (s : State) (r : Request) : Res :=
  let m := leAt r.params 0 1
  let node := leAt r.params 1 1
  let l := leAt r.params 4 4
  if leAt r.params 2 2 ≠ 0 then .fail 4 0
  else if m = 7 then
    (if s.kn.target.isSome then .ok (ownChangeBy s r (noOffer s.kn) (stewardFlag s r)) [] [] else .ok s [] [])
  else if 4 < m then .fail 6 1
  else if (if m = 3 then 63 < node else node ≠ 0xFF) then .fail 6 2
  else if !leaseOk l then .fail 6 3
  else if (s.kn.owner = some m ∧ (m ≠ 3 ∨ s.kn.ownerNode = node)) ∨ !masterUp s m then .fail 6 1
  else .ok (ownChangeBy s r { s.kn with target := some m, targetNode := node, targetLease := leaseOf l
                                        windowEnd := now s + msTicks 1000 } (stewardFlag s r)) [] []

/-- KN_ACCEPT (R397, R398, R400): by the pending target, with a doorbell before the window's end. -/
def acceptRun (s : State) (r : Request) : Res :=
  if s.kn.target ≠ some r.master ∨ (r.master = 3 ∧ s.kn.targetNode ≠ r.node) ∨ s.kn.windowEnd ≤ r.arr then .fail 0x12 0
  else
    let t := ownChangeBy s r (ownedBy s r.master r.node s.kn.targetLease false) 0
    .ok t (leaseResult t) []

/-- Milliseconds left until an instant, rounded down. -/
def msLeft (s : State) (e : Nat) : Nat := (e - leaseNow s) / 1250000

/-- MBX_LEASE_LEFT (R386). -/
def leaseLeft (s : State) : Nat := if s.kn.owner.isNone then 0 else msLeft s s.kn.leaseEnd

/-- SEQ of the newest record; before the first it is a free value (log entry 6). -/
def newestSeq (s : State) : Nat := if s.kn.journal = [] then drawVal s (2 ^ 64) else s.kn.seq - 1

/-- The state after the newest SEQ has been read. -/
def seqRead (s : State) : State := if s.kn.journal = [] then drawn s else s

/-- KN_OWNER_STATUS (R410). -/
def ownerStatusRun (s : State) (_ : Request) : Res :=
  .ok (seqRead s) (ownBytes s.kn ++ leBytes 4 (leaseLeft s) ++ leBytes 4 (if s.kn.target.isSome then msLeft s s.kn.windowEnd else 0) ++
    leBytes 8 (newestSeq s)) []

/-- A record's SEQ. -/
def recSeq (o : Octets) : Nat := leAt o 0 8

/-- KN_AUDIT_READ (R407, R410): the records held from FIRST_SEQ on, oldest first. -/
def auditReadRun (s : State) (r : Request) : Res :=
  let first := leAt r.params 0 8
  let n := leAt r.params 8 4
  if n < 1 ∨ 8192 < n then .fail 6 2
  else
    let recs := (s.kn.journal.filter (fun o => decide (first ≤ recSeq o) && decide (recSeq o < first + n))).reverse
    let oldest := match s.kn.journal.getLast? with
      | some o => recSeq o
      | none => newestSeq s
    let head := leBytes 8 oldest ++ leBytes 8 (newestSeq s)
    if r.isBulk then .ok (seqRead s) head (recs.take (bulkWindow r.master / 64)).flatten
    else .ok (seqRead s) (head ++ (recs.take 3).flatten) []

/-- The running slot as KN_VERSION gives it: 0 A, 1 B; a part that runs neither shows a free value (R410; log entry 6). -/
def runningSlot (s : State) : Nat := if s.boot.runSlot < 2 then s.boot.runSlot else drawVal s 256

/-- The firmware release of the running image; a free value where the part runs no slot. -/
def runningRelease (s : State) : Nat :=
  match s.boot.runSlot with
  | 0 => s.boot.slotA.release
  | 1 => s.boot.slotB.release
  | _ => drawVal (drawn s) (2 ^ 32)

/-- KN_VERSION (R410). -/
def versionRun (s : State) (_ : Request) : Res :=
  .ok (if s.boot.runSlot < 2 then s else drawn (drawn s))
    (leBytes 1 3 ++ leBytes 1 1 ++ leBytes 2 0 ++ leBytes 8 Config.partSerial ++ leBytes 4 (runningRelease s) ++
      leBytes 1 (runningSlot s)) []

/-! ### The rows -/

/-- How Keanak executes KN_CLAIM. -/
def claimExe : Exe := { run := claimRun }
/-- KN_CLAIM. -/
def knClaim (s : State) : State := runKn s 0x0001 claimExe
/-- How Keanak executes KN_RELEASE. -/
def releaseExe : Exe := { run := releaseRun }
/-- KN_RELEASE. -/
def knRelease (s : State) : State := runKn s 0x0002 releaseExe
/-- How Keanak executes KN_HEARTBEAT. -/
def heartbeatExe : Exe := { run := heartbeatRun }
/-- KN_HEARTBEAT. -/
def knHeartbeat (s : State) : State := runKn s 0x0003 heartbeatExe
/-- How Keanak executes KN_HANDOVER. -/
def handoverExe : Exe := { run := handoverRun }
/-- KN_HANDOVER. -/
def knHandover (s : State) : State := runKn s 0x0004 handoverExe
/-- How Keanak executes KN_ACCEPT. -/
def acceptExe : Exe := { run := acceptRun }
/-- KN_ACCEPT. -/
def knAccept (s : State) : State := runKn s 0x0005 acceptExe
/-- How Keanak executes KN_TAKEOVER. -/
def takeoverExe : Exe := { run := takeoverRun }
/-- KN_TAKEOVER. -/
def knTakeover (s : State) : State := runKn s 0x0006 takeoverExe
/-- How Keanak executes KN_OWNER_STATUS. -/
def ownerStatusExe : Exe := { run := ownerStatusRun }
/-- KN_OWNER_STATUS. -/
def knOwnerStatus (s : State) : State := runKn s 0x0007 ownerStatusExe
/-- How Keanak executes KN_AUDIT_READ. -/
def auditReadExe : Exe := { bulk := fun _ => 1, run := auditReadRun }
/-- KN_AUDIT_READ. -/
def knAuditRead (s : State) : State := runKn s 0x0008 auditReadExe
/-- How Keanak executes KN_VERSION. -/
def versionExe : Exe := { run := versionRun }
/-- KN_VERSION. -/
def knVersion (s : State) : State := runKn s 0x000B versionExe

/-! ### Meanings -/

/-- LEASE_LAPSE (R399). -/
def execLeaseLapse (s : State) : Host.Outcome State Fault Refusal :=
  checked (Instr.wf (.leaseLapse)) s (leaseLapse s)

/-- HANDOVER_WINDOW_END (R397). -/
def execHandoverWindowEnd (s : State) : Host.Outcome State Fault Refusal :=
  checked (Instr.wf (.handoverWindowEnd)) s (handoverWindowEnd s)

/-- KN_CLAIM (R397). -/
def execKnClaim (s : State) : Host.Outcome State Fault Refusal :=
  checked (Instr.wf (.knClaim)) s (knClaim s)

/-- KN_RELEASE (R397). -/
def execKnRelease (s : State) : Host.Outcome State Fault Refusal :=
  checked (Instr.wf (.knRelease)) s (knRelease s)

/-- KN_HEARTBEAT (R399). -/
def execKnHeartbeat (s : State) : Host.Outcome State Fault Refusal :=
  checked (Instr.wf (.knHeartbeat)) s (knHeartbeat s)

/-- KN_HANDOVER (R397). -/
def execKnHandover (s : State) : Host.Outcome State Fault Refusal :=
  checked (Instr.wf (.knHandover)) s (knHandover s)

/-- KN_ACCEPT (R397). -/
def execKnAccept (s : State) : Host.Outcome State Fault Refusal :=
  checked (Instr.wf (.knAccept)) s (knAccept s)

/-- KN_TAKEOVER (R397). -/
def execKnTakeover (s : State) : Host.Outcome State Fault Refusal :=
  checked (Instr.wf (.knTakeover)) s (knTakeover s)

/-- KN_OWNER_STATUS (R410). -/
def execKnOwnerStatus (s : State) : Host.Outcome State Fault Refusal :=
  checked (Instr.wf (.knOwnerStatus)) s (knOwnerStatus s)

/-- KN_AUDIT_READ (R407). -/
def execKnAuditRead (s : State) : Host.Outcome State Fault Refusal :=
  checked (Instr.wf (.knAuditRead)) s (knAuditRead s)

/-- KN_VERSION (R410). -/
def execKnVersion (s : State) : Host.Outcome State Fault Refusal :=
  checked (Instr.wf (.knVersion)) s (knVersion s)

end Sys2Proof.Machine
end

