-- ==== Sys2Proof/Machine/Ports.lean ====
section
/-! DEFINITION. Ports.lean: recovered clocks, SerDes links and modules, ring verification, power over the pair, clock gating and
die-to-die links (R23, R40, R234, R269 to R285). -/

namespace Sys2Proof.Machine

open Sys2Proof

/-! ### Recovered clocks and SerDes links (R40, R282) -/

/-- A port of index p of R187 loses its link. -/
def anyLinkDown (s : State) (p : Nat) : State :=
  if p < 18 then portLinkDown s p else ringLinkDown s (rpOf p)

/-- RECOVERED_CLOCK_LOSS (R40): the port's receive logic is held in reset, and its link is down. -/
def clockLoss (s : State) (p : Nat) : State :=
  let s1 := { s with clk := { s.clk with rxClockLost := setInsert s.clk.rxClockLost p } }
  anyLinkDown s1 p

/-- RECOVERED_CLOCK_RETURN (R40): the port's receive logic leaves reset; its link comes up by training. -/
def clockReturn (s : State) (p : Nat) : State :=
  { s with clk := { s.clk with rxClockLost := setErase s.clk.rxClockLost p } }

/-- The index p of R187 of a SerDes port. -/
def serdesPort : Serdes → Nat
  | .east => 18
  | .west => 19
  | .up0 => 16
  | .up1 => 17

/-- A module that supports the rate is present (R284). -/
def moduleOk (s : State) (w : Serdes) : Bool :=
  match w with
  | .east => s.ports.modEast
  | .west => s.ports.modWest
  | .up0 => (portAt s 16).modReady
  | .up1 => (portAt s 17).modReady

/-- SERDES_LINK_UP (R94, R144, R282): a port that has held lock for 100 µs comes up. -/
def serdesLinkUp (s : State) (w : Serdes) : State :=
  let p := serdesPort w
  if !moduleOk s w || s.clk.rxClockLost.contains p then s
  else if p < 18 then
    (if mayLink s p then portLinkUp s p { portAt s p with rate := 0 } else s)
  else if inService s .ring then ringLinkUp s (rpOf p) else s

/-! ### Verification of the preemptable levels of a ring port (R234) -/

/-- RING_PREEMPT_VERIFY (R234): an attempt of up to 3 tries, 1 ms apart, every 100 ms while the port is failing. A failed attempt
is counted and feeds FS-262 + e. -/
def ringPreemptVerify (s : State) (e : RPort) : State :=
  let x := rport s e
  let p := rpIdx e
  if !inService s .ring || x.state != .linked || (x.verL && x.verH) || !due s x.verNext then s
  else if x.verTries < 3 then
    let s1 := setRport s e { x with verTries := x.verTries + 1, verNext := now s + msTicks 1 }
    emit (emit s1 (.verify p .verifyP)) (.verify p .verifyH)
  else
    let s1 := setRport s e { x with verTries := 0, verNext := now s + msTicks 97 }
    feed (countPort s1 p 44) (262 + rpBit e) 0 0

/-! ### Modules (R284) -/

/-- The line rate of a SerDes port in Mb/s. -/
def serdesMbps (s : State) (p : Nat) : Nat :=
  if p < 18 then (if (portAt s p).cfg.upRate = 0 then 25000 else 10000) else ringMbps s

/-- MODULE_INSERT (R284): the module read 300 ms after x_MODABS fell supports the port's rate, or the port stays DOWN and the
mismatch is counted. -/
def moduleInsert (s : State) (w : Serdes) (ident : Octets) : State :=
  let p := serdesPort w
  let ok := Config.moduleSupports ident (serdesMbps s p)
  let s1 := if ok then s else count s 0x0D p 8
  match w with
  | .east => { s1 with ports := { s1.ports with modEast := ok } }
  | .west => { s1 with ports := { s1.ports with modWest := ok } }
  | .up0 => setPort s1 16 { portAt s1 16 with modReady := ok }
  | .up1 => setPort s1 17 { portAt s1 17 with modReady := ok }

/-- The last pulse of x_TXDIS of a module. -/
def lastPulse (s : State) (w : Serdes) : Option Nat :=
  match w with
  | .east => s.ports.modFaultE
  | .west => s.ports.modFaultW
  | .up0 => (portAt s 16).faultAt
  | .up1 => (portAt s 17).faultAt

/-- A pulse of x_TXDIS for 10 µs; EAST_TXDIS and WEST_TXDIS stay low while the bypass is on (R284). -/
def pulseTxdis (s : State) (w : Serdes) : State :=
  let t := some (now s)
  let s1 := match w with
    | .east => { s with ports := { s.ports with modFaultE := t } }
    | .west => { s with ports := { s.ports with modFaultW := t } }
    | .up0 => setPort s 16 { portAt s 16 with faultAt := t }
    | .up1 => setPort s 17 { portAt s 17 with faultAt := t }
  let n := match w with
    | .east => 0
    | .west => 1
    | .up0 => 2
    | .up1 => 3
  if n < 2 ∧ s.ring.bypassOn = true then s else emit (emit s1 (.pin n true)) (.pin n false)

/-- MODULE_TXFAULT (R284): the fault is counted, feeds the module's source, and pulses x_TXDIS unless a pulse was made within
1 s. -/
def moduleTxfault (s : State) (w : Serdes) : State :=
  let p := serdesPort w
  let src := match w with
    | .east => 264
    | .west => 265
    | .up0 => 203
    | .up1 => 207
  let again := match lastPulse s w with
    | some t => decide (now s < t + msTicks 1000)
    | none => false
  let s1 := if again then s else pulseTxdis s w
  feed (count s1 0x0D p 9) src 0 0

/-! ### Power over the pair (R273 to R279) -/

/-- The PoDL controller of a port runs: the part is out of reset and its PHY die is there (R279). -/
def podlRuns (s : State) (p : Nat) : Bool := !(podlAt s p).dieOff && !s.boot.inReset

/-- The FET of a port is on (R274). -/
def podlOn (x : Podl) : Bool := x.state == .inrush || x.state == .powered

/-- Power budgeted to the ports in INRUSH and POWERED, in mW (R273). -/
def podlSum (s : State) : Nat :=
  s.ports.podl.foldl (fun acc e => if podlOn e.2 then acc + Config.podlClassMw e.2.cls else acc) 0

/-- An entry into BACKOFF or LOCKED_OUT: the code is recorded, the fault counted, and FS-114 + 4n fed (R275). -/
def podlFault (s : State) (p : Nat) (st : PodlState) (code : Nat) : State :=
  let x := podlAt s p
  let s1 := setPodl s p { x with state := st, fault := code, faults := x.faults + 1, budgetWait := false
                                 waitEnd := now s + msTicks (1000 * x.retryDel) }
  feed (countPort s1 p 49) (114 + 4 * p) 0 code

/-- The FET may turn on at a class within BUDGET; else the port waits 1 s with code BUDGET, counted (R273, R275). -/
def podlEnergise (s : State) (p cls : Nat) : State :=
  let x := podlAt s p
  if podlSum s + Config.podlClassMw cls ≤ s.ports.budget then
    setPodl s p { x with state := .inrush, cls := cls }
  else
    countPort (setPodl s p { x with fault := 7, budgetWait := true, waitEnd := now s + msTicks 1000 }) p 49

/-- PODL_DETECT_PROBE (R275, R277): what a probe of the pair in DETECTING finds. -/
def podlDetectProbe (s : State) (p : Nat) (probe : PodlProbe) : State :=
  let x := podlAt s p
  if !podlRuns s p || x.state != .detecting then s
  else match probe with
    | .valid => setPodl s p { x with state := .classifying, budgetWait := false }
    | .reversed => podlFault s p .backoff 3
    | .shorted => podlFault s p .backoff 1
    | .openCircuit => s
    | .invalid => podlFault s p .backoff 4

/-- PODL_CLASS_RESULT (R275): the class read in CLASSIFYING, or none within 150 ms. -/
def podlClassResult (s : State) (p : Nat) (cls : Option Nat) : State :=
  let x := podlAt s p
  if !podlRuns s p || x.state != .classifying || x.budgetWait then s
  else
    let s1 := setPodl s p { x with pdClass := cls.getD 0xF }
    match cls with
    | some c => if x.classMax < c then podlFault s1 p .lockout 6 else podlEnergise s1 p c
    | none => if x.allowUn = 0 then podlFault s1 p .backoff 5 else podlEnergise s1 p (x.allowUn - 1)

/-- PODL_INRUSH_END (R275): the pair is at the rail voltage in time, or the inrush time has expired. -/
def podlInrushEnd (s : State) (p : Nat) (reached : Bool) : State :=
  let x := podlAt s p
  if !podlRuns s p || x.state != .inrush then s
  else if reached then setPodl s p { x with state := .powered, waitEnd := now s + msTicks 10000 }
  else podlFault s p .backoff 2

/-- PODL_OVERLOAD (R275): current above the class limit for T_CUT. -/
def podlOverload (s : State) (p : Nat) : State :=
  if podlRuns s p && (podlAt s p).state == .powered then podlFault s p .backoff 2 else s

/-- PODL_SHORT (R275, R276, R285): a short in INRUSH or POWERED; the FET is off. One in the tick in which the owner has cleared
PODL_ENABLE is recorded, and the port stays DISABLED. -/
def podlShort (s : State) (p : Nat) : State :=
  let x := podlAt s p
  if podlRuns s p && podlOn x then podlFault s p .backoff 1
  else if podlRuns s p && x.state == .disabled && x.offAt == some (now s) then podlFault s p .disabled 1
  else s

/-- PODL_SUPPLY_SHORT (R275, R277, R278): voltage on the pair while the FET is off locks the port out; a port locked out already
takes the code. -/
def podlSupplyShort (s : State) (p : Nat) : State :=
  let x := podlAt s p
  if !podlRuns s p || podlOn x then s
  else if x.state = .lockout then setPodl s p { x with fault := 9 }
  else podlFault s p .lockout 9

/-- PODL_MPS_LOST (R275): the maintain-power signature is absent; the port detects again, and no source is fed. -/
def podlMpsLost (s : State) (p : Nat) : State :=
  let x := podlAt s p
  if podlRuns s p && x.state == .powered then setPodl s p { x with state := .detecting, fault := 8, budgetWait := false } else s

/-- PODL_RETRY_DELAY_END (R275): the port detects again, or after RETRY_LIMIT consecutive faults locks out. -/
def podlRetryDelayEnd (s : State) (p : Nat) : State :=
  let x := podlAt s p
  if !podlRuns s p || x.state != .backoff || !due s x.waitEnd then s
  else if x.faults < x.retryLim then setPodl s p { x with state := .detecting, budgetWait := false }
  else feed (countPort (setPodl s p { x with state := .lockout }) p 49) (114 + 4 * p) 0 x.fault

/-- PODL_BUDGET_WAIT_END (R275): 1 s after a BUDGET refusal the port detects again. -/
def podlBudgetWaitEnd (s : State) (p : Nat) : State :=
  let x := podlAt s p
  if podlRuns s p && x.state == .classifying && x.budgetWait && due s x.waitEnd then
    setPodl s p { x with state := .detecting, budgetWait := false }
  else s

/-- PODL_POWERED_10S (R275): after 10 s in POWERED the consecutive fault count returns to 0. -/
def podlPowered10s (s : State) (p : Nat) : State :=
  let x := podlAt s p
  if podlRuns s p && x.state == .powered && due s x.waitEnd then setPodl s p { x with faults := 0 } else s

/-! ### Clock gating, self-refresh and die-to-die links (R23) -/

/-- Ticks of the span clock in a tick of a unit's domain: an edge MAC's, the Control and Record regions', or another's (R36, R37; log
entry 86). -/
def unitPeriod (u : Nat) : Nat :=
  if 112 ≤ u ∧ u < 176 then 8
  else match srcRegion u with
    | .control => 4
    | .record => 4
    | _ => 2

/-- A unit has taken no request for 32 ticks of its domain (R23). -/
def unitIdle (s : State) (u : Nat) : Bool := due s (max s.clk.bootTick (tblGet 0 s.clk.lastUse u) + 32 * unitPeriod u)

/-- UNIT_CLOCK_GATE (R23): a unit idle for 32 ticks has its clock gated, but for units of the Control and Trestle regions, and of the
Ring region while the node is a ring member. -/
def unitClockGate (s : State) (u : Nat) : State :=
  let r := srcRegion u
  if !listed u || unitOf u != u || (srcInfo u).level != 0 || r == .control || r == .trestle || (r == .ring && ringMember s) ||
      !unitIdle s u then s
  else { s with clk := { s.clk with gatedUnits := setInsert s.clk.gatedUnits u } }

/-- CELLAR_SELF_REFRESH (R23): the cellar, unused by recording and spill for 1 ms, enters self-refresh. -/
def cellarSelfRefresh (s : State) : State :=
  let busy := s.eg.queues.any (fun e => e.2.any (fun x => x.state == .returning)) ||
    s.geley.d0.writing.isSome || s.geley.d1.writing.isSome || !due s (max s.clk.bootTick s.clk.cellarUse + msTicks 1)
  if busy then s else { s with clk := { s.clk with cellarSelfRefresh := true } }

/-- D2D_LINK_DOWN (R23, R415, R416): a link that fails 16 retries in a row is declared down: the action its source's row names is
taken outside the reactions of R422, and its self-test is requested. -/
def d2dLinkDown (s : State) (k : Nat) : State :=
  let f := 97 + 2 * k
  let s1 := { s with clk := { s.clk with d2dDown := setInsert s.clk.d2dDown k } }
  let s2 := feed s1 f 0 k
  if s.clk.d2dDown.contains k || !(fsrcCfg s f).enable then s2
  else
    let s3 := linkReaction s2 k
    if k = 1 ∨ k = 2 ∨ k = 3 ∨ k = 4 then
      (if (fsrcCfg s f).selftest && mayTest s f 0 then requestTest s3 { src := f } else s3)
    else s3

/-! ### Meanings -/

/-- RECOVERED_CLOCK_LOSS (R40). -/
def execRecoveredClockLoss (p : Nat) (s : State) : Host.Outcome State Fault Refusal :=
  checked (Instr.wf (.recoveredClockLoss p)) s (clockLoss s p)

/-- RECOVERED_CLOCK_RETURN (R40). -/
def execRecoveredClockReturn (p : Nat) (s : State) : Host.Outcome State Fault Refusal :=
  checked (Instr.wf (.recoveredClockReturn p)) s (clockReturn s p)

/-- SERDES_LINK_UP (R282). -/
def execSerdesLinkUp (who : Serdes) (s : State) : Host.Outcome State Fault Refusal :=
  checked (Instr.wf (.serdesLinkUp who)) s (serdesLinkUp s who)

/-- RING_PREEMPT_VERIFY (R234). -/
def execRingPreemptVerify (port : RPort) (s : State) : Host.Outcome State Fault Refusal :=
  checked (Instr.wf (.ringPreemptVerify port)) s (ringPreemptVerify s port)

/-- MODULE_INSERT (R284). -/
def execModuleInsert (who : Serdes) (ident : Octets) (s : State) : Host.Outcome State Fault Refusal :=
  checked (Instr.wf (.moduleInsert who ident)) s (moduleInsert s who ident)

/-- MODULE_TXFAULT (R284). -/
def execModuleTxfault (who : Serdes) (s : State) : Host.Outcome State Fault Refusal :=
  checked (Instr.wf (.moduleTxfault who)) s (moduleTxfault s who)

/-- PODL_DETECT_PROBE (R275). -/
def execPodlDetectProbe (p : Nat) (probe : PodlProbe) (s : State) : Host.Outcome State Fault Refusal :=
  checked (Instr.wf (.podlDetectProbe p probe)) s (podlDetectProbe s p probe)

/-- PODL_CLASS_RESULT (R275). -/
def execPodlClassResult (p : Nat) (cls : Option Nat) (s : State) : Host.Outcome State Fault Refusal :=
  checked (Instr.wf (.podlClassResult p cls)) s (podlClassResult s p cls)

/-- PODL_INRUSH_END (R275). -/
def execPodlInrushEnd (p : Nat) (reached : Bool) (s : State) : Host.Outcome State Fault Refusal :=
  checked (Instr.wf (.podlInrushEnd p reached)) s (podlInrushEnd s p reached)

/-- PODL_OVERLOAD (R275). -/
def execPodlOverload (p : Nat) (s : State) : Host.Outcome State Fault Refusal :=
  checked (Instr.wf (.podlOverload p)) s (podlOverload s p)

/-- PODL_SHORT (R276). -/
def execPodlShort (p : Nat) (s : State) : Host.Outcome State Fault Refusal :=
  checked (Instr.wf (.podlShort p)) s (podlShort s p)

/-- PODL_SUPPLY_SHORT (R275). -/
def execPodlSupplyShort (p : Nat) (s : State) : Host.Outcome State Fault Refusal :=
  checked (Instr.wf (.podlSupplyShort p)) s (podlSupplyShort s p)

/-- PODL_MPS_LOST (R275). -/
def execPodlMpsLost (p : Nat) (s : State) : Host.Outcome State Fault Refusal :=
  checked (Instr.wf (.podlMpsLost p)) s (podlMpsLost s p)

/-- PODL_RETRY_DELAY_END (R275). -/
def execPodlRetryDelayEnd (p : Nat) (s : State) : Host.Outcome State Fault Refusal :=
  checked (Instr.wf (.podlRetryDelayEnd p)) s (podlRetryDelayEnd s p)

/-- PODL_BUDGET_WAIT_END (R275). -/
def execPodlBudgetWaitEnd (p : Nat) (s : State) : Host.Outcome State Fault Refusal :=
  checked (Instr.wf (.podlBudgetWaitEnd p)) s (podlBudgetWaitEnd s p)

/-- PODL_POWERED_10S (R275). -/
def execPodlPowered10s (p : Nat) (s : State) : Host.Outcome State Fault Refusal :=
  checked (Instr.wf (.podlPowered10s p)) s (podlPowered10s s p)

/-- UNIT_CLOCK_GATE (R23). -/
def execUnitClockGate (unit : Nat) (s : State) : Host.Outcome State Fault Refusal :=
  checked (Instr.wf (.unitClockGate unit)) s (unitClockGate s unit)

/-- CELLAR_SELF_REFRESH (R23). -/
def execCellarSelfRefresh (s : State) : Host.Outcome State Fault Refusal :=
  checked (Instr.wf (.cellarSelfRefresh)) s (cellarSelfRefresh s)

/-- D2D_LINK_DOWN (R23). -/
def execD2dLinkDown (i : Nat) (s : State) : Host.Outcome State Fault Refusal :=
  checked (Instr.wf (.d2dLinkDown i)) s (d2dLinkDown s i)

end Sys2Proof.Machine
end

