-- ==== Sys2Proof/Machine/Boot.lean ====
section
/-! DEFINITION. Boot.lean: chip resets, starts, the trestle's operations, temperatures, clocks and supplies (R42, R442 to R448, R463
to R471, R475, R498 to R501), and the events of fault sources (R420). -/

namespace Sys2Proof.Machine

open Sys2Proof

/-! ### What a chip reset leaves (R23, R86, R463 to R468) -/

/-- The boot block, the flash and the sticky status through a chip reset; a reset that R463 marks "No" clears START_MARK. A
firmware slot or a store whose write was cut is not valid (R464, R468, R476, R479). -/
def keepBoot (b : Boot) (code : Nat) : Boot :=
  let cutSlot := fun (k : Nat) (x : Slot) => match b.fwBusy with
    | some w => if w.1 = k then { x with state := 3 } else x
    | none => x
  let cutStore := fun (k : Nat) (x : Store) => if b.storeBusy = some k then { x with valid := false } else x
  { lastReset := code, pllLost := b.pllLost, refLost := b.refLost, tempTripped := b.tempTripped, wdtExpired := b.wdtExpired
    minSvn := b.minSvn, failCount := b.failCount
    startMark := b.startMark && !([1, 2, 3, 5, 6].contains code)
    trialPending := b.trialPending, rolledBack := b.rolledBack, trialSlot := b.trialSlot, committed := b.committed
    trialRunning := b.trialRunning, slotA := cutSlot 0 b.slotA, slotB := cutSlot 1 b.slotB
    store0 := cutStore 0 b.store0, store1 := cutStore 1 b.store1, por := b.por }

/-- The cellar repairs of the repair table (R435). -/
def cellarRepairs (f : Faults) : Nat := (f.repairs.filter (fun e => decide (386 ≤ e.fs) && decide (e.fs < 390))).length

/-- The fault log, the repair table and the trestle's own records through a chip reset (R435, R438, R439, R441). -/
def keepFaults (f : Faults) : Faults :=
  { repairs := f.repairs.take (f.repairs.length - f.repairsOwed), cellarLasting := cellarRepairs f
    log := f.log, logSeq := f.logSeq, mirror := f.mirror
    pendingArea := f.pendingArea, latches := f.latches.filter (fun r => decide (r.region = .trestle)) }

/-- The part's inputs through a chip reset; its outputs return to their state of R505. -/
def keepPins (p : Pins) : Pins :=
  { rcRefclk := p.rcRefclk, rcClkSince := p.rcClkSince, resetN := p.resetN, stewardN := p.stewardN, bifurcate := p.bifurcate,
    srisPin := p.srisPin, xtalBypass := p.xtalBypass, testEn := p.testEn, corePgood := p.corePgood }

/-- The plugged modules through a chip reset. -/
def keepPorts (p : Ports) : Ports :=
  { modEast := p.modEast, modWest := p.modWest
    port := [16, 17].foldl (fun t k => tblSet {} t k { modReady := (tblGet ({} : PortSt) p.port k).modReady }) [] }

/-- The part held in chip reset: everything but MRAM, flash, sticky status, its inputs and the model's own fields is at its reset
value; the counter starts from the trestle's coarse time, a free value, or after power-up from 0 (R23, R86). -/
def chipCleared (s : State) (code : Nat) : State :=
  let ms := if code = 0 then 0 else drawVal s (2 ^ 44)
  { pending := s.pending, trace := s.trace, free := s.free + 1
    eg := { lastRefill := s.clk.tick }
    clk := { tick := s.clk.tick, bootTick := s.clk.tick, refPresent := s.clk.refPresent, pllLocked := s.clk.refPresent }
    time := { nt := ms * 1000000 * 2 ^ 48, coarse := ms }
    kn := { journal := s.kn.journal, seq := s.kn.seq, chain := s.kn.chain, mirror := s.kn.mirror }
    flt := keepFaults s.flt, boot := keepBoot s.boot code, pins := keepPins s.pins, ports := keepPorts s.ports }

/-! ### A start (R464, R465, R469, R475) -/

/-- A slot holds a valid image (R474). -/
def slotValid (b : Boot) (k : Nat) : Bool :=
  let x := if k = 0 then b.slotA else b.slotB
  x.state == 2 && decide (b.minSvn ≤ x.svn)

/-- The selection of R475: the slot, 2 standing for recovery, and the boot block after it. -/
def selectSlot (b : Boot) : Nat × Boot :=
  let b1 := { b with trialPending := false }
  if b.trialPending && slotValid b b.trialSlot then (b.trialSlot, { b1 with trialRunning := true })
  else
    let b2 := if b.trialRunning then { b1 with trialRunning := false, rolledBack := true } else b1
    if slotValid b b.committed then (b.committed, b2)
    else if slotValid b (1 - b.committed) then (1 - b.committed, b2) else (2, b2)

/-- A start begins: straps are sampled, a slot is selected and START_MARK is set; with FAIL_COUNT = 3, on a fallback entry or without
a valid slot the part starts in fallback mode (R286, R464, R465, R475). -/
def startPart (s : State) (fb : Option Nat) : State :=
  let s0 := if s.boot.lastReset = 0 ∧ s.boot.startMark = true then failedStart s else s
  let sel := selectSlot s0.boot
  let reason := if sel.1 = 2 then 2 else match fb with
    | some r => r
    | none => if s0.boot.failCount = 3 then 1 else 0
  let b := sel.2
  { s0 with
    boot := { b with inReset := false, ready := true, startMark := true, stage := 2, selected := sel.1, fallback := reason != 0
                     fbReason := reason, cause := if reason = 0 then 1 else 5 }
    host := { s0.host with bifurcated := s0.pins.bifurcate, sris := s0.pins.srisPin } }

/-- The start of a part that leaves reset; with TEST_EN high it stays in reset (R506). -/
def beginStart (s : State) (fb : Option Nat) : State := if s.pins.testEn then s else startPart s fb

/-- A chip reset takes hold, with its LAST_RESET code (R463); the operation is recorded (R442). RESET_N and power-on reset hold
the part; after any other source the start begins. -/
def chipReset (s : State) (code : Nat) (fb : Option Nat) : State :=
  let op := if code = 8 then (if fb = some 3 then 4 else 0) else code.min 1
  let t := chipCleared (if op = 0 then s else recordOp s op) code
  if code < 2 ∨ s.pins.resetN = false ∨ s.boot.por = true then t else beginStart t fb

/-- A chip reset is started: it takes hold after so many ticks, which pass by the trestle's oscillator too; one that takes hold no later
stays (R41, R443). -/
def startReset (s : State) (code ticks : Nat) : State :=
  if s.boot.pendingReset.any (fun p => decide (p.2 ≤ now s + ticks)) then s
  else { s with boot := { s.boot with pendingReset := some (code, now s + ticks) } }

/-- The pending chip reset takes hold when its time has come. -/
def resetDue (s : State) : State :=
  match s.boot.pendingReset with
  | some (code, t) => if due s t then chipReset s code none else s
  | none => s

/-! ### Reset pins and supplies (R286, R463, R498 to R501) -/

/-- RESET_N_FALL. -/
def resetNFall (s : State) : State :=
  let s1 := { s with pins := { s.pins with resetN := false } }
  if s.boot.por then s1 else chipReset s1 1 none

/-- RESET_N_RISE: a start begins, unless power-on reset still holds the part. -/
def resetNRise (s : State) : State :=
  let s1 := { s with pins := { s.pins with resetN := true } }
  if s.boot.por || !s.boot.inReset then s1 else beginStart s1 none

/-- POWER_ON_RESET_RELEASE: the power-up of R463, where RESET_N is high. -/
def porRelease (s : State) : State :=
  if !s.boot.por then s
  else
    let s1 := { s with boot := { s.boot with por := false } }
    if s.pins.resetN then beginStart s1 none else s1

/-- TRESTLE_SUPPLY_DIP (R501): the whole part is held in power-on reset; sticky status and the trestle's own records are lost. -/
def supplyDip (s : State) : State :=
  let t := chipCleared s 0
  { t with boot := { t.boot with por := true, pllLost := false, refLost := false, tempTripped := false, wdtExpired := false
                                 rolledBack := false, startMark := s.boot.startMark }
           flt := { t.flt with pendingArea := [], latches := [] } }

/-- SUPPLY_EXCURSION (R498): the monitor of the rail group fires. -/
def supplyExcursion (s : State) (g : Nat) : State := if g < 8 then nativeEvent s (516 + g) 0 0 else s

/-! ### The boot (R464, R465, R469, R470, R499) -/

/-- IMAGE_VERIFIED: the selected image has passed, and CORE_PWR_EN goes high. -/
def imageVerified (s : State) : State :=
  if s.boot.stage ≠ 2 ∨ s.boot.inReset = true then s
  else { s with boot := { s.boot with stage := 4 }, pins := { s.pins with corePwrEn := true } }

/-- The core die leaves reset and Keanak starts from an image: the Control and Host regions run, and the trestle's mirrors are seeded
(R22, R407, R441, R465, R469). -/
def coreUp (s : State) (slot : Nat) : State :=
  { s with
    boot := { s.boot with corePowered := true, runSlot := slot, stage := 6, cfgApplied := false }
    regs := { s.regs with out := [.edge, .ring, .record] }
    kn := { s.kn with mirror := s.kn.journal.take 128 }
    flt := { s.flt with mirror := s.flt.log.take 256 } }

/-- CORE_PGOOD_RISE (R469, R499): sampled only while the trestle waits for it; the root PLL has locked. -/
def corePgoodRise (s : State) : State :=
  let s1 := { s with pins := { s.pins with corePgood := true } }
  if s.boot.stage ≠ 4 ∨ s.boot.corePowered = true ∨ s.pins.corePwrEn = false ∨ s.clk.pllLocked = false then s1
  else coreUp s1 s.boot.selected

/-- RECOVERY_IMAGE_LOAD (R465): no control core answers; the core die is restarted once with the recovery image. -/
def recoveryImageLoad (s : State) : State :=
  if !s.boot.fallback || s.boot.running || s.boot.recoveryTried || !s.pins.corePwrEn then s
  else coreUp { s with boot := { s.boot with recoveryTried := true, wdtKicked := false, selected := 2 } } 2

/-- The valid copy of the stored configuration: the higher STORE_SEQ decides (R479). -/
def validStore (b : Boot) : Option Store :=
  let a := b.store0
  let c := b.store1
  if a.valid && c.valid then some (if leAt a.bytes 8 8 < leAt c.bytes 8 8 then c else a)
  else if a.valid then some a else if c.valid then some c else none

/-- The part may be marked running; in fallback mode of the regions the Host region must run, and the Record region not where its link to
the cellar is disabled by repair (R465, R470). -/
def mayRun (s : State) : Bool :=
  !s.boot.inReset && s.boot.corePowered && !s.boot.running && s.boot.wdtKicked && s.boot.cfgApplied && inService s .control &&
    (if s.boot.fallback then [Region.host] else [.edge, .ring, .host, .record]).all (fun r =>
      inService s r || s.regs.gated.contains r || (r == .record && [102, 103].any s.flt.disabled.contains))

/-- RUNNING_REACHED (R404, R464, R470): START_MARK is cleared, FAIL_COUNT returns to 0 outside fallback mode (R467), and the record
of the applied store and the BOOT record are written; the BOOT record's OBJECT is a free value. -/
def runningReached (s : State) : State :=
  if !mayRun s then s
  else
    let s1 := { s with boot := { s.boot with running := true, startMark := false, stage := if s.boot.fallback then 8 else 7
                                             failCount := if s.boot.fallback then s.boot.failCount else 0 } }
    let s2 := match (if s.boot.fallback then none else validStore s.boot) with
      | some st => writeAudit s1 (auditBody 7 0xFF 0 0 0x0909 (objId 0x16 0) none (some st.bytes)) 0 (nt16 s1)
      | none => s1
    let obj := drawVal s2 (2 ^ 64)
    writeAudit (drawn s2) (auditBody 7 0xFF 8 0 (fallbackReason s2) obj none none) 0 (nt16 s2)

/-- START_TIMEOUT (R464): the 2 s limit has passed before running; in fallback mode the recovery image is tried first. -/
def startTimeout (s : State) : State :=
  if s.boot.inReset || s.boot.running || !s.boot.startMark || (s.boot.fallback && !s.boot.recoveryTried) then s
  else chipReset (failedStart s) 7 none

/-- FALLBACK_ENTRY (R463, R465): the part restarts in fallback mode. -/
def fallbackEntry (s : State) : State :=
  match s.boot.fbPending with
  | none => s
  | some r => chipReset s 8 (some r)

/-! ### Trestle operations (R442 to R445, R467) -/

/-- A TRS_OP with the right key is accepted and stands in LAST_OP. -/
def trsOp (s : State) (key op : Nat) (f : State → State) : State :=
  if !s.boot.ready then s
  else if key ≠ 0xA5 then count s 0x0D 0 11
  else f { s with boot := { s.boot with opLast := op, opState := 1 } }

/-- A chip reset by TRS_OP or KN_RESET in fallback mode sets FAIL_COUNT to 0 (R467). -/
def clearFails (s : State) : State := if s.boot.fallback then { s with boot := { s.boot with failCount := 0 } } else s

/-- CHIP_RESET. -/
def trsChipReset (s : State) (key : Nat) : State := trsOp s key 1 (fun t => startReset (clearFails t) 2 (usTicks 5))

/-- The bypass is commanded on; where it is on already the operation is done. -/
def bypassCommandOn (s : State) : State :=
  let s1 := setCause { s with ring := { s.ring with cmdBypassByWithdraw := false } } 5
  if s1.ring.bypassOn then recordOp { s1 with boot := { s1.boot with opState := 2 } } 2 else s1

/-- The bypass command is taken back; it waits for the bypass to go off. -/
def bypassCommandOff (s : State) : State :=
  let s1 := clearCause s 5
  if s1.ring.bypassOn then { s1 with boot := { s1.boot with opState := 3 } }
  else recordOp { s1 with boot := { s1.boot with opState := 2 } } 3

/-- A bypass command of TRS_OP decides over one of Keanak in its tick (R448). -/
def trsBypassMark (s : State) : State := { s with boot := { s.boot with trsBypass := some (now s) } }

/-- BYPASS_ON. -/
def trsBypassOn (s : State) (key : Nat) : State := trsOp s key 2 (fun t => bypassCommandOn (trsBypassMark t))

/-- BYPASS_RELEASE. -/
def trsBypassRelease (s : State) (key : Nat) : State := trsOp s key 3 (fun t => bypassCommandOff (trsBypassMark t))

/-- FORCE_FALLBACK. -/
def forceFallback (s : State) (key : Nat) : State :=
  trsOp s key 4 (fun t => setCause { t with boot := { t.boot with fbPending := some 3 } } 2)

/-! ### Temperatures (R446) -/

/-- The core group goes down: every region behind it is out of service, its PCIe links are down, and the PoDL gates fall. -/
def coreDown (s : State) : State :=
  let s1 := (List.range 16).foldl podlDieOff (bypassSwitchOn (setCause s 1))
  { s1 with
    regs := { s1.regs with out := [.edge, .ring, .host, .record, .control], restarting := [] }
    host := { s1.host with linkUp := [], widths := [], speeds := [] }
    pins := { s1.pins with corePwrEn := false, podlGate := [], rcPerst := false }
    boot := { s1.boot with corePowered := false } }

/-- The temperature shutdown. -/
def tempShutdown (s : State) : State :=
  if s.boot.tempShut then s
  else
    let s1 := coreDown s
    { s1 with boot := { s1.boot with tempShut := true, tempTripped := true, wdtPaused := true, coolSince := none } }

/-- TEMP_SAMPLE: the four sensors are sampled every 250 µs. -/
def tempSample (s : State) (core io phy0 phy1 : Int) : State :=
  if !s.boot.ready then s
  else
    let c := s.boot.cfg
    let l := [core, io, phy0, phy1]
    let s1 := { s with boot := { s.boot with tCore := core, tIo := io, tPhy0 := phy0, tPhy1 := phy1 } }
    let hit := fun (t : State) (src lim : Nat) => (List.range 4).foldl (fun u k =>
      if (lim : Int) < l.getD k 0 then nativeEvent u src k 0 else u) t
    let s2 := hit (hit s1 512 c.tempWarn) 513 c.tempTrip
    let s3 := if l.any (fun t => decide ((c.tempTrip : Int) < t)) then tempShutdown s2 else s2
    let cool := l.all (fun t => decide (t < (c.tempTrip : Int) - c.tempHyst))
    { s3 with boot := { s3.boot with coolSince :=
        if s3.boot.tempShut ∧ cool = true then some (match s3.boot.coolSince with
          | some n => n + 1
          | none => 0) else none } }

/-- TEMP_COOL_RESET: every die has stayed below the release threshold for 1 s, 4 000 samples. -/
def tempCoolReset (s : State) : State :=
  match s.boot.coolSince with
  | some n => if s.boot.tempShut ∧ 4000 ≤ n then chipReset s 5 none else s
  | none => s

/-! ### Watchdog, PLL and reference (R42, R447, R509) -/

/-- WATCHDOG_KICK. -/
def watchdogKick (s : State) : State :=
  if s.boot.corePowered && inService s .control then { s with boot := { s.boot with wdtKicked := true } } else s

/-- WATCHDOG_EXPIRY: FS-524 is fed and a chip reset follows; before running the start counts as failed (R464). -/
def watchdogExpiry (s : State) : State :=
  if !s.boot.corePowered || s.boot.wdtPaused then s
  else
    let s1 := nativeEvent { s with boot := { s.boot with wdtExpired := true } } 524 0 0
    startReset (if s.boot.startMark && !s.boot.running then failedStart s1 else s1) 4 (usTicks 10)

/-- The root-frequency domains stop, a synchronised node loses synchronisation with PLL_LOSS, RC0_REFCLK and RC1_REFCLK stop, and the
bypass switches on (R42, R107, R510). -/
def rootStops (s : State) : State :=
  let s1 := if synced s then leaveSync s 5 .offline else s
  bypassSwitchOn (setCause { s1 with clk := { s1.clk with pllLocked := false }, pins := { s1.pins with rcRefclk := false } } 3)

/-- The root PLL has locked again: what is derived from it runs (R42, R510). -/
def rootRuns (s : State) : State :=
  { s with clk := { s.clk with pllLocked := true }, pins := { s.pins with rcRefclk := true, rcClkSince := now s } }

/-- PLL_LOSS_OF_LOCK. -/
def pllLoss (s : State) : State :=
  if !s.clk.pllLocked then s
  else nativeEvent (rootStops { s with boot := { s.boot with pllLost := true } }) 514 0 0

/-- REFERENCE_LOSS: it counts for R42. -/
def referenceLoss (s : State) : State :=
  if !s.clk.refPresent then s
  else nativeEvent (rootStops { s with clk := { s.clk with refPresent := false }, boot := { s.boot with refLost := true } }) 515 0 0

/-- REFERENCE_RETURN: the reference has been present for 1 ms. -/
def referenceReturn (s : State) : State :=
  let s1 := { s with clk := { s.clk with refPresent := true } }
  if s.clk.pllLocked then s1 else if s.boot.inReset then rootRuns s1 else chipReset (rootRuns s1) 6 none

/-! ### Events of fault sources (R415, R420) -/

/-- FAULT_EVENT: a detector fires; where the source stands for a state of the part, that state is entered with it (R42, R279, R446,
R447). A source without a detector has no event (R416). -/
def faultEvent (s : State) (f loc detail : Nat) : State :=
  if !listed f || s.boot.inReset then s
  else if 97 ≤ f ∧ f < 106 ∧ f % 2 = 1 then d2dLinkDown s ((f - 97) / 2)
  else if 48 ≤ f ∧ f < 96 then nativeEvent (cellFails s) f loc detail
  else match f with
    | 513 => tempShutdown (nativeEvent s f loc detail)
    | 514 => pllLoss s
    | 515 => referenceLoss s
    | 524 => watchdogExpiry s
    | _ => nativeEvent s f loc detail

/-! ### Meanings -/

/-- RESET_N_FALL (R463). -/
def execResetNFall (s : State) : Host.Outcome State Fault Refusal :=
  checked (Instr.wf (.resetNFall)) s (resetNFall s)

/-- RESET_N_RISE (R286). -/
def execResetNRise (s : State) : Host.Outcome State Fault Refusal :=
  checked (Instr.wf (.resetNRise)) s (resetNRise s)

/-- POWER_ON_RESET_RELEASE (R499). -/
def execPowerOnResetRelease (s : State) : Host.Outcome State Fault Refusal :=
  checked (Instr.wf (.powerOnResetRelease)) s (porRelease s)

/-- TRESTLE_SUPPLY_DIP (R501). -/
def execTrestleSupplyDip (s : State) : Host.Outcome State Fault Refusal :=
  checked (Instr.wf (.trestleSupplyDip)) s (supplyDip s)

/-- SUPPLY_EXCURSION (R498). -/
def execSupplyExcursion (group : Nat) (s : State) : Host.Outcome State Fault Refusal :=
  checked (Instr.wf (.supplyExcursion group)) s (supplyExcursion s group)

/-- IMAGE_VERIFIED (R499). -/
def execImageVerified (s : State) : Host.Outcome State Fault Refusal :=
  checked (Instr.wf (.imageVerified)) s (imageVerified s)

/-- CORE_PGOOD_RISE (R499). -/
def execCorePgoodRise (s : State) : Host.Outcome State Fault Refusal :=
  checked (Instr.wf (.corePgoodRise)) s (corePgoodRise s)

/-- RECOVERY_IMAGE_LOAD (R465). -/
def execRecoveryImageLoad (s : State) : Host.Outcome State Fault Refusal :=
  checked (Instr.wf (.recoveryImageLoad)) s (recoveryImageLoad s)

/-- RUNNING_REACHED (R470). -/
def execRunningReached (s : State) : Host.Outcome State Fault Refusal :=
  checked (Instr.wf (.runningReached)) s (runningReached s)

/-- START_TIMEOUT (R464). -/
def execStartTimeout (s : State) : Host.Outcome State Fault Refusal :=
  checked (Instr.wf (.startTimeout)) s (startTimeout s)

/-- FALLBACK_ENTRY (R465). -/
def execFallbackEntry (s : State) : Host.Outcome State Fault Refusal :=
  checked (Instr.wf (.fallbackEntry)) s (fallbackEntry s)

/-- CHIP_RESET (R443). -/
def execChipReset (key : Nat) (s : State) : Host.Outcome State Fault Refusal :=
  checked (Instr.wf (.chipReset key)) s (trsChipReset s key)

/-- BYPASS_ON (R443). -/
def execBypassOn (key : Nat) (s : State) : Host.Outcome State Fault Refusal :=
  checked (Instr.wf (.bypassOn key)) s (trsBypassOn s key)

/-- BYPASS_RELEASE (R443). -/
def execBypassRelease (key : Nat) (s : State) : Host.Outcome State Fault Refusal :=
  checked (Instr.wf (.bypassRelease key)) s (trsBypassRelease s key)

/-- FORCE_FALLBACK (R443). -/
def execForceFallback (key : Nat) (s : State) : Host.Outcome State Fault Refusal :=
  checked (Instr.wf (.forceFallback key)) s (forceFallback s key)

/-- TEMP_SAMPLE (R446). -/
def execTempSample (core : Int) (io : Int) (phy0 : Int) (phy1 : Int) (s : State) : Host.Outcome State Fault Refusal :=
  checked (Instr.wf (.tempSample core io phy0 phy1)) s (tempSample s core io phy0 phy1)

/-- TEMP_COOL_RESET (R446). -/
def execTempCoolReset (s : State) : Host.Outcome State Fault Refusal :=
  checked (Instr.wf (.tempCoolReset)) s (tempCoolReset s)

/-- WATCHDOG_KICK (R447). -/
def execWatchdogKick (s : State) : Host.Outcome State Fault Refusal :=
  checked (Instr.wf (.watchdogKick)) s (watchdogKick s)

/-- WATCHDOG_EXPIRY (R447). -/
def execWatchdogExpiry (s : State) : Host.Outcome State Fault Refusal :=
  checked (Instr.wf (.watchdogExpiry)) s (watchdogExpiry s)

/-- PLL_LOSS_OF_LOCK (R42). -/
def execPllLossOfLock (s : State) : Host.Outcome State Fault Refusal :=
  checked (Instr.wf (.pllLossOfLock)) s (pllLoss s)

/-- REFERENCE_LOSS (R509). -/
def execReferenceLoss (s : State) : Host.Outcome State Fault Refusal :=
  checked (Instr.wf (.referenceLoss)) s (referenceLoss s)

/-- REFERENCE_RETURN (R42). -/
def execReferenceReturn (s : State) : Host.Outcome State Fault Refusal :=
  checked (Instr.wf (.referenceReturn)) s (referenceReturn s)

/-- FAULT_EVENT (R420). -/
def execFaultEvent (src : Nat) (loc : Nat) (detail : Nat) (s : State) : Host.Outcome State Fault Refusal :=
  checked (Instr.wf (.faultEvent src loc detail)) s (faultEvent s src loc detail)

end Sys2Proof.Machine
end

