-- ==== Sys2Proof/Machine/Tso.lean ====
section
/-! DEFINITION. Tso.lean: segmentation offload: what a SEND_TSO descriptor must hold, and the frame of each segment (R331, R332). -/

namespace Sys2Proof.Machine

open Sys2Proof

/-- L3_OFF of a descriptor (R317). -/
def dL3 (d : Nat) : Nat := fld d 200 8
/-- L4_OFF. -/
def dL4 (d : Nat) : Nat := fld d 208 8
/-- HDR_LEN. -/
def dHdr (d : Nat) : Nat := fld d 192 8
/-- MSS. -/
def dMss (d : Nat) : Nat := fld d 216 16
/-- IPV6. -/
def dV6 (d : Nat) : Bool := bitOf d 234
/-- L4_TYPE 0b01: UDP. -/
def dUdp (d : Nat) : Bool := fld d 232 2 == 1

/-- A SEND_TSO descriptor meets every line of R332 that the descriptor alone decides, against a longest frame. -/
def tsoOk (d maxFrame : Nat) : Bool :=
  let l := dL4 d - dL3 d
  decide (14 ≤ dL3 d) && (if dV6 d then decide (40 ≤ l) else decide (20 ≤ l) && decide (l ≤ 60)) &&
    decide (dL4 d + (if dUdp d then 8 else 20) ≤ dHdr d) && decide (64 ≤ dMss d) && decide (dMss d ≤ 15984) &&
    decide (dHdr d + dMss d + 4 ≤ maxFrame) && decide (dLen d ≤ 262144) && decide (dHdr d < dLen d) &&
    decide (fld d 232 2 < 2)

/-- The headers as read: for IPv4, More Fragments and Fragment Offset are 0 (R332). -/
def tsoHdrOk (d : Nat) (h : Octets) : Bool := dV6 d || beAt h (dL3 d + 6) 2 % 0x4000 == 0

/-- Number of segments (R331). -/
def tsoSegs (d : Nat) : Nat := ceilDiv (dLen d - dHdr d) (dMss d)

/-- Payload bytes of segment `i`. -/
def tsoLen (d i : Nat) : Nat := min (dMss d) (dLen d - dHdr d - i * dMss d)

/-- Sum of big-endian 16-bit words, an odd last octet padded with zero. -/
def sum16 : Octets → Nat
  | [] => 0
  | [a] => a.toNat * 256
  | a :: b :: t => a.toNat * 256 + b.toNat + sum16 t

/-- The Internet checksum of a sum of words: the complement of its ones'-complement sum. -/
def inetSum (n : Nat) : Nat := if n = 0 then 0xFFFF else if n % 65535 = 0 then 0 else 65535 - n % 65535

/-- Octets with `n` of them at `off` replaced by a number, most significant first. -/
def putBe (o : Octets) (off n v : Nat) : Octets := overwrite o off (beBytes n v)

/-- Segment `i`'s IP header fields (R331). -/
def tsoIp (d i : Nat) (f : Octets) : Octets :=
  let l3 := dL3 d
  if dV6 d then putBe f (l3 + 4) 2 (f.length - l3 - 40)
  else
    let f1 := putBe (putBe f (l3 + 2) 2 (f.length - l3)) (l3 + 4) 2 ((beAt f (l3 + 4) 2 + i) % 65536)
    let f2 := putBe f1 (l3 + 10) 2 0
    putBe f2 (l3 + 10) 2 (inetSum (sum16 (slice f2 l3 (dL4 d - l3))))

/-- The words of the pseudo-header of a frame's transport segment. -/
def pseudoSum (d : Nat) (f : Octets) : Nat :=
  let n := f.length - dL4 d
  let proto := if dUdp d then 17 else 6
  if dV6 d then sum16 (slice f (dL3 d + 8) 32) + n + proto else sum16 (slice f (dL3 d + 12) 8) + n + proto

/-- Segment `i`'s transport header fields: TCP sequence number, flags and checksum, or UDP length and checksum; a UDP checksum of
zero is sent as all ones (R331). -/
def tsoL4 (d i : Nat) (f : Octets) : Octets :=
  let l4 := dL4 d
  if dUdp d then
    let f1 := putBe (putBe f (l4 + 4) 2 (f.length - l4)) (l4 + 6) 2 0
    let c := inetSum (pseudoSum d f1 + sum16 (f1.drop l4))
    putBe f1 (l4 + 6) 2 (if c = 0 then 0xFFFF else c)
  else
    let last := i + 1 = tsoSegs d
    let fl := beAt f (l4 + 13) 1
    let fl := if last then fl else setFld (setFld fl 0 1 0) 3 1 0
    let fl := if i = 0 then fl else setFld fl 7 1 0
    let f1 := putBe (putBe f (l4 + 4) 4 ((beAt f (l4 + 4) 4 + i * dMss d) % 2 ^ 32)) (l4 + 13) 1 fl
    let f2 := putBe f1 (l4 + 16) 2 0
    putBe f2 (l4 + 16) 2 (inetSum (pseudoSum d f2 + sum16 (f2.drop l4)))

/-- Segment `i` as a frame without its FCS: the headers with its fields, then its payload (R331). -/
def tsoFrame (d i : Nat) (got : Octets) : Octets :=
  let f := got.take (dHdr d) ++ slice got (dHdr d + i * dMss d) (tsoLen d i)
  tsoL4 d i (tsoIp d i f)

end Sys2Proof.Machine
end

