-- ==== Sys2Proof/Machine/RecRead.lean ====
section
/-! DEFINITION. RecRead.lean: record reads: what a drive's state allows, the content that answers them, and their records (R380 to
R382). -/

namespace Sys2Proof.Machine

open Sys2Proof

/-! ### Target words (R380) -/

/-- Drive of a RECORD_READ descriptor. -/
def rrDrive (d : Nat) : Nat := fld d 128 1
/-- First byte within the unit. -/
def rrOff (d : Nat) : Nat := fld d 129 7 * 8192
/-- Unit. -/
def rrUnit (d : Nat) : Nat := fld d 136 24

/-- LEN lies in the limits of R380. -/
def rrLenOk (d : Nat) : Bool :=
  decide (dLen d % 4096 = 0) && decide (4096 ≤ dLen d) && decide (dLen d ≤ 520192) && decide (rrOff d + dLen d ≤ 1048576)

/-- The number by which a drive remembers a record read: its queue and descriptor. -/
def readKey (j : Job) : Nat := j.q * 65536 + j.idx % 65536

/-- The job that a number stands for. -/
def keyJob (s : State) (k : Nat) : Option Job := findJob s (k / 65536) (k % 65536)

/-! ### Completion -/

/-- A record read completes with a status, its NVMe status field and AGE (R381). -/
def readDone (s : State) (j : Job) (status nvme : Nat) (data : Octets) (staged : Bool) : State :=
  writeOut s j data (mkCqe 4 status j.q j.idx 1 0 data.length 0 0 0 (nvme % 2 ^ 15) (b2n staged))

/-- A drive without a read it has held or issued. -/
def Drive.dropRead (x : Drive) (k : Nat) : Drive :=
  { x with readsHeld := x.readsHeld.filter (· != k), readIssued := x.readIssued.filter (· != k) }

/-- The newest staged content of a unit, where it is still staged (R380). -/
def stagedContent (s : State) (d unit : Nat) : Option Octets :=
  (((driveAt s d).staged.filter (fun u => u.unit == unit && (u.kind != .segment || u.unit != 0))).getLast?).map (fun u =>
    match u.kind with
    | .segment => segBytes s u.seg u.wseq
    | _ => u.bytes)

/-- A held read goes on where the drive's state serves it: from staging at once, from the drive itself while its staged data is below half
its share and once the reads issued before have taken their time at READ_LIMIT (R380, R382; log entry 63). -/
def serveOne (s : State) (d k : Nat) : State :=
  match keyJob s k with
  | none => setDrive s d ((driveAt s d).dropRead k)
  | some j =>
    let x := driveAt s d
    if readsIn x.state ≠ 2 ∨ mayIssue s j.q = false then s
    else match stagedContent s d (rrUnit j.desc) with
      | some o =>
        readDone (setDrive s d (x.dropRead k)) j 0 0 (slice o (rrOff j.desc) (dLen j.desc)) true
      | none =>
        if driveShare s d ≤ 2 * stagedUnits s d ∨ due s x.readFree = false then s
        else emit (setDrive s d { x with
          readsHeld := x.readsHeld.filter (· != k), readIssued := x.readIssued ++ [k]
          readFree := now s + ceilDiv (10 * dLen j.desc) s.geley.readLimit })
          (.nvme d 2 (rrUnit j.desc) (leBytes 4 (rrOff j.desc) ++ leBytes 4 (dLen j.desc)))

/-- The reads that a drive holds go on in their order where they may; a drive whose state refuses reads completes them with
TARGET_DOWN (R377, R381, R382). -/
def serveReads (s : State) (d : Nat) : State :=
  let x := driveAt s d
  if !cellarUp s then s
  else if readsIn x.state = 0 then
    (x.readsHeld ++ x.readIssued).foldl (fun t k => match keyJob t k with
      | none => setDrive t d ((driveAt t d).dropRead k)
      | some j => readDone (setDrive t d ((driveAt t d).dropRead k)) j 2 0 [] false) s
  else x.readsHeld.foldl (fun t k => serveOne t d k) s

/-- Reads that waited for READ_LIMIT or for room go on (R382). -/
def heldReads (s : State) (d : Nat) : State :=
  let x := driveAt s d
  if !x.readsHeld.isEmpty && due s x.readFree then serveReads s d else s

/-- A record read starts: it completes with TARGET_DOWN where the drive's state refuses reads, and else waits or is issued (R377,
R381). -/
def startRead (s : State) (j : Job) : State :=
  let d := rrDrive j.desc
  let x := driveAt s d
  if readsIn x.state = 0 then readDone s j 2 0 [] false
  else
    let s1 := setDrive s d { x with readsHeld := x.readsHeld ++ [readKey j] }
    serveReads s1 d

end Sys2Proof.Machine
end

