-- ==== Sys2Proof/Machine/Dma.lean ====
section
/-! DEFINITION. Dma.lean: descriptor checks, jobs, payload reads, receive delivery, and bus errors (R313 to R354). -/

namespace Sys2Proof.Machine

open Sys2Proof

/-! ### Targets (R318) -/

/-- KIND of a target word. -/
def tgKind (t : Nat) : Nat := t % 16
/-- PORT. -/
def tgPort (t : Nat) : Nat := t / 16 % 16
/-- QUEUE or TC. -/
def tgQueue (t : Nat) : Nat := t / 256 % 8
/-- DEST_ALL. -/
def tgAll (t : Nat) : Bool := bitOf t 11
/-- DEST. -/
def tgDest (t : Nat) : Nat := t / 4096 % 64

/-- A target word names a target: a listed KIND, a port in range, and DEST 0 with DEST_ALL (R318, R351). -/
def targetOk (t : Nat) : Bool :=
  match tgKind t with
  | 0 => true
  | 1 => decide (tgPort t < 2)
  | 2 => !tgAll t || tgDest t == 0
  | _ => false

/-- The bit of ALLOW that a target needs (R310). -/
def allowBit (t : Nat) : Nat :=
  match tgKind t with
  | 0 => tgPort t
  | 1 => 16 + tgPort t
  | _ => 18

/-- The port of an EDGE or UPLINK target. -/
def targetPort (t : Nat) : Option Nat :=
  match tgKind t with
  | 0 => some (tgPort t)
  | 1 => some (16 + tgPort t)
  | _ => none

/-- The longest frame of a target: the port's MAX_FRAME, or 15 984 octets for OPEN (R56, R255, R328). -/
def targetMax (s : State) (t : Nat) : Nat :=
  match targetPort t with
  | some p => (portAt s p).cfg.maxFrame
  | none => 15984

/-- The target port is administratively down or disabled, or its cluster is in reset (R323, R328). -/
def targetDown (s : State) (t : Nat) : Bool :=
  match targetPort t with
  | some p => !(portAt s p).cfg.adminUp || (portAt s p).disabled || (portAt s p).draining ||
      destClusterDown s (destOfQueue (8 * p + tgQueue t))
  | none => false

/-- A target steers to the Edge region while that is out of service: its queue fetches nothing (R27, R328). -/
def targetHeld (s : State) (t : Nat) : Bool := (targetPort t).isSome && !inService s .edge

/-- The destinations of a host frame, with the copies of its stream's SPLIT (R245, R318). -/
def targetDests (s : State) (t stream : Nat) : List Nat :=
  let g := genAt s stream
  let split := if stream < 8192 ∧ g.enable then g.split else 0
  match tgKind t with
  | 0 => [1088 + 8 * tgPort t + tgQueue t]
  | 1 => if split = 1 then [1216 + tgQueue t, 1224 + tgQueue t] else [1216 + 8 * tgPort t + tgQueue t]
  | _ => if split = 2 ∧ tgAll t = false then [1232 + tgQueue t, 1232 + tgQueue t] else [1232 + tgQueue t]

/-! ### Checks of a descriptor (R317, R329, R330, R332, R338, R340, R350, R351) -/

/-- Fields of a descriptor: INDIRECT, NFRAG, FCS_SUPPLIED, TS_REQ, CRC, MIRROR and MIRROR_STREAM (R317). -/
def dInd (d : Nat) : Bool := bitOf d 101
/-- Fragments. -/
def dNfrag (d : Nat) : Nat := fld d 83 6 + 1
/-- FCS_SUPPLIED. -/
def dFcs (d : Nat) : Bool := bitOf d 103
/-- TS_REQ. -/
def dTs (d : Nat) : Bool := bitOf d 105
/-- CRC. -/
def dCrc (d : Nat) : Bool := bitOf d 104
/-- MIRROR. -/
def dMir (d : Nat) : Bool := bitOf d 168
/-- MIRROR_STREAM. -/
def dMirStream (d : Nat) : Nat := fld d 160 8

/-- The reason a send descriptor is malformed for, or 0. -/
def checkSend (s : State) (q d : Nat) : Nat :=
  let x := qAt s q
  let t := dTarget d
  if dLen d = 0 then 4
  else if dInd d && dAddr d % 16 != 0 then 5
  else if !targetOk t || !bitOf x.allow (allowBit t) || (dMir d && !bitOf x.allow 20) then 6
  else if dStream d ≥ 8192 ∧ dStream d ≠ 0xFFFF then 7
  else if dOp d = 2 ∧ tsoOk d (targetMax s t) = false then 8
  else if (dTs d || dCrc d) && !dReq d then 0x0A
  else if dFcs d && (dOp d != 1 || tgKind t == 2 || decide (dLen d < 64)) then 0x0A
  else 0

/-- The reason a slot operation's descriptor is malformed for, or 0. -/
def checkSlot (s : State) (q d : Nat) : Nat :=
  let b := if dOp d = 3 then fld d 128 12 else fld d 128 13
  let there := if dOp d = 3 then (txEnt s b).isSome else (rxEnt s b).isSome
  if dInd d && dAddr d % 16 != 0 then 5
  else if !bitOf (qAt s q).allow 19 then 6
  else if !there then 9
  else if ((dTs d || dCrc d) && !dReq d) || dFcs d then 0x0A
  else 0

/-- The reason a record read is malformed for, or 0. -/
def checkRead (s : State) (d : Nat) : Nat :=
  let x := driveAt s (rrDrive d)
  if !rrLenOk d then 4
  else if dInd d && dAddr d % 16 != 0 then 5
  else if x.units ≤ rrUnit d ∧ x.units ≠ 0 ∧ readsIn x.state ≠ 0 then 6
  else if dCrc d || dTs d then 0x0A
  else 0

/-- The reason a descriptor of a queue is malformed for, or 0 (R350). -/
def checkDesc (s : State) (q d : Nat) : Nat :=
  if qKind q = 2 then (if dOp d = 5 then checkRead s d else 3)
  else match dOp d with
    | 0 => if ((dTs d || dCrc d) && !dReq d) || dFcs d then 0x0A else 0
    | 1 => checkSend s q d
    | 2 => checkSend s q d
    | 3 => checkSlot s q d
    | 4 => checkSlot s q d
    | _ => 3

/-- Entries of a fragment table (R319). -/
def parseFrags : Nat → Octets → List (Nat × Nat)
  | 0, _ => []
  | n + 1, o => (leAt o 0 8, leAt o 8 2) :: parseFrags n (o.drop 16)

/-- A fragment table is sound: no length is 0, and the lengths sum to LEN (R319, R351). -/
def fragsOk (l : List (Nat × Nat)) (len : Nat) : Bool := l.all (fun e => e.2 != 0) && (l.map (·.2)).sum == len

/-! ### Bus errors and malformed entries (R350 to R352) -/

/-- A bus error halts a running queue with its latch; a draining one records the reason; in ERROR or HALTED the first latch stays.
A generation-2 queue posts a QUEUE_ERROR record in its order (R312, R324, R352). -/
def haltQueue (s : State) (q reason addr idx : Nat) (dir fetch : Bool) : State :=
  let x := qAt s q
  let k := qCluster q
  let s1 := feed (perf s (pCluster k 11)) (325 + 8 * k) 0 reason
  let drain := x.state = .draining
  if x.state = .running ∨ (drain ∧ x.drainErr = false) then
    let s2 := setQ s1 q { qAt s1 q with state := if drain then .draining else .halted, reason := reason, errAddr := addr, errDir := dir
                                        errFetch := fetch, errIdx := idx % 65536, drainErr := drain }
    if qKind q < 3 then
      settle 64 (setQ s2 q { qAt s2 q with errPend := some (errCqe q 0x81 reason idx addr dir fetch) }) q
    else fireError s2 q
  else s1

/-- A job halts on a bus error. -/
def haltJob (s : State) (j : Job) (reason addr : Nat) (fetch : Bool) : State :=
  haltQueue (setJob s { j with state := .halted, err := reason }) j.q reason addr j.idx false fetch

/-- A job whose table or headers break a rule halts, and its queue enters ERROR (R332, R350). -/
def malformedJob (s : State) (j : Job) (reason : Nat) : State :=
  errorQueue (setJob s { j with state := .halted, err := reason }) j.q reason j.idx

/-! ### Completion of jobs (R323, R329) -/

/-- The record of a descriptor that completes with a status: KIND by its operation (R321). -/
def statusCqe (q idx d status crc : Nat) : Nat :=
  let kind := if qKind q = 1 then 2 else if qKind q = 2 then 4 else if dOp d = 4 then 3 else 1
  mkCqe kind status q idx 1 0 (if kind = 1 then dLen d else 0) 0 0 0 crc 0

/-- A job completes with a status: generation 1 writes its entries back, generation 2 posts a record where one was asked for or the
status is not OK (R329, R346). -/
def jobDone (s : State) (j : Job) (status : Nat) : State :=
  if qKind j.q = 4 then finishJob s j (some status)
  else
    let want := status != 0 || dReq j.desc || dOp j.desc == 4 || dOp j.desc == 5
    finishJob s j (if want then some (statusCqe j.q j.idx j.desc status (if status = 0 then jobCrc j else 0)) else none)

/-- A job ends with a status before its frame is sent: what it reserved is freed (R353, R355). -/
def abandonJob (s : State) (j : Job) (status : Nat) : State :=
  let s1 := match j.h with
    | some h => freeFrame s h
    | none => s
  let s2 := if qKind j.q = 2 then setDrive s1 (rrDrive j.desc) ((driveAt s1 (rrDrive j.desc)).dropRead (readKey j)) else s1
  jobDone s2 j status

/-! ### Cells and admission (R181, R328) -/

/-- All the cells of a host frame are taken, or none; a destination at its LIMIT makes the frame wait (R179, R181). -/
def hostTake : Nat → State → Arrival → Option (State × Arrival)
  | 0, _, _ => none
  | n + 1, s, a =>
    if cellsOf a.data.length ≤ a.got then some (s, a)
    else if a.fr.charged.any (fun d => decide ((destQuota s d).limit ≤ destCells s d)) then none
    else match cellSource s a with
      | .error _ => none
      | .ok c =>
        let x := takeCell s a c
        hostTake n x.1 x.2

/-- Cells and a handle are reserved for a host frame of a length under R5, or nothing is (R181). -/
def reserveFrame (s : State) (q len : Nat) (dests : List Nat) : Option (Nat × State) :=
  let k := qCluster q
  let spill := spillMarks s dests
  let fr : VFrame := { acct := 19 + k, ingress := 20 + k, dests := dests, spillDests := spill
                       charged := dests.eraseDups.filter (fun d => !spill.contains d) }
  let a : Arrival := { data := List.replicate len 0, fr := fr, kind := .host }
  if spillRefused s a then none
  else match hostTake 1100 s a with
    | none => none
    | some (s1, a1) =>
      let h := freshKey s1.vat.frames
      some (h, setFrame s1 h a1.fr)

/-- The TARGET field of a stored frame: DEST and DEST_ALL of an open target. -/
def frTarget (t : Nat) : Nat := tgDest t + 64 * b2n (tgAll t)

/-- A frame read from host memory is admitted to its egress queue and its mirror stream under the handle its job reserved (R180,
R244, R328, R330). -/
def admitHost (s : State) (j : Job) (target stream : Nat) (mirror : Option Nat) (bytes : Octets) (fcs ts : Bool) : State :=
  match j.h with
  | none => s
  | some h =>
    let fr0 := frameAt s h
    let ring := tgKind target == 2
    let gen := stream < 8192 ∧ (genAt s stream).enable
    let g := if fcs then (some bytes, if gen then count s 0x06 stream 1 else s)
      else generate s stream (if ring then 15984 else 16000) bytes
    let s1 := setJob g.2 { j with h := none }
    match g.1 with
    | none => freeFrame s1 h
    | some b =>
      let data := if fcs then b else b ++ fcsOf b
      let mir := match mirror with
        | some m => [m]
        | none => []
      let fr := { fr0 with data := data, raw := if mir.isEmpty then [] else data, stream := stream, fcsOwn := fcs
                           ts := quant (nt16 s), tsFlags := timeFlags s
                           origLen := data.length, target := frTarget target, mirror := mir
                           tsq := if ts then some (j.q, j.idx) else none }
      let s2 := perf (setFrame s1 h fr) (pAcct fr.acct 0)
      let s3 := if fr.spillDests.isEmpty then s2 else
        perf { s2 with vat := { s2.vat with
          spillUsed := fr.spillDests.foldl (fun t d => tblAdd t d data.length) s2.vat.spillUsed } } (pAcct fr.acct 3)
      toCellar (fr.dests.eraseDups.foldl (fun t d => deliverTo t h d { data := data, fr := fr }) s3) h

/-- A frame whose departure a job waits for is no longer there: it was discarded at egress (R329). -/
def goneCheck (s : State) (q idx h : Nat) : State :=
  if (s.vat.frames.find? (fun e => e.1 == h)).isSome then s
  else match findJob s q idx with
    | none => s
    | some j =>
      if j.dep.isSome then s
      else if j.state = .departing then finishJob s j (some (txCqe q j 4 0 (jobCrc j)))
      else setJob s { j with dep := some 0, err := 4 }

/-! ### Reading (R319, R328) -/

/-- The address and length of the next read of a job: from its position to the end of the fragment there, at most to what is
needed. -/
def nextRead : List (Nat × Nat) → Nat → Nat → Option (Nat × Nat)
  | [], _, _ => none
  | (addr, len) :: t, pos, need =>
    if pos < len then some (addr + pos, min (len - pos) need) else nextRead t (pos - len) need

/-- The next payload read of a job, of at most Max_Read_Request_Size, asks for a beat of the host link; a range that passes the
top of the address space is a bus error (R288, R306, R349). No tag is its own until the read is issued. -/
def readMore (s : State) (j : Job) : State :=
  match nextRead j.frags j.got.length (min (maxRead s j.q) (j.need - j.got.length)) with
  | none => s
  | some (addr, len) =>
    if 2 ^ 64 < addr + len then haltJob s j 0x13 addr false
    else setJob s { j with state := .reading, tag := 2048, ask := some (addr, len) }

/-- A job's reservation is tried; where cells are wanting the job waits, which is counted once (R181). -/
def tryReserve (s : State) (j : Job) (len : Nat) (dests : List Nat) : Option State :=
  (reserveFrame s j.q len dests).map (fun x =>
    setJob (setQ x.2 j.q { qAt x.2 j.q with resWait := false }) { j with h := some x.1, state := .reading })

/-- A job that could not reserve waits. -/
def waitCells (s : State) (j : Job) : State :=
  let s1 := if j.state = .admitting then s else count s 0x09 (qCluster j.q) 6
  setQ (setJob s1 { j with state := .admitting }) j.q { qAt s1 j.q with resWait := true }

/-- The length under R5 of a frame of `n` bytes as read, with the R-TAG its stream will insert (R244, R330). -/
def hostLen (s : State) (stream n : Nat) (fcs : Bool) : Nat :=
  if fcs then n else max 60 (n + (if stream < 8192 ∧ (genAt s stream).enable then 6 else 0)) + 4

/-- The target word, the stream and the mirror stream of a job; one of a generation-1 ring keeps in `desc` the G1_TARGET it started with
(R23, R310). -/
def jobTarget (j : Job) : Nat × Nat × Option Nat :=
  if qKind j.q = 4 then (dTarget j.desc, 0xFFFF, none)
  else (dTarget j.desc, dStream j.desc, if dMir j.desc then some (dMirStream j.desc) else none)

/-- Destinations of a job's frames, its mirror stream among them. -/
def jobDests (s : State) (j : Job) : List Nat :=
  let t := jobTarget j
  targetDests s t.1 t.2.1 ++ (match t.2.2 with
    | some m => [1241 + m]
    | none => [])

/-- A send goes on to its next stage: cells for its frame or its next segment, then the payload (R328, R331). -/
def sendStage (s : State) (j : Job) : State :=
  let tso := qKind j.q ≠ 4 ∧ dOp j.desc = 2
  let st := (jobTarget j).2.1
  let n := if tso then dHdr j.desc + tsoLen j.desc j.seg else (j.frags.map (·.2)).sum
  let need := if tso then dHdr j.desc + j.seg * dMss j.desc + tsoLen j.desc j.seg else n
  let fcs := qKind j.q ≠ 4 ∧ dFcs j.desc = true
  match tryReserve s { j with need := need } (hostLen s st n fcs) (jobDests s j) with
  | none => waitCells s j
  | some s1 => match findJob s1 j.q j.idx with
    | none => s1
    | some j1 => readMore s1 j1

/-- A slot write takes cells for its payload, and reads it (R338). -/
def slotStage (s : State) (j : Job) : State :=
  let n := dLen j.desc
  match tryReserve s { j with need := n } n [1240] with
  | none => waitCells s j
  | some s1 => match findJob s1 j.q j.idx with
    | none => s1
    | some j1 => readMore s1 j1

/-- A SLOT_READ: the content, its age and what the buffer recorded with it. The copy out of slot memory takes at most 120 ns and 0.2 ns
per byte; how long it takes is free (R64, R339; log entry 6). -/
def slotRead (s : State) (j : Job) : State :=
  let b := fld j.desc 128 13
  match (rxAt s b).front with
  | none => jobDone s j 7
  | some x =>
    if dLen j.desc < x.data.length then jobDone s j 3
    else
      let ends := now s + drawVal s (nsTicks (120 + x.data.length / 5) + 1)
      let s0 := drawn (setRx s b { rxAt s b with reading := true, readEnd := max (rxAt s b).readEnd ends })
      let age := min (2 ^ 32 - 1) ((nt16 s - x.ts) / 65536)
      let crc := x.seq % 65536 + x.origin % 64 * 2 ^ 16 + x.cyc % 64 * 2 ^ 22
      writeOut s0 j x.data (mkCqe 3 0 j.q j.idx 1 0 x.data.length 0 0 x.ts crc age)

/-- A job with its fragments known goes on (R328, R338 to R340). -/
def jobGo (s : State) (j : Job) : State :=
  if qKind j.q = 4 then sendStage s j
  else match dOp j.desc with
    | 1 => sendStage s j
    | 2 => readMore s { j with need := dHdr j.desc }
    | 3 => if dLen j.desc = 0 then
        jobDone (txWrite s (fld j.desc 128 12) []) j 0 else slotStage s j
    | 4 => slotRead s j
    | 5 => startRead s j
    | _ => jobDone s j 0

/-- Step 2 of a send: a target that is down, or a frame too long for it (R328). -/
def targetStatus (s : State) (j : Job) : Nat :=
  let t := (jobTarget j).1
  if targetDown s t then 2
  else if qKind j.q = 4 then 0
  else if dOp j.desc = 1 ∧ targetMax s t < dLen j.desc + (if dFcs j.desc then 0 else 4) then 3
  else 0

/-- The next read of its fragment table by a job: the rest of it, up to Max_Read_Request_Size; where its link has no room it waits for a
beat (R288, R319, R348). -/
def readTable (s : State) (j : Job) : State :=
  let addr := dAddr j.desc + j.got.length
  let len := min (maxRead s j.q) (16 * dNfrag j.desc - j.got.length)
  let j1 := { j with state := .reading, tag := nextTag s j.q, frags := [] }
  if 2 ^ 64 < addr + len then haltJob s j 0x13 addr true
  else if mayRead s j.q then issueRead (setJob s j1) j.q addr len .frag false
  else setJob s { j1 with tag := 2048, ask := some (addr, len) }

/-- A checked descriptor becomes a job (R328, R348). -/
def startJob (s : State) (q idx d : Nat) : State :=
  let j : Job := { q := q, idx := idx, desc := d }
  let op := dOp d
  let ev := if op = 5 then 3 else if op = 3 ∨ op = 4 then 2 else 0
  let s1 := perf (addJob s j) (pCluster (qCluster q) ev)
  let st := if op = 1 ∨ op = 2 then targetStatus s j
    else if op = 3 then (match txEnt s (fld d 128 12) with
      | some e => if e.cap < dLen d then 3 else 0
      | none => 0)
    else 0
  if st ≠ 0 then jobDone s1 j st
  else if op = 0 then jobDone s1 j 0
  else if dInd d then readTable s1 ((findJob s1 q idx).getD j)
  else
    let j1 := { (findJob s1 q idx).getD j with frags := [(dAddr d, dLen d)] }
    jobGo (setJob s1 j1) j1

/-- What a job has read is complete for its stage: a frame or segment is admitted, or a buffer written (R328, R331, R338). -/
def stageRead (s : State) (j : Job) : State :=
  let t := jobTarget j
  if qKind j.q = 4 then
    let s1 := admitHost s j t.1 t.2.1 t.2.2 j.got false false
    jobDone s1 { j with h := none } 0
  else match dOp j.desc with
    | 1 =>
      let ts := dTs j.desc
      let fcs := dFcs j.desc
      let j1 := { j with state := if ts then .departing else j.state }
      let s1 := admitHost (setJob s j1) j1 t.1 t.2.1 t.2.2 j.got fcs ts
      if ts then goneCheck s1 j.q j.idx (j.h.getD 0) else jobDone s1 { j1 with h := none } 0
    | 2 =>
      if j.need = dHdr j.desc ∧ j.seg = 0 ∧ j.h = none then
        (if tsoHdrOk j.desc j.got then sendStage s j else malformedJob s j 8)
      else
        let ts := dTs j.desc && j.seg == 0
        let s1 := perf (admitHost s j t.1 t.2.1 t.2.2 (tsoFrame j.desc j.seg j.got) false ts) (pCluster (qCluster j.q) 15)
        let s2 := if ts then goneCheck s1 j.q j.idx (j.h.getD 0) else s1
        (match findJob s2 j.q j.idx with
          | none => s2
          | some j2 =>
            if j.seg + 1 < tsoSegs j.desc then sendStage s2 { j2 with seg := j.seg + 1 }
            else if dTs j.desc then
              (match j2.dep with
                | some ts => finishJob s2 j2 (some (txCqe j.q j2 j2.err ts (jobCrc j2)))
                | none => setJob s2 { j2 with state := .departing })
            else jobDone s2 j2 0)
    | 3 =>
      let s1 := match j.h with
        | some h => freeFrame s h
        | none => s
      jobDone (txWrite s1 (fld j.desc 128 12) j.got) { j with h := none } 0
    | _ => s

/-! ### Fetching (R313, R319, R344) -/

/-- Entries of a fetch of a queue: up to 8 descriptors, up to Max_Read_Request_Size, as many as the cache has room for, to the
end of the ring (R288, R313). -/
def fetchCount (s : State) (q : Nat) : Nat :=
  let x := qAt s q
  let n := ringSize s q
  min (min (min 8 (maxRead s q / 32)) (16 - x.cache.length)) (min (idxDiff x.prod x.cons) (n - x.cons % n))

/-- The next job of a queue steers to a region that holds it up (R27, R328). -/
def headHeld (s : State) (q : Nat) : Bool :=
  match (qAt s q).cache with
  | [] => false
  | (_, d) :: _ => qKind q == 0 && (dOp d == 1 || dOp d == 2) && targetHeld s (dTarget d)

/-- Entries that a generation-1 scan may fetch next: at most 9, to the end of the ring, and never to B + RING_SIZE (R344). -/
def scanCount (s : State) (q : Nat) : Nat :=
  let x := qAt s q
  let n := ringSize s q
  min (min 9 (maxRead s q / 16)) (min (n - idxDiff x.scan x.wb) (n - x.scan % n))

/-- A generation-1 scan issues its next fetch; where the ring is full it ends. A transmit ring that steers to a region out of service
fetches nothing (R27, R344, R345). -/
def scanFetch (s : State) (q : Nat) : State :=
  let x := qAt s q
  if !x.scanning || x.fetching || x.state != .running || !mayRead s q || (qKind q == 4 && targetHeld s x.g1Target) then s
  else
    let n := scanCount s q
    let addr := x.ringAddr + 16 * (x.scan % ringSize s q)
    if n = 0 then setQ s q { x with scanning := false, rescan := false }
    else if 2 ^ 64 < addr + 16 * n then haltQueue (setQ s q { x with haltN := n }) q 0x13 addr x.scan false true
    else issueRead (setQ s q { x with fetching := true, rescan := false }) q addr (16 * n) .scan false

/-- A scan of a generation-1 ring starts, where none runs (R344). -/
def startScan (s : State) (q : Nat) : State :=
  let x := qAt s q
  if x.scanning then (if x.fetching then setQ s q { x with rescan := true } else s)
  else scanFetch (setQ s q { x with scanning := true }) q

/-- DESCRIPTOR_FETCH (R313, R344): the next read of descriptors of a queue, or of entries of a running scan. -/
def descriptorFetch (s : State) (q : Nat) : State :=
  let x := qAt s q
  if qKind q = 4 ∨ qKind q = 5 then scanFetch s q
  else if 3 ≤ qKind q ∨ x.state ≠ .running ∨ x.fetching ∨ mayRead s q = false then s
  else if qKind q ≠ 1 ∧ (cqWait s q || headHeld s q) then s
  else
    let n := fetchCount s q
    let addr := x.ringAddr + 32 * (x.cons % ringSize s q)
    if n = 0 then s
    else if 2 ^ 64 < addr + 32 * n then haltQueue (setQ s q { x with haltN := n }) q 0x13 addr x.cons false true
    else issueRead (setQ (wake s [320 + 8 * qCluster q]) q { x with fetching := true, fetchAt := x.cons }) q addr (32 * n) .desc false

/-- Entries of a number of octets each, numbered from an index. -/
def parseEntries (size : Nat) : Nat → Nat → Octets → List (Nat × Nat)
  | 0, _, _ => []
  | n + 1, i, o => (i % 65536, leAt o 0 size) :: parseEntries size n (i + 1) (o.drop size)

/-- Descriptors that a fetch brings enter the cache, and CONS passes them (R313). A queue no longer RUNNING keeps nothing new. -/
def descData (s : State) (q : Nat) (o : Octets) : State :=
  let x := qAt s q
  let n := o.length / 32
  let x1 := { x with fetching := false }
  if x.state = .running ∨ x.state = .error ∨ x.state = .halted then
    perfN (setQ s q { x1 with cache := x.cache ++ parseEntries 32 n x.fetchAt o, cons := (x.fetchAt + n) % 65536 })
      (pCluster (qCluster q) 4) n
  else setQ s q x1

/-- Entries that a scan's fetch brings: those the part owns are taken in order; the first other one ends the scan, which a doorbell
since the fetch began forces to start again (R344, R345). -/
def scanData (s : State) (q : Nat) (o : Octets) : State :=
  let x := qAt s q
  let n := o.length / 16
  let l := parseEntries 16 n x.scan o
  let mine := l.takeWhile (fun e => bitOf e.2 127)
  let x1 := { x with fetching := false, cache := x.cache ++ mine, scan := (x.scan + mine.length) % 65536 }
  let s1 := perfN (setQ s q x1) (pCluster (qCluster q) 4) mine.length
  if mine.length = n then scanFetch s1 q
  else if x.rescan then scanFetch (setQ s1 q { qAt s1 q with rescan := false }) q
  else setQ s1 q { qAt s1 q with scanning := false }

/-- A fragment table, or part of it, has been read (R319). -/
def fragData (s : State) (j : Job) (o : Octets) : State :=
  let j1 := { j with got := j.got ++ o }
  if j1.got.length < 16 * dNfrag j.desc then readTable (setJob s j1) j1
  else
    let l := parseFrags (dNfrag j.desc) j1.got
    let j2 := { j with got := [], frags := l }
    if fragsOk l (dLen j.desc) then jobGo (setJob s j2) j2 else malformedJob s j 5

/-- A job has work before its admission: it reads, waits for cells, or waits for its turn. -/
def Job.before (j : Job) : Bool := j.state == .reading || j.state == .admitting || j.state == .read

/-- A job's turn to admit has come: no earlier job of its queue has work before its admission; the headers of a segmented send have none to
wait for (R328). -/
def mayAdmit (s : State) (j : Job) : Bool :=
  (qKind j.q != 4 && dOp j.desc == 2 && j.h.isNone) || ((jobsOf s j.q).takeWhile (fun x => x.idx != j.idx)).all (fun x => !x.before)

/-- Payload has been read: the job goes on to its next stage, or waits for its turn (R328). -/
def payData (s : State) (j : Job) (o : Octets) : State :=
  let j1 := { j with got := j.got ++ o }
  let s1 := setJob s j1
  if j1.got.length < j1.need then readMore s1 j1
  else if mayAdmit s1 j1 then stageRead s1 j1
  else setJob s { j1 with state := .read }

/-- Jobs whose turn has come go on (R328). -/
def admitTurn (s : State) : State :=
  (s.dma.jobs.filter (fun j => j.state == .read)).foldl (fun t j =>
    match findJob t j.q j.idx with
    | none => t
    | some x => if x.state == .read && mayAdmit t x then
        stageRead (setJob t { x with state := .reading }) { x with state := .reading }
      else t) s

/-- The job that waits for a read. -/
def tagJob (s : State) (tag q : Nat) : Option Job :=
  s.dma.jobs.find? (fun j => j.q == q && j.tag == tag && j.state == .reading)

/-- HOST_READ_COMPLETION (R313, R319, R328, R344): a read's data returns whole, and the fetch, scan or job it belongs to goes on. -/
def hostReadCompletion (s : State) (tag : Nat) (data : Octets) : State :=
  match s.dma.reads.find? (fun e => e.1 == tag) with
  | none => s
  | some (_, r) =>
    if data.length ≠ r.len then s
    else
      let s1 := { s with dma := { s.dma with reads := tblErase s.dma.reads tag } }
      match r.kind with
      | .desc => descData s1 r.q data
      | .scan => scanData s1 r.q data
      | .dead => s1
      | .frag => (match tagJob s1 tag r.q with
        | some j => fragData s1 j data
        | none => s1)
      | .payload => (match tagJob s1 tag r.q with
        | some j => payData s1 j data
        | none => s1)

/-- A read that fails is a bus error of the fetch, scan or job that issued it (R306, R352). -/
def readFails (s : State) (tag reason : Nat) : State :=
  match s.dma.reads.find? (fun e => e.1 == tag) with
  | none => s
  | some (_, r) =>
    let s1 := { s with dma := { s.dma with reads := tblErase s.dma.reads tag } }
    match r.kind with
    | .dead => s1
    | .desc => haltQueue (setQ s1 r.q { qAt s1 r.q with fetching := false, haltN := r.len / 32 }) r.q reason r.addr (qAt s1 r.q).fetchAt
        false true
    | .scan => haltQueue (setQ s1 r.q { qAt s1 r.q with fetching := false, haltN := r.len / 16 }) r.q reason r.addr (qAt s1 r.q).scan
        false true
    | .frag => (match tagJob s1 tag r.q with
      | some j => haltJob s1 j reason r.addr true
      | none => s1)
    | .payload => (match tagJob s1 tag r.q with
      | some j => haltJob s1 j reason r.addr false
      | none => s1)

/-- HOST_BUS_ERROR (R306, R352). -/
def hostBusError (s : State) (tag : Nat) (kind : BusErr) : State :=
  readFails s tag (match kind with
    | .poisoned => 0x12
    | _ => 0x10)

/-- COMPLETION_TIMEOUT (R306): no completion for 50 ms. -/
def completionTimeout (s : State) (tag : Nat) : State :=
  match s.dma.reads.find? (fun e => e.1 == tag) with
  | none => s
  | some (_, r) => if due s (r.since + msTicks 50) then readFails s tag 0x11 else s

/-! ### Transmit (R328, R341, R348) -/

/-- A cluster has a free channel, and the queue holds fewer than 4; one that keeps a record stays busy (R326, R348, R432). -/
def channelFree (s : State) (q : Nat) : Bool :=
  let k := qCluster q
  let kept := keptChans s k
  decide ((jobsOf s q).length + (kept.filter (fun r => r.1 == q)).length < 4) &&
    decide ((s.dma.jobs.filter (fun j => qCluster j.q == k)).length + kept.length + tblGet 0 s.dma.chOff k < 32)

/-- The entries of the next frame of a generation-1 transmit ring, through EOP, at most 65 of them. -/
def g1Frame : Nat → List (Nat × Nat) → List (Nat × Nat)
  | 0, _ => []
  | _ + 1, [] => []
  | n + 1, e :: t => if bitOf e.2 126 then [e] else e :: g1Frame n t

/-- A generation-1 transmit frame starts: every entry of it through EOP has been taken; a frame that breaks R341 places the ring in
ERROR. -/
def g1Start (s : State) (q : Nat) : State :=
  let x := qAt s q
  let l := g1Frame 65 x.cache
  let whole := match l.getLast? with
    | some e => bitOf e.2 126
    | none => false
  let total := (l.map (fun e => fld e.2 64 16)).sum
  let t := x.g1Target
  match x.cache with
  | [] => s
  | (idx, _) :: _ =>
    if 64 < l.length then errorQueue s q 0x0B idx
    else if !whole || targetHeld s t then s
    else match l.find? (fun e => decide (fld e.2 64 16 = 0) || decide (16000 < fld e.2 64 16)) with
      | some e => errorQueue s q 4 e.1
      | none =>
        if !targetOk t then errorQueue s q 6 idx
        else if total < 14 ∨ targetMax s t - 4 < total then errorQueue s q 0x0B idx
        else
          let j : Job := { q := q, idx := idx, desc := t * 2 ^ 128, entries := l.map (·.2)
                           frags := l.map (fun e => (fld e.2 0 64, fld e.2 64 16)) }
          let s1 := setQ s q { x with cache := x.cache.drop l.length }
          let s2 := perf (addJob s1 j) (pCluster (qCluster q) 0)
          let j1 := (findJob s2 q idx).getD j
          let st := targetStatus s j
          if st ≠ 0 then jobDone s2 j1 st else sendStage s2 j1

/-- The next descriptor of a transmit or record-read queue is checked and becomes a job; one that breaks a rule places the queue in
ERROR (R328, R350). -/
def nextJob (s : State) (q : Nat) : State :=
  let x := qAt s q
  match x.cache with
  | [] => s
  | (idx, d) :: t =>
    if headHeld s q then s
    else
      let why := checkDesc s q d
      if why ≠ 0 then errorQueue s q why idx
      else startJob (setQ s q { x with cache := t }) q idx d

/-- A job has cells still to reserve: those of its frame, or of a later segment (R181, R328). -/
def unreserved (j : Job) : Bool :=
  j.before && (qKind j.q == 4 || dOp j.desc == 1 || dOp j.desc == 2 || dOp j.desc == 3) &&
    (j.h.isNone || (qKind j.q != 4 && dOp j.desc == 2 && decide (j.seg + 1 < tsoSegs j.desc)))

/-- TX_JOB_START (R181, R328, R348): a job of the queue that waits for cells tries again; else the next one starts where a channel
is free and the completion queue is not waited for. DESIGN CHOICE (log entry 127): it starts once the jobs before it have their cells. -/
def txJobStart (s : State) (q : Nat) : State :=
  if !(qKind q = 0 ∨ qKind q = 2 ∨ qKind q = 4) || !mayIssue s q then s
  else
    let s := wake s [321 + 8 * qCluster q, 323 + 8 * qCluster q, 324 + 8 * qCluster q]
    match (jobsOf s q).find? (fun j => j.state == .admitting) with
    | some j => if qKind q ≠ 4 ∧ dOp j.desc = 3 then slotStage s j else sendStage s j
    | none =>
      if (qAt s q).state ≠ .running ∨ channelFree s q = false ∨ (jobsOf s q).any unreserved = true then s
      else if qKind q = 4 then g1Start s q
      else if cqWait s q then s
      else nextJob s q

/-! ### Receive (R334 to R337, R342) -/

/-- The descriptors a frame of `f` bytes takes from a list, and whether they are enough (R335). -/
def takeBufs : List (Nat × Nat) → Nat → List (Nat × Nat) × Bool
  | [], f => ([], f == 0)
  | e :: t, f =>
    if f = 0 then ([], true)
    else
      let r := takeBufs t (f - fld e.2 64 16)
      (e :: r.1, r.2)

/-- BUF_LEN lies in its range (R320, R342). -/
def bufOk (q d : Nat) : Bool :=
  let n := fld d 64 16
  decide (64 ≤ n) && decide (n ≤ if qKind q = 5 then 16384 else 65472) && n % 64 == 0

/-- The write-backs of a generation-1 receive frame: each entry's last word, the first entry last; every frame fires its event (R342,
R346). -/
def g1RxBack (s : State) (q : Nat) (l : List (Nat × Nat)) (len status macStatus : Nat) : State :=
  let x := qAt s q
  let n := l.length
  let one := fun (t : State) (i : Nat) =>
    let e := l.getD i (0, 0)
    let before := ((l.take i).map (fun e => fld e.2 64 16)).sum
    let wl := min (fld e.2 64 16) (len - before)
    let w := wl % 65536 + (if i = 0 then macStatus % 256 * 2 ^ 16 else 0) + status % 16 * 2 ^ 24 + b2n (i == 0) * 2 ^ 29 +
      b2n (i + 1 == n) * 2 ^ 30
    hostWr t q (x.ringAddr + 16 * (e.1 % ringSize s q) + 12) (leBytes 4 w) false false
  let ix := List.range n
  let s1 := (ix.tail ++ ix.take 1).foldl one s
  let s2 := setQ s1 q { qAt s1 q with wb := ((l.headD (0, 0)).1 + n) % 65536 }
  signal s2 (1537 + 3 * qNum q)

/-- The record of the descriptors of a receive frame (R336). -/
def rxCqe (s : State) (q : Nat) (l : List (Nat × Nat)) (v : VFrame) (status : Nat) : Nat :=
  let x := qAt s q
  let len := if status = 0 then v.data.length else 0
  let body := v.data.take (v.data.length - 4)
  let crc := if x.rxCrc ∧ status = 0 ∧ x.rxCrcStart ≤ body.length then crc32c (body.drop x.rxCrcStart) else 0
  let ok := status = 0
  mkCqe 2 status q (l.headD (0, 0)).1 l.length (if ok then v.status else 0) len (if ok then v.colour else 0)
    (if ok then v.ingress else 0) (if ok then v.ts else 0) crc 0

/-- The descriptors of a receive frame complete with a status, without a channel (R353, R355). -/
def rxRecord (s : State) (q : Nat) (l : List (Nat × Nat)) (status : Nat) : State :=
  if qKind q = 5 then g1RxBack s q l 0 status 0 else cqPost s (cqOf s q) (rxCqe s q l {} status) 0

/-- The head frame of a receive queue leaves it. -/
def rxLeave (s : State) (q h : Nat) : State := drainCheck (rxDequeue (finishDest s h (destOfRx q)) q) q

/-- The descriptors available to the head frame: those reserved for it, then the cache. -/
def rxAvail (s : State) (q : Nat) : List (Nat × Nat) := (qAt s q).rsv ++ (qAt s q).cache

/-- The head frame of a receive queue with the descriptors it needs takes a channel, on which it is written, with its descriptors
reserved until then and its record as the queue's parameters now make it (R23, R335, R336, R348). -/
def rxWrite (s : State) (q h : Nat) (l : List (Nat × Nat)) : State :=
  let v := frameAt s h
  let x := qAt s q
  let s1 := perf (setQ s q { x with rsv := l, cache := (rxAvail s q).drop l.length, resWait := false }) (pCluster (qCluster q) 1)
  addJob s1 { q := q, idx := (l.headD (0, 0)).1, state := .writing, cqe := some (rxCqe s q l v 0)
              out := partsOf (l.map (fun e => (fld e.2 0 64, fld e.2 64 16))) v.data }

/-- The head frame of a receive queue has been written whole: its record or its write-backs follow, and it leaves the queue (R324, R336,
R342). -/
def rxWritten (s : State) (j : Job) : State :=
  let q := j.q
  let x := qAt s q
  let s1 := setQ (dropJob s q j.idx) q { x with rsv := [] }
  match x.rxq with
  | [] => s1
  | e :: _ =>
    let v := frameAt s e.h
    let s2 := if qKind q = 5 then g1RxBack s1 q x.rsv v.data.length 0 v.status
      else cqPost s1 (cqOf s q) (j.cqe.getD 0) (j.chan + 1)
    settle 64 (rxLeave s2 q e.h) q

/-- A receive queue may deliver now: it writes one frame at a time (R292, R326, R334, R348, R355; log entry 119). -/
def rxReady (s : State) (q : Nat) : Bool :=
  let st := (qAt s q).state
  (st == .running || st == .draining) && mayIssue s q && (qKind q == 5 || !cqWait s q) && (jobsOf s q).isEmpty && channelFree s q

/-- RX_FRAME_DELIVER (R334, R335, R342): the head frame is written once every descriptor it needs is there; a frame that needs more
than MAX_CHAIN, or than a full ring, is dropped; a descriptor out of range places the queue in ERROR. -/
def rxFrameDeliver (s : State) (q : Nat) : State :=
  let x := qAt s q
  if !(qKind q = 1 ∨ qKind q = 5) || !rxReady s q then s
  else match x.rxq with
    | [] => s
    | e :: _ =>
      let v := frameAt s e.h
      let av := rxAvail s q
      let r := takeBufs (av.take x.maxChain) v.data.length
      match r.1.find? (fun d => !bufOk q d.2) with
      | some d => errorQueue s q 4 d.1
      | none =>
        if r.2 then rxWrite s q e.h r.1
        else if x.maxChain ≤ av.length ∨ ringSize s q ≤ av.length then
          rxLeave (setQ (count s 0x08 (qObject q) 5) q { x with rsv := [], cache := av }) q e.h
        else
          let s1 := setQ s q { x with rsv := av, cache := [], resWait := true }
          if qKind q = 5 then startScan s1 q else s1

/-- RX_WAIT_LIMIT_EXPIRY (R334, R337): a frame still at the head after RX_WAIT_LIMIT is dropped whole; with a limit of 0, where it
could not be delivered. -/
def rxWaitLimitExpiry (s : State) (q : Nat) : State :=
  let x := qAt s q
  match x.rxq with
  | [] => s
  | e :: _ =>
    let can := rxReady s q && (takeBufs ((rxAvail s q).take x.maxChain) (frameAt s e.h).data.length).2
    if !(qKind q = 1 ∨ qKind q = 5) || !(jobsOf s q).isEmpty || !due s (x.headSince + usTicks x.waitLim) || (x.waitLim == 0 && can) ||
        (x.state == .halted && !x.rsv.isEmpty && x.errDir) then s
    else
      let s1 := setQ s q { x with cache := rxAvail s q, rsv := [], resWait := false }
      rxLeave (perf (count s1 0x08 (qObject q) 4) (pCluster (qCluster q) 14)) q e.h

/-! ### The beat arbiter (R349) -/

/-- Up to `n` octets of what is to be written, and the rest: a beat gathers octets across fragments. -/
def takeBeat : Nat → List (Nat × Octets) → List (Nat × Octets) × List (Nat × Octets)
  | _, [] => ([], [])
  | n, (a, o) :: t =>
    if o.length ≤ n then
      let r := takeBeat (n - o.length) t
      ((a, o) :: r.1, r.2)
    else if n = 0 then ([], (a, o) :: t)
    else ([(a, o.take n)], (a + n, o.drop n) :: t)

/-- A channel has a beat ready: a payload read to issue or payload to write, for a function that may issue requests (R292, R349). -/
def beatReady (s : State) (j : Job) : Bool := (j.ask.isSome && mayRead s j.q) || (j.state == .writing && mayIssue s j.q)

/-- The job that the next beat goes to: of those of the highest priority, the next in rotation round the clusters and, within one, round
its channels (R349). -/
def nextBeat (s : State) : Option Job :=
  let l := s.dma.jobs.filter (beatReady s)
  let top := l.foldl (fun m j => max m j.prio) 0
  let best := l.filter (fun j => j.prio == top)
  let turn := fun (n last : Nat) => (List.range n).map (fun i => (last + 1 + i) % n)
  (turn 4 s.dma.lastCluster).findSome? (fun k =>
    (turn 32 (tblGet 31 s.dma.lastChan k)).findSome? (fun c => best.find? (fun j => qCluster j.q == k && j.chan == c)))

/-- The channel that the last beat went to has more to send and is overtaken by one of a higher priority (R349, R457). -/
def overtaken (s : State) (j : Job) : Option Nat :=
  match s.dma.lastBeat.bind (fun x => findJob s x.1 x.2) with
  | none => none
  | some o => if beatReady s o && decide (o.prio < j.prio) then some (qCluster o.q) else none

/-- A job's write fails: it halts with what it has left to write, and keeps its channel and descriptors. The latched index is that of the
descriptor concerned, of a receive frame the one whose buffer holds the address (R352, R354). -/
def haltWrite (s : State) (j : Job) (reason addr : Nat) : State :=
  let rx := qKind j.q = 1 ∨ qKind j.q = 5
  let at' := (qAt s j.q).rsv.find? (fun e => decide (fld e.2 0 64 ≤ addr) && decide (addr < fld e.2 0 64 + fld e.2 64 16))
  let idx := match (if rx then at' else none) with
    | some e => e.1
    | none => j.idx
  haltQueue (setJob s { j with state := .halted, err := reason }) j.q reason addr idx true false

/-- A beat of payload is written; after the last one the job's record, or the frame's, follows. A range that passes the top of the
address space is a bus error, and is not written (R304, R306, R336, R349, R437). -/
def writeBeat (s : State) (j : Job) : State :=
  let b := takeBeat 64 j.out
  let n := (b.1.map (·.2.length)).sum
  let bad := match j.poison with
    | some lo => decide (j.sent < lo + 256) && decide (lo < j.sent + n)
    | none => false
  match b.1.find? (fun e => decide (2 ^ 64 < e.1 + e.2.length)) with
  | some e => haltWrite s j 0x13 e.1
  | none =>
    let s1 := b.1.foldl (fun t e => payloadWr t j e.1 e.2 bad) s
    let j1 := { j with out := b.2, sent := j.sent + n }
    if !b.2.isEmpty then setJob s1 j1
    else if qKind j.q = 1 ∨ qKind j.q = 5 then rxWritten s1 j1
    else finishJob s1 j1 j.cqe

/-- The host link is granted to a channel for one beat (R349). -/
def grantBeat (s : State) : State :=
  match nextBeat s with
  | none => s
  | some j =>
    let k := qCluster j.q
    let s1 := match overtaken s j with
      | some o => perf s (pCluster o 9)
      | none => s
    let s2 := { s1 with dma := { s1.dma with lastCluster := k, lastChan := tblSet 31 s1.dma.lastChan k j.chan
                                             lastBeat := some (j.q, j.idx) } }
    match j.ask with
    | some (addr, len) =>
      issueRead (setJob s2 { j with ask := none, tag := nextTag s2 j.q }) j.q addr len (if j.frags.isEmpty then .frag else .payload)
        j.noSnoop
    | none => writeBeat s2 j

/-! ### Writes that the link does not accept (R306, R352) -/

/-- The payload write of a queue's job is not accepted. -/
def writeCredit (s : State) (q : Nat) : State :=
  match (jobsOf s q).find? (fun j => j.state == .writing) with
  | none => s
  | some j => haltWrite s j 0x14 (j.out.headD (0, [])).1

/-- CREDIT_TIMEOUT (R306, R352): a write that the link does not accept for 50 ms is not sent. A queue halts with the job that
writes, a receive queue with its head frame; a completion queue halts with its failing record; an MSI-X message stays pending. -/
def creditTimeout (s : State) (t : WriteTarget) : State :=
  match t with
  | .queue q => writeCredit s q
  | .completion q =>
    let x := qAt s q
    if qKind q ≠ 3 ∨ x.state ≠ .running then s
    else match x.lastRec with
      | none => s
      | some r => cqHalt s q ((x.prod + 65535) % 65536) r 0x14
  | .msix f v => setVec s f v { vecAt s f v with pend := true }

/-! ### Meanings -/

/-- DESCRIPTOR_FETCH (R313). -/
def execDescriptorFetch (q : Nat) (s : State) : Host.Outcome State Fault Refusal :=
  checked (Instr.wf (.descriptorFetch q)) s (descriptorFetch s q)

/-- HOST_READ_COMPLETION (R313). -/
def execHostReadCompletion (tag : Nat) (data : Octets) (s : State) : Host.Outcome State Fault Refusal :=
  checked (Instr.wf (.hostReadCompletion tag data)) s (hostReadCompletion s tag data)

/-- HOST_BUS_ERROR (R352). -/
def execHostBusError (tag : Nat) (kind : BusErr) (s : State) : Host.Outcome State Fault Refusal :=
  checked (Instr.wf (.hostBusError tag kind)) s (hostBusError s tag kind)

/-- COMPLETION_TIMEOUT (R306). -/
def execCompletionTimeout (tag : Nat) (s : State) : Host.Outcome State Fault Refusal :=
  checked (Instr.wf (.completionTimeout tag)) s (completionTimeout s tag)

/-- CREDIT_TIMEOUT (R306). -/
def execCreditTimeout (target : WriteTarget) (s : State) : Host.Outcome State Fault Refusal :=
  checked (Instr.wf (.creditTimeout target)) s (creditTimeout s target)

/-- TX_JOB_START (R328). -/
def execTxJobStart (q : Nat) (s : State) : Host.Outcome State Fault Refusal :=
  checked (Instr.wf (.txJobStart q)) s (txJobStart s q)

/-- RX_FRAME_DELIVER (R334). -/
def execRxFrameDeliver (q : Nat) (s : State) : Host.Outcome State Fault Refusal :=
  checked (Instr.wf (.rxFrameDeliver q)) s (rxFrameDeliver s q)

/-- RX_WAIT_LIMIT_EXPIRY (R334). -/
def execRxWaitLimitExpiry (q : Nat) (s : State) : Host.Outcome State Fault Refusal :=
  checked (Instr.wf (.rxWaitLimitExpiry q)) s (rxWaitLimitExpiry s q)

end Sys2Proof.Machine
end

