-- ==== Sys2Proof/Machine/Image.lean ====
section
/-! DEFINITION. Image.lean: the binary form of a schedule image and the checks at load (R44, R45, R52, R89, R481, R482, R523). -/

namespace Sys2Proof.Machine

open Sys2Proof

/-! ### Entries (R481, R482) -/

/-- `n` words of 4 bytes from an offset. -/
def wordsAt (o : Octets) (off n : Nat) : List Nat := (List.range n).map (fun i => leAt o (off + 4 * i) 4)

/-- A section as the directory names it: its type, its number of entries, where it begins and its length. -/
structure Section where
  typ : Nat
  num : Nat
  off : Nat
  len : Nat

/-- The directory of an image (R481). -/
def sections (o : Octets) : List Section :=
  (List.range (leAt o 6 2)).map (fun i =>
    let e := 128 + 16 * i
    { typ := leAt o e 2, num := leAt o (e + 4) 4, off := leAt o (e + 8) 4, len := leAt o (e + 12) 4 })

/-- The entries of a section type, each of so many words. -/
def entriesOf (o : Octets) (typ n : Nat) : List (List Nat) :=
  ((sections o).filter (fun x => x.typ == typ)).flatMap (fun x =>
    (List.range x.num).map (fun k => wordsAt o (x.off + 4 * n * k) n))

/-- A word of an entry. -/
def wd (l : List Nat) (i : Nat) : Nat := l.getD i 0

/-- The gate lists of a section from an offset; the first argument counts them (R482). -/
def gatesFrom : Nat → Octets → Nat → List ImgGate
  | 0, _, _ => []
  | k + 1, o, off =>
    let n := leAt o (off + 16) 4
    let gl : GateList := { enabled := leAt o (off + 8) 4 == 1, admin := leAt o (off + 12) 4, base := leAt o (off + 24) 8
                           cycle := leAt o (off + 32) 4, ext := leAt o (off + 36) 4
                           entries := (List.range n).map (fun i => leAt o (off + 40 + 8 * i) 8) }
    { node := leAt o off 4, port := leAt o (off + 4) 4, gl := gl } :: gatesFrom k o (off + 40 + 8 * n)

/-- Where the gate lists of a section end; a length that cannot lie in the image ends the search beyond it. -/
def gatesEnd : Nat → Octets → Nat → Nat
  | 0, _, off => off
  | k + 1, o, off =>
    let n := leAt o (off + 16) 4
    if 1024 < n ∨ 1 < leAt o (off + 8) 4 then 2 ^ 32 else gatesEnd k o (off + 40 + 8 * n)

/-- Words of an entry of a section type; gate lists have entries of their own length. -/
def entryWords (typ : Nat) : Nat := [0, 13, 6, 2, 4, 2, 6, 7, 6].getD typ 0

/-- A section lies inside the image, and its entries inside the section. -/
def sectionFits (o : Octets) (x : Section) : Bool :=
  decide (x.off + x.len ≤ leAt o 12 4) &&
    (if x.typ = 9 then decide (x.num * 40 ≤ x.len) && decide (gatesEnd x.num o x.off ≤ x.off + x.len)
     else decide (x.num * (4 * entryWords x.typ) ≤ x.len))

/-- The form of an image: identification, section types, the sections it may not miss, and one CYCLE and one TIMING entry
(R481, R482). -/
def imageFormed (o : Octets) : Bool :=
  let l := sections o
  decide (leAt o 0 4 = 0x4D495844) && decide (leAt o 4 1 = 1) && decide (leAt o 5 1 < 4) &&
    decide (128 + 16 * leAt o 6 2 ≤ leAt o 12 4) && decide (leAt o 12 4 ≤ 4194304) && decide (leAt o 12 4 ≤ o.length) &&
    l.all (fun x => decide (1 ≤ x.typ) && decide (x.typ ≤ 9) && sectionFits o x) &&
    [1, 2, 3, 4].all (fun t => l.any (fun x => x.typ == t)) &&
    decide ((entriesOf o 1 13).length = 1) && decide ((entriesOf o 2 6).length = 1)

/-- A transmit buffer's entry. -/
def txEntry (l : List Nat) : BufEnt :=
  let t := Config.bufTarget (wd l 2)
  { node := wd l 0, buf := wd l 1, isDyn := t.1, id := t.2, b := wd l 3, m := wd l 4, cap := wd l 5, sendNothing := wd l 6 == 1 }

/-- A receive buffer's entry. -/
def rxEntry (l : List Nat) : BufEnt :=
  let t := Config.bufTarget (wd l 2)
  { node := wd l 0, buf := wd l 1, isDyn := t.1, id := t.2, b := wd l 3, m := wd l 4, cap := wd l 5 }

/-- What the octets of an image spell (R482). -/
def parseImage (o : Octets) : Image :=
  let c := (entriesOf o 1 13).head?.getD []
  let t := (entriesOf o 2 6).head?.getD []
  { id := leAt o 8 4, mt := wd c 0, c := wd c 1, s := wd c 2, lst := wd c 3, lambda := wd c 4, ndyn := wd c 5, lms := wd c 6
    lopen := wd c 7, lnit := wd c 8, etype := wd c 9, rate := wd c 10, p := wd c 11, tcMap := wd c 12
    pi := wd t 0, apo := wd t 1, g := wd t 2, phiLim := wd t 3, rhoLim := wd t 4, nStarve := wd t 5
    sync := (entriesOf o 3 2).map (fun l => (wd l 0, wd l 1))
    own := (entriesOf o 4 4).map (fun l => { slot := wd l 0, b := wd l 1, m := wd l 2, owner := wd l 3 })
    dyn := (entriesOf o 5 2).map (fun l => (wd l 0, wd l 1))
    piers := (entriesOf o 6 6).map (fun l =>
      { slot := wd l 0, key := wd l 1, lo := wd l 2, hi := wd l 3, b := wd l 4, m := wd l 5 })
    tx := (entriesOf o 7 7).map txEntry
    rx := (entriesOf o 8 6).map rxEntry
    gates := ((sections o).filter (fun x => x.typ == 9)).flatMap (fun x => gatesFrom x.num o x.off)
    bytes := o }

/-- Empty policies name one of two (R62). -/
def policiesNamed (o : Octets) : Bool := (entriesOf o 7 7).all (fun l => decide (wd l 6 < 2))

/-! ### The checks (R523) -/

/-- A number lies in a range. -/
def within (lo hi x : Nat) : Bool := decide (lo ≤ x) && decide (x ≤ hi)

/-- The parameters of R44, the line rate, P and the TC map lie in their ranges. -/
def cycleRanges (i : Image) : Bool :=
  within 20 2560 i.mt && decide (i.mt % 20 = 0) && within 1 800000 i.c && decide (i.s ≤ 2048) && within 1 65535 i.lst &&
    decide (i.lambda ≤ 65535) && decide (i.ndyn ≤ 8192) && within 1 255 i.lms && decide (i.lopen ≤ 800000) &&
    within 1 65535 i.lnit && within 0x0600 0xFFFF i.etype && decide (i.rate < 3) && within 2 64 i.p && decide (i.tcMap ≤ 255)

/-- The parameters of R89 lie in their ranges. -/
def timingRanges (i : Image) : Bool :=
  within 16 4000 i.pi && within 1 255 i.apo && within 1 255 i.g && within 4 8191 i.phiLim && within 4295 2147483 i.rhoLim &&
    within 1 255 i.nStarve

/-- t_hdr in ns (R45). -/
def tHdr (i : Image) : Nat := [80, 120, 200].getD i.rate 200

/-- E1, E2, E5, E6 and E8 (R45). -/
def cycleConstraints (i : Image) : Bool :=
  within 25000 16000000 (tcycNs i) &&
    decide (i.c = i.s * i.lst + i.lambda + i.ndyn * i.lms + i.lopen + i.lnit) &&
    decide (4 * i.apo * i.mt + 2 * i.pi + 4 * tHdr i ≤ 4 * i.lms * i.mt) &&
    decide (2 * i.lambda ≤ i.lopen) && decide ((0 < i.s ∨ 0 < i.ndyn) → 0 < i.lambda)

/-- A phase (b, M) (R54). -/
def phaseOk (b m : Nat) : Bool := [1, 2, 4, 8, 16, 32, 64].contains m && decide (b < m)

/-- Two phases apply in one cycle. -/
def phasesMeet (b m b' m' : Nat) : Bool := decide (b % min m m' = b' % min m m')

/-- Every two of a list meet a condition, the earlier first. -/
def everyTwo {α : Type} (p : α → α → Bool) : List α → Bool
  | [] => true
  | x :: t => t.all (p x) && everyTwo p t

/-- T1 to T5 (R89). -/
def timingConstraints (i : Image) : Bool :=
  decide (i.pi ≤ 4 * i.apo * i.mt) && decide (i.pi ≤ 4 * i.g * i.mt) && decide (i.pi ≤ 4 * i.phiLim) &&
    decide (400 ≤ i.lnit * i.mt) && decide (8 * i.phiLim ≤ i.lnit * i.mt) &&
    within 3 15 i.sync.length && everyTwo (fun a b => a.1 != b.1) i.sync &&
    i.sync.all (fun y => i.own.any (fun e => e.slot == y.2 && e.owner == y.1 && (e.m == 1 || (e.m == 2 && e.b == 0))))

/-- Node numbers, slot numbers, frame IDs and phases (R523). -/
def entryRanges (i : Image) : Bool :=
  let slot := fun (k : Nat) => within 1 i.s k
  let id := fun (k : Nat) => within 1 8192 k
  let buf := fun (n : Nat) (e : BufEnt) => decide (e.node < 64) && decide (e.buf < n) && phaseOk e.b e.m &&
    (if e.isDyn then id e.id else slot e.id) && within 16 9216 e.cap && decide (e.cap % 16 = 0)
  i.sync.all (fun e => decide (e.1 < 64) && slot e.2) &&
    i.own.all (fun e => slot e.slot && phaseOk e.b e.m && decide (e.owner < 64)) &&
    i.dyn.all (fun e => id e.1 && decide (e.2 < 64)) &&
    i.piers.all (fun e => slot e.slot && phaseOk e.b e.m && decide (e.lo ≤ e.hi) && decide (e.hi < 64)) &&
    i.tx.all (buf 4096) && i.rx.all (buf 8192)

/-- A slot entry with the range of nodes that may send it: an owner, or the range of a pier slot. -/
def slotRanges (i : Image) : List (Nat × Nat × Nat × Nat × Nat) :=
  i.own.map (fun e => (e.slot, e.b, e.m, e.owner, e.owner)) ++ i.piers.map (fun e => (e.slot, e.b, e.m, e.lo, e.hi))

/-- No two entries for a slot or a frame ID apply in one cycle, nor two buffers of a node for one of them; each buffer number is
used once (R54, R523). -/
def entriesApart (i : Image) : Bool :=
  let bufs := everyTwo (fun (a b : BufEnt) => !(a.node == b.node && a.buf == b.buf) &&
    !(a.node == b.node && a.isDyn == b.isDyn && a.id == b.id && phasesMeet a.b a.m b.b b.m))
  everyTwo (fun a b => !(a.1 == b.1 && phasesMeet a.2.1 a.2.2.1 b.2.1 b.2.2.1)) (slotRanges i) &&
    everyTwo (fun a b => a.1 != b.1) i.dyn && bufs i.tx && bufs i.rx

/-- The order of R52: where two entries apply in one cycle, the nodes of the lower number do not exceed those of the higher. -/
def orderHolds (i : Image) : Bool :=
  everyTwo (fun a b => !phasesMeet a.2.1 a.2.2.1 b.2.1 b.2.2.1 ||
      (if a.1 < b.1 then decide (a.2.2.2.2 ≤ b.2.2.2.1) else decide (b.2.2.2.2 ≤ a.2.2.2.1))) (slotRanges i) &&
    everyTwo (fun a b => if a.1 < b.1 then decide (a.2 ≤ b.2) else decide (b.2 ≤ a.2)) i.dyn

/-- The ownership entry of a sync slot that T5 asks for: of its sync node, in every cycle or in every even one (R89, R97). -/
def syncEntry (i : Image) (y : Nat × Nat) : Option Own :=
  i.own.find? (fun e => e.slot == y.2 && e.owner == y.1 && (e.m == 1 || (e.m == 2 && e.b == 0)))

/-- A transmit buffer is that of a sync slot, with the phase of its entry (R97). -/
def isSyncBuffer (i : Image) (y : Nat × Nat) (x : BufEnt) : Bool :=
  x.node == y.1 && !x.isDyn && x.id == y.2 && (syncEntry i y).any (fun e => x.b == e.b && x.m == e.m)

/-- Every sync node has the transmit buffer of R97 for its sync slot. -/
def syncBuffers (i : Image) : Bool := i.sync.all (fun y => i.tx.any (fun x => isSyncBuffer i y x && !x.sendNothing))

/-- Blocks of slot memory that a node's buffers take (R60). -/
def slotBlocks (i : Image) (n : Nat) : Nat :=
  ((i.tx ++ i.rx).map (fun e => if e.node = n then 2 * ceilDiv e.cap 256 else 0)).sum

/-- A gate list meets R197 and R198. -/
def gateListOk (g : GateList) : Bool :=
  decide (g.admin ≤ 0xFF) && within 100 (2 ^ 32 - 1) g.cycle && decide (g.ext < 2 ^ 32) && decide (g.base < 2 ^ 64) &&
    decide (g.entries.length ≤ 1024) && (decide (1 ≤ g.entries.length) || !g.enabled) &&
    g.entries.all (fun e => decide (fld e 60 4 < 3) && decide (1 ≤ fld e 0 32))

/-- The image's gate lists: one for a port, of R187 (R198, R482). -/
def gatesOk (i : Image) : Bool :=
  i.gates.all (fun e => decide (e.node < 64) && decide (e.port < 18) && gateListOk e.gl) &&
    everyTwo (fun a b => !(a.node == b.node && a.port == b.port)) i.gates

/-- The checks of R523 on what an image says. -/
def imageOk (i : Image) : Bool :=
  cycleRanges i && timingRanges i && cycleConstraints i && timingConstraints i && entryRanges i && entriesApart i &&
    orderHolds i && decide (i.piers.length ≤ 256) && decide ((imageNodes i).length ≤ i.p) && syncBuffers i &&
    (List.range 64).all (fun n => decide (slotBlocks i n ≤ 32768)) && gatesOk i

/-- The hash and the signature of an image verify under one of the IMAGE_KEYS; an unused key verifies nothing (R478, R481). -/
def imageVerifies (keys : List Octets) (o : Octets) : Bool :=
  let key := keys.getD (leAt o 5 1) []
  decide (sha256 (slice o 128 (leAt o 12 4 - 128)) = slice o 16 32) && key.any (fun b => b != 0) &&
    Config.verifyP256 key (sha256 (o.take 48)) (slice o 48 64)

/-- Staging a loaded image: the image, or the status that refuses it (R483, R523): first its hash and signature, then its
form and the whole of R523. -/
def stageImage (keys : List Octets) (o : Octets) : Except Nat Image :=
  if !(decide (128 ≤ leAt o 12 4) && decide (leAt o 12 4 ≤ o.length) && imageVerifies keys o) then .error 0x10
  else if imageFormed o && policiesNamed o && imageOk (parseImage o) then .ok (parseImage o) else .error 0x0F

end Sys2Proof.Machine
end

