-- ==== Sys2Proof/Machine/Sched.lean ====
section
/-! DEFINITION. Sched.lean: loading, staging and activating schedule images, withdrawal and the bypass command (R97, R106 to R109,
R203, R483 to R491, R525). -/

namespace Sys2Proof.Machine

open Sys2Proof

/-- The SCHED_IMAGE object. -/
def imageObj : Nat := objId 0x14 0

/-- The PACKAGE object. -/
def packageObj : Nat := objId 0x1B 0

/-! ### Loading (R483, R484) -/

/-- The instant of the pending image's activation: the boundary that its ACT_TIME names, else ACT_TIME itself (R47, R484). -/
def actInstant (s : State) : Nat :=
  match namedCycle s s.sched.actTime with
  | some n => (boundary s n).getD (ns16 s.sched.actTime)
  | none => ns16 s.sched.actTime

/-- The pending image is IMMEDIATE. -/
def actImmediate (s : State) : Bool := s.sched.actCycle.isNone

/-- A pending image whose activation lies less than 20 ms ahead (R483). -/
def activationNear (s : State) : Bool :=
  s.sched.pending.isSome && (actImmediate s || decide (actInstant s < nt16 s + ns16 20000000))

/-- FLAGS of KN_SCHED_LOAD. -/
def loadFinal (r : Request) : Bool := bitOf (leAt r.params 12 1) 0
/-- CANCEL. -/
def loadCancel (r : Request) : Bool := bitOf (leAt r.params 12 1) 1

/-- Whether a KN_SCHED_LOAD carries bulk (R524). -/
def loadBulk (r : Request) : Nat := if loadCancel r ∨ (loadFinal r ∧ !r.isBulk) then 0 else 2

/-- The gate lists that an image made pending are withdrawn (R203). -/
def dropImageGates (s : State) : State :=
  (List.range 18).foldl (fun t p =>
    let g := gateAt t p
    if g.byImage then regate t p { g with pend := none, byImage := false } else t) s

/-- CANCEL (R406, R483): a pending image and one being loaded or staged are discarded. -/
def loadCancelled (s : State) (r : Request) : Res :=
  if s.sched.pending.isNone ∧ s.sched.loading.isNone then .ok s [] []
  else
    let s1 := auditChange s r imageObj (s.sched.pending.map (·.bytes)) none
    let s2 := if s1.sched.pending.isSome then dropImageGates (dropStaged s1 imageObj) else s1
    .ok { s2 with sched := { s2.sched with loading := none, staging := none, pending := none, actTime := 0, actCycle := none } } [] []

/-- The FINAL call's ACT_TIME: the cycle it names, or none for IMMEDIATE; a refusal otherwise (R484). -/
def loadActTime (s : State) (t : Nat) : Except (Nat × Nat) (Option Nat) :=
  if t = 0 ∨ s.cyc.c0.isNone then .ok none
  else match namedCycle s t with
    | none => .error (6, 1)
    | some n => if (boundary s n).getD 0 < nt16 s + ns16 25000000 then .error (0xA, 0) else .ok (some n)

/-- KN_SCHED_LOAD (R483, R484). -/
def schedLoadRun (s : State) (r : Request) : Res :=
  let off := leAt r.params 8 4
  if 4 ≤ leAt r.params 12 1 then .fail 4 3
  else if 4194304 < off + r.bulk.length then .fail 6 2
  else if isAbsent s imageObj then .fail 0xB 0
  else if activationNear s then .fail 9 0
  else if loadCancel r then loadCancelled s r
  else if s.sched.staging.isSome then .fail 9 0
  else
    let had := s.sched.loading.getD []
    let img := if r.bulk = [] then had else overwrite had off r.bulk
    let t := { s with sched := { s.sched with loading := some img, refusal := 0 } }
    if !loadFinal r then .ok t [] []
    else match loadActTime s (leAt r.params 0 8) with
      | .error e => .fail e.1 e.2
      | .ok n => .ok { t with sched := { t.sched with staging := some (n, r) } } [] []

/-- The node's own gate lists of an image. -/
def ownGates (s : State) (i : Image) : List ImgGate := i.gates.filter (fun g => g.node == me s)

/-- An image's gate lists become pending on this node's ports with its activation time (R203). -/
def pendGates (s : State) (i : Image) (at16 : Nat) : State :=
  (ownGates s i).foldl (fun t e =>
    regate (dropStaged t (objId 0x0B e.port)) e.port { gateAt t e.port with pend := some (e.gl, at16), byImage := true }) s

/-- The activation time of an image for an activation cycle is past (R32). -/
def actLate (s : State) (n : Option Nat) (actTime : Nat) : Bool :=
  n.isSome && decide (actInstant { s with sched := { s.sched with actTime := actTime } } ≤ nt16 s)

/-- SCHED_STAGING_DONE (R483): the checks of R523 decide; an image that passes is recorded and pending, and its gate lists with it.
The boot script's image is recorded by no record of its own (R479). The Control region stages, with its journal within reach (R22, R27),
and an image whose activation time has passed meanwhile is refused (R32; log entry 117). -/
def schedStagingDone (s : State) : State :=
  match s.sched.staging, s.sched.loading with
  | some (n, r), some o =>
    let s1 := { s with sched := { s.sched with staging := none, loading := none } }
    let actTime := if n.isSome then leAt r.params 0 8 else 0
    if !mramUp s then s
    else (match (if actLate s n actTime then .error 0x0F else stageImage s.boot.cfg.imageKeys o) with
      | .error st => { s1 with sched := { s1.sched with refusal := st } }
      | .ok i =>
        let s2 := if r.master = 7 then s1 else auditStaged s1 r imageObj (s1.cyc.image.map (·.bytes)) (some o)
        let s3 := dropImageGates s2
        let s4 := { s3 with sched := { s3.sched with pending := some i, actCycle := n, refusal := 0, actTime := actTime } }
        if n.isSome then pendGates s4 i (actInstant s4) else s4)
  | _, _ => s

/-! ### Activation (R97, R484 to R486) -/

/-- A buffer entry is the same in both images (R486). -/
def sameBuffer (a b : BufEnt) : Bool :=
  a.node == b.node && a.buf == b.buf && a.isDyn == b.isDyn && a.id == b.id && a.b == b.b && a.m == b.m && a.cap == b.cap

/-- The node's buffers of an image that another holds unchanged. -/
def keptBuffers (s : State) (old new : List BufEnt) : List Nat :=
  ((new.filter (fun e => e.node == me s && old.any (sameBuffer e))).map (·.buf))

/-- A strainer entry of the ring as it stands before its first frame. -/
def Rcvy.fresh (x : Rcvy) : Rcvy :=
  { x with takeAny := true, rseq := 0, hist := 0, lastPass := 0, passed := 0, disc := 0, perEnd := 0, origin := 0xFF, missing := 0
           awaiting := [], perCycle := 0 }

/-- Slot buffers and their strainer entries through an activation: those unchanged keep what they hold (R486). -/
def carryBuffers (s : State) (keepTx keepRx : List Nat) : State :=
  { s with
    cyc := { s.cyc with tx := s.cyc.tx.filter (fun e => keepTx.contains e.1)
                        rx := s.cyc.rx.filter (fun e => keepRx.contains e.1) }
    frer := { s.frer with rcvy := s.frer.rcvy.foldl (fun t e =>
      if 8192 ≤ e.1 ∧ !keepRx.contains (e.1 - 8192) then tblSet {} t e.1 e.2.fresh else t) s.frer.rcvy } }

/-- Claims, expectations and withdrawn marks through an activation (R67, R76, R486). -/
def carrySlots (s : State) (old new : Image) : State :=
  let kept := fun (x : Nat) => old.piers.any (fun p => p.idx == x && new.piers.contains p)
  let exists_ := fun (x : Nat) => new.piers.any (fun p => p.idx == x)
  { s with cyc := { s.cyc with claims := s.cyc.claims.filter (fun e => kept e.1)
                               expects := s.cyc.expects.filter (fun e => exists_ e.1)
                               withdrawn := [] } }

/-- The zero filler of a sync node's buffer that holds no content (R97). -/
def syncFiller (s : State) (i : Image) : State :=
  (i.sync.filter (fun y => y.1 == me s)).foldl (fun t y =>
    (i.tx.filter (isSyncBuffer i y)).foldl (fun u e =>
      if (txAt u e.buf).front.isSome then u else txWrite u e.buf (filler e)) t) s

/-- SLOT_WRITE jobs that have not reached a buffer that is not the same in both images are aborted (R486, R489). -/
def abortWrites (s : State) (kept : List Nat) : State :=
  (s.dma.jobs.filter (fun j => qKind j.q == 0 && dOp j.desc == 3 && (j.state == .reading || j.state == .admitting || j.state == .read) &&
    !kept.contains (fld j.desc 128 12))).foldl (fun t j => abandonJob t j 1) s

/-- The image's gate lists become operative (R203): at a timed activation those still pending by the image. -/
def switchGates (s : State) (i : Image) (at16 : Nat) (timed : Bool) : State :=
  let s1 := if timed then s else pendGates s i at16
  (ownGates s1 i).foldl (fun t e => if (gateAt t e.port).byImage then gateActivate t e.port else t) s1

/-- The first activation with a port enabled ends the start-up of its pause watchdog 1 s later (R240). -/
def startWatchdogs (s : State) : State :=
  (List.range 18).foldl (fun t p =>
    let x := pauseAt t p
    if (portAt t p).cfg.adminUp && !x.started then
      setPause t p { x with started := true, armedTo := max x.armedTo (now t + msTicks 1000) }
    else t) s

/-- What every activation does: the new image is in force, and everything bound to it follows (R29, R97, R281, R406, R486,
R489). -/
def putInForce (s : State) (i : Image) (at16 : Nat) (timed : Bool) : State :=
  let old := s.cyc.image.getD {}
  let rateWas := ringMbps s
  let s1 := carryBuffers s (if timed then keptBuffers s old.tx i.tx else []) (if timed then keptBuffers s old.rx i.rx else [])
  let s2 := carrySlots s1 old i
  let s3 := { s2 with
    cyc := { s2.cyc with image := some i }
    time := { s2.time with prev := none }
    regs := { s2.regs with missedActivation := s2.regs.out }
    sched := { s2.sched with pending := none, actTime := 0, actCycle := none, lastAct := at16 / 65536 } }
  let s4 := abortWrites (syncFiller s3 i) (keptBuffers s old.tx i.tx)
  let s5 := switchGates s4 i at16 timed
  let s6 := if ringMbps s5 = rateWas then s5 else
    [RPort.east, .west].foldl (fun t e => if (rport t e).link then ringLinkDown t e else t) s5
  activationRecord (perf (startWatchdogs s6) (pPkg 4)) imageObj at16

/-- A timed activation at the start of cycle `n`: the cycle number carries on (R485), and pier claims that match start (R76). -/
def activateAt (s : State) (i : Image) (n c : Nat) : State :=
  let s1 := putInForce s i c true
  let s2 := { s1 with cyc := { s1.cyc with c0 := if s1.cyc.c0.isSome then some ((c + n * 2 ^ 80 - n * tcyc i) % 2 ^ 80) else none } }
  if synced s2 then startClaims s2 else s2

/-- An immediate activation: the node drops its cycle origin and enters CALIBRATING, but from OFFLINE or WITHDRAWN (R107, R127,
R484). -/
def activateNow (s : State) (i : Image) : State :=
  let s1 := if synced s then leaveSync s 8 .calibrating else s
  let s2 := notReady (putInForce (dropOrigin s1) i (nt16 s) false)
  if s2.ring.state = .offline then ringRecheck s2
  else if s2.ring.state = .withdrawn then s2
  else enterCalibrating s2

/-- SCHED_ACTIVATION (R484 to R486): an immediate image is activated at once, another at the boundary that its ACT_TIME names, the
cycle before it being over; a node that has lost its origin activates it as IMMEDIATE at that time. -/
def schedActivation (s : State) : State :=
  match s.sched.pending with
  | none => s
  | some i =>
    if actImmediate s then activateNow s i
    else if nt16 s < actInstant s then s
    else match s.cyc.c0, namedCycle s s.sched.actTime with
      | some _, some n =>
        let c := actInstant s
        let s1 := if s.cyc.n + 1 = n then cycleBoundary s else s
        activateAt s1 i n c
      | _, _ => activateNow s i

/-- WITHDRAW_ACT_TIME (R491): an image that activates at the same boundary activates first. -/
def withdrawAct (s : State) : State :=
  match s.ring.withdrawAt, s.sched.pending with
  | some n, some _ =>
    if s.sched.actCycle = some n ∧ (boundary s n).any (fun b => decide (b ≤ nt16 s)) then withdrawActTime (schedActivation s)
    else withdrawActTime s
  | _, _ => withdrawActTime s

/-! ### Status (R487) -/

/-- STAGE. -/
def schedStage (s : State) : Nat :=
  if s.sched.staging.isSome then 2 else if s.sched.loading.isSome then 1 else if s.sched.refusal ≠ 0 then 4
  else if s.sched.pending.isSome then 3 else 0

/-- KN_SCHED_STATUS. -/
def schedStatusRun (s : State) (_ : Request) : Res :=
  let id := fun (i : Option Image) => leBytes 4 ((i.map (·.id)).getD 0)
  .ok s (id s.cyc.image ++ id s.sched.pending ++ leBytes 8 s.sched.actTime ++ leBytes 1 (schedStage s) ++
    leBytes 1 s.sched.refusal ++ leBytes 2 0 ++ leBytes 4 s.dma.drainMs ++ leBytes 8 s.sched.lastAct) []

/-! ### Withdrawal and readmission (R490) -/

/-- W: the larger of 2 and the highest M of the node's ownership entries. -/
def withdrawCycles (s : State) : Nat :=
  ((s.cyc.image.getD {}).own.filter (fun e => e.owner == me s)).foldl (fun a e => max a e.m) 2

/-- The value of the node's membership that a record of its withdrawal covers: 0 a member, 1 a withdrawal commanded, 2 withdrawn,
and the BYPASS flag (R403; log entry 24). -/
def withdrawValue (s : State) : Option Octets :=
  some (leBytes 1 (if s.ring.state = .withdrawn then 2 else b2n s.ring.withdrawAt.isSome) ++ leBytes 1 (b2n s.ring.withdrawByp))

/-- KN_RING_WITHDRAW. -/
def ringWithdrawRun (s : State) (r : Request) : Res :=
  let t := leAt r.params 0 8
  let fl := leAt r.params 8 1
  if 2 ≤ fl then .fail 4 2
  else match namedCycle s t with
    | none => .fail 0xA 0
    | some n =>
      let w := withdrawCycles s
      let b := (boundary s n).getD 0
      if b < nt16 s + w * tcyc (s.cyc.image.getD {}) ∨ b < nt16 s + ns16 1000000 then .fail 0xA 0
      else if s.ring.state = .withdrawn then .fail 9 0
      else
        let set := fun (u : State) => { u with ring := { u.ring with withdrawAt := some n, withdrawFrom := n - w
                                                                     withdrawByp := fl == 1, readmitted := false } }
        .ok (set (auditStaged s r packageObj (withdrawValue s) (withdrawValue (set s)))) [] []

/-- KN_RING_READMIT: the bypass that the withdrawal set is released, and the node returns to LISTEN (R127, R157). -/
def ringReadmitRun (s : State) (r : Request) : Res :=
  if s.ring.state ≠ .withdrawn ∧ s.ring.cmdBypassByWithdraw = false then .fail 9 0
  else
    let s1 := auditChange s r packageObj (withdrawValue s) (some [0, 0])
    let s2 := { s1 with ring := { s1.ring with readmitted := true, withdrawAt := none, withdrawBypCycle := none
                                               withdrawByp := false } }
    let s3 := if s2.ring.cmdBypassByWithdraw then
        bypassCommandOff { s2 with ring := { s2.ring with cmdBypassByWithdraw := false } } else s2
    .ok (if s3.ring.state = .withdrawn then enterListen s3 else s3) [] []

/-! ### Bypass and drain timeout (R488, R525) -/

/-- The bypass command as a value: whether the cause COMMAND is set. -/
def commandValue (s : State) : Octets := leBytes 4 (b2n (bitOf s.boot.cause 5))

/-- KN_BYPASS; a bypass command of TRS_OP in the same tick decides (R448, R525). -/
def bypassRun (s : State) (r : Request) : Res :=
  let a := leAt r.params 8 1
  if r.obj ≠ packageObj then .fail 5 0
  else if leAt r.params 9 7 ≠ 0 then .fail 4 0
  else if 1 < a then .fail 4 2
  else
    let go := fun (u : State) =>
      let v := { u with boot := { u.boot with opLast := if a = 1 then 2 else 3, opState := 1 } }
      if u.boot.trsBypass = some (now u) then u else if a = 1 then bypassCommandOn v else bypassCommandOff v
    .ok (go (auditChange s r packageObj (some (commandValue s)) (some (leBytes 4 a)))) [] []

/-- KN_DRAIN_SET. -/
def drainCmd : SetCmd where
  defs _ := [pNum 1 1000]
  objOk _ o := o == packageObj
  get s _ := [s.dma.drainMs]
  put s _ _ v := .ok { s with dma := { s.dma with drainMs := v.getD 0 10 } }

/-! ### The rows -/

/-- How Keanak executes KN_SCHED_LOAD. -/
def schedLoadExe : Exe := { need := fun _ => 13, bulk := loadBulk, run := schedLoadRun }
/-- KN_SCHED_LOAD. -/
def knSchedLoad (s : State) : State := runKn s 0x0901 schedLoadExe
/-- How Keanak executes KN_SCHED_STATUS. -/
def schedStatusExe : Exe := { run := schedStatusRun }
/-- KN_SCHED_STATUS. -/
def knSchedStatus (s : State) : State := runKn s 0x0902 schedStatusExe
/-- How Keanak executes KN_RING_WITHDRAW. -/
def ringWithdrawExe : Exe := { need := fun _ => 9, run := ringWithdrawRun }
/-- KN_RING_WITHDRAW. -/
def knRingWithdraw (s : State) : State := runKn s 0x0903 ringWithdrawExe
/-- How Keanak executes KN_RING_READMIT. -/
def ringReadmitExe : Exe := { run := ringReadmitRun }
/-- KN_RING_READMIT. -/
def knRingReadmit (s : State) : State := runKn s 0x0904 ringReadmitExe
/-- How Keanak executes KN_BYPASS. -/
def bypassExe : Exe := { need := fun _ => 16, run := bypassRun }
/-- KN_BYPASS. -/
def knBypass (s : State) : State := runKn s 0x0905 bypassExe
/-- KN_DRAIN_SET. -/
def knDrainSet (s : State) : State := runKn s 0x090B drainCmd.exe

/-! ### Meanings -/

/-- SCHED_STAGING_DONE (R483). -/
def execSchedStagingDone (s : State) : Host.Outcome State Fault Refusal :=
  checked (Instr.wf (.schedStagingDone)) s (schedStagingDone s)

/-- SCHED_ACTIVATION (R485). -/
def execSchedActivation (s : State) : Host.Outcome State Fault Refusal :=
  checked (Instr.wf (.schedActivation)) s (schedActivation s)

/-- WITHDRAW_ACT_TIME (R490). -/
def execWithdrawActTime (s : State) : Host.Outcome State Fault Refusal :=
  checked (Instr.wf (.withdrawActTime)) s (withdrawAct s)

/-- KN_SCHED_LOAD (R483). -/
def execKnSchedLoad (s : State) : Host.Outcome State Fault Refusal :=
  checked (Instr.wf (.knSchedLoad)) s (knSchedLoad s)

/-- KN_SCHED_STATUS (R487). -/
def execKnSchedStatus (s : State) : Host.Outcome State Fault Refusal :=
  checked (Instr.wf (.knSchedStatus)) s (knSchedStatus s)

/-- KN_RING_WITHDRAW (R490). -/
def execKnRingWithdraw (s : State) : Host.Outcome State Fault Refusal :=
  checked (Instr.wf (.knRingWithdraw)) s (knRingWithdraw s)

/-- KN_RING_READMIT (R490). -/
def execKnRingReadmit (s : State) : Host.Outcome State Fault Refusal :=
  checked (Instr.wf (.knRingReadmit)) s (knRingReadmit s)

/-- KN_BYPASS (R525). -/
def execKnBypass (s : State) : Host.Outcome State Fault Refusal :=
  checked (Instr.wf (.knBypass)) s (knBypass s)

/-- KN_DRAIN_SET (R488). -/
def execKnDrainSet (s : State) : Host.Outcome State Fault Refusal :=
  checked (Instr.wf (.knDrainSet)) s (knDrainSet s)

end Sys2Proof.Machine
end

