-- ==== Sys2Proof/Machine/Flash.lean ====
section
/-! DEFINITION. Flash.lean: firmware slots, the stored configuration, and resets by command (R472 to R480). -/

namespace Sys2Proof.Machine

open Sys2Proof

/-! ### Resets by command (R467, R480) -/

/-- The value of a region that a record covers: whether it is power-gated (R403; log entry 24). -/
def regionValue (s : State) (i : Nat) : Octets := leBytes 4 (b2n (s.regs.gated.contains (regionOf i)))

/-- KN_RESET. -/
def resetRun (s : State) (r : Request) : Res :=
  let o := r.obj
  let a := leAt r.params 8 1
  if !(objIn 0x13 6 o || o == packageObj) then .fail 5 0
  else if 1 < a then .fail 4 2
  else if o = objId 0x13 5 then .fail 6 1
  else if (if o = packageObj then a ≠ 1 else a ≠ 0) then .fail 6 2
  else if o = packageObj then
    let v := some (drainCmd.read s packageObj)
    .thenDo (auditChange s r o v v) (fun t => startReset (clearFails t) 3 (usTicks 10))
  else
    let v := some (regionValue s (objIdx o))
    .thenDo (auditChange s r o v v) (fun t => regionDown t (regionOf (objIdx o)) true)

/-! ### Firmware slots (R472 to R477) -/

/-- A firmware slot. -/
def fwSlot (s : State) (k : Nat) : Slot := if k = 0 then s.boot.slotA else s.boot.slotB

/-- The state with a firmware slot replaced. -/
def setFwSlot (s : State) (k : Nat) (x : Slot) : State :=
  if k = 0 then { s with boot := { s.boot with slotA := x } } else { s with boot := { s.boot with slotB := x } }

/-- STATE of a slot as its read gives it: WRITING while a write is in progress (R476). -/
def fwState (s : State) (k : Nat) : Nat :=
  match s.boot.fwBusy with
  | some w => if w.1 = k then 1 else (fwSlot s k).state
  | none => (fwSlot s k).state

/-- Octets placed in erased flash: what lies between reads as 0xFF (log entry 25). -/
def flashPlace (o : Octets) (off : Nat) (d : Octets) : Octets :=
  let p := o.take off ++ List.replicate (off - o.length) 0xFF
  p ++ d ++ o.drop (off + d.length)

/-- The check of R474: the slot's state, and the status of the check. -/
def fwCheck (b : Boot) (o : Octets) : Nat × Nat :=
  let len := leAt o 16 4
  let body := slice o 256 len
  if leAt o 0 4 = 0x4B46574B ∧ leAt o 4 1 = 1 ∧ leAt o 5 1 < 4 ∧ len ≤ 3145472 ∧ 256 + len ≤ o.length ∧
      Config.sha384 body = slice o 24 48 ∧ Config.verifyP384 (Config.sha384 (o.take 72)) (slice o 72 96) (leAt o 5 1) = true ∧
      leAt o 8 4 < 256 ∧ b.minSvn ≤ leAt o 8 4 then (2, 0) else (3, 0x10)

/-- The content of a slot, which a record of it covers (R403). -/
def fwValue (s : State) (k : Nat) : Option Octets := if (fwSlot s k).bytes = [] then none else some (fwSlot s k).bytes

/-- KN_FW_WRITE (R476): FIRST erases the slot; the slot is not valid from then until LAST has checked it. -/
def fwWriteRun (s : State) (r : Request) : Res :=
  let k := objIdx r.obj
  let off := leAt r.params 8 4
  let fl := leAt r.params 12 1
  if !objIn 0x15 2 r.obj then .fail 5 0
  else if 4 ≤ fl then .fail 4 3
  else if off % 4096 ≠ 0 ∨ 3145728 < off + r.bulk.length then .fail 6 2
  else if s.boot.fwBusy.isSome ∨ s.boot.runSlot = k ∨ (s.boot.trialRunning = true ∧ s.boot.committed = k) then .fail 9 0
  else
    let x := fwSlot s k
    let base := if bitOf fl 0 then [] else x.bytes
    let y : Slot := { x with bytes := base, state := 3, svn := 0, release := 0 }
    let t := setFwSlot (auditChange s r r.obj (fwValue s k) (some (flashPlace base off r.bulk))) k y
    .ok { t with boot := { t.boot with fwBusy := some (k, off, r.bulk, bitOf fl 1) } } [] []

/-- FLASH_WRITE_DONE (R476): the payload is in flash; LAST has the slot checked under R474. -/
def flashWriteDone (s : State) : State :=
  match s.boot.fwBusy with
  | none => s
  | some (k, off, d, last) =>
    let x := fwSlot s k
    let o := flashPlace x.bytes off d
    let c := fwCheck s.boot o
    let y : Slot := if last then { x with bytes := o, state := c.1, check := c.2, svn := leAt o 8 4 % 256, release := leAt o 12 4 }
      else { x with bytes := o }
    let t := setFwSlot s k y
    { t with boot := { t.boot with fwBusy := none } }

/-- KN_FW_ACTIVATE (R477). -/
def fwActivateRun (s : State) (r : Request) : Res :=
  let k := objIdx r.obj
  let a := leAt r.params 8 1
  let b := s.boot
  let go := fun (x : Boot) =>
    let t := auditChange s r r.obj (fwValue s k) (fwValue s k)
    Res.ok { t with boot := x } [] []
  if !objIn 0x15 2 r.obj then .fail 5 0
  else if 2 < a then .fail 4 2
  else if a = 0 then
    if fwState s k = 2 ∧ slotValid b k = true then go { b with trialSlot := k, trialPending := true, failCount := 0 }
    else if fwState s k = 2 ∨ fwState s k = 3 then .fail 0x10 0 else .fail 0x15 0
  else if a = 1 then
    if b.trialRunning = true ∧ b.runSlot = k ∧ b.fallback = false then
      go { b with committed := k, trialRunning := false, minSvn := max b.minSvn (fwSlot s k).svn }
    else .fail 0x15 0
  else if b.trialPending then go { b with trialPending := false } else .fail 0x15 0

/-! ### Stored configuration (R478, R479) -/

/-- The STORED_CONFIG object. -/
def storeObj : Nat := objId 0x16 0

/-- The copy that KN_CONFIG_STORE writes: one that is not valid, else the one with the lower STORE_SEQ. -/
def storeTarget (b : Boot) : Nat :=
  if !b.store0.valid then 0 else if !b.store1.valid then 1
  else if leAt b.store0.bytes 8 8 < leAt b.store1.bytes 8 8 then 0 else 1

/-- A store with its STORE_SEQ and CRC filled in. -/
def storeFilled (o : Octets) (seq : Nat) : Octets :=
  let p := overwrite o 8 (leBytes 8 seq)
  overwrite p 20 (leBytes 4 (crc32c (p.take 20 ++ slice p 24 (leAt p 16 4 - 24))))

/-- A payload has the form of a store: identification, and LENGTH within the payload (log entry 26). -/
def storeFormed (o : Octets) : Bool :=
  decide (leAt o 0 4 = 0x47464353) && decide (leAt o 4 1 = 1) && decide (448 ≤ leAt o 16 4) && decide (leAt o 16 4 ≤ 524288) &&
    decide (leAt o 16 4 ≤ o.length)

/-- KN_CONFIG_STORE: the write to flash begins; the copy is not valid until it has been read back. -/
def configStoreRun (s : State) (r : Request) : Res :=
  if !storeFormed r.bulk then .fail 6 0
  else if s.boot.storeBusy.isSome then .fail 9 0
  else
    let seq := match validStore s.boot with
      | some x => leAt x.bytes 8 8 + 1
      | none => 1
    let o := storeFilled r.bulk seq
    let k := storeTarget s.boot
    let t := auditChange s r storeObj ((validStore s.boot).map (·.bytes)) (some o)
    let x : Store := { bytes := o, valid := false }
    .ok { t with boot := if k = 0 then { t.boot with store0 := x, storeBusy := some 0 }
                         else { t.boot with store1 := x, storeBusy := some 1 } } [] []

/-- CONFIG_STORE_DONE: the copy has been read back and is valid. -/
def configStoreDone (s : State) : State :=
  match s.boot.storeBusy with
  | none => s
  | some k => { s with boot := if k = 0 then { s.boot with store0 := { s.boot.store0 with valid := true }, storeBusy := none }
                               else { s.boot with store1 := { s.boot.store1 with valid := true }, storeBusy := none } }

/-- KN_CONFIG_READ: the valid copy, in bulk or as much as fits inline; nothing where no copy is valid. -/
def configReadRun (s : State) (r : Request) : Res :=
  let o := match validStore s.boot with
    | some x => x.bytes.take (leAt x.bytes 16 4)
    | none => []
  if r.isBulk then .ok s [] (o.take (bulkWindow r.master)) else .ok s (o.take 240) []

/-- What a store gives the node (R478). -/
def nodeCfg (o : Octets) : NodeCfg :=
  { node := leAt o 24 1 % 64, rank := leAt o 25 1, ringRate := leAt o 26 1, podlFb := bitOf (leAt o 27 1) 0, mac := leAt o 28 6
    tempWarn := leAt o 44 1, tempTrip := leAt o 45 1, tempHyst := leAt o 46 1, nvmeTemp := leAt o 47 1, wdt := leAt o 48 4
    keys := (List.range 16).map (fun i => leAt o (56 + 4 * i) 4)
    imageKeys := (List.range 4).map (fun i => slice o (120 + 64 * i) 64)
    taps := (List.range 16).map (fun i => leAt o (376 + 4 * i) 4) }

/-- The stored configuration's fields take effect (R92, R117, R478). -/
def applyStore (s : State) (o : Octets) : State :=
  { s with
    boot := { s.boot with cfg := nodeCfg o }
    ring := { s.ring with east := { s.ring.east with alpha := toSigned 32 (leAt o 36 4) }
                          west := { s.ring.west with alpha := toSigned 32 (leAt o 40 4) } }
    time := { s.time with utcOffset := if leAt o 54 1 = 1 then some (toSigned 16 (leAt o 52 2)) else none } }

/-! ### The rows -/

/-- How Keanak executes KN_RESET. -/
def resetExe : Exe := { need := fun _ => 9, run := resetRun }
/-- KN_RESET. -/
def knReset (s : State) : State := runKn s 0x0906 resetExe
/-- How Keanak executes KN_FW_WRITE. -/
def fwWriteExe : Exe := { need := fun _ => 13, bulk := fun _ => 2, run := fwWriteRun }
/-- KN_FW_WRITE. -/
def knFwWrite (s : State) : State := runKn s 0x0907 fwWriteExe
/-- How Keanak executes KN_FW_ACTIVATE. -/
def fwActivateExe : Exe := { need := fun _ => 9, run := fwActivateRun }
/-- KN_FW_ACTIVATE. -/
def knFwActivate (s : State) : State := runKn s 0x0908 fwActivateExe
/-- How Keanak executes KN_CONFIG_STORE. -/
def configStoreExe : Exe := { bulk := fun _ => 2, run := configStoreRun }
/-- KN_CONFIG_STORE. -/
def knConfigStore (s : State) : State := runKn s 0x0909 configStoreExe
/-- How Keanak executes KN_CONFIG_READ. -/
def configReadExe : Exe := { bulk := fun _ => 1, run := configReadRun }
/-- KN_CONFIG_READ. -/
def knConfigRead (s : State) : State := runKn s 0x090A configReadExe

/-! ### Meanings -/

/-- KN_RESET (R480). -/
def execKnReset (s : State) : Host.Outcome State Fault Refusal :=
  checked (Instr.wf (.knReset)) s (knReset s)

/-- KN_FW_WRITE (R476). -/
def execKnFwWrite (s : State) : Host.Outcome State Fault Refusal :=
  checked (Instr.wf (.knFwWrite)) s (knFwWrite s)

/-- KN_FW_ACTIVATE (R477). -/
def execKnFwActivate (s : State) : Host.Outcome State Fault Refusal :=
  checked (Instr.wf (.knFwActivate)) s (knFwActivate s)

/-- FLASH_WRITE_DONE (R476). -/
def execFlashWriteDone (s : State) : Host.Outcome State Fault Refusal :=
  checked (Instr.wf (.flashWriteDone)) s (flashWriteDone s)

/-- KN_CONFIG_STORE (R479). -/
def execKnConfigStore (s : State) : Host.Outcome State Fault Refusal :=
  checked (Instr.wf (.knConfigStore)) s (knConfigStore s)

/-- KN_CONFIG_READ (R479). -/
def execKnConfigRead (s : State) : Host.Outcome State Fault Refusal :=
  checked (Instr.wf (.knConfigRead)) s (knConfigRead s)

/-- CONFIG_STORE_DONE (R479). -/
def execConfigStoreDone (s : State) : Host.Outcome State Fault Refusal :=
  checked (Instr.wf (.configStoreDone)) s (configStoreDone s)

end Sys2Proof.Machine
end

