-- ==== Sys2Proof/Machine/DmaCmd.lean ====
section
/-! DEFINITION. DmaCmd.lean: queue commands of the slot registers, recovery, and the end of a drain (R295, R312 to R316, R324, R343,
R353 to R357). -/

namespace Sys2Proof.Machine

open Sys2Proof

/-! ### Recovery (R353) -/

/-- A queue runs again with its latch cleared. -/
def QReg.running (x : QReg) : QReg :=
  { x with state := .running, reason := 0, errAddr := 0, errDir := false, errFetch := false, haltN := 0 }

/-- RESUME of a HALTED queue: the failing request is issued again, and its work goes on; a completion queue writes its failing record
again. -/
def resumeQueue (s : State) (q : Nat) : State :=
  let x := qAt s q
  let s1 := setQ s q x.running
  if qKind q = 3 then cqDrain 600 s1 q
  else
    let s2 := ((jobsOf s q).filter (fun j => j.state == .halted)).foldl (fun t j =>
      if !j.out.isEmpty then setJob t { j with state := .writing }
      else if j.frags.isEmpty then readTable t j else readMore t j) s1
    if 0 < x.haltN then descriptorFetch s2 q else s2

/-- A descriptor that is passed completes with a status, after the records of every earlier one. -/
def passDesc (s : State) (q idx d status : Nat) (entries : List Nat) : State :=
  let j : Job := { q := q, idx := idx, desc := d, entries := entries, state := .ready
                   cqe := some (if qKind q = 4 then status else statusCqe q idx d status 0) }
  settle 64 (addJob s j) q

/-- A list of entries without those numbered like another list's. -/
def dropEntries (l gone : List (Nat × Nat)) : List (Nat × Nat) := l.filter (fun e => !gone.any (fun g => g.1 == e.1))

/-- Malformed entries that SKIP passes: the one latched, or in a generation-1 transmit ring its whole frame as far as taken. -/
def malformedEntries (s : State) (q : Nat) : List (Nat × Nat) :=
  let x := qAt s q
  if qKind q = 4 then g1Frame (x.cache.length + 1) x.cache
  else (rxAvail s q).filter (fun e => e.1 == x.errIdx)

/-- SKIP of a queue in ERROR: after PROD_OVERRUN or PROD_RETREAT it runs on; a malformed descriptor is completed with MALFORMED and
passed. -/
def skipError (s : State) (q : Nat) : State :=
  let x := qAt s q
  let s1 := setQ s q x.running
  if x.reason = 1 ∨ x.reason = 2 then s1
  else match (jobsOf s q).find? (fun j => j.state == .halted && j.idx == x.errIdx) with
    | some j => abandonJob s1 j 5
    | none =>
      let l := malformedEntries s q
      let s2 := setQ s1 q { qAt s1 q with cache := dropEntries x.cache l, rsv := dropEntries x.rsv l }
      match l with
      | [] => s2
      | (idx, d) :: _ =>
        if qKind q = 1 ∨ qKind q = 5 then rxRecord s2 q l 5
        else passDesc s2 q idx d 5 (if qKind q = 4 then l.map (·.2) else [])

/-- Entries that a failed descriptor fetch covered complete with BUS_ERROR_SKIPPED. -/
def skipFetch (s : State) (q n : Nat) : State :=
  let x := qAt s q
  match qKind q with
  | 4 =>
    let s1 := setQ s q { x with scan := (x.scan + n) % 65536 }
    passDesc s1 q x.scan 0 6 (List.replicate n 0)
  | 5 =>
    let l := (List.range n).map (fun i => ((x.scan + i) % 65536, 0))
    rxRecord (setQ s q { x with scan := (x.scan + n) % 65536 }) q l 6
  | _ =>
    let s1 := setQ s q { x with cons := (x.cons + n) % 65536 }
    (List.range n).foldl (fun t i =>
      let idx := (x.cons + i) % 65536
      if qKind q = 1 then rxRecord t q [(idx, 0)] 6 else passDesc t q idx 0 6 []) s1

/-- SKIP of a HALTED queue: halted jobs are abandoned with BUS_ERROR_SKIPPED; a receive frame is dropped, and its descriptors
complete so. -/
def skipHalted (s : State) (q : Nat) : State :=
  let x := qAt s q
  let s1 := setQ s q x.running
  let gone := (jobsOf s q).filter (fun j => j.state == .halted)
  let rx := qKind q = 1 ∨ qKind q = 5
  let s2 := gone.foldl (fun t j => if rx then dropJob t q j.idx else abandonJob t j 6) s1
  let s3 := if 0 < x.haltN then skipFetch s2 q x.haltN else s2
  if rx ∧ gone ≠ [] then
    (match x.rxq with
      | [] => s3
      | e :: _ =>
        let s4 := count (setQ s3 q { qAt s3 q with rsv := [] }) 0x08 (qObject q) 6
        rxLeave (rxRecord s4 q x.rsv 6) q e.h)
  else s3

/-- RESUME, SKIP or RESET of a queue, ring or completion queue; nothing where the action is not valid in its state (R353). -/
def recoverQueue (s : State) (q action : Nat) : Option State :=
  let st := (qAt s q).state
  match action with
  | 0 => if st = .halted then some (resumeQueue s q) else none
  | 1 => if qKind q = 3 then none
    else if st = .error then some (skipError s q) else if st = .halted then some (skipHalted s q) else none
  | 2 => some (if qKind q = 3 then resetCq s q else disableQueue s q true)
  | _ => none

/-! ### Slot registers (R295, R314, R315, R324, R343) -/

/-- A command that is not valid in the queue's state (R314). -/
def badCommand (s : State) : State := count s 0x08 0 2

/-- A command whose answer may be that it is not valid. -/
def orBad (s : State) (r : Option State) : State := r.getD (badCommand s)

/-- An INDEX write of a producer index (R315, R316). -/
def prodIndex (s : State) (q w : Nat) : State :=
  let x := qAt s q
  if x.state = .disabled ∨ x.state = .draining then count s 0x08 0 1
  else if ringSize s q < idxDiff w x.cons then errorQueue s q 1 w
  else if idxDiff w x.cons < idxDiff x.prod x.cons then errorQueue s q 2 w
  else setQ s q { x with prod := w % 65536 }

/-- An INDEX write of a completion queue's head, with ARM: records that wait are posted as room results (R324 to R327). -/
def headIndex (s : State) (q w : Nat) (arm : Bool) : State :=
  let x := qAt s q
  if x.state = .disabled ∨ x.state = .draining then count s 0x08 0 1
  else if idxDiff x.prod x.cons < idxDiff x.prod w then count s 0x08 q 3
  else
    let moved := w % 65536 ≠ x.cons
    let s1 := setQ s q { x with cons := w % 65536, fullFired := x.fullFired && !moved }
    let s2 := if moved then cqDrain 600 s1 q else s1
    let y := qAt s2 q
    if !arm then s2
    else if y.prod ≠ y.cons then fireCq (setQ s2 q { y with armed := false }) q 0
    else setQ s2 q { y with armed := true }

/-- CMD ENABLE (R309, R312). -/
def cmdEnable (s : State) (q : Nat) : State :=
  if (qAt s q).state ≠ .disabled then badCommand s
  else if mayEnable s q then enableQueue s q else count s 0x08 0 0

/-- CMD DISABLE: the queue drains; a completion queue only once every queue bound to it is DISABLED (R312, R355). -/
def cmdDisable (s : State) (q : Nat) : State :=
  let st := (qAt s q).state
  if st = .disabled ∨ st = .draining ∨ (qKind q = 3 ∧ boundLive s q ≠ []) then badCommand s else startDrain s q

/-- A write of 32 bits to the write register of a slot that holds a queue (R314, R324, R343). -/
def queueWrite (s : State) (q v : Nat) : State :=
  let cmd := v / 2 ^ 28 % 16
  if qKind q = 4 then
    let ring := fun (t : State) (r : Nat) =>
      let st := (qAt t r).state
      if st = .disabled ∨ st = .draining then t else startScan t r
    ring (ring s q) (0x5000 + qNum q)
  else match cmd with
    | 0 => if qKind q = 3 then headIndex s q (v % 65536) (bitOf v 16) else prodIndex s q (v % 65536)
    | 1 => cmdEnable s q
    | 2 => cmdDisable s q
    | 3 => orBad s (recoverQueue s q 0)
    | 4 => if qKind q = 3 then count s 0x09 0 1 else orBad s (recoverQueue s q 1)
    | 5 => orBad s (recoverQueue s q 2)
    | _ => count s 0x09 0 1

/-- Slots of a function (R295). -/
def slotCount (f : Nat) : Nat := if f % 64 = 0 then 3968 else 896

/-- A function's BAR0 takes accesses: the Host region is in service, the function exists, it is in D0, and no FLR runs (R27, R288, R289,
R291). -/
def barLive (s : State) (f : Nat) : Bool := inService s .host && funcExists s f && !(funcAt s f).d3 && !(funcAt s f).flr

/-- A write to the write register of a slot (R27, R295, R307). -/
def slotWrite (s : State) (f slot v : Nat) : State :=
  if !barLive s f || decide (slotCount f ≤ slot) then s
  else match tblGet 0 s.host.slots (f * 4096 + slot) with
    | 0 => count s 0x09 0 7
    | q + 1 => queueWrite s q v

/-- DMA_CMD_INDEX (R315). -/
def dmaIndex (s : State) (f slot prod : Nat) : State := slotWrite s f slot prod
/-- DMA_CMD_ENABLE (R312). -/
def dmaEnable (s : State) (f slot : Nat) : State := slotWrite s f slot (2 ^ 28)
/-- DMA_CMD_DISABLE (R355). -/
def dmaDisable (s : State) (f slot : Nat) : State := slotWrite s f slot (2 * 2 ^ 28)
/-- DMA_CMD_RESUME (R353). -/
def dmaResume (s : State) (f slot : Nat) : State := slotWrite s f slot (3 * 2 ^ 28)
/-- DMA_CMD_SKIP (R353). -/
def dmaSkip (s : State) (f slot : Nat) : State := slotWrite s f slot (4 * 2 ^ 28)
/-- DMA_CMD_RESET (R353). -/
def dmaReset (s : State) (f slot : Nat) : State := slotWrite s f slot (5 * 2 ^ 28)
/-- CQ_CMD_INDEX (R324). -/
def cqIndex (s : State) (f slot head : Nat) (arm : Bool) : State := slotWrite s f slot (head + 65536 * b2n arm)
/-- DMA_G1_DOORBELL (R343, R344): the value is ignored. -/
def g1Doorbell (s : State) (f slot : Nat) : State := slotWrite s f slot 0

/-! ### Drain timeouts (R355, R488, R489) -/

/-- What is left of a draining queue at its timeout completes with ABORTED_BY_RECONFIG, or is dropped; the queue is DISABLED. -/
def queueDrainTimeout (s : State) (q : Nat) : State :=
  let x := qAt s q
  if x.state ≠ .draining ∨ due s x.drainEnd = false then s
  else
    let rx := qKind q == 1 || qKind q == 5
    let s1 := if rx then s else ((jobsOf s q).filter (fun j => j.state != .ready)).foldl (fun t j => abandonJob t j 1) s
    let s2 := if rx && !(jobsOf s q).isEmpty then
        (match x.rxq with
          | [] => s1
          | e :: _ => finishDest (rxRecord (setQ s1 q { qAt s1 q with rxq := x.rxq.tail }) q x.rsv 1) e.h (destOfRx q))
      else s1
    disableQueue s2 q true

/-- DRAIN_TIMEOUT (R355, R489): of a queue or of a port. -/
def drainTimeout (s : State) (r : Resource) : State :=
  match r with
  | .queue q => queueDrainTimeout s q
  | .port p => if (portAt s p).draining && due s (portAt s p).drainEnd then endPortDrain s p else s

/-! ### Meanings -/

/-- DMA_CMD_INDEX (R315). -/
def execDmaCmdIndex (f : Nat) (slot : Nat) (prod : Nat) (s : State) : Host.Outcome State Fault Refusal :=
  checked (Instr.wf (.dmaCmdIndex f slot prod)) s (dmaIndex s f slot prod)

/-- DMA_CMD_ENABLE (R312). -/
def execDmaCmdEnable (f : Nat) (slot : Nat) (s : State) : Host.Outcome State Fault Refusal :=
  checked (Instr.wf (.dmaCmdEnable f slot)) s (dmaEnable s f slot)

/-- DMA_CMD_DISABLE (R355). -/
def execDmaCmdDisable (f : Nat) (slot : Nat) (s : State) : Host.Outcome State Fault Refusal :=
  checked (Instr.wf (.dmaCmdDisable f slot)) s (dmaDisable s f slot)

/-- DMA_CMD_RESUME (R353). -/
def execDmaCmdResume (f : Nat) (slot : Nat) (s : State) : Host.Outcome State Fault Refusal :=
  checked (Instr.wf (.dmaCmdResume f slot)) s (dmaResume s f slot)

/-- DMA_CMD_SKIP (R353). -/
def execDmaCmdSkip (f : Nat) (slot : Nat) (s : State) : Host.Outcome State Fault Refusal :=
  checked (Instr.wf (.dmaCmdSkip f slot)) s (dmaSkip s f slot)

/-- DMA_CMD_RESET (R353). -/
def execDmaCmdReset (f : Nat) (slot : Nat) (s : State) : Host.Outcome State Fault Refusal :=
  checked (Instr.wf (.dmaCmdReset f slot)) s (dmaReset s f slot)

/-- CQ_CMD_INDEX (R324). -/
def execCqCmdIndex (f : Nat) (slot : Nat) (head : Nat) (arm : Bool) (s : State) : Host.Outcome State Fault Refusal :=
  checked (Instr.wf (.cqCmdIndex f slot head arm)) s (cqIndex s f slot head arm)

/-- CQ_CMD_ENABLE (R312). -/
def execCqCmdEnable (f : Nat) (slot : Nat) (s : State) : Host.Outcome State Fault Refusal :=
  checked (Instr.wf (.cqCmdEnable f slot)) s (dmaEnable s f slot)

/-- CQ_CMD_DISABLE (R355). -/
def execCqCmdDisable (f : Nat) (slot : Nat) (s : State) : Host.Outcome State Fault Refusal :=
  checked (Instr.wf (.cqCmdDisable f slot)) s (dmaDisable s f slot)

/-- CQ_CMD_RESUME (R353). -/
def execCqCmdResume (f : Nat) (slot : Nat) (s : State) : Host.Outcome State Fault Refusal :=
  checked (Instr.wf (.cqCmdResume f slot)) s (dmaResume s f slot)

/-- CQ_CMD_RESET (R353). -/
def execCqCmdReset (f : Nat) (slot : Nat) (s : State) : Host.Outcome State Fault Refusal :=
  checked (Instr.wf (.cqCmdReset f slot)) s (dmaReset s f slot)

/-- DMA_G1_DOORBELL (R344). -/
def execDmaG1Doorbell (f : Nat) (slot : Nat) (s : State) : Host.Outcome State Fault Refusal :=
  checked (Instr.wf (.dmaG1Doorbell f slot)) s (g1Doorbell s f slot)

/-- DRAIN_TIMEOUT (R355). -/
def execDrainTimeout (res : Resource) (s : State) : Host.Outcome State Fault Refusal :=
  checked (Instr.wf (.drainTimeout res)) s (drainTimeout s res)

end Sys2Proof.Machine
end

