-- ==== Sys2Proof/Machine/HostLink.lean ====
section
/-! DEFINITION. HostLink.lean: the PCIe links, functions, resets, interrupts and the registers whose read changes state (chapter 9,
R88, R291, R300, R452, R453). -/

namespace Sys2Proof.Machine

open Sys2Proof

/-! ### Function Level Reset (R291) -/

/-- The queues a function's slots hold that are not DISABLED. -/
def liveQueues (s : State) (f : Nat) : List Nat :=
  (s.dma.q.filter (fun e => (e.2.state != .disabled || !e.2.kept.isEmpty) && funcOfQueue s e.1 == some f)).map (·.1)

/-- A function's MSI-X table at reset values; the owner's moderation stays (R291). -/
def resetVecs (s : State) (f : Nat) : State :=
  (s.host.vecs.filter (fun e => e.1 / 256 == f)).foldl (fun t e =>
    setVec t f (e.1 % 256) { moder := e.2.moder, lastSent := e.2.lastSent }) s

/-- What an FLR does to a function: its queues are disabled and their waiting frames counted, its MSI-X table, its configuration
registers and its holding registers are reset; assignments, mappings and the page grant stay (R291). -/
def resetFunc (s : State) (f : Nat) : State :=
  let s1 := (liveQueues s f).foldl (fun t q => disableQueue t q true) s
  let s2 := setFunc (resetVecs s1 f) f { page := (funcAt s f).page }
  { s2 with host := { s2.host with perfLatch := tblErase s2.host.perfLatch f, ntHeld := tblErase s2.host.ntHeld f } }

/-- A VF ceases to exist: it undergoes the reset, and its page grant ends (R307, R408). -/
def vanishFunc (s : State) (f : Nat) : State := setFunc (resetFunc s f) f {}

/-- VF Enable of a PF is cleared: every VF of it ceases to exist (R307). -/
def clearVfs (s : State) (pf : Nat) : State :=
  let l := ((List.range 63).map (pf * 64 + 1 + ·)).filter (funcExists s)
  let s1 := l.foldl vanishFunc s
  { s1 with host := { s1.host with numVfs := tblErase s1.host.numVfs pf } }

/-- FUNCTION_LEVEL_RESET (R291): an FLR of a PF clears its VF Enable, and counts as a lapse where its master owns the part. -/
def functionLevelReset (s : State) (f : Nat) : State :=
  if !funcExists s f || (funcAt s f).flr then s
  else
    let s1 := resetFunc s f
    let s2 := setFunc s1 f { funcAt s1 f with flr := true }
    if f % 64 ≠ 0 then s2
    else
      let s3 := clearVfs s2 (f / 64)
      if s.kn.owner = some (f / 64) then lapse s3 else s3

/-- FLR_COMPLETE (R291). -/
def flrComplete (s : State) (f : Nat) : State :=
  if (funcAt s f).flr then setFunc s f { funcAt s f with flr := false } else s

/-! ### Links (R286, R287, R290) -/

/-- A link exists: link 0, and link 1 in the bifurcated mode outside fallback mode (R286, R307). -/
def linkExists (s : State) (k : Nat) : Bool := k == 0 || (k == 1 && s.host.bifurcated && !s.boot.fallback)

/-- The PFs behind a link. -/
def linkPfs (s : State) (k : Nat) : List Nat := if s.host.bifurcated then [k] else [0, 1]

/-- A link and every function on it are reset; no completion comes over it for what was outstanding (R290). -/
def linkReset (s : State) (k : Nat) : State :=
  let s1 := { s with host := { s.host with
    linkUp := setErase s.host.linkUp k, widths := tblErase s.host.widths k, speeds := tblErase s.host.speeds k } }
  let s2 := (linkPfs s k).foldl (fun t pf => functionLevelReset t (pf * 64)) s1
  { s2 with dma := { s2.dma with reads := s2.dma.reads.filter (fun e => linkOfFunc s e.2.func != k) } }

/-- PERST_ASSERT (R286, R290): PERST1_N is ignored in the x8 mode. -/
def perstAssert (s : State) (k : Nat) : State :=
  if !linkExists s k then s
  else linkReset { s with host := { s.host with perst := setInsert s.host.perst k } } k

/-- DL_DOWN (R290). -/
def dlDown (s : State) (k : Nat) : State := if !linkExists s k then s else linkReset s k

/-- Widths and speeds that a link may train at (R287, R301). -/
def trainOk (s : State) (w v : Nat) : Bool :=
  (w == 1 || w == 2 || w == 4 || (w == 8 && !s.host.bifurcated)) && decide (1 ≤ v) && decide (v ≤ 5)

/-- PCIE_LINK_TRAINED (R287): the link is up with its width and speed; its fundamental reset is over. -/
def pcieLinkTrained (s : State) (k w v : Nat) : State :=
  if !linkExists s k || !trainOk s w v || s.boot.inReset then s
  else { s with host := { s.host with
    linkUp := setInsert s.host.linkUp k, widths := tblSet 0 s.host.widths k w, speeds := tblSet 0 s.host.speeds k v
    perst := setErase s.host.perst k } }

/-! ### Bus Master Enable and VFs (R289, R292) -/

/-- BUS_MASTER_ENABLE_CLEAR (R292): the part issues no new request for the function. -/
def busMasterClear (s : State) (f : Nat) : State :=
  if !funcExists s f || (funcAt s f).flr then s else setFunc s f { funcAt s f with bme := false }

/-- What waited for a function goes on: records, generation-1 write-backs and messages (R292, R300). -/
def resumeFunc (s : State) (f : Nat) : State :=
  let s1 := (liveQueues s f).foldl (fun t q =>
    if qKind q = 3 then drainCheck (cqDrain 600 t q) q else if qKind q = 4 then settle 64 t q else t) s
  (List.range (numVecs f)).foldl (fun t v => trySend t f v) s1

/-- BUS_MASTER_ENABLE_SET (R292): service resumes, and no completion is lost. -/
def busMasterSet (s : State) (f : Nat) : State :=
  if !funcExists s f || (funcAt s f).flr then s else resumeFunc (setFunc s f { funcAt s f with bme := true }) f

/-- VF_ENABLE_CLEAR (R307). -/
def vfEnableClear (s : State) (pf : Nat) : State := if funcExists s (pf * 64) then clearVfs s pf else s

/-- VF_ENABLE_SET (R289): VFs 1 to NumVFs of the PF exist; while VF Enable is set NumVFs stays. -/
def vfEnableSet (s : State) (pf n : Nat) : State :=
  if !funcExists s (pf * 64) || s.boot.fallback || (funcAt s (pf * 64)).flr || tblGet 0 s.host.numVfs pf != 0 then s
  else { s with host := { s.host with numVfs := tblSet 0 s.host.numVfs pf n } }

/-- Routing function number of a function: of VF n the PF's own + First VF offset + (n − 1), the VF stride being 1 (R286, R288, R289). -/
def routingNumber (s : State) (f : Nat) : Nat :=
  let pf := if s.host.bifurcated then 0 else f / 64
  let first := if s.host.bifurcated then 1 else if f / 64 = 0 then 64 else 127
  if f % 64 = 0 then pf else pf + first + (f % 64 - 1)

/-! ### Interrupts (R299, R300) -/

/-- MSIX_UNMASK (R300): a vector's mask bit, or the function's Function Mask, is cleared, and what is pending may send. -/
def msixUnmask (s : State) (f : Nat) (vec : Option Nat) : State :=
  match vec with
  | some v =>
    if !barLive s f || decide (numVecs f ≤ v) then s
    else trySend (setVec s f v { vecAt s f v with masked := false }) f v
  | none =>
    if !funcExists s f then s
    else (List.range (numVecs f)).foldl (fun t v => trySend t f v) (setFunc s f { funcAt s f with fmask := false })

/-- MSIX_MODERATION_END (R300). -/
def msixModerationEnd (s : State) (f v : Nat) : State := trySend s f v

/-! ### Registers whose read changes state (R12, R27, R88, R301, R452, R453) -/

/-- HOST_TIME_STATUS as it stands (R88). -/
def timeStatus (s : State) : Nat :=
  s.time.lossReason * 2 ^ 8 + min s.time.nval 15 * 2 ^ 4 + b2n s.time.timeValid * 4 + timeState s

/-- A read of BAR0 is answered: all ones while the Host region is out of service, as it is in fallback mode, or an FLR runs (R27, R291,
R298). -/
def barRead (s : State) (f : Nat) (live : State × Nat) : State :=
  if !funcExists s f then s
  else if !barLive s f || s.boot.fallback then emit s (.readData f 0xFFFFFFFF) else emit live.1 (.readData f live.2)

/-- HOST_NTIME_LO_READ (R88): the read returns NS_LO and takes the snapshot. -/
def hostNtimeLoRead (s : State) (f : Nat) : State :=
  let held := (ntNs s / 2 ^ 32 % 2 ^ 32, ntFrac s, timeStatus s)
  barRead s f ({ s with host := { s.host with ntHeld := tblSet (0, 0, 0) s.host.ntHeld f held } }, ntNs s % 2 ^ 32)

/-- The high word of a performance counter (R452). -/
def perfHigh (s : State) (i : Nat) : Nat :=
  let c := tblGet {} s.ctr.perf i
  c.wrap * 2 ^ 24 + c.v / 2 ^ 32

/-- PERF_CNT_LO_READ (R297, R452, R453): a page that is not granted reads 0. -/
def perfCntLoRead (s : State) (f i : Nat) : State :=
  if pageSeen s f then
    barRead s f ({ s with host := { s.host with perfLatch := tblSet (0, 0) s.host.perfLatch f (i + 1, perfHigh s i) } },
      (tblGet {} s.ctr.perf i).v % 2 ^ 32)
  else barRead s f (s, 0)

/-- HOST_SYNC_READ (R301): it reads 0, after every write and message sent before it. -/
def hostSyncRead (s : State) (f : Nat) : State := barRead s f (s, 0)

/-! ### Meanings -/

/-- FUNCTION_LEVEL_RESET (R291). -/
def execFunctionLevelReset (f : Nat) (s : State) : Host.Outcome State Fault Refusal :=
  checked (Instr.wf (.functionLevelReset f)) s (functionLevelReset s f)

/-- FLR_COMPLETE (R291). -/
def execFlrComplete (f : Nat) (s : State) : Host.Outcome State Fault Refusal :=
  checked (Instr.wf (.flrComplete f)) s (flrComplete s f)

/-- PERST_ASSERT (R290). -/
def execPerstAssert (link : Nat) (s : State) : Host.Outcome State Fault Refusal :=
  checked (Instr.wf (.perstAssert link)) s (perstAssert s link)

/-- DL_DOWN (R290). -/
def execDlDown (link : Nat) (s : State) : Host.Outcome State Fault Refusal :=
  checked (Instr.wf (.dlDown link)) s (dlDown s link)

/-- PCIE_LINK_TRAINED (R471). -/
def execPcieLinkTrained (link : Nat) (width : Nat) (speed : Nat) (s : State) : Host.Outcome State Fault Refusal :=
  checked (Instr.wf (.pcieLinkTrained link width speed)) s (pcieLinkTrained s link width speed)

/-- BUS_MASTER_ENABLE_CLEAR (R292). -/
def execBusMasterEnableClear (f : Nat) (s : State) : Host.Outcome State Fault Refusal :=
  checked (Instr.wf (.busMasterEnableClear f)) s (busMasterClear s f)

/-- BUS_MASTER_ENABLE_SET (R292). -/
def execBusMasterEnableSet (f : Nat) (s : State) : Host.Outcome State Fault Refusal :=
  checked (Instr.wf (.busMasterEnableSet f)) s (busMasterSet s f)

/-- VF_ENABLE_CLEAR (R289). -/
def execVfEnableClear (pf : Nat) (s : State) : Host.Outcome State Fault Refusal :=
  checked (Instr.wf (.vfEnableClear pf)) s (vfEnableClear s pf)

/-- VF_ENABLE_SET (R289). -/
def execVfEnableSet (pf : Nat) (n : Nat) (s : State) : Host.Outcome State Fault Refusal :=
  checked (Instr.wf (.vfEnableSet pf n)) s (vfEnableSet s pf n)

/-- MSIX_UNMASK (R300). -/
def execMsixUnmask (f : Nat) (vec : Option Nat) (s : State) : Host.Outcome State Fault Refusal :=
  checked (Instr.wf (.msixUnmask f vec)) s (msixUnmask s f vec)

/-- MSIX_MODERATION_END (R300). -/
def execMsixModerationEnd (f : Nat) (vec : Nat) (s : State) : Host.Outcome State Fault Refusal :=
  checked (Instr.wf (.msixModerationEnd f vec)) s (msixModerationEnd s f vec)

/-- HOST_NTIME_LO_READ (R88). -/
def execHostNtimeLoRead (f : Nat) (s : State) : Host.Outcome State Fault Refusal :=
  checked (Instr.wf (.hostNtimeLoRead f)) s (hostNtimeLoRead s f)

/-- PERF_CNT_LO_READ (R453). -/
def execPerfCntLoRead (f : Nat) (i : Nat) (s : State) : Host.Outcome State Fault Refusal :=
  checked (Instr.wf (.perfCntLoRead f i)) s (perfCntLoRead s f i)

/-- HOST_SYNC_READ (R301). -/
def execHostSyncRead (f : Nat) (s : State) : Host.Outcome State Fault Refusal :=
  checked (Instr.wf (.hostSyncRead f)) s (hostSyncRead s f)

end Sys2Proof.Machine
end

