-- ==== Sys2Proof/Machine/KnTime.lean ====
section
/-! DEFINITION. KnTime.lean: commands on network time, timing pins and captures, and the ring's status (R87, R117 to R125,
R413). -/

namespace Sys2Proof.Machine

open Sys2Proof

/-- A value of a structure's parameter. -/
def val (v : List Nat) (i : Nat) : Nat := v.getD i 0

/-- A flag among a structure's values. -/
def valB (v : List Nat) (i : Nat) : Bool := v.getD i 0 == 1

/-- The PACKAGE object named by a request. -/
def isPackage (_ : State) (o : Nat) : Bool := o == objId 0x1B 0

/-- A flag parameter, 0 or 1. -/
def pFlag : PDef := pNum 0 1

/-! ### Network time (R87) -/

/-- KN_TIME_SET: the counter is set where the node is no ring member; the UTC offset at any time. -/
def timeSetCmd : SetCmd where
  defs _ := [pWide 0 (2 ^ 64 - 1), pNum 0 0xFFFF, pInt (-32768) 32767]
  objOk := isPackage
  get s _ := [ntNs s, ntFrac s, ofSigned 32 (s.time.utcOffset.getD 0)]
  put s r _ v :=
    let sets := bitOf r.mask 0 || bitOf r.mask 1
    let utc := fun (t : State) => if bitOf r.mask 2 then { t with time := { t.time with utcOffset := some (toSigned 32 (val v 2)) } }
      else t
    if sets && ringMember s then .error (9, 0)
    else if sets then
      let t := setCounter s (val v 0 * 65536 + val v 1 / 16384 * 16384)
      let first := !s.time.everSync
      .ok (utc { t with time := { t.time with timeValid := true, timeByOwner := t.time.timeByOwner || first
                                              gptpStopped := t.time.gptpStopped && !first } })
    else .ok (utc s)

/-! ### Distribution and outputs (R117 to R121) -/

/-- KN_TIME_CONFIG: gPTP and holdover on PACKAGE, PPS_OUT and REF10M_OUT on their pins (log entry 27). -/
def timeConfigCmd : SetCmd where
  defs o :=
    let pk := o == objId 0x1B 0
    let pps := o == objId 0x11 16
    [(pNum 0 0x3FFFF).when pk, (pInt (-7) 1).when pk, (pInt (-3) 3).when pk, (pNum 0 255).when pk, (pNum 0 255).when pk,
     pFlag.when pk, (pNum 0 255).when pk, (pNum 0 3600).when pk, (pNum 1 900000).when pps,
     (pInt (-2147483648) 2147483647).when (!pk), pFlag.when pps]
  objOk _ o := o == objId 0x1B 0 || o == objId 0x11 16 || o == objId 0x11 17
  get s o :=
    let c := s.time.cfg
    [c.oneStep, ofSigned 32 c.syncInterval, ofSigned 32 c.announceInterval, c.priority1, c.priority2, b2n c.traceable, c.timeSource,
     c.holdoverLimit, c.ppsHigh, ofSigned 32 (if o = objId 0x11 17 then c.ref10mDelay else c.ppsDelay), b2n c.ppsFreeRun]
  put s _ o v :=
    let c := s.time.cfg
    let d := toSigned 32 (val v 9)
    let c' : TimeCfg :=
      if o = objId 0x1B 0 then
        { c with oneStep := val v 0, syncInterval := toSigned 32 (val v 1), announceInterval := toSigned 32 (val v 2)
                 priority1 := val v 3, priority2 := val v 4, traceable := valB v 5, timeSource := val v 6, holdoverLimit := val v 7 }
      else if o = objId 0x11 16 then { c with ppsHigh := val v 8, ppsDelay := d, ppsFreeRun := valB v 10 }
      else { c with ref10mDelay := d }
    .ok { s with time := { s.time with cfg := c' } }

/-! ### Timers (R124) -/

/-- The parameters of a timer: start, period and high time in steps of 250 ps, count, what it does on loss of synchronisation, and
the board-delay correction of its pin (R120, R124; log entry 28). -/
def timerParams : List PDef :=
  [pWide 0 (2 ^ 64 - 1), pWide 64 (2 ^ 38), pWide 0 (2 ^ 38), pNum 0 (2 ^ 32 - 1), pEnum 2, pInt (-2147483648) 2147483647]

/-- KN_TIMER_SET: a start time that is given starts the train; other changes take effect at the next period boundary. DESIGN CHOICE (log
entry 108): a new start time ends a running train at once, drives the output low and counts pulses afresh. -/
def timerSetCmd : SetCmd where
  defs _ := timerParams
  objOk _ o := objIn 0x11 4 o
  get s o :=
    let x := timerAt s (objIdx o)
    [x.start, x.period, x.high, x.count, b2n x.cont, ofSigned 32 x.delay]
  put s r o v :=
    let x := timerAt s (objIdx o)
    if val v 1 ≤ val v 2 then .error (6, 3)
    else
      let y := { x with period := val v 1, high := val v 2, count := val v 3, cont := valB v 4, delay := toSigned 32 (val v 5) }
      if !bitOf r.mask 0 then .ok (setTimer s (objIdx o) y)
      else if ns16 (val v 0) < nt16 s + ns16 1000 then .error (0xA, 0)
      else .ok (setTimer s (objIdx o) { y with start := val v 0, running := true, level := false, done := 0, curPeriod := val v 1
                                               curHigh := val v 2, nextEdge := ns16 (val v 0) })

/-! ### Captures (R122, R123) -/

/-- KN_EVCAP_SET: the edges of EVCAP0 to EVCAP3, and each input's board-delay correction. -/
def evcapSetCmd : SetCmd where
  defs o := [(pEnum 3).when (o != objId 0x11 8), pInt (-2147483648) 2147483647]
  objOk _ o := objCls o == 0x11 && decide (8 ≤ objIdx o) && decide (objIdx o ≤ 12)
  get s o :=
    let x := capAt s (objIdx o - 8)
    [x.edges, ofSigned 32 x.delay]
  put s _ o v :=
    let i := objIdx o - 8
    .ok (setCap s i { capAt s i with edges := if i = 0 then 0 else val v 0, delay := toSigned 32 (val v 1) })

/-- KN_EVCAP_READ: up to COUNT of the oldest records, as many as the result holds, are taken out of the FIFO (R122, R123;
log entry 28). -/
def evcapReadRun (s : State) (r : Request) : Res :=
  if !evcapSetCmd.objOk s r.obj then .fail 5 0
  else
    let i := objIdx r.obj - 8
    let x := capAt s i
    let n := min (leAt r.params 8 4) 15
    .ok (setCap s i { x with fifo := x.fifo.drop n }) ((x.fifo.take n).flatMap (leBytes 16)) []

/-! ### Ring status (R48, R49, R125, R126, R143; log entry 29) -/

/-- The number of a ring state, in the order of R125. -/
def ringStateNo : RingState → Nat
  | .offline => 0 | .calibrating => 1 | .listen => 2 | .announce => 3 | .rankBackoff => 4 | .integrating => 5
  | .synchronised => 6 | .withdrawn => 7

/-- The number of a port state (R143). -/
def portStateNo : PortState → Nat
  | .down => 0 | .linked => 1 | .inRing => 2

/-- The number of a claim's state (R78). -/
def claimNo : ClaimState → Nat
  | .unclaimed => 0 | .observing => 1 | .claiming => 2 | .held => 3 | .backoff => 4

/-- KN_RING_STATUS. -/
def ringStatusRun (s : State) (r : Request) : Res :=
  let c := s.cyc.c0.getD 0
  let head := leBytes 1 (ringStateNo s.ring.state) ++ leBytes 1 (timeState s) ++ leBytes 1 (portStateNo s.ring.east.state) ++
    leBytes 1 (portStateNo s.ring.west.state) ++ leBytes 1 (if s.ring.cwLearnt then rpBit s.ring.cwPort else 0xFF) ++
    leBytes 1 s.ring.keystone ++ leBytes 2 0 ++ leBytes 8 (c / 65536) ++ leBytes 8 (c % 65536) ++ leBytes 8 s.cyc.n ++
    leBytes 8 (sigma s .cw) ++ leBytes 8 (sigma s .ccw) ++ leBytes 8 (lap s .cw) ++ leBytes 8 (lap s .ccw)
  let piers := (ownPiers s).flatMap (fun p =>
    leBytes 2 p.slot ++ leBytes 1 (claimNo (claimAt s p.idx).state) ++ leBytes 1 (claimAt s p.idx).count ++ leBytes 4 0)
  if r.isBulk then .ok s [] (head ++ piers) else .ok s ((head ++ piers).take 240) []

/-! ### The rows -/

/-- How Keanak executes KN_RING_STATUS. -/
def ringStatusExe : Exe := { bulk := fun _ => 1, run := ringStatusRun }
/-- KN_RING_STATUS. -/
def knRingStatus (s : State) : State := runKn s 0x0101 ringStatusExe
/-- KN_TIME_SET. -/
def knTimeSet (s : State) : State := runKn s 0x0102 timeSetCmd.exe
/-- KN_TIME_CONFIG. -/
def knTimeConfig (s : State) : State := runKn s 0x0103 timeConfigCmd.exe
/-- KN_TIMER_SET. -/
def knTimerSet (s : State) : State := runKn s 0x0104 timerSetCmd.exe
/-- KN_EVCAP_SET. -/
def knEvcapSet (s : State) : State := runKn s 0x0105 evcapSetCmd.exe
/-- How Keanak executes KN_EVCAP_READ. -/
def evcapReadExe : Exe := { need := fun _ => 12, run := evcapReadRun }
/-- KN_EVCAP_READ. -/
def knEvcapRead (s : State) : State := runKn s 0x0106 evcapReadExe

/-! ### Meanings -/

/-- KN_RING_STATUS (R125). -/
def execKnRingStatus (s : State) : Host.Outcome State Fault Refusal :=
  checked (Instr.wf (.knRingStatus)) s (knRingStatus s)

/-- KN_TIME_SET (R87). -/
def execKnTimeSet (s : State) : Host.Outcome State Fault Refusal :=
  checked (Instr.wf (.knTimeSet)) s (knTimeSet s)

/-- KN_TIME_CONFIG (R117). -/
def execKnTimeConfig (s : State) : Host.Outcome State Fault Refusal :=
  checked (Instr.wf (.knTimeConfig)) s (knTimeConfig s)

/-- KN_TIMER_SET (R124). -/
def execKnTimerSet (s : State) : Host.Outcome State Fault Refusal :=
  checked (Instr.wf (.knTimerSet)) s (knTimerSet s)

/-- KN_EVCAP_SET (R122). -/
def execKnEvcapSet (s : State) : Host.Outcome State Fault Refusal :=
  checked (Instr.wf (.knEvcapSet)) s (knEvcapSet s)

/-- KN_EVCAP_READ (R122). -/
def execKnEvcapRead (s : State) : Host.Outcome State Fault Refusal :=
  checked (Instr.wf (.knEvcapRead)) s (knEvcapRead s)

end Sys2Proof.Machine
end

