-- ==== Sys2Proof/Machine/KnClass.lean ====
section
/-! DEFINITION. KnClass.lean: commands on the classifier, the meters, the quotas of the vat and spill (R160 to R175, R183,
R521). -/

namespace Sys2Proof.Machine

open Sys2Proof

/-! ### Action words (R160, R163) -/

/-- A reserved encoding in an action word: of ACTION or of METER. -/
def wordReserved (w : Nat) : Bool := decide (8 ≤ actOf w) || (decide (8192 ≤ meterOf w) && decide (meterOf w < 0x3FFF))

/-- The queues of HOST_HASH are receive queues of one function. -/
def hashQueuesOk (s : State) (base n : Nat) : Bool :=
  match funcOfQueue s (0x1000 + base) with
  | none => false
  | some f => decide (base + n ≤ 1024) && (List.range n).all (fun i => funcOfQueue s (0x1000 + base + i) == some f)

/-- The condition of an action word's TARGET. -/
def targetMeets (s : State) (w : Nat) : Bool :=
  let t := targetOf w
  match actOf w with
  | 1 => decide (t % 2048 < 1088)
  | 2 => hashQueuesOk s (t % 2048) (fld t 16 6 + 1)
  | 3 => tblGet [] s.cls.rrSets (t % 16) != []
  | 4 => (txEnt s (t % 4096)).isSome
  | 5 => !bitOf t 6 || t % 64 == 0
  | _ => true

/-! ### Rules (R160, R161, R410) -/

/-- A rule as it is kept: reserved fields read as 0 (R13, R160). -/
def ruleKept (r : Nat) : Nat :=
  let a := setFld (setFld (setFld r 307 9 0) 64 32 0) 32 5 0
  if bitOf r 318 then setFld a 96 96 0 else a

/-- TABLE of a rule. -/
def ruleHash (r : Nat) : Bool := bitOf r 318
/-- PROFILE of a rule. -/
def ruleProfile (r : Nat) : Nat := fld r 316 2

/-- A rule under its index. -/
def ruleAt (s : State) (i : Nat) : Nat := tblGet ruleReset s.cls.rules i

/-- The first place of the bucket that a hash rule's key selects. -/
def ruleBucket (s : State) (r : Nat) : Nat :=
  512 + 7 * hashBucket (ruleKey r &&& tblGet 0 s.cls.profiles (ruleProfile r)) (ruleProfile r)

/-- A valid hash rule with the same profile and key at another place. -/
def ruleTwin (s : State) (r i : Nat) : Bool :=
  s.cls.rules.any (fun e => decide (512 ≤ e.1) && e.1 != i && ruleValid e.2 && ruleProfile e.2 == ruleProfile r &&
    ruleKey e.2 == ruleKey r)

/-- The place of a rule: its index, or for a hash rule that the part is to place the first free one of its bucket; else the status
that refuses it (R161, R410). -/
def rulePlace (s : State) (r i : Nat) : Except (Nat × Nat) Nat :=
  let b := ruleBucket s r
  if !ruleHash r then (if i < 512 then .ok i else .error (6, 2))
  else if i < 512 then .error (6, 2)
  else if ruleKey r &&& tblGet 0 s.cls.profiles (ruleProfile r) ≠ ruleKey r then .error (6, 2)
  else if i ≠ 0xFFFFFF then
    if !ruleValid r then .ok i
    else if i < b ∨ b + 7 ≤ i then .error (6, 2)
    else if ruleTwin s r i then .error (0xD, 0) else .ok i
  else if !ruleValid r then .error (6, 2)
  else if ruleTwin s r i then .error (0xD, 0)
  else match (List.range 7).find? (fun w => !ruleValid (ruleAt s (b + w))) with
    | some w => .ok (b + w)
    | none => .error (0xE, 0)

/-- The value of a RULE object: its identifier and the rule; none where no valid rule stands there (R402, R403). -/
def ruleValue (i r : Nat) : Option Octets := if ruleValid r then some (leBytes 8 (objId 0x03 i) ++ leBytes 40 r) else none

/-- KN_RULE_WRITE. -/
def ruleWriteRun (s : State) (rq : Request) : Res :=
  let r := ruleKept (leAt rq.params 8 40)
  let i := objIdx rq.obj
  if objCls rq.obj ≠ 0x03 ∨ (4096 ≤ i ∧ i ≠ 0xFFFFFF) then .fail 5 0
  else if wordReserved (ruleWord r) then .fail 4 2
  else if !targetMeets s (ruleWord r) then .fail 6 2
  else match rulePlace s r i with
    | .error e => .fail e.1 e.2
    | .ok k =>
      let t := auditChange s rq (objId 0x03 k) (ruleValue k (ruleAt s k)) (ruleValue k r)
      if isAbsent s (objId 0x03 k) then .fail 0xB 0
      else .ok { t with cls := { t.cls with rules := tblSet ruleReset t.cls.rules k r } } (leBytes 8 (objId 0x03 k)) []

/-! ### Profiles, defaults and round-robin sets (R161, R164, R521) -/

/-- KN_HASH_PROFILE_SET: a profile's 96-bit mask, in 12 bytes (log entry 30). -/
def hashProfileCmd : SetCmd where
  defs _ := [{ size := 12, wide := true }]
  objOk _ o := objIn 0x18 4 o
  get s o := [tblGet 0 s.cls.profiles (objIdx o)]
  put s _ o v := .ok { s with cls := { s.cls with profiles := tblSet 0 s.cls.profiles (objIdx o) (val v 0) } }

/-- No entry of a colour table has the reserved encoding. -/
def coloursNamed (c : Nat) : Bool := (List.range 16).all (fun i => fld c (2 * i) 2 != 3)

/-- KN_PORT_DEFAULTS_SET. -/
def portDefaultsCmd : SetCmd where
  defs _ := [pNum 1 4094, pNum 0 7, { size := 8, wide := true, enc := fun w => !wordReserved w }, { enc := coloursNamed }]
  objOk _ o := objIn 0x1D 19 o
  get s o :=
    let d := portDef s (objIdx o)
    [d.vid, d.pcp, d.action, d.colour]
  put s r o v :=
    if bitOf r.mask 2 && !targetMeets s (val v 2) then .error (6, 3)
    else
      let d : PortDef := { vid := val v 0, pcp := val v 1, action := setFld (val v 2) 32 5 0, colour := val v 3 }
      .ok { s with cls := { s.cls with defs := tblSet {} s.cls.defs (objIdx o) d } }

/-- The value of a round-robin set: its number of queues and the queues. -/
def rrValue (l : List Nat) : Octets := leBytes 1 l.length ++ l.flatMap (leBytes 2)

/-- KN_RR_SET_DEFINE: byte 8 the number of queues, 0 to undefine the set; their numbers of 2 bytes each from byte 16 (log entry
31). -/
def rrDefineRun (s : State) (r : Request) : Res :=
  let k := objIdx r.obj
  let n := leAt r.params 8 1
  let l := (List.range n).map (fun i => leAt r.params (16 + 2 * i) 2)
  if !objIn 0x19 16 r.obj then .fail 5 0
  else if leAt r.params 9 7 ≠ 0 then .fail 4 0
  else if 32 < n then .fail 6 2
  else if !l.all (fun q => decide (q < 1024)) then .fail 6 3
  else
    let t := auditChange s r r.obj (some (rrValue (tblGet [] s.cls.rrSets k))) (some (rrValue l))
    .ok { t with cls := { t.cls with rrSets := tblSet [] t.cls.rrSets k l, rrLast := tblErase t.cls.rrLast k } } [] []

/-! ### Meters (R168, R172) -/

/-- A colour action of 6 bits names PASS, REMARK or DROP. -/
def actionNamed (a : Nat) : Bool := a % 4 != 3

/-- The three colour actions, a 4-byte value each (R409). -/
def pColours : PDef where
  size := 12
  enc v := (List.range 3).all (fun i => actionNamed (fld v (32 * i) 32))
  ok v := (List.range 3).all (fun i => decide (fld v (32 * i) 32 < 64))

/-- KN_METER_SET: the buckets keep their tokens, clipped to the new sizes. -/
def meterSetCmd : SetCmd where
  defs _ := [pNum 0 100000000, pNum 1 100000000, pNum 0 16777216, pNum 1 16777216, pEnum 2, pInt (-32) 32, pColours]
  objOk _ o := objIn 0x04 8192 o
  get s o :=
    let x := meterAt s (objIdx o)
    [x.cir, x.pir, x.cbs, x.pbs, b2n x.aware, ofSigned 32 x.adjust, x.actG + x.actY * 2 ^ 32 + x.actR * 2 ^ 64]
  put s _ o v :=
    if val v 1 < val v 0 then .error (6, 1)
    else
      let x := meterRefill s (meterAt s (objIdx o))
      let y : Meter := { x with cir := val v 0, pir := val v 1, cbs := val v 2, pbs := val v 3, aware := valB v 4
                                adjust := toSigned 32 (val v 5), actG := fld (val v 6) 0 32, actY := fld (val v 6) 32 32
                                actR := fld (val v 6) 64 32, tc := min x.tc (val v 2 * 2 ^ 32), tp := min x.tp (val v 3 * 2 ^ 32) }
      .ok (drawn (drawn { s with meters := tblSet {} s.meters (objIdx o) y
                                 metersWas := tblSet (0, {}) s.metersWas (objIdx o) (now s / 2 + 1, meterJudged s (objIdx o)) }))

/-- KN_METER_RESET: both buckets are full. -/
def meterResetRun : State → Request → Res := onObject meterSetCmd.objOk (fun s r o =>
  let v := some (meterSetCmd.read s o)
  let t := auditChange s r o v v
  let x := meterAt t (objIdx o)
  .ok { t with meters := tblSet {} t.meters (objIdx o) { x with tc := x.cbs * 2 ^ 32, tp := x.pbs * 2 ^ 32, last := now t / 2 } }
    [] [])

/-! ### Quotas and spill (R175, R183) -/

/-- KN_VAT_QUOTA_SET: a setting that leaves the shared pool with fewer than 16 384 cells is refused. -/
def vatQuotaCmd : SetCmd where
  defs o :=
    let a := objCls o == 0x09
    [(pNum 0 65536).when a, (pNum 0 196608).when a, (pNum 1 196608).when (!a), (pNum 0 196608).when (!a)]
  objOk _ o := objIn 0x09 23 o || objIn 0x0A 1497 o
  get s o :=
    let i := objIdx o
    if objCls o = 0x09 then [(acctQuota s i).reserve, (acctQuota s i).limit, 0, 0]
    else [0, 0, (destQuota s i).limit, (destQuota s i).yellow]
  put s _ o v :=
    let i := objIdx o
    if objCls o = 0x09 then
      let q : Quota := { acctQuota s i with reserve := val v 0, limit := val v 1 }
      let t := { s with vat := { s.vat with acctQ := tblSet (acctDefault i) s.vat.acctQ i q } }
      if val v 1 < val v 0 then .error (6, 2) else if poolSize t < 16384 then .error (0xC, 0) else .ok t
    else
      let q : Quota := { destQuota s i with limit := val v 2, yellow := val v 3 }
      if val v 2 < val v 3 then .error (6, 4)
      else .ok { s with vat := { s.vat with destQ := tblSet destDefault s.vat.destQ i q } }

/-- Spill may be enabled on a destination: an egress queue of an edge port or uplink, or an open-segment queue whose TC maps to
level L (R183). -/
def maySpill (s : State) (d : Nat) : Bool :=
  (decide (1088 ≤ d) && decide (d < 1232)) ||
    (decide (1232 ≤ d) && decide (d < 1240) && !bitOf ((s.cyc.image.map (·.tcMap)).getD 0xE0) (d - 1232))

/-- KN_SPILL_SET: ENABLE and SPILL_LIMIT of a queue, and the spill area on PACKAGE, in MiB (log entry 32). -/
def spillCmd : SetCmd where
  defs o :=
    let pk := o == objId 0x1B 0
    [pFlag.when (!pk), (pNum 1 4096).when (!pk), (pNum 0 4096).when pk]
  objOk s o := isPackage s o || objIn 0x0A 1497 o
  get s o :=
    let x := tblGet {} s.vat.spill (objIdx o)
    if o = objId 0x1B 0 then [0, 0, s.vat.spillArea] else [b2n x.enable, x.limit, 0]
  put s r o v :=
    if o = objId 0x1B 0 then
      if 4096 < val v 2 + s.geley.quota + 256 then .error (6, 3)
      else .ok { s with vat := { s.vat with spillArea := val v 2 } }
    else if valB v 0 && !maySpill s (objIdx o) then .error (0x15, 0)
    else if bitOf r.mask 1 && decide (s.vat.spillArea < val v 1) then .error (6, 2)
    else .ok { s with vat := { s.vat with spill := tblSet {} s.vat.spill (objIdx o) { enable := valB v 0, limit := val v 1 } } }

/-! ### The rows -/

/-- How Keanak executes KN_RULE_WRITE. -/
def ruleWriteExe : Exe := { need := fun _ => 48, run := ruleWriteRun }
/-- KN_RULE_WRITE. -/
def knRuleWrite (s : State) : State := runKn s 0x0201 ruleWriteExe
/-- KN_HASH_PROFILE_SET. -/
def knHashProfileSet (s : State) : State := runKn s 0x0202 hashProfileCmd.exe
/-- KN_PORT_DEFAULTS_SET. -/
def knPortDefaultsSet (s : State) : State := runKn s 0x0203 portDefaultsCmd.exe
/-- How Keanak executes KN_RR_SET_DEFINE. -/
def rrSetDefineExe : Exe := { need := fun r => 16 + 2 * leAt r.params 8 1, run := rrDefineRun }
/-- KN_RR_SET_DEFINE. -/
def knRrSetDefine (s : State) : State := runKn s 0x0204 rrSetDefineExe
/-- KN_METER_SET. -/
def knMeterSet (s : State) : State := runKn s 0x0205 meterSetCmd.exe
/-- How Keanak executes KN_METER_RESET. -/
def meterResetExe : Exe := { need := fun _ => 8, run := meterResetRun }
/-- KN_METER_RESET. -/
def knMeterReset (s : State) : State := runKn s 0x0206 meterResetExe
/-- KN_VAT_QUOTA_SET. -/
def knVatQuotaSet (s : State) : State := runKn s 0x0207 vatQuotaCmd.exe
/-- KN_SPILL_SET. -/
def knSpillSet (s : State) : State := runKn s 0x0208 spillCmd.exe

/-! ### Meanings -/

/-- KN_RULE_WRITE (R160). -/
def execKnRuleWrite (s : State) : Host.Outcome State Fault Refusal :=
  checked (Instr.wf (.knRuleWrite)) s (knRuleWrite s)

/-- KN_HASH_PROFILE_SET (R161). -/
def execKnHashProfileSet (s : State) : Host.Outcome State Fault Refusal :=
  checked (Instr.wf (.knHashProfileSet)) s (knHashProfileSet s)

/-- KN_PORT_DEFAULTS_SET (R521). -/
def execKnPortDefaultsSet (s : State) : Host.Outcome State Fault Refusal :=
  checked (Instr.wf (.knPortDefaultsSet)) s (knPortDefaultsSet s)

/-- KN_RR_SET_DEFINE (R164). -/
def execKnRrSetDefine (s : State) : Host.Outcome State Fault Refusal :=
  checked (Instr.wf (.knRrSetDefine)) s (knRrSetDefine s)

/-- KN_METER_SET (R172). -/
def execKnMeterSet (s : State) : Host.Outcome State Fault Refusal :=
  checked (Instr.wf (.knMeterSet)) s (knMeterSet s)

/-- KN_METER_RESET (R172). -/
def execKnMeterReset (s : State) : Host.Outcome State Fault Refusal :=
  checked (Instr.wf (.knMeterReset)) s (knMeterReset s)

/-- KN_VAT_QUOTA_SET (R175). -/
def execKnVatQuotaSet (s : State) : Host.Outcome State Fault Refusal :=
  checked (Instr.wf (.knVatQuotaSet)) s (knVatQuotaSet s)

/-- KN_SPILL_SET (R183). -/
def execKnSpillSet (s : State) : Host.Outcome State Fault Refusal :=
  checked (Instr.wf (.knSpillSet)) s (knSpillSet s)

end Sys2Proof.Machine
end

