-- ==== Sys2Proof/Machine/KnEgress.lean ====
section
/-! DEFINITION. KnEgress.lean: commands on egress queues, gate lists, shapers, samples, slot egress bindings, preemption, pauses and
redundant streams (R190, R192, R201 to R214, R221 to R246). -/

namespace Sys2Proof.Machine

open Sys2Proof

/-! ### Queues (R192) -/

/-- KN_QUEUE_SET: four parameters of a queue, and SCHED of a port. -/
def queueSetCmd : SetCmd where
  defs o :=
    let q := objCls o == 0x02
    [(pEnum 2).when q, (pNum 64 65535).when q, (pNum 1 255).when q,
     ({ ok := fun v => v == 0 || (decide (64 ≤ v) && decide (v ≤ 16000)) } : PDef).when q, (pEnum 2).when (!q)]
  objOk _ o := objIn 0x02 160 o || objIn 0x01 20 o
  get s o :=
    let c := qcfgAt s (objIdx o)
    if objCls o = 0x02 then [b2n c.drr, c.quantum, c.weight, c.maxSdu, 0] else [0, 0, 0, 0, schedOf s (objIdx o)]
  put s _ o v :=
    let i := objIdx o
    if objCls o = 0x02 then
      let c : QCfg := { drr := valB v 0, quantum := val v 1, weight := val v 2, maxSdu := val v 3 }
      .ok { s with eg := { s.eg with cfg := tblSet (qcfgDefault i) s.eg.cfg i c } }
    else .ok { s with eg := { s.eg with sched := tblSet 0 s.eg.sched i (val v 4) } }

/-! ### Gate lists (R197 to R203; log entry 34) -/

/-- The GATE_LIST object of a port. -/
def gateObj (p : Nat) : Nat := objId 0x0B p

/-- A list's parameters as R409 lays them out, and its entries. -/
def gateOctets (g : GateList) (act16 : Nat) : Octets :=
  leBytes 4 (b2n g.enabled) ++ leBytes 4 g.admin ++ leBytes 4 g.entries.length ++ leBytes 4 0 ++ leBytes 8 g.base ++
    leBytes 4 g.cycle ++ leBytes 4 g.ext ++ leBytes 8 (act16 / 65536) ++ g.entries.flatMap (leBytes 8)

/-- The value of a list that its digest covers: the payload that loaded it (R403; log entry 24). -/
def gateValue (g : GateList) (act16 : Nat) : Octets := if g.raw = [] then gateOctets g act16 else g.raw

/-- The list of a port that a load replaces: the pending one, else the operative one. -/
def gateOld (g : Gate) : Octets :=
  match g.pend with
  | some (n, act) => gateValue n act
  | none => gateValue g.oper g.since

/-- The payload of KN_GATE_LOAD cut at the lists of the ports named; none where its length does not suit them. -/
def gateParts : List Nat → Octets → Option (List (Nat × Octets))
  | [], o => if o = [] then some [] else none
  | p :: ps, o =>
    let n := 40 + 8 * leAt o 8 4
    if o.length < 40 ∨ o.length < n then none
    else (gateParts ps (o.drop n)).map (fun l => (p, o.take n) :: l)

/-- The list that a part of the payload gives. -/
def gateParsed (o : Octets) : GateList where
  enabled := leAt o 0 4 == 1
  admin := leAt o 4 4
  base := leAt o 16 8
  cycle := leAt o 24 4
  ext := leAt o 28 4
  entries := (List.range (leAt o 8 4)).map (fun i => leAt o (40 + 8 * i) 8)
  raw := o

/-- No entry of a list has a reserved encoding: of OP, of INTERVAL or in reserved bits (R197). -/
def entriesNamed (g : GateList) : Bool :=
  g.entries.all (fun e => decide (entryOp e < 3) && entryInterval e != 0 && fld e 40 20 == 0)

/-- A port's pending ACT_TIME lies less than 1 ms ahead (R203). -/
def gateNear (s : State) (p : Nat) : Bool :=
  match (gateAt s p).pend with
  | some (_, act) => decide (act < nt16 s + ns16 1000000)
  | none => false

/-- The instant that ACT_TIME of a KN_GATE_LOAD gives, 1 ms ahead at least: while the node holds a cycle origin, of the boundary that
it names (R201). -/
def gateInstant (s : State) (t : Nat) : Option Nat :=
  let at16 := if s.cyc.c0.isSome then (namedCycle s t).bind (boundary s) else some (ns16 t)
  at16.filter (fun x => decide (nt16 s + ns16 1000000 ≤ x))

/-- One list of an accepted load: its record, and the list pending (R203, R405, R406). -/
def loadGate (s : State) (r : Request) (act16 : Nat) (e : Nat × Octets) : State :=
  let t := auditStaged s r (gateObj e.1) (some (gateOld (gateAt s e.1))) (some e.2)
  regate t e.1 { gateAt t e.1 with pend := some (gateParsed e.2, act16), byImage := false }

/-- KN_GATE_LOAD. -/
def gateLoadRun (s : State) (r : Request) : Res :=
  let mask := leAt r.params 8 4
  let ports := maskList 18 mask
  match gateParts ports r.bulk with
  | none => .fail 3 3
  | some l =>
    if !l.all (fun e => entriesNamed (gateParsed e.2)) then .fail 4 3
    else if mask = 0 ∨ 2 ^ 18 ≤ mask then .fail 6 2
    else if !l.all (fun e => decide (leAt e.2 0 4 < 2) && gateListOk (gateParsed e.2)) then .fail 6 3
    else if ports.any (fun p => isAbsent s (gateObj p)) then .fail 0xB 0
    else if ports.any (gateNear s) then .fail 9 0
    else match gateInstant s (leAt r.params 0 8) with
      | none => .failAs (ports.foldl (fun t p => count t 0x0D p 6) s) 0xA 0
      | some act16 => .ok (l.foldl (fun t e => loadGate t r act16 e) s) [] []

/-- A gate list exists on a port. -/
def gateObjOk (_ : State) (o : Nat) : Bool := objIn 0x0B 18 o

/-- KN_GATE_CANCEL (R203). -/
def gateCancelRun : State → Request → Res := onObject gateObjOk (fun s r o =>
  let p := objIdx o
  let g := gateAt s p
  if gateNear s p then .fail 9 0
  else if g.pend.isNone then .ok s [] []
  else
    let t := dropStaged (auditChange s r o (some (gateOld g)) (some (gateValue g.oper g.since))) o
    .ok (regate t p { gateAt t p with pend := none, byImage := false }) [] [])

/-- KN_GATE_READ (R203; log entry 34). -/
def gateReadRun : State → Request → Res := onObject gateObjOk (fun s r o =>
  let g := gateAt s (objIdx o)
  let x := gatePos g (nt16 s)
  let head := leBytes 4 (b2n g.pend.isSome) ++ leBytes 4 x.entry ++ leBytes 8 ((g.pend.map (·.2)).getD 0 / 65536) ++
    leBytes 8 (x.start.getD 0 / 65536)
  let whole := head ++ gateOctets g.oper g.since ++ (match g.pend with
    | some (n, act) => gateOctets n act
    | none => [])
  if r.isBulk then .ok s [] whole else .ok s (whole.take 240) [])

/-! ### Shapers (R207, R209, R210) -/

/-- A shaper's parameters; of a port-class shaper those that its next refill adopts. -/
def shaperVals (x : Shaper) : List Nat :=
  match x.pend with
  | some (en, rate, burst, ovh) => [b2n en, rate, burst, ovh]
  | none => [b2n x.enable, x.rate, x.burst, x.overhead]

/-- KN_SHAPER_SET: a stream shaper changes at once, a port-class shaper at the refill that ends its interval. -/
def shaperCmd : SetCmd where
  defs _ := [pFlag, pNum 1 100000000, pNum 64 16777216, pNum 0 40]
  objOk _ o := objIn 0x05 1184 o
  get s o := shaperVals (shaperAt s (objIdx o))
  put s _ o v :=
    let i := objIdx o
    let x := shaperAt s i
    if i < 1024 then
      let have' := tokensOf s i x
      let tok := if valB v 0 && !x.enable then val v 2 * 2 ^ 32 else min have' (val v 2 * 2 ^ 32)
      let old := if x.pendTick = now s ∧ x.old.isSome then x.old else some (x.enable, x.rate, x.burst, x.overhead, have')
      .ok (drawn (setShaper s i { x with enable := valB v 0, rate := val v 1, burst := val v 2, overhead := val v 3, tokens := tok
                                         last := now s / 2, pendTick := now s, old := old }))
    else .ok (setShaper s i { x with pend := some (valB v 0, val v 1, val v 2, val v 3), pendTick := now s })

/-- KN_STREAM_SHAPER_BIND. -/
def streamBindCmd : SetCmd where
  defs _ := [{ ok := fun v => decide (v < 1024) || v == 0xFFFF }]
  objOk _ o := objIn 0x1C 8192 o
  get s o := [tblGet 0xFFFF s.eg.binds (objIdx o)]
  put s _ o v := .ok { s with eg := { s.eg with binds := tblSet 0xFFFF s.eg.binds (objIdx o) (val v 0) } }

/-! ### Samples (R212 to R214; log entry 35) -/

/-- Every value of R213 is cleared. -/
def clearSamples (s : State) : State :=
  { s with eg := { s.eg with qs := [], qsTick := none, qsOld := [] }
           ctr := { s.ctr with stat := s.ctr.stat.filter (fun e => e.1 / 2 ^ 24 != 0x0B) } }

/-- KN_QSAMPLE_SET: the period in µs, 0 for off, and e. -/
def qsampleCmd : SetCmd where
  defs _ := [pNum 0 1000000, pNum 0 16]
  objOk := isPackage
  get s _ := [s.eg.qsPeriod, s.eg.qsE]
  put s _ _ v :=
    if val v 0 = s.eg.qsPeriod ∧ val v 1 = s.eg.qsE then .ok s
    else
      let t := clearSamples s
      let per := val v 0 * 1000
      .ok { t with eg := { t.eg with qsPeriod := val v 0, qsE := val v 1, qsNext := (ntNs s / per + 1) * per } }

/-- A statistics counter as a read returns it (R456). -/
def statWord (c : Stat) (cleared : Bool) : Nat := c.v + 2 ^ 62 * b2n cleared + 2 ^ 63 * b2n c.sat

/-- A queue's sampled values. -/
def sampleOctets (s : State) (k : Nat) : Octets :=
  let x := tblGet {} s.eg.qs k
  let ctr := fun (ev : Nat) => leBytes 8 (statWord (tblGet {} s.ctr.stat (statIdx 0x0B k ev)) true)
  ctr 0 ++ [x.minBytes, x.maxBytes, x.minFrames, x.maxFrames, x.minSoj, x.maxSoj].flatMap (leBytes 8) ++
    (List.range 16).flatMap (fun b => ctr (b + 1))

/-- The latest sample of a queue, where it was taken in the present tick (R214). -/
def qsampleNow (s : State) (k : Nat) : Option QSPrev :=
  if s.eg.qsTick = some (now s) then some (tblGet {} s.eg.qsOld k) else none

/-- The values of a queue as they stood before the sample of the present tick. -/
def unsampled (s : State) (k : Nat) (x : QSPrev) : State :=
  let b := statIdx 0x0B k (1 + sojournBin s.eg.qsE x.soj)
  { s with eg := { s.eg with qs := tblSet {} s.eg.qs k x.regs }
           ctr := { s.ctr with stat := tblSet {} (tblSet {} s.ctr.stat (statIdx 0x0B k 0) x.samples) b x.bin } }

/-- KN_QSAMPLE_READ (R214): every value of one queue from one snapshot, which also clears them; a sample of the same tick belongs to
the new set. -/
def qsampleReadRun : State → Request → Res := onObject (fun _ o => objIn 0x02 160 o) (fun s _ o =>
  let k := objIdx o
  let stat := (List.range 17).foldl (fun t ev => tblErase t (statIdx 0x0B k ev)) s.ctr.stat
  let t := { s with eg := { s.eg with qs := tblErase s.eg.qs k }, ctr := { s.ctr with stat := stat } }
  match qsampleNow s k with
  | none => .ok t (sampleOctets s k) []
  | some x => .ok (sampleWith t k x.bytes x.frames x.soj) (sampleOctets (unsampled s k x) k) [])

/-! ### Slot egress bindings (R190) -/

/-- KN_SLOT_EGRESS_BIND. -/
def slotBindCmd : SetCmd where
  defs _ := [pFlag, pNum 0 15, pNum 0 7]
  objOk _ o := objCls o == 0x1A && decide (0x8000 ≤ objIdx o) && decide (objIdx o < 0x8000 + 8192)
  get s o :=
    let x := tblGet (false, 0, 0) s.cyc.binds (objIdx o - 0x8000)
    [b2n x.1, x.2.1, x.2.2]
  put s _ o v :=
    let b := objIdx o - 0x8000
    .ok { s with cyc := { s.cyc with binds := tblSet (false, 0, 0) s.cyc.binds b (valB v 0, val v 1, val v 2)
                                     bindWas := tblSet (0, false, 0, 0) s.cyc.bindWas b (now s / 2 + 1, bindAt s b) } }

/-! ### Preemption and pauses (R221, R226, R238, R240) -/

/-- An edge or uplink port. -/
def macPort (_ : State) (o : Nat) : Bool := objIn 0x01 18 o

/-- KN_PREEMPT_SET: verification starts again (R222). -/
def preemptCmd : SetCmd where
  defs o := [pFlag, pNum 0 255, pFlag, pNum 1 128].map (·.when (decide (objIdx o < 18)))
  objOk _ o := objIn 0x01 20 o
  get s o :=
    let x := preAt s (objIdx o)
    [b2n x.enable, x.mask, b2n x.verDis, x.verTime]
  put s _ o v :=
    let p := objIdx o
    if 18 ≤ p then .ok s
    else .ok (startVerify (setPre s p { preAt s p with enable := valB v 0, mask := val v 1, verDis := valB v 2, verTime := val v 3 }) p)

/-- The number of a verification state, in the order of R226. -/
def verNo : VerState → Nat
  | .unknown => 0 | .verifying => 1 | .succeeded => 2 | .failed => 3 | .disabled => 4

/-- KN_PREEMPT_READ: the parameters, then the verification state, preemptionActive and holdAdvance in ns (log entry 35). -/
def preemptReadRun : State → Request → Res := onObject macPort (fun s _ o =>
  let p := objIdx o
  let adv := if lineMbps s p = 0 then 0 else holdAdvance s p / 65536
  .ok s (preemptCmd.read s o ++ leBytes 4 (verNo (preAt s p).ver) ++ leBytes 4 (b2n (preemptActive s p)) ++ leBytes 4 adv ++
    leBytes 4 0) [])

/-- KN_PAUSE_SET: PAUSE_CLASS_MASK, the PFC enables and the watchdog time in ms. -/
def pauseCmd : SetCmd where
  defs o := [pNum 0 255, pNum 0 255, pNum 1 10000].map (·.when (decide (objIdx o < 18)))
  objOk _ o := objIn 0x01 20 o
  get s o :=
    let x := pauseAt s (objIdx o)
    [x.mask, x.pfc, x.wdTime]
  put s _ o v :=
    let p := objIdx o
    if 18 ≤ p then .ok s else .ok (setPause s p { pauseAt s p with mask := val v 0, pfc := val v 1, wdTime := val v 2 })

/-! ### Redundant streams (R242, R244, R246, R252; log entry 36) -/

/-- A handle has an identity entry with the ring port's bit. -/
def ringIdentified (s : State) (h : Nat) : Bool :=
  s.frer.ids.any (fun e => e.2.valid && e.2.handle == h && bitOf e.2.ports 18)

/-- KN_STREAM_ID_SET. -/
def streamIdCmd : SetCmd where
  defs _ := [pEnum 2, pWide 0 (2 ^ 48 - 1), pNum 0 4095, pNum 0 (2 ^ 19 - 1), pNum 0 8191]
  objOk _ o := objIn 0x06 16384 o
  get s o :=
    let x := tblGet {} s.frer.ids (objIdx o)
    [b2n x.smac, x.mac, x.vid, x.ports, x.handle]
  put s _ o v :=
    let x : StreamId := { valid := true, smac := valB v 0, mac := val v 1, vid := val v 2, ports := val v 3, handle := val v 4 }
    if bitOf x.ports 18 && (rcvyAt s x.handle).isMatch then .error (0x15, 0)
    else .ok { s with frer := { s.frer with ids := tblSet {} s.frer.ids (objIdx o) x } }

/-- KN_FRER_GEN_SET. -/
def frerGenCmd : SetCmd where
  defs _ := [pFlag, pEnum 3, pNum 0 65535]
  objOk _ o := objIn 0x07 8192 o
  get s o :=
    let x := genAt s (objIdx o)
    [b2n x.enable, x.split, x.next]
  put s _ o v :=
    let x : Gen := { enable := valB v 0, split := val v 1, next := val v 2 }
    .ok { s with frer := { s.frer with gen := tblSet {} s.frer.gen (objIdx o) x } }

/-- KN_FRER_RCVY_SET: the entry takes any next frame, and its latent-error period starts; entries of receive buffers have no
parameters. -/
def frerRcvyCmd : SetCmd where
  defs o := [pFlag, pEnum 2, pNum 2 128, pNum 1 10000, pFlag, pFlag, pFlag, pNum 2 4, pNum 1 65535, pNum 10 60000].map
    (·.when (decide (objIdx o < 8192)))
  objOk _ o := objIn 0x08 16384 o
  get s o :=
    let x := rcvyAt s (objIdx o)
    [b2n x.enable, b2n x.isMatch, x.history, x.timeout, b2n x.popRtag, b2n x.takeNoSeq, b2n x.latent, x.paths, x.diff, x.period]
  put s _ o v :=
    let i := objIdx o
    if 8192 ≤ i then .ok s
    else if valB v 1 && ringIdentified s i then .error (0x15, 0)
    else .ok (setRcvy s i { rcvyAt s i with
      enable := valB v 0, isMatch := valB v 1, history := val v 2, timeout := val v 3, popRtag := valB v 4, takeNoSeq := valB v 5
      latent := valB v 6, paths := val v 7, diff := val v 8, period := val v 9
      takeAny := true, lastPass := now s, passed := 0, disc := 0, perEnd := now s + msTicks (val v 9) })

/-! ### The rows -/

/-- KN_QUEUE_SET. -/
def knQueueSet (s : State) : State := runKn s 0x0301 queueSetCmd.exe
/-- How Keanak executes KN_GATE_LOAD. -/
def gateLoadExe : Exe := { need := fun _ => 12, bulk := fun _ => 2, run := gateLoadRun }
/-- KN_GATE_LOAD. -/
def knGateLoad (s : State) : State := runKn s 0x0302 gateLoadExe
/-- How Keanak executes KN_GATE_CANCEL. -/
def gateCancelExe : Exe := { need := fun _ => 8, run := gateCancelRun }
/-- KN_GATE_CANCEL. -/
def knGateCancel (s : State) : State := runKn s 0x0303 gateCancelExe
/-- How Keanak executes KN_GATE_READ. -/
def gateReadExe : Exe := { need := fun _ => 8, bulk := fun _ => 1, run := gateReadRun }
/-- KN_GATE_READ. -/
def knGateRead (s : State) : State := runKn s 0x0304 gateReadExe
/-- KN_SHAPER_SET. -/
def knShaperSet (s : State) : State := runKn s 0x0305 shaperCmd.exe
/-- KN_STREAM_SHAPER_BIND. -/
def knStreamShaperBind (s : State) : State := runKn s 0x0306 streamBindCmd.exe
/-- KN_QSAMPLE_SET. -/
def knQsampleSet (s : State) : State := runKn s 0x0307 qsampleCmd.exe
/-- How Keanak executes KN_QSAMPLE_READ. -/
def qsampleReadExe : Exe := { need := fun _ => 8, run := qsampleReadRun }
/-- KN_QSAMPLE_READ. -/
def knQsampleRead (s : State) : State := runKn s 0x0308 qsampleReadExe
/-- KN_SLOT_EGRESS_BIND. -/
def knSlotEgressBind (s : State) : State := runKn s 0x0309 slotBindCmd.exe
/-- KN_PREEMPT_SET. -/
def knPreemptSet (s : State) : State := runKn s 0x0401 preemptCmd.exe
/-- How Keanak executes KN_PREEMPT_READ. -/
def preemptReadExe : Exe := { need := fun _ => 8, run := preemptReadRun }
/-- KN_PREEMPT_READ. -/
def knPreemptRead (s : State) : State := runKn s 0x0402 preemptReadExe
/-- KN_PAUSE_SET. -/
def knPauseSet (s : State) : State := runKn s 0x0403 pauseCmd.exe
/-- KN_STREAM_ID_SET. -/
def knStreamIdSet (s : State) : State := runKn s 0x0404 streamIdCmd.exe
/-- KN_FRER_GEN_SET. -/
def knFrerGenSet (s : State) : State := runKn s 0x0405 frerGenCmd.exe
/-- KN_FRER_RCVY_SET. -/
def knFrerRcvySet (s : State) : State := runKn s 0x0406 frerRcvyCmd.exe

/-! ### Meanings -/

/-- KN_QUEUE_SET (R192). -/
def execKnQueueSet (s : State) : Host.Outcome State Fault Refusal :=
  checked (Instr.wf (.knQueueSet)) s (knQueueSet s)

/-- KN_GATE_LOAD (R201). -/
def execKnGateLoad (s : State) : Host.Outcome State Fault Refusal :=
  checked (Instr.wf (.knGateLoad)) s (knGateLoad s)

/-- KN_GATE_CANCEL (R203). -/
def execKnGateCancel (s : State) : Host.Outcome State Fault Refusal :=
  checked (Instr.wf (.knGateCancel)) s (knGateCancel s)

/-- KN_GATE_READ (R203). -/
def execKnGateRead (s : State) : Host.Outcome State Fault Refusal :=
  checked (Instr.wf (.knGateRead)) s (knGateRead s)

/-- KN_SHAPER_SET (R209). -/
def execKnShaperSet (s : State) : Host.Outcome State Fault Refusal :=
  checked (Instr.wf (.knShaperSet)) s (knShaperSet s)

/-- KN_STREAM_SHAPER_BIND (R207). -/
def execKnStreamShaperBind (s : State) : Host.Outcome State Fault Refusal :=
  checked (Instr.wf (.knStreamShaperBind)) s (knStreamShaperBind s)

/-- KN_QSAMPLE_SET (R212). -/
def execKnQsampleSet (s : State) : Host.Outcome State Fault Refusal :=
  checked (Instr.wf (.knQsampleSet)) s (knQsampleSet s)

/-- KN_QSAMPLE_READ (R214). -/
def execKnQsampleRead (s : State) : Host.Outcome State Fault Refusal :=
  checked (Instr.wf (.knQsampleRead)) s (knQsampleRead s)

/-- KN_SLOT_EGRESS_BIND (R190). -/
def execKnSlotEgressBind (s : State) : Host.Outcome State Fault Refusal :=
  checked (Instr.wf (.knSlotEgressBind)) s (knSlotEgressBind s)

/-- KN_PREEMPT_SET (R221). -/
def execKnPreemptSet (s : State) : Host.Outcome State Fault Refusal :=
  checked (Instr.wf (.knPreemptSet)) s (knPreemptSet s)

/-- KN_PREEMPT_READ (R226). -/
def execKnPreemptRead (s : State) : Host.Outcome State Fault Refusal :=
  checked (Instr.wf (.knPreemptRead)) s (knPreemptRead s)

/-- KN_PAUSE_SET (R238). -/
def execKnPauseSet (s : State) : Host.Outcome State Fault Refusal :=
  checked (Instr.wf (.knPauseSet)) s (knPauseSet s)

/-- KN_STREAM_ID_SET (R242). -/
def execKnStreamIdSet (s : State) : Host.Outcome State Fault Refusal :=
  checked (Instr.wf (.knStreamIdSet)) s (knStreamIdSet s)

/-- KN_FRER_GEN_SET (R244). -/
def execKnFrerGenSet (s : State) : Host.Outcome State Fault Refusal :=
  checked (Instr.wf (.knFrerGenSet)) s (knFrerGenSet s)

/-- KN_FRER_RCVY_SET (R246). -/
def execKnFrerRcvySet (s : State) : Host.Outcome State Fault Refusal :=
  checked (Instr.wf (.knFrerRcvySet)) s (knFrerRcvySet s)

end Sys2Proof.Machine
end

