-- ==== Sys2Proof/Machine/KnPorts.lean ====
section
/-! DEFINITION. KnPorts.lean: commands on ports, cable tests, power over the pair and modules (R255, R264 to R273, R284, R519). -/

namespace Sys2Proof.Machine

open Sys2Proof

/-! ### Port parameters (R255, R264, R519) -/

/-- A pair of UPLINK_RATE and UPLINK_FEC that R280 lists. -/
def fecOk (rate fec : Nat) : Bool := rate == 0 || decide (fec < 2)

/-- The link parameters of an edge PHY differ (R264). -/
def linkParams (a b : PortCfg) : Bool :=
  a.an != b.an || a.adv != b.adv || a.forced != b.forced || a.role != b.role || a.nvp != b.nvp

/-- A LOOPBACK mode takes the link down towards the partner (R267). -/
def loopsLink (mode : Nat) : Bool := mode == 1 || mode == 2

/-- PoDL follows ADMIN_UP of its port (R275, R279). -/
def podlAdmin (s : State) (p : Nat) (up : Bool) : State :=
  if 16 ≤ p then s
  else if up then podlStart s p
  else if (podlAt s p).state = .lockout then s
  else setPodl s p { podlAt s p with state := .disabled, budgetWait := false }

/-- ADMIN_UP changes: set, the port may link again; cleared, it drains (R266, R489). An uplink's x_TXDIS follows it (R502). -/
def adminChange (s : State) (p : Nat) (up : Bool) : State :=
  let s1 := podlAdmin s p up
  let s2 := if up then setPort s1 p { portAt s1 p with draining := false } else startPortDrain s1 p
  if p < 16 then s2 else emit s2 (.pin (p - 14) (!up))

/-- KN_PORT_SET. -/
def portSetCmd : SetCmd where
  defs o :=
    let p := objIdx o
    let mac := decide (p < 18)
    let edge := decide (p < 16)
    [pFlag.when mac, (pNum 64 16000).when mac, (pEnum 4).when mac, pFlag.when edge, (pNum 0 31).when edge, (pEnum 5).when edge,
     (pEnum 4).when edge, (pNum 600 800).when edge, (pEnum 2).when (mac && !edge), (pEnum 3).when (mac && !edge)]
  objOk _ o := objIn 0x01 20 o
  get s o :=
    let c := (portAt s (objIdx o)).cfg
    [b2n c.adminUp, c.maxFrame, c.loopback, b2n c.an, c.adv, c.forced, c.role, c.nvp, c.upRate, c.upFec]
  put s _ o v :=
    let p := objIdx o
    let x := portAt s p
    let c : PortCfg := { adminUp := valB v 0, maxFrame := val v 1, loopback := val v 2, an := valB v 3, adv := val v 4
                         forced := val v 5, role := val v 6, nvp := val v 7, upRate := val v 8, upFec := val v 9 }
    if 18 ≤ p then .ok s
    else if 16 ≤ p && !fecOk c.upRate c.upFec then .error (6, 10)
    else
      let s1 := setPort s p { x with cfg := c
                                     frameWas := if c.maxFrame = x.cfg.maxFrame then x.frameWas else some (x.cfg.maxFrame, nt16 s) }
      let retrain := linkParams c x.cfg || c.upRate != x.cfg.upRate || c.upFec != x.cfg.upFec ||
        (loopsLink c.loopback && !loopsLink x.cfg.loopback)
      let s2 := if retrain then portLinkDown s1 p else s1
      .ok (if c.adminUp = x.cfg.adminUp then s2 else adminChange s2 p c.adminUp)

/-! ### Port status (R268; log entry 37) -/

/-- Position of a PoDL state in R268. -/
def podlNo : PodlState → Nat
  | .disabled => 0 | .detecting => 1 | .classifying => 2 | .inrush => 3 | .powered => 4 | .backoff => 5 | .lockout => 6 | .test => 7

/-- The status word of a port; a port without PoDL or with a rate that the word has no code for reads its reset values there. -/
def statusWord (s : State) (p : Nat) : Nat :=
  if 18 ≤ p then 0xF00 + b2n (rport s (rpOf p)).link
  else
    let x := portAt s p
    let head := b2n x.link + 2 * b2n x.anDone + 4 * (if x.link ∧ p < 16 then x.rate else 0) + 32 * b2n x.master +
      64 * b2n x.polInv + 128 * b2n (x.cfg.loopback != 0)
    if p < 16 then
      let y := podlAt s p
      head + 256 * y.pdClass + 4096 * podlNo y.state + 65536 * y.fault
    else head + 0xF00

/-- KN_PORT_STATUS. -/
def portStatusRun : State → Request → Res := onObject (fun _ o => objIn 0x01 20 o) (fun s _ o =>
  .ok s (leBytes 4 (statusWord s (objIdx o))) [])

/-! ### Cable tests (R269 to R271; log entry 38) -/

/-- KN_CABLE_TEST: the link and PoDL power are taken down; the response carries the port's last result record. -/
def cableTestRun : State → Request → Res := onObject (fun _ o => objIn 0x01 16 o) (fun s r o =>
  let p := objIdx o
  let y := podlAt s p
  if (y.state = .lockout ∧ y.fault = 9) ∨ (portAt s p).cableTest = true then .fail 9 0
  else
    let v := some (portSetCmd.read s o)
    let t := portLinkDown (auditChange s r o v v) p
    let t1 := setPort t p { portAt t p with cableTest := true }
    let t2 := if y.state = .disabled ∨ y.state = .lockout then t1
      else setPodl t1 p { podlAt t1 p with state := .test, budgetWait := false }
    .ok t2 (leBytes 4 (portAt s p).cableRes) [])

/-- The distance that a delay spans, in units of 0.5 m, halves rounded up: d = NVP × c × t / 2 (R272). -/
def cableDist (nvp delay : Nat) : Nat := (2 * nvp * 299792458 * delay + 10 ^ 12 * 65536) / (2 * 10 ^ 12 * 65536)

/-- A reflection lies at most 127 m away (R270). -/
def withinReach (nvp : Nat) (x : Reflection) : Bool := decide (nvp * 299792458 * x.delay ≤ 254 * 10 ^ 12 * 65536)

/-- The nearest of some reflections. DESIGN CHOICE (log entry 115): R270 does not say which of several is reported. -/
def nearest : List Reflection → Option Reflection
  | [] => none
  | x :: l => some (l.foldl (fun a y => if y.delay < a.delay then y else a) x)

/-- The result record of a code and the reflection it reports, AMPL rounded to the nearest unit (R271; log entry 115). -/
def cableRecord (nvp code : Nat) (x : Option Reflection) : Nat :=
  match x with
  | none => code + 16 * 0xFF
  | some r => code + 16 * cableDist nvp r.delay + 4096 * ((r.size * 255 + 32768) / 65536)

/-- The result of a cable test: of the rows that apply the first (R270). -/
def cableResult (nvp : Nat) (m : CableEcho) : Nat :=
  let l := m.echoes.filter (withinReach nvp)
  let strong := fun (x : Reflection) => decide (7 * 65536 < 10 * x.size)
  let weak := fun (x : Reflection) => decide (2 * 65536 ≤ 10 * x.size) && !strong x
  if m.overlapped then cableRecord nvp 5 none
  else match nearest (l.filter (fun x => x.short && strong x)), nearest (l.filter (fun x => !x.short && strong x)) with
    | some x, _ => cableRecord nvp 2 (some x)
    | none, some x => cableRecord nvp 1 (some x)
    | none, none =>
      if m.reversed then cableRecord nvp 3 none
      else match nearest (l.filter weak) with
        | some x => cableRecord nvp 4 (some x)
        | none => cableRecord nvp 0 none

/-- CABLE_TEST_DONE: the result record is kept, and the port may link again; its PoDL controller detects again. -/
def cableTestDone (s : State) (p : Nat) (m : CableEcho) : State :=
  let x := portAt s p
  if !x.cableTest then s
  else
    let s1 := setPort s p { x with cableTest := false, cableRes := cableResult x.cfg.nvp m }
    if (podlAt s1 p).state = .test then setPodl s1 p { podlAt s1 p with state := .detecting } else s1

/-! ### Power over the pair (R273, R275) -/

/-- What KN_PODL_SET does to the controller of a port: PODL_ENABLE cleared acts at once; a port locked out detects again, unless the
pair carries voltage, which its next probe finds. -/
def podlSetState (s : State) (p : Nat) : State :=
  let x := podlAt s p
  if !x.enable then
    setPodl s p { x with state := .disabled, budgetWait := false, offAt := if podlOn x then some (now s) else x.offAt }
  else if x.state = .lockout then setPodl s p { x with state := .detecting, faults := 0, budgetWait := false }
  else podlStart s p

/-- KN_PODL_SET: a port's parameters, and BUDGET in mW on PACKAGE. -/
def podlSetCmd : SetCmd where
  defs o :=
    let e := objCls o == 0x01
    [pFlag.when e, (pNum 0 9).when e, (pEnum 11).when e, (pNum 2 8).when e, (pNum 10 1000).when e, (pNum 0 15).when e,
     (pNum 1 60).when e, (pNum 0 200000).when (!e)]
  objOk s o := objIn 0x01 16 o || isPackage s o
  get s o :=
    let x := podlAt s (objIdx o)
    if objCls o = 0x01 then [b2n x.enable, x.classMax, x.allowUn, x.shortF, x.tCut, x.retryLim, x.retryDel, 0]
    else [0, 0, 0, 0, 0, 0, 0, s.ports.budget]
  put s _ o v :=
    let p := objIdx o
    if objCls o = 0x01 then
      .ok (podlSetState (setPodl s p { podlAt s p with enable := valB v 0, classMax := val v 1, allowUn := val v 2, shortF := val v 3
                                                       tCut := val v 4, retryLim := val v 5, retryDel := val v 6 }) p)
    else .ok { s with ports := { s.ports with budget := val v 7 } }

/-! ### Modules (R284; log entry 37) -/

/-- KN_MODULE_READ: byte 0 the port 16 to 19, byte 1 the page, byte 2 the offset, byte 3 the length; the module's octets, or ABSENT where
no module answers or its region is out of service. -/
def moduleReadRun (data : Option Octets) (s : State) (r : Request) : Res :=
  let p := leAt r.params 0 1
  let n := leAt r.params 3 1
  if leAt r.params 4 4 ≠ 0 then .fail 4 0
  else if p < 16 ∨ 20 ≤ p then .fail 6 1
  else if n = 0 ∨ 240 < n ∨ 256 < leAt r.params 2 1 + n then .fail 6 4
  else if !inService s (if p < 18 then .edge else .ring) then .fail 0xB 0
  else match data with
    | none => .fail 0xB 0
    | some d => .ok s ((padTo n d).take n) []

/-! ### The rows -/

/-- KN_PORT_SET. -/
def knPortSet (s : State) : State := runKn s 0x0501 portSetCmd.exe
/-- How Keanak executes KN_PORT_STATUS. -/
def portStatusExe : Exe := { need := fun _ => 8, run := portStatusRun }
/-- KN_PORT_STATUS. -/
def knPortStatus (s : State) : State := runKn s 0x0502 portStatusExe
/-- How Keanak executes KN_CABLE_TEST. -/
def cableTestExe : Exe := { need := fun _ => 8, run := cableTestRun }
/-- KN_CABLE_TEST. -/
def knCableTest (s : State) : State := runKn s 0x0503 cableTestExe
/-- KN_PODL_SET. -/
def knPodlSet (s : State) : State := runKn s 0x0504 podlSetCmd.exe
/-- How Keanak executes KN_MODULE_READ. -/
def moduleReadExe (data : Option Octets) : Exe := { need := fun _ => 4, run := moduleReadRun data }
/-- KN_MODULE_READ. -/
def knModuleRead (s : State) (data : Option Octets) : State := runKn s 0x0505 (moduleReadExe data)

/-! ### Meanings -/

/-- KN_PORT_SET (R519). -/
def execKnPortSet (s : State) : Host.Outcome State Fault Refusal :=
  checked (Instr.wf (.knPortSet)) s (knPortSet s)

/-- KN_PORT_STATUS (R268). -/
def execKnPortStatus (s : State) : Host.Outcome State Fault Refusal :=
  checked (Instr.wf (.knPortStatus)) s (knPortStatus s)

/-- KN_CABLE_TEST (R269). -/
def execKnCableTest (s : State) : Host.Outcome State Fault Refusal :=
  checked (Instr.wf (.knCableTest)) s (knCableTest s)

/-- CABLE_TEST_DONE (R269). -/
def execCableTestDone (p : Nat) (echo : CableEcho) (s : State) : Host.Outcome State Fault Refusal :=
  checked (Instr.wf (.cableTestDone p echo)) s (cableTestDone s p echo)

/-- KN_PODL_SET (R273). -/
def execKnPodlSet (s : State) : Host.Outcome State Fault Refusal :=
  checked (Instr.wf (.knPodlSet)) s (knPodlSet s)

/-- KN_MODULE_READ (R284). -/
def execKnModuleRead (data : Option Octets) (s : State) : Host.Outcome State Fault Refusal :=
  checked (Instr.wf (.knModuleRead data)) s (knModuleRead s data)

end Sys2Proof.Machine
end

