-- ==== Sys2Proof/Machine/KnHost.lean ====
section
/-! DEFINITION. KnHost.lean: commands on counter pages, queue slots, interrupts, DMA queues and power-gated regions (R23, R295, R310,
R353, R408, R520). -/

namespace Sys2Proof.Machine

open Sys2Proof

/-! ### Counter pages (R297, R408) -/

/-- The value of a function that a record covers: whether its page is granted (R403; log entry 24). -/
def pageValue (s : State) (f : Nat) : Octets := leBytes 4 (b2n (funcAt s f).page)

/-- A counter page is granted or withdrawn; a page of a VF that does not exist cannot be granted. -/
def pageRun (grant : Bool) : State → Request → Res := onObject (fun _ o => objIn 0x0D 128 o) (fun s r o =>
  let f := objIdx o
  if grant && !funcExists s f then .fail 0xB 0
  else
    let t := setFunc s f { funcAt s f with page := grant }
    let was := tblSet (0, false) s.host.pageWas f (now s + 1, pageSeen s f)
    let u := auditChange s r o (some (pageValue s f)) (some (pageValue t f))
    .ok (setFunc { u with host := { u.host with pageWas := was } } f { funcAt u f with page := grant }) [] [])

/-! ### Queue slots (R295; log entry 39) -/

/-- A DMA_QUEUE object (R411). -/
def dmaObj (_ : State) (o : Nat) : Bool := objCls o == 0x0C && decide (objIdx o < 0x5000) && queueExists (objIdx o)

/-- The rings of a queue object: both of a generation-1 pair (R308). -/
def ringsOf (q : Nat) : List Nat := if qKind q = 4 then [q, q + 0x1000] else [q]

/-- The slot that holds a queue: function × 4 096 + slot. -/
def slotOf (s : State) (q : Nat) : Option Nat := (s.host.slots.find? (fun e => e.2 == q + 1)).map (·.1)

/-- KN_FUNC_QUEUE_MAP: the queue's function, 0xFFFF for none, and its slot. -/
def queueMapCmd : SetCmd where
  defs _ := [{ ok := fun v => decide (v < 128) || v == 0xFFFF }, pNum 0 3967]
  objOk := dmaObj
  get s o := match slotOf s (objIdx o) with
    | some k => [k / 4096, k % 4096]
    | none => [0xFFFF, 0]
  put s _ o v :=
    let q := objIdx o
    let k := val v 0 * 4096 + val v 1
    let held := tblGet 0 s.host.slots k
    let free := s.host.slots.filter (fun e => e.2 != q + 1)
    if (ringsOf q).any (fun x => (qAt s x).state != .disabled) then .error (9, 0)
    else if val v 0 = 0xFFFF then .ok { s with host := { s.host with slots := free } }
    else if slotCount (val v 0) ≤ val v 1 then .error (6, 2)
    else if held ≠ 0 ∧ held ≠ q + 1 then .error (0x15, 0)
    else .ok { s with host := { s.host with slots := tblSet 0 free k (q + 1) } }

/-! ### Event sources (R300, R520) -/

/-- KN_EVENT_MAP. -/
def eventMapCmd : SetCmd where
  defs _ := [{ ok := fun v => decide (v < 128) || v == 0xFFFF }, {}, {}]
  objOk _ o := objIn 0x0E 2048 o
  get s o := match tblGet (0, 0) s.host.evMap (objIdx o) with
    | (0, _) => [0xFFFF, 0, 0]
    | (f + 1, v) => [f, v, (vecAt s f v).moder]
  put s r o v :=
    let f := val v 0
    let src := objIdx o
    let h := { s.host with evWas := tblSet (0, 0, 0) s.host.evWas src (now s + 1, vecOf s src) }
    if f = 0xFFFF then .ok { s with host := { h with evMap := tblErase h.evMap src } }
    else if numVecs f ≤ val v 1 then .error (6, 2)
    else if bitOf r.mask 2 ∧ 1000 < val v 2 then .error (6, 3)
    else
      let t := { s with host := { h with evMap := tblSet (0, 0) h.evMap src (f + 1, val v 1) } }
      .ok (if bitOf r.mask 2 then setVec t f (val v 1) { vecAt t f (val v 1) with moder := val v 2 } else t)

/-! ### DMA queues (R309 to R312, R353; log entry 39) -/

/-- A power of two from `lo` to `hi`. -/
def powerIn (lo hi v : Nat) : Bool := decide (lo ≤ v) && decide (v ≤ hi) && (List.range 16).any (fun i => 2 ^ i == v)

/-- RING_ADDR: of a generation-1 pair the transmit ring's, then the receive ring's. -/
def pRingAddr (pair : Bool) : PDef where
  size := if pair then 16 else 8
  wide := true
  ok v := fld v 0 64 % 256 == 0 && fld v 64 64 % 256 == 0

/-- RING_SIZE of a kind of queue; of a pair one for each ring. -/
def pRingSize (kind : Nat) : PDef where
  size := if kind = 4 then 8 else 4
  ok v := if kind = 4 then powerIn 8 4096 (fld v 0 32) && powerIn 8 4096 (fld v 32 32)
    else if kind = 3 then powerIn 16 32768 v else powerIn 8 32768 v

/-- A target word: its KIND names a kind (R14, R310, R318). -/
def pTarget : PDef := { enc := fun v => decide (v % 16 < 3), ok := fun v => decide (v < 2 ^ 32) }

/-- The parameters of R310 and ENABLE. -/
def dmaqDefs (o : Nat) : List PDef :=
  let q := objIdx o
  let k := qKind q
  let rx := k == 1 || k == 4
  [pRingAddr (k == 4), pRingSize k,
   ({ ok := fun v => decide (v < 512) && v / 128 == qCluster q } : PDef).when (decide (k < 3)), (pNum 0 3).when (k != 3),
   pFlag.when (k != 3), (pNum 0 0x1FFFFF).when (k == 0), pTarget.when (k == 4), pFlag.when rx, (pNum 1 64).when rx,
   (pNum 0 10000).when rx, pFlag.when (k == 1), (pNum 0 255).when (k == 1), pFlag]

/-- A queue is neither DISABLED nor DRAINING. -/
def ringOn (s : State) (q : Nat) : Bool := (qAt s q).state != .disabled && (qAt s q).state != .draining

/-- The present parameters of a queue object. -/
def dmaqGet (s : State) (o : Nat) : List Nat :=
  let q := objIdx o
  let x := qAt s q
  let y := qAt s (if qKind q = 4 then q + 0x1000 else q)
  let two := fun (w a b : Nat) => if qKind q = 4 then a + b * 2 ^ w else a
  [two 64 x.ringAddr y.ringAddr, two 32 (ringSize s q) (ringSize s (q + 0x1000)), qNum (cqOf s q), x.prio, b2n x.noSnoop, x.allow,
   x.g1Target, b2n y.errored, y.maxChain, y.waitLim, b2n y.rxCrc, y.rxCrcStart, b2n ((ringsOf q).any (ringOn s))]

/-- The parameters of a queue object are set; of a pair those of both rings. -/
def dmaqPut (s : State) (q : Nat) (v : List Nat) : State :=
  let pair := qKind q == 4
  let one := fun (x : QReg) (addr size : Nat) =>
    { x with ringAddr := addr, ringSize := size, prio := val v 3, noSnoop := valB v 4 }
  let rx := fun (x : QReg) =>
    { x with errored := valB v 7, maxChain := val v 8, waitLim := val v 9, rxCrc := valB v 10, rxCrcStart := val v 11 }
  if pair then
    let s1 := setQ s q { one (qAt s q) (fld (val v 0) 0 64) (fld (val v 1) 0 32) with g1Target := val v 6 }
    setQ s1 (q + 0x1000) (rx (one (qAt s1 (q + 0x1000)) (fld (val v 0) 64 64) (fld (val v 1) 32 32)))
  else
    let y := one (qAt s q) (val v 0) (val v 1)
    let z := if qKind q = 1 then rx y else y
    setQ s q { z with allow := val v 5, cq := if qKind q < 3 then val v 2 + 1 else 0 }

/-- ENABLE of a queue object: 1 enables what is DISABLED where R309 allows, 0 removes what is enabled (R312, R355). -/
def dmaqEnable (s : State) (q : Nat) (en : Bool) : Except (Nat × Nat) State :=
  let rings := ringsOf q
  if en then
    let off := rings.filter (fun x => (qAt s x).state == .disabled)
    if rings.any (fun x => (qAt s x).state == .draining) then .error (9, 0)
    else if off != [] && !mayEnable s q then .error (0x15, 0)
    else .ok (off.foldl enableQueue s)
  else if qKind q = 3 ∧ (qAt s q).state ≠ .disabled ∧ boundLive s q ≠ [] then .error (9, 0)
  else .ok ((rings.filter (ringOn s)).foldl startDrain s)

/-- KN_DMAQ_SET. -/
def dmaqCmd : SetCmd where
  defs := dmaqDefs
  objOk := dmaObj
  get := dmaqGet
  put s r o v :=
    let q := objIdx o
    if (dmaqGet s o).take 3 ≠ v.take 3 ∧ (ringsOf q).any (fun x => (qAt s x).state != .disabled) = true then .error (9, 0)
    else
      let t := dmaqPut s q v
      if bitOf r.mask 12 then dmaqEnable t q (valB v 12) else .ok t

/-- KN_DMAQ_SET: an ENABLE that R309 refuses is counted (R309). -/
def dmaqRun (s : State) (r : Request) : Res :=
  match dmaqCmd.run s r with
  | .fail 0x15 d => .failAs (count s 0x08 0 0) 0x15 d
  | x => x

/-- KN_DMAQ_RECOVER: byte 8 the action RESUME, SKIP or RESET, byte 9 the ring of a generation-1 pair. -/
def dmaqRecoverRun : State → Request → Res := onObject dmaObj (fun s r o =>
  let q := objIdx o
  let a := leAt r.params 8 1
  let ring := leAt r.params 9 1
  let x := q + 0x1000 * ring
  if 2 < a then .fail 4 2
  else if leAt r.params 10 6 ≠ 0 then .fail 4 0
  else if (if qKind q = 4 then 2 ≤ ring else ring ≠ 0) then .fail 6 3
  else match recoverQueue s x a with
    | none => .fail 9 0
    | some t =>
      let u := auditChange s r o (some (dmaqCmd.read s o)) (some (dmaqCmd.read t o))
      .ok ((recoverQueue u x a).getD u) [] [])

/-- Number of a queue's state (R311). -/
def qStateNo : QSt → Nat
  | .disabled => 0 | .running => 1 | .draining => 2 | .error => 3 | .halted => 4

/-- A ring's state and latch: state, reason, write, descriptor fetch, index, failing address. -/
def ringStatus (s : State) (q : Nat) : Octets :=
  let x := qAt s q
  leBytes 1 (qStateNo x.state) ++ leBytes 1 x.reason ++ leBytes 1 (b2n x.errDir) ++ leBytes 1 (b2n x.errFetch) ++
    leBytes 2 x.errIdx ++ leBytes 2 0 ++ leBytes 8 x.errAddr

/-- KN_DMAQ_STATUS: of a generation-1 pair the transmit ring's, then the receive ring's. -/
def dmaqStatusRun : State → Request → Res := onObject dmaObj (fun s _ o =>
  .ok s ((ringsOf (objIdx o)).flatMap (ringStatus s)) [])

/-! ### Power-gated regions (R23; log entry 40) -/

/-- KN_REGION_POWER: byte 8 is 1 to gate the Host or Record region, 0 to ungate it, which starts a region restart. -/
def regionPowerRun : State → Request → Res := onObject (fun _ o => objIn 0x13 6 o) (fun s r o =>
  let g := regionOf (objIdx o)
  let a := leAt r.params 8 1
  let f := fun (t : State) =>
    if a = 1 then (if t.regs.gated.contains g then t else regionDown t g false)
    else if t.regs.gated.contains g then regionDown t g true else t
  if leAt r.params 9 7 ≠ 0 then .fail 4 0
  else if 1 < a then .fail 6 2
  else if g ≠ .host ∧ g ≠ .record then .fail 0x15 0
  else .ok (f (auditChange s r o (some (regionValue s (objIdx o))) (some (regionValue (f s) (objIdx o))))) [] [])

/-! ### The rows -/

/-- How Keanak executes KN_COUNTER_PAGE_GRANT. -/
def counterPageGrantExe : Exe := { need := fun _ => 8, run := pageRun true }
/-- KN_COUNTER_PAGE_GRANT. -/
def knCounterPageGrant (s : State) : State := runKn s 0x0009 counterPageGrantExe
/-- How Keanak executes KN_COUNTER_PAGE_WITHDRAW. -/
def counterPageWithdrawExe : Exe := { need := fun _ => 8, run := pageRun false }
/-- KN_COUNTER_PAGE_WITHDRAW. -/
def knCounterPageWithdraw (s : State) : State := runKn s 0x000A counterPageWithdrawExe
/-- KN_FUNC_QUEUE_MAP. -/
def knFuncQueueMap (s : State) : State := runKn s 0x0601 queueMapCmd.exe
/-- KN_EVENT_MAP. -/
def knEventMap (s : State) : State := runKn s 0x0602 eventMapCmd.exe
/-- How Keanak executes KN_DMAQ_SET. -/
def dmaqSetExe : Exe := { dmaqCmd.exe with run := dmaqRun }
/-- KN_DMAQ_SET. -/
def knDmaqSet (s : State) : State := runKn s 0x0603 dmaqSetExe
/-- How Keanak executes KN_DMAQ_RECOVER. -/
def dmaqRecoverExe : Exe := { need := fun _ => 9, run := dmaqRecoverRun }
/-- KN_DMAQ_RECOVER. -/
def knDmaqRecover (s : State) : State := runKn s 0x0604 dmaqRecoverExe
/-- How Keanak executes KN_DMAQ_STATUS. -/
def dmaqStatusExe : Exe := { need := fun _ => 8, run := dmaqStatusRun }
/-- KN_DMAQ_STATUS. -/
def knDmaqStatus (s : State) : State := runKn s 0x0605 dmaqStatusExe
/-- How Keanak executes KN_REGION_POWER. -/
def regionPowerExe : Exe := { need := fun _ => 9, run := regionPowerRun }
/-- KN_REGION_POWER. -/
def knRegionPower (s : State) : State := runKn s 0x0606 regionPowerExe

/-! ### Meanings -/

/-- KN_COUNTER_PAGE_GRANT (R408). -/
def execKnCounterPageGrant (s : State) : Host.Outcome State Fault Refusal :=
  checked (Instr.wf (.knCounterPageGrant)) s (knCounterPageGrant s)

/-- KN_COUNTER_PAGE_WITHDRAW (R408). -/
def execKnCounterPageWithdraw (s : State) : Host.Outcome State Fault Refusal :=
  checked (Instr.wf (.knCounterPageWithdraw)) s (knCounterPageWithdraw s)

/-- KN_FUNC_QUEUE_MAP (R295). -/
def execKnFuncQueueMap (s : State) : Host.Outcome State Fault Refusal :=
  checked (Instr.wf (.knFuncQueueMap)) s (knFuncQueueMap s)

/-- KN_EVENT_MAP (R520). -/
def execKnEventMap (s : State) : Host.Outcome State Fault Refusal :=
  checked (Instr.wf (.knEventMap)) s (knEventMap s)

/-- KN_DMAQ_SET (R310). -/
def execKnDmaqSet (s : State) : Host.Outcome State Fault Refusal :=
  checked (Instr.wf (.knDmaqSet)) s (knDmaqSet s)

/-- KN_DMAQ_RECOVER (R353). -/
def execKnDmaqRecover (s : State) : Host.Outcome State Fault Refusal :=
  checked (Instr.wf (.knDmaqRecover)) s (knDmaqRecover s)

/-- KN_DMAQ_STATUS (R343). -/
def execKnDmaqStatus (s : State) : Host.Outcome State Fault Refusal :=
  checked (Instr.wf (.knDmaqStatus)) s (knDmaqStatus s)

/-- KN_REGION_POWER (R23). -/
def execKnRegionPower (s : State) : Host.Outcome State Fault Refusal :=
  checked (Instr.wf (.knRegionPower)) s (knRegionPower s)

end Sys2Proof.Machine
end

