-- ==== Sys2Proof/Machine/Recorder.lean ====
section
/-! DEFINITION. Recorder.lean: what happens to the recorder's segments, writes, flushes, reads and drives (R362, R367 to R382). -/

namespace Sys2Proof.Machine

open Sys2Proof

/-! ### States (R377, R378) -/

/-- A drive takes a state; an entry into STALLED or FAILED feeds its fault source, and its reads are refused, wait or go on. -/
def driveTo (s : State) (d : Nat) (st : DriveSt) : State :=
  let was := (driveAt s d).state
  let s1 := setDriveState s d st
  let s2 := if was ≠ st ∧ (st = .stalled ∨ st = .failed) then feed s1 (384 + d) 0 0 else s1
  serveReads (pump s2 d) d

/-- A drive that the owner is disabling becomes DISABLED once every staged unit is written and flushed (R378). -/
def disableCheck (s : State) (d : Nat) : State :=
  let x := driveAt s d
  if x.disabling && x.state == .recording && x.staged.isEmpty && (openSegs s d).isEmpty then
    driveTo (setDrive s d { x with disabling := false, disabledByOwner := true }) d .disabled
  else s

/-- SEGMENT_CLOSE_TIME (R362): CLOSE_TIME has passed since the segment's first record. -/
def segmentCloseTime (s : State) (d stream : Nat) : State :=
  match s.geley.isOpen.find? (fun e => e.1 == d * 256 + stream) with
  | none => s
  | some (_, g) =>
    if inService s .record && due s (g.openedAt + msTicks (tblGet {} s.geley.streams stream).close) then closeSeg s d stream false
    else s

/-! ### Writes and flushes (R367, R368) -/

/-- A drive completes commands now. -/
def driveLive (s : State) (d : Nat) : Bool :=
  inService s .record && ((driveAt s d).state == .recording || (driveAt s d).state == .disabled)

/-- NVME_WRITE_DONE (R368): the outstanding write has completed; one that failed is issued again. A Flush follows an index block
and a label. -/
def nvmeWriteDone (s : State) (d : Nat) (ok : Bool) : State :=
  let x := driveAt s d
  match x.writing with
  | none => s
  | some n =>
    if !driveLive s d then s
    else if !ok then pump (setDrive s d { x with writing := none }) d
    else
      let hit := fun (u : RUnit) => u.unit == n && !u.written && (u.kind != .segment || u.unit != 0)
      let other := x.staged.any (fun u => hit u && u.kind != .segment)
      let x1 := { x with writing := none, unflushed := some (x.unflushed.getD (now s))
                         staged := x.staged.map (fun u => if hit u then { u with written := true } else u) }
      let s1 := setDrive s d x1
      pump (if other then issueFlush s1 d else s1) d

/-- NVME_FLUSH_TIMER (R368): 50 ms have passed since the first unflushed write. -/
def nvmeFlushTimer (s : State) (d : Nat) : State :=
  match (driveAt s d).unflushed with
  | none => s
  | some t => if driveLive s d && due s (t + msTicks 50) then issueFlush s d else s

/-- A released unit is counted; a label that has been flushed is the valid one (R367, R383). -/
def releaseUnit (s : State) (d : Nat) (u : RUnit) : State :=
  match u.kind with
  | .segment => count s 0x0A (256 + d) 4
  | .index => count s 0x0A (256 + d) 5
  | .label => setDrive s d { driveAt s d with labelSeq := leAt u.bytes 8 8, labelCopy := u.unit }

/-- NVME_FLUSH_DONE (R368): what the Flush covers leaves the cellar. A Flush that failed is issued again after 50 ms. -/
def nvmeFlushDone (s : State) (d : Nat) (ok : Bool) : State :=
  let x := driveAt s d
  if !x.flushing || !driveLive s d then s
  else if !ok then
    setDrive s d { x with flushing := false, unflushed := some (now s)
                          staged := x.staged.map (fun u => { u with flushing := false }) }
  else
    let gone := x.staged.filter (·.flushing)
    let s1 := setDrive s d { x with flushing := false, staged := x.staged.filter (fun u => !u.flushing) }
    let s2 := gone.foldl (fun t u => releaseUnit t d u) s1
    let more := (driveAt s2 d).staged.any (fun u => u.written && u.kind != .segment)
    serveReads (disableCheck (pump (if more then issueFlush s2 d else s2) d) d) d

/-! ### Links, stalls and resets (R378, R379) -/

/-- DRIVE_LINK_LOSS (R378): no link for 2 s; staged data is kept. -/
def driveLinkLoss (s : State) (d : Nat) : State :=
  driveTo (setDrive s d { rewriteAll (driveAt s d) with link := false, resetOn := false }) d .absent

/-- DRIVE_READY (R378): link up and controller ready. -/
def driveReady (s : State) (d : Nat) : State :=
  if (driveAt s d).state ≠ .absent ∨ !inService s .record then s
  else driveTo (setDrive s d { driveAt s d with link := true }) d .init

/-- DRIVE_STALL (R378, R379): the first controller reset is due at once. -/
def driveStall (s : State) (d : Nat) : State :=
  if (driveAt s d).state ≠ .recording ∨ !inService s .record then s
  else driveTo (setDrive s d { driveAt s d with resets := 0, resetOn := false, resetAt := now s }) d .stalled

/-- CONTROLLER_RESET (R379): at once and then every 2 s. -/
def controllerReset (s : State) (d : Nat) : State :=
  let x := driveAt s d
  if x.state ≠ .stalled ∨ x.resetOn = true ∨ !inService s .record ∨ due s x.resetAt = false then s
  else setDrive s d { x with resetOn := true, resetAt := now s + msTicks 2000 }

/-- CONTROLLER_RESET_END (R378, R379): after a success everything not released is written again; the third failure in a row ends
in FAILED. -/
def controllerResetEnd (s : State) (d : Nat) (ready : Bool) : State :=
  let x := driveAt s d
  if x.state ≠ .stalled ∨ x.resetOn = false ∨ !inService s .record then s
  else if ready then driveTo (setDrive s d { rewriteAll x with resetOn := false, resets := 0 }) d .recording
  else
    let s1 := count (setDrive s d { x with resetOn := false, resets := x.resets + 1 }) 0x0A (256 + d) 7
    if x.resets + 1 < 3 then s1 else driveTo s1 d .failed

/-- HEALTH_POLL (R372): a SMART log with a critical warning raises rec.rcN.health. -/
def healthPoll (s : State) (d : Nat) (log : Octets) : State :=
  if (driveAt s d).state = .absent ∨ !inService s .record ∨ leAt log 0 1 = 0 then s else signal s (1785 + d)

/-! ### Mounting (R365 to R367, R369, R370) -/

/-- A label copy is good: MAGIC and CRC (R367). -/
def labelGood (o : Octets) : Bool := leAt o 0 4 == 0x4C424C47 && leAt o 4092 4 == crc32c (padTo 4092 o)

/-- The valid label: the good copy with the higher LABEL_SEQ (R367). -/
def validLabel (m : MountData) : Option (Nat × Octets) :=
  match labelGood m.label0, labelGood m.label1 with
  | true, true => some (if leAt m.label0 8 8 < leAt m.label1 8 8 then (1, m.label1) else (0, m.label0))
  | true, false => some (0, m.label0)
  | false, true => some (1, m.label1)
  | false, false => none

/-- The seals that a label lists. -/
def labelSeals (o : Octets) : List Seal :=
  (List.range (min (leAt o 6 2) 64)).map (fun i =>
    let b := 40 + 32 * i
    { first := leAt o b 4, last := leAt o (b + 4) 4, time := leAt o (b + 8) 8, tag := leAt o (b + 16) 4, audit := leAt o (b + 20) 4 })

/-- An index block is good (R366). -/
def indexGood (o : Octets) : Bool :=
  leAt o 0 4 == 0x58444947 && leAt o 60 4 == crc32c (padTo 60 o ++ padTo 4096 (o.drop 64))

/-- The good index block with the highest WRITE_SEQ: its group and that sequence (R369). -/
def newestIndex (m : MountData) : Option (Nat × Nat) :=
  (m.index.filter (fun e => indexGood e.2)).foldl (fun a e =>
    let w := leAt e.2 16 8
    match a with
    | none => some (e.1, w)
    | some b => if b.2 < w then some (e.1, w) else some b) none

/-- A segment header is good (R363). -/
def headGood (o : Octets) : Bool := leAt o 0 4 == 0x47595347 && leAt o 120 4 == crc32c (padTo 120 o)

/-- The segments found in the group after the newest index block (R369). -/
def headsFound (m : MountData) : List Octets :=
  let above := fun (o : Octets) => match newestIndex m with
    | none => true
    | some b => decide (b.2 < leAt o 24 8)
  (m.heads.takeWhile (fun o => headGood o && above o)).take 64

/-- The index entry of a segment found by its header (R366, R369). -/
def idxOfHead (pos : Nat) (o : Octets) : IdxEnt :=
  { unit := pos, stream := leAt o 5 1, flags := 1 + 2 * b2n (bitOf (leAt o 6 2) 1) + 4 * b2n (bitOf (leAt o 6 2) 2)
    segSeq := leAt o 16 8, wseq := leAt o 24 8, firstNs := leAt o 32 8, lastNs := leAt o 44 8, records := leAt o 8 4
    firstRec := leAt o 52 4, crc := leAt o 124 4 }

/-- Streams and SEG_SEQ of the segments that an index block lists. -/
def indexSeqs (o : Octets) : List (Nat × Nat) :=
  ((List.range 64).filter (fun i => bitOf (leAt o (64 + 64 * i + 1) 1) 0)).map (fun i =>
    (leAt o (64 + 64 * i) 1, leAt o (64 + 64 * i + 8) 8))

/-- The time ranges of the segments that an index block lists. -/
def indexRanges (o : Octets) : List (Nat × Nat) :=
  ((List.range 64).filter (fun i => bitOf (leAt o (64 + 64 * i + 1) 1) 0)).map (fun i =>
    (leAt o (64 + 64 * i + 24) 8, leAt o (64 + 64 * i + 32) 8))

/-- SEG_SEQ of each stream: one more than the highest found, and never one that the part has given out (R369; log entry 22). -/
def mountSeqs (m : MountData) (x : Drive) : Tbl Nat :=
  let found := ((m.index.filter (fun e => indexGood e.2)).map (fun e => indexSeqs e.2)).flatten ++
    (headsFound m).map (fun o => (leAt o 5 1, leAt o 16 8))
  found.foldl (fun t e => tblSet 0 t e.1 (max (tblGet 0 t e.1) (e.2 + 1)))
    (if x.staged.isEmpty then [] else x.segSeqs)

/-- The drive after mounting steps 1 to 5 (R369). What is still staged is placed anew: segments, and a label that was not yet
valid (R379; log entry 22). -/
def mounted (d : Nat) (m : MountData) (x : Drive) (copy : Nat) (lab : Octets) : Drive :=
  let segs := (x.staged.filter (fun u => u.kind == .segment)).map
    (fun u => { u with unit := 0, wseq := 0, written := false, flushing := false })
  let owed := x.staged.any (fun u => u.kind == .label)
  let x1 : Drive := { x with
    units := m.units, lba := m.lba, reason := 0, labelSeq := leAt lab 8 8, labelCopy := copy, labelSerial := leAt lab 16 8
    formatTime := leAt lab 24 8, seals := if owed then x.seals else labelSeals lab, staged := segs, group := []
    writing := none, flushing := false, unflushed := none, segSeqs := mountSeqs m x
    ranges := (m.index.filter (fun e => indexGood e.2)).foldl (fun t e => tblSet [] t e.1 (indexRanges e.2)) [] }
  let n := groupsOf m.units
  let heads := headsFound m
  let top := (newestIndex m).map (·.2)
  let g := match newestIndex m with
    | none => nextOpenGroup n x1 0
    | some b => nextOpenGroup n x1 (b.1 + 1)
  let w0 := match heads.getLast?, top with
    | some o, _ => leAt o 24 8 + 1
    | none, some w => w + 1
    | none, none => 0
  let x2 : Drive := if heads.isEmpty then { x1 with ptr := 2 + 65 * g, wseq := w0 }
    else
      let ents := ((List.range heads.length).zip heads).map (fun e => idxOfHead e.1 e.2)
      let u : RUnit := { kind := .index, unit := 2 + 65 * g + 64, wseq := w0, bytes := indexBytes d g w0 ents }
      { x1 with staged := u :: x1.staged, wseq := w0 + 1, ranges := tblSet [] x1.ranges g (rangesOf ents)
                ptr := 2 + 65 * nextOpenGroup n x1 (g + 1) }
  if owed then stageLabel x2 d else x2

/-- The number of the first line of R373 that a drive does not meet; 0 where it is accepted. -/
def initCheck (m : MountData) : Nat :=
  if m.version < 0x00010400 then 1
  else if (m.lba ≠ 512 ∧ m.lba ≠ 4096) ∨ m.metadata ≠ 0 then 2
  else if m.mdts ≠ 0 ∧ m.mdts < 131072 then 3
  else if m.depth < 256 then 4 else 0

/-- DRIVE_MOUNT_DONE (R369, R371, R373, R378): the checks and the mounting reads of INIT have ended. REASON 1 to 4 is the line of
R373 that failed, 5 TOO_SMALL. -/
def driveMountDone (s : State) (d : Nat) (m : MountData) : State :=
  let x := driveAt s d
  if x.state ≠ .init ∨ !inService s .record then s
  else if initCheck m ≠ 0 then driveTo (setDrive s d { x with reason := initCheck m }) d .failed
  else if groupsOf m.units < 32 then driveTo (setDrive s d { x with units := m.units, lba := m.lba, reason := 5 }) d .unformatted
  else match validLabel m with
    | none => driveTo (setDrive s d { x with units := m.units, lba := m.lba, reason := 0 }) d .unformatted
    | some (copy, lab) =>
      driveTo (setDrive s d (mounted d m x copy lab)) d (if x.disabledByOwner then .disabled else .recording)

/-- FORMAT_DONE (R371, R378): both labels are written without seals and every sequence starts at 0. A format that did not complete
leaves the drive in FORMATTING. -/
def formatDone (s : State) (d : Nat) (ok : Bool) : State :=
  let x := driveAt s d
  if x.state ≠ .formatting ∨ !ok ∨ !inService s .record then s
  else
    let x1 : Drive := { x with seals := [], liveSeals := [], ranges := [], formatTime := ntNs s % 2 ^ 64
                               labelSerial := Config.partSerial, ptr := 2
                               wseq := 0, segSeqs := [], group := [], staged := [], labelSeq := x.labelSeq + 2, labelCopy := 1
                               disabledByOwner := false, disabling := false, reason := 0 }
    let s1 := emit (setDrive s d x1) (.nvme d 1 0 (labelBytes d (x.labelSeq + 1) x1))
    driveTo (emit s1 (.nvme d 1 1 (labelBytes d (x.labelSeq + 2) x1))) d .recording

/-! ### Reads (R381) -/

/-- RECORD_READ_DONE (R381): the drive answers the oldest read issued to it. -/
def recordReadDone (s : State) (d status : Nat) (data : Octets) : State :=
  let x := driveAt s d
  match x.readIssued with
  | [] => s
  | k :: _ =>
    if !driveLive s d then s
    else match keyJob s k with
      | none => setDrive s d (x.dropRead k)
      | some j =>
        if !mayIssue s j.q then s
        else
          let s1 := setDrive s d (x.dropRead k)
          if status ≠ 0 then count (readDone s1 j 2 status [] false) 0x0A (256 + d) 8
          else readDone s1 j 0 0 (data.take (dLen j.desc)) false

/-! ### Meanings -/

/-- SEGMENT_CLOSE_TIME (R362). -/
def execSegmentCloseTime (d : Nat) (stream : Nat) (s : State) : Host.Outcome State Fault Refusal :=
  checked (Instr.wf (.segmentCloseTime d stream)) s (segmentCloseTime s d stream)

/-- NVME_WRITE_DONE (R368). -/
def execNvmeWriteDone (d : Nat) (ok : Bool) (s : State) : Host.Outcome State Fault Refusal :=
  checked (Instr.wf (.nvmeWriteDone d ok)) s (nvmeWriteDone s d ok)

/-- NVME_FLUSH_TIMER (R368). -/
def execNvmeFlushTimer (d : Nat) (s : State) : Host.Outcome State Fault Refusal :=
  checked (Instr.wf (.nvmeFlushTimer d)) s (nvmeFlushTimer s d)

/-- NVME_FLUSH_DONE (R368). -/
def execNvmeFlushDone (d : Nat) (ok : Bool) (s : State) : Host.Outcome State Fault Refusal :=
  checked (Instr.wf (.nvmeFlushDone d ok)) s (nvmeFlushDone s d ok)

/-- DRIVE_LINK_LOSS (R378). -/
def execDriveLinkLoss (d : Nat) (s : State) : Host.Outcome State Fault Refusal :=
  checked (Instr.wf (.driveLinkLoss d)) s (driveLinkLoss s d)

/-- DRIVE_READY (R378). -/
def execDriveReady (d : Nat) (s : State) : Host.Outcome State Fault Refusal :=
  checked (Instr.wf (.driveReady d)) s (driveReady s d)

/-- DRIVE_MOUNT_DONE (R369). -/
def execDriveMountDone (d : Nat) (info : MountData) (s : State) : Host.Outcome State Fault Refusal :=
  checked (Instr.wf (.driveMountDone d info)) s (driveMountDone s d info)

/-- DRIVE_STALL (R378). -/
def execDriveStall (d : Nat) (s : State) : Host.Outcome State Fault Refusal :=
  checked (Instr.wf (.driveStall d)) s (driveStall s d)

/-- CONTROLLER_RESET (R379). -/
def execControllerReset (d : Nat) (s : State) : Host.Outcome State Fault Refusal :=
  checked (Instr.wf (.controllerReset d)) s (controllerReset s d)

/-- CONTROLLER_RESET_END (R379). -/
def execControllerResetEnd (d : Nat) (ready : Bool) (s : State) : Host.Outcome State Fault Refusal :=
  checked (Instr.wf (.controllerResetEnd d ready)) s (controllerResetEnd s d ready)

/-- HEALTH_POLL (R372). -/
def execHealthPoll (d : Nat) (log : Octets) (s : State) : Host.Outcome State Fault Refusal :=
  checked (Instr.wf (.healthPoll d log)) s (healthPoll s d log)

/-- FORMAT_DONE (R371). -/
def execFormatDone (d : Nat) (ok : Bool) (s : State) : Host.Outcome State Fault Refusal :=
  checked (Instr.wf (.formatDone d ok)) s (formatDone s d ok)

/-- RECORD_READ_DONE (R381). -/
def execRecordReadDone (d : Nat) (status : Nat) (data : Octets) (s : State) : Host.Outcome State Fault Refusal :=
  checked (Instr.wf (.recordReadDone d status data)) s (recordReadDone s d status data)

end Sys2Proof.Machine
end

