-- ==== Sys2Proof/Machine/KnRec.lean ====
section
/-! DEFINITION. KnRec.lean: commands on the recorder (R358, R362, R370, R371, R375 to R378, R382). -/

namespace Sys2Proof.Machine

open Sys2Proof

/-! ### Streams and quotas -/

/-- KN_REC_STREAM_SET: the change takes effect as the tick of its commit ends (R358, R384). -/
def recStreamCmd : SetCmd where
  defs _ := [pFlag, pEnum 3, pNum 64 16000, pNum 1 10000]
  objOk _ o := objIn 0x0F 256 o
  get s o :=
    let x := (s.geley.streamNext.find? (fun e => e.1 == objIdx o)).elim (tblGet {} s.geley.streams (objIdx o)) (·.2)
    [b2n x.enable, x.drive, x.snap, x.close]
  put s _ o v :=
    let x : RStream := { enable := valB v 0, drive := val v 1, snap := val v 2, close := val v 3 }
    .ok { s with geley := { s.geley with streamNext := tblInsert (objIdx o) x (tblErase s.geley.streamNext (objIdx o)) } }

/-- KN_REC_QUOTA_SET: Q in MiB, a multiple of 256, within the limit of R183, and READ_LIMIT in Gb/s (R375, R382). -/
def recQuotaCmd : SetCmd where
  defs _ := [{ ok := fun v => decide (256 ≤ v) && decide (v ≤ 3584) && v % 256 == 0 }, pNum 1 16]
  objOk := isPackage
  get s _ := [s.geley.quota, s.geley.readLimit]
  put s _ _ v :=
    if 4096 < s.vat.spillArea + val v 0 + 256 then .error (6, 1)
    else .ok { s with geley := { s.geley with quota := val v 0, readLimit := val v 1 } }

/-- KN_REC_FLUSH: the open segments of a stream close, or of all where OBJECT is PACKAGE (R362). -/
def recFlushRun : State → Request → Res :=
  onObject (fun s o => objIn 0x0F 256 o || isPackage s o) (fun s _ o =>
    .ok (if objCls o = 0x0F then closeStream s (objIdx o) false
      else (List.range 256).foldl (fun t i => closeStream t i false) s) [] [])

/-! ### Seals (R370; log entry 41) -/

/-- A DRIVE object. -/
def driveObj (_ : State) (o : Nat) : Bool := objIn 0x10 2 o

/-- The value of a drive that a record covers: its seals, those that still wait for segments, and whether the owner has disabled it
(R403; log entry 24). -/
def driveValue (x : Drive) : Octets :=
  x.seals.flatMap sealBytes ++ x.liveSeals.flatMap (fun l => leBytes 8 l.t0 ++ leBytes 8 l.t1 ++ leBytes 4 l.tag) ++
    leBytes 4 (b2n (x.disabledByOwner || x.disabling))

/-- A drive is mounted (R377). -/
def isMounted (x : Drive) : Bool := x.state == .recording || x.state == .disabled || x.state == .stalled

/-- A group holds a segment whose time range overlaps one. -/
def groupOverlaps (x : Drive) (g t0 t1 : Nat) : Bool :=
  let l := tblGet [] x.ranges g ++ (if (x.ptr - 2) / 65 = g then rangesOf x.group else [])
  l.any (fun e => decide (e.1 ≤ t1) && decide (t0 ≤ e.2))

/-- The groups that a seal covers now. -/
def sealedGroups (x : Drive) (t0 t1 : Nat) : List Nat :=
  (setInsert (x.ranges.map (·.1)) ((x.ptr - 2) / 65)).filter (fun g => groupOverlaps x g t0 t1)

/-- A drive with a new seal: its groups join the entries, and segments written later follow it. -/
def sealDrive (x : Drive) (t0 t1 tag audit time : Nat) : Drive :=
  { x with
    seals := (sealedGroups x t0 t1).foldl
      (fun l g => mergeSeal l { first := g, last := g, time := time, tag := tag, audit := audit }) x.seals
    liveSeals := x.liveSeals ++ [{ t0 := t0, t1 := t1, tag := tag, audit := audit, time := time }] }

/-- Groups that the seals of a drive hold. -/
def sealCount (x : Drive) : Nat := (x.seals.map (fun e => e.last + 1 - e.first)).sum

/-- A drive's seals leave it enough groups and fit its label (R370). -/
def sealsFit (x : Drive) : Bool :=
  let free := groupsOf x.units - sealCount x
  decide (x.seals.length ≤ 64) && decide (16 ≤ free) && decide (groupsOf x.units ≤ 16 * free)

/-- A changed label is staged and goes to the drive (R367, R370). -/
def labelChanged (s : State) (d : Nat) (x : Drive) : State := pump (setDrive s d (stageLabel x d)) d

/-- A drive is sealed, with its record (R370, R404). -/
def sealOne (t0 t1 tag : Nat) (r : Request) (s : State) (d : Nat) : State :=
  let x := driveAt s d
  let y := sealDrive x t0 t1 tag (s.kn.seq % 2 ^ 32) (ntNs s % 2 ^ 64)
  labelChanged (auditChange s r (objId 0x10 d) (some (driveValue x)) (some (driveValue y))) d y

/-- KN_REC_SEAL: byte 0 the drives, bit 0 RC0 and bit 1 RC1; bytes 8 to 15 t0, 16 to 23 t1, both in ns; 24 to 27 the tag. -/
def recSealRun (s : State) (r : Request) : Res :=
  let m := leAt r.params 0 1
  let t0 := leAt r.params 8 8
  let t1 := leAt r.params 16 8
  let l := maskList 2 m
  if leAt r.params 1 7 ≠ 0 then .fail 4 0
  else if m = 0 ∨ 4 ≤ m then .fail 6 1
  else if t1 < t0 then .fail 6 3
  else if l.any (fun d => (driveAt s d).state == .absent) then .fail 0xB 0
  else if !l.all (fun d => isMounted (driveAt s d)) then .fail 9 0
  else if !l.all (fun d => sealsFit (sealDrive (driveAt s d) t0 t1 0 0 0)) then .fail 0xC 0
  else .ok (l.foldl (sealOne t0 t1 (leAt r.params 24 4) r) s) [] []

/-- KN_REC_UNSEAL: the entry of byte 8 of the drive's label is removed, with what still follows it. -/
def recUnsealRun : State → Request → Res := onObject driveObj (fun s r o =>
  let d := objIdx o
  let x := driveAt s d
  if leAt r.params 9 7 ≠ 0 then .fail 4 0
  else if x.state = .absent then .fail 0xB 0
  else if !isMounted x then .fail 9 0
  else match x.seals[leAt r.params 8 1]? with
    | none => .fail 6 2
    | some e =>
      let y := { x with seals := x.seals.filter (fun c => c != e), liveSeals := x.liveSeals.filter (fun c => c.audit != e.audit) }
      .ok (labelChanged (auditChange s r o (some (driveValue x)) (some (driveValue y))) d y) [] [])

/-! ### Drives (R371, R376, R378; log entry 42) -/

/-- The oldest staged data of a drive leaves the cellar without being written (R376). -/
def releaseStaged (s : State) (d : Nat) : State :=
  let s1 := { s with geley := { s.geley with isOpen := s.geley.isOpen.filter (fun e => e.1 / 256 != d) } }
  let x := driveAt s1 d
  let lost := fun (e : IdxEnt) => x.staged.any (fun u => u.kind == .segment && u.wseq == e.wseq && u.unit != 0 && !u.written)
  disableCheck (setDrive s1 d { x with staged := [], unflushed := none, group := x.group.filter (fun e => !lost e) }) d

/-- What an ACTION of KN_REC_DRIVE does: 0 FORMAT, 1 DISABLE, 2 ENABLE, 3 RETRY, 4 RELEASE_STAGED; or the status that refuses it. -/
def driveAction (s : State) (d a : Nat) : Except Nat State :=
  let x := driveAt s d
  match a with
  | 0 =>
    if x.state ≠ .unformatted ∧ x.state ≠ .disabled ∧ x.state ≠ .failed then .error 9
    else if groupsOf x.units < 32 then .error 0xC
    else if stagedUnits s d ≠ 0 then .error 9
    else .ok (driveTo (emit s (.nvme d 9 0 [])) d .formatting)
  | 1 =>
    if x.state ≠ .recording ∨ x.disabling then .error 9
    else
      let t := closeDrive s d
      .ok (disableCheck (setDrive t d { driveAt t d with disabling := true }) d)
  | 2 => if x.state ≠ .disabled then .error 9 else .ok (driveTo (setDrive s d { x with disabledByOwner := false }) d .recording)
  | 3 => if x.state ≠ .failed then .error 9 else .ok (driveTo (setDrive s d { x with resets := 0, resetOn := false }) d .init)
  | _ => .ok (releaseStaged s d)

/-- KN_REC_DRIVE: byte 8 is the ACTION. -/
def recDriveRun : State → Request → Res := onObject driveObj (fun s r o =>
  let d := objIdx o
  let a := leAt r.params 8 1
  if 5 ≤ a then .fail 4 2
  else if leAt r.params 9 7 ≠ 0 then .fail 4 0
  else if (driveAt s d).state = .absent ∧ a ≠ 4 then .fail 0xB 0
  else match driveAction s d a with
    | .error st => .fail st 0
    | .ok t =>
      let u := auditChange s r o (some (driveValue (driveAt s d))) (some (driveValue (driveAt t d)))
      (match driveAction u d a with
        | .error st => .fail st 0
        | .ok w => .ok w [] []))

/-- Position of a drive's state in R377. -/
def driveNo : DriveSt → Nat
  | .absent => 0 | .init => 1 | .unformatted => 2 | .formatting => 3 | .recording => 4 | .stalled => 5 | .failed => 6 | .disabled => 7

/-- A drive's line of KN_REC_STATUS (log entry 42). -/
def driveStatus (s : State) (d : Nat) : Octets :=
  let x := driveAt s d
  leBytes 1 (driveNo x.state) ++ leBytes 1 x.reason ++ leBytes 2 x.seals.length ++ leBytes 4 x.units ++ leBytes 4 (groupsOf x.units) ++
    leBytes 4 x.ptr ++ leBytes 8 x.wseq ++ leBytes 4 (stagedUnits s d) ++ leBytes 4 (driveShare s d)

/-- KN_REC_STATUS: the drives RC0 and RC1 (R377). -/
def recStatusRun (s : State) (_ : Request) : Res := .ok s (driveStatus s 0 ++ driveStatus s 1) []

/-! ### The rows -/

/-- KN_REC_STREAM_SET. -/
def knRecStreamSet (s : State) : State := runKn s 0x0701 recStreamCmd.exe
/-- How Keanak executes KN_REC_FLUSH. -/
def recFlushExe : Exe := { need := fun _ => 8, run := recFlushRun }
/-- KN_REC_FLUSH. -/
def knRecFlush (s : State) : State := runKn s 0x0702 recFlushExe
/-- How Keanak executes KN_REC_SEAL. -/
def recSealExe : Exe := { need := fun _ => 28, run := recSealRun }
/-- KN_REC_SEAL. -/
def knRecSeal (s : State) : State := runKn s 0x0703 recSealExe
/-- How Keanak executes KN_REC_UNSEAL. -/
def recUnsealExe : Exe := { need := fun _ => 9, run := recUnsealRun }
/-- KN_REC_UNSEAL. -/
def knRecUnseal (s : State) : State := runKn s 0x0704 recUnsealExe
/-- How Keanak executes KN_REC_DRIVE. -/
def recDriveExe : Exe := { need := fun _ => 9, run := recDriveRun }
/-- KN_REC_DRIVE. -/
def knRecDrive (s : State) : State := runKn s 0x0705 recDriveExe
/-- KN_REC_QUOTA_SET. -/
def knRecQuotaSet (s : State) : State := runKn s 0x0706 recQuotaCmd.exe
/-- How Keanak executes KN_REC_STATUS. -/
def recStatusExe : Exe := { run := recStatusRun }
/-- KN_REC_STATUS. -/
def knRecStatus (s : State) : State := runKn s 0x0707 recStatusExe

/-! ### Meanings -/

/-- KN_REC_STREAM_SET (R358). -/
def execKnRecStreamSet (s : State) : Host.Outcome State Fault Refusal :=
  checked (Instr.wf (.knRecStreamSet)) s (knRecStreamSet s)

/-- KN_REC_FLUSH (R362). -/
def execKnRecFlush (s : State) : Host.Outcome State Fault Refusal :=
  checked (Instr.wf (.knRecFlush)) s (knRecFlush s)

/-- KN_REC_SEAL (R370). -/
def execKnRecSeal (s : State) : Host.Outcome State Fault Refusal :=
  checked (Instr.wf (.knRecSeal)) s (knRecSeal s)

/-- KN_REC_UNSEAL (R370). -/
def execKnRecUnseal (s : State) : Host.Outcome State Fault Refusal :=
  checked (Instr.wf (.knRecUnseal)) s (knRecUnseal s)

/-- KN_REC_DRIVE (R378). -/
def execKnRecDrive (s : State) : Host.Outcome State Fault Refusal :=
  checked (Instr.wf (.knRecDrive)) s (knRecDrive s)

/-- KN_REC_QUOTA_SET (R375). -/
def execKnRecQuotaSet (s : State) : Host.Outcome State Fault Refusal :=
  checked (Instr.wf (.knRecQuotaSet)) s (knRecQuotaSet s)

/-- KN_REC_STATUS (R377). -/
def execKnRecStatus (s : State) : Host.Outcome State Fault Refusal :=
  checked (Instr.wf (.knRecStatus)) s (knRecStatus s)

end Sys2Proof.Machine
end

