-- ==== Sys2Proof/Machine/KnFault.lean ====
section
/-! DEFINITION. KnFault.lean: commands on fault sources, self-tests, the fault log and counters, and the read of an object
(R412, R416, R419 to R421, R429, R434, R440, R455, R456). -/

namespace Sys2Proof.Machine

open Sys2Proof

/-! ### Sources (R416, R419, R421, R429) -/

/-- A FAULT_SOURCE object. -/
def faultObj (_ : State) (o : Nat) : Bool := objIn 0x12 768 o

/-- KN_FAULT_SET. SEVERE_REACTION is LOG, EVENT, or a reset no wider than R24 allows at a level that contains the source. -/
def faultSetCmd : SetCmd where
  defs _ := [pFlag, pNum 1 255, pNum 1 10000000, pEnum 2, pEnum 2, pEnum 7, pFlag]
  objOk := faultObj
  get s o :=
    let c := fsrcCfg s (objIdx o)
    [b2n c.enable, c.threshold, c.window, b2n c.degraded, b2n c.baseEvent, c.severe, b2n c.selftest]
  put s _ o v :=
    let f := objIdx o
    let a := val v 5 + 1
    let level := decide (a < 3) || (decide (a ≤ widestReset f) &&
      (a != 4 || (clusterOf f).isSome) && (a != 5 || (phyDieOf f).isSome) && (a != 6 || restartRegion f != .trestle) &&
        (a != 3 || (srcInfo f).level == 0))
    if (srcInfo f).fixed then .error (0x15, 0)
    else if !level then .error (6, 6)
    else if valB v 6 && testOf f == .none then .error (6, 7)
    else
      let x : FSrc :=
        { fsrcAt s f with
          set := true, enable := valB v 0, threshold := val v 1, window := val v 2, degraded := valB v 3, baseEvent := valB v 4
          severe := val v 5, selftest := valB v 6, count := 0 }
      .ok (setFsrc s f x)

/-- KN_FAULT_FORCE: the train's first event is due at once. -/
def faultForceCmd : SetCmd where
  defs _ := [pEnum 2, pNum 0 255, pNum 1 1000000, pNum 0 65535, pNum 0 (2 ^ 32 - 1)]
  objOk := faultObj
  get s o :=
    let x := fsrcAt s (objIdx o)
    [b2n x.fRecOnly, x.fLeft, x.fSpacing, x.fLoc, x.fDetail]
  put s _ o v :=
    let f := objIdx o
    if (srcInfo f).fixed && !valB v 0 then .error (0x15, 0)
    else
      let x : FSrc :=
        { fsrcAt s f with
          force := decide (val v 1 ≠ 0), fRecOnly := valB v 0, fLeft := val v 1, fSpacing := val v 2, fLoc := val v 3
          fDetail := val v 4, fNext := now s }
      .ok (setFsrc s f x)

/-- What the read of a source adds to its parameters: the window count, and the time left in the window in ns (R419; log entry
43). -/
def windowBytes (s : State) (f : Nat) : Octets :=
  let x := windowClosed s f
  leBytes 4 x.count ++ leBytes 8 (if x.count = 0 then 0 else (x.winEnd - nt16 s) / 65536)

/-! ### Self-tests (R434; log entry 44) -/

/-- KN_SELFTEST_RUN: the test takes a reaction ID of its own. -/
def selftestRun : State → Request → Res := onObject faultObj (fun s r o =>
  let f := objIdx o
  let loc := leAt r.params 8 4
  let rep := leAt r.params 12 1
  if leAt r.params 13 3 ≠ 0 then .fail 4 0
  else if 65535 < loc then .fail 6 2
  else if 1 < rep then .fail 6 3
  else if testOf f = .none then .fail 0x15 0
  else if s.flt.disabled.contains (unitOf f) then .fail 0xB 0
  else if s.flt.tests.any (fun t => t.src == f && t.loc == loc) then .fail 9 0
  else
    let v := some (faultSetCmd.read s o)
    let t := auditChange s r o v v
    let id := t.flt.nextId
    let u := { t with flt := { t.flt with nextId := (id + 1) % 65536 } }
    .ok (requestTest u { src := f, loc := loc, repair := decide (rep = 1), byCmd := true, id := id }) [] [])

/-! ### The fault log (R435, R440) -/

/-- LOG_SEQ of a record. -/
def logSeqOf (w : Nat) : Nat := fld w 96 64

/-- An entry of the repair table. -/
def repairBytes (e : RepairEnt) : Octets :=
  leBytes 2 e.fs ++ leBytes 2 e.loc ++ leBytes 1 e.spare ++ leBytes 3 0 ++ leBytes 8 e.ts

/-- LOG_SEQ of the newest record logged; 0 before the first. -/
def newestLog (s : State) : Nat := match s.flt.log with
  | [] => 0
  | w :: _ => logSeqOf w

/-- LOG_SEQ of the oldest record that the log holds. -/
def oldestLog (s : State) : Nat := match s.flt.log.getLast? with
  | none => 0
  | some w => logSeqOf w

/-- KN_FAULT_LOG_READ: oldest first; of the repair table FIRST_SEQ counts entries (log entry 44). -/
def faultLogRun (s : State) (r : Request) : Res :=
  let first := leAt r.params 0 8
  let n := leAt r.params 8 4
  let sel := leAt r.params 12 1
  if 1 < sel then .fail 4 3
  else if n < 1 ∨ 16384 < n then .fail 6 2
  else
    let held := (s.flt.log.filter (fun w => decide (first ≤ logSeqOf w) && decide (logSeqOf w < first + n))).reverse
    let recs := if sel = 0 then held.map (leBytes 32) else ((s.flt.repairs.drop first).take n).map repairBytes
    let size := if sel = 0 then 32 else 16
    let head := leBytes 8 (oldestLog s) ++ leBytes 8 (newestLog s)
    if r.isBulk then .ok s head (recs.take (bulkWindow r.master / size)).flatten
    else .ok s (head ++ (recs.take (224 / size)).flatten) []

/-! ### The catalogue of statistics counters (R458, R522) -/

/-- A number in `w` decimal digits. -/
def digits (w n : Nat) : Octets := (List.range w).reverse.map (fun i => BitVec.ofNat 8 (48 + n / 10 ^ i % 10))

/-- Suffixes of family 0x01 with the prefixes that have them: bit 0 edge ports, bit 1 uplinks, bit 2 ring ports. -/
def portSuffixes : List (String × Nat) :=
  [("rx_frames", 7), ("rx_octets", 7), ("rx_unicast", 3), ("rx_multicast", 3), ("rx_broadcast", 3), ("rx_fcs_error", 7),
   ("rx_symbol_error", 7), ("rx_runt", 3), ("rx_truncated", 7), ("rx_bad_start", 7), ("rx_pause", 3), ("rx_pfc", 3),
   ("rx_ctrl_unknown", 7), ("tx_frames", 7), ("tx_octets", 7), ("tx_oversize", 3), ("fec_corrected", 6), ("fec_uncorrectable", 6),
   ("link_down", 7), ("bad_etype", 4), ("hcrc_error", 4), ("bad_version", 4), ("bad_id", 4), ("cycle_mismatch", 4),
   ("hop_limit", 4), ("fcs_error", 4), ("cal_timeout", 4), ("cal_fail", 4)] ++
  [("delay_jump", 4), ("tx_late", 4), ("guardian_cut", 4), ("window_violation", 4), ("egress_overlap", 4), ("image_mismatch", 4),
   ("abut_strip", 4), ("looped", 4), ("rx_while_looped", 4), ("merge_refused", 4), ("origin_strip", 4), ("bad_return", 4),
   ("rx_overflow", 3), ("verify_fail", 3), ("bad_smd", 4), ("transit_drop", 4), ("preempt_off", 4), ("frag_error", 7),
   ("pause_ignored", 7), ("pause_break", 3), ("role_conflict", 1), ("podl_fault", 1), ("merge.frame_ass_error", 7),
   ("merge.frame_smd_error", 7), ("merge.frame_ass_ok", 7), ("merge.frag_count_rx", 7), ("merge.frag_count_tx", 7),
   ("merge.hold_count", 7)]

/-- Prefix of a port in family 0x01. -/
def portPrefix (p : Nat) : Octets :=
  if p < 16 then ascii "edge.port" ++ digits 2 p ++ ascii "." else if p < 18 then ascii "uplink.up" ++ digits 1 (p - 16) ++ ascii "."
  else if p = 18 then ascii "ring.east." else ascii "ring.west."

/-- Prefix of a vat destination (R174). -/
def destPrefix (d : Nat) : Octets :=
  if d < 1088 then ascii "vat.hostq." ++ digits 4 d
  else if d < 1216 then ascii "vat.edge.port" ++ digits 2 ((d - 1088) / 8) ++ ascii ".q" ++ digits 1 (d % 8)
  else if d < 1232 then ascii "vat.up" ++ digits 1 ((d - 1216) / 8) ++ ascii ".q" ++ digits 1 (d % 8)
  else if d < 1240 then ascii "vat.open.tc" ++ digits 1 (d - 1232)
  else if d = 1240 then ascii "vat.slot"
  else ascii "vat.rec.s" ++ digits 3 (d - 1241)

/-- Names of the counters of family 0x07 with no object, from EVENT 1 on. -/
def ringNames : List String :=
  ["ring.foreign_in_slot", "ring.entry_oversize", "ring.rx_stale", "ring.pier_conflict", "ring.time_set", "ring.delay_report_late",
   "ring.sync_loss", "ring.order_error", "ring.cal_chain_wait", "ring.rank_ignored", "ring.cold_restart", "ring.cold_start_yield",
   "ring.rank_conflict", "ring.integration_fail", "ring.event_late", "ring.rx_overflow"]

/-- The n-th name of a list after a prefix. -/
def nameAt (pre : Octets) (l : List String) (n : Nat) : Option Octets := (l[n]?).map (fun x => pre ++ ascii x)

/-- A path where a condition holds. -/
def pathIf (b : Bool) (o : Octets) : Option Octets := if b then some o else none

/-- Path of a counter of the families 0x01 to 0x07. -/
def trafficPath (fam obj ev : Nat) : Option Octets :=
  match fam with
  | 0x01 =>
    if 20 ≤ obj then none
    else match portSuffixes[ev]? with
      | some (x, m) => pathIf (bitOf m (if obj < 16 then 0 else if obj < 18 then 1 else 2)) (portPrefix obj ++ ascii x)
      | none => none
  | 0x02 =>
    if 160 ≤ obj then none
    else nameAt (ascii "egress.port" ++ digits 2 (obj / 8) ++ ascii ".q" ++ digits 1 (obj % 8) ++ ascii ".")
      ["sdu_drop", "never_fits", "shaper_oversize"] ev
  | 0x03 =>
    if obj = 0xFFFF then
      (if ev < 2 then none else nameAt (ascii "vat.") ["pool_empty", "handle_empty", "spill_refused", "ecc_drop"] (ev - 2))
    else if 1497 ≤ obj then none
    else nameAt (destPrefix obj) [".quota_drop", ".reconfig_drops"] ev
  | 0x04 =>
    if 8192 ≤ obj then none
    else nameAt (ascii "meter." ++ digits 4 obj ++ ascii ".")
      ["green", "yellow", "red", "drop", "green_octets", "yellow_octets", "red_octets"] ev
  | 0x05 =>
    if 16384 ≤ obj then none
    else nameAt (ascii "frer.rcvy." ++ digits 5 obj ++ ascii ".")
      ["passed", "discarded", "out_of_order", "rogue", "no_seq", "resets"] ev
  | 0x06 =>
    if 8192 ≤ obj then none else nameAt (ascii "frer.gen." ++ digits 4 obj ++ ascii ".") ["generated", "oversize"] ev
  | 0x07 =>
    if ev = 0 then
      pathIf (decide (obj < 4096))
        (ascii (if obj < 2048 then "ring.east" else "ring.west") ++ ascii ".slot_missed.slot" ++ digits 4 (obj % 2048 + 1))
    else if obj ≠ 0 then none else nameAt [] ringNames (ev - 1)
  | _ => none

/-- Prefix of a receive queue or a generation-1 pair in family 0x08. -/
def rxqPrefix (obj : Nat) : Option Octets :=
  if 0x1000 ≤ obj ∧ obj < 0x1400 then some (ascii "dma.rxq." ++ digits 4 (obj - 0x1000) ++ ascii ".")
  else if 0x4000 ≤ obj ∧ obj < 0x4040 then some (ascii "dma.g1." ++ digits 2 (obj - 0x4000) ++ ascii ".")
  else none

/-- Path of a counter of family 0x09. -/
def hostPath (obj ev : Nat) : Option Octets :=
  let m := ascii "mbx.m" ++ digits 1 obj
  match ev with
  | 0 => pathIf (obj == 0) (ascii "host.bad_access")
  | 1 => pathIf (obj == 0) (ascii "host.reserved_encoding")
  | 2 => pathIf (decide (obj < 19)) (ascii "class.port" ++ digits 2 obj ++ ascii ".no_match")
  | 3 => pathIf (obj == 0) (ascii "class.rr_none")
  | 4 => pathIf (obj == 0) (ascii "class.slot_oversize")
  | 5 => pathIf (obj == 0) (ascii "class.target_down")
  | 6 => pathIf (decide (obj < 4)) (ascii "host.d" ++ digits 1 obj ++ ascii ".tx_wait")
  | 7 => pathIf (obj == 0) (ascii "host.unassigned_slot")
  | 8 => pathIf (decide (obj < 5)) (m ++ ascii ".go_while_busy")
  | 9 => pathIf (decide (obj < 5)) (m ++ ascii ".write_while_busy")
  | 10 => pathIf (obj == 4) (m ++ ascii ".bad_line")
  | 11 => pathIf (obj == 0) (ascii "mbx.config_invalid")
  | 12 => pathIf (obj == 0) (ascii "mbx.script_fail")
  | _ => none

/-- Path of a counter of family 0x0D. -/
def miscPath (obj ev : Nat) : Option Octets :=
  let port := ascii ".port" ++ digits 2 obj
  match ev with
  | 0 => (["edge", "ring", "host", "record", "control", "trestle"][obj]?).map
      (fun x => ascii "region." ++ ascii x ++ ascii ".boundary_drop")
  | 1 => pathIf (obj == 4) (ascii "region.control.held_requests")
  | 2 => pathIf (decide (obj < 18)) (ascii "gptp" ++ port ++ ascii ".other_domain")
  | 3 => pathIf (decide (obj < 18)) (ascii "gptp" ++ port ++ ascii ".rx_ignored")
  | 4 => pathIf (decide (obj < 5)) (ascii "evcap.in" ++ digits 1 obj ++ ascii ".too_close")
  | 5 => pathIf (decide (obj < 5)) (ascii "evcap.in" ++ digits 1 obj ++ ascii ".overflow")
  | 6 => pathIf (decide (obj < 18)) (ascii "gate" ++ port ++ ascii ".config_change_error")
  | 7 => pathIf (decide (obj < 18)) (ascii "gate" ++ port ++ ascii ".act_stepped")
  | 8 => pathIf (decide (16 ≤ obj ∧ obj < 20)) (ascii "port" ++ port ++ ascii ".module_mismatch")
  | 9 => pathIf (decide (16 ≤ obj ∧ obj < 20)) (ascii "port" ++ port ++ ascii ".module_fault")
  | 10 => pathIf (obj == 0) (ascii "mem.corrected")
  | 11 => pathIf (obj == 0) (ascii "trestle.bad_key")
  | _ => none

/-- Path of the statistics counter with a numeric index; none where the index names no counter. -/
def statPath (i : Nat) : Option Octets :=
  let fam := i / 2 ^ 24
  let obj := i / 2 ^ 8 % 2 ^ 16
  let ev := i % 2 ^ 8
  match fam with
  | 0x08 =>
    if ev < 3 then
      (if obj ≠ 0 then none else nameAt (ascii "dma.") ["enable_refused", "idx_discard", "bad_command"] ev)
    else if ev = 3 then
      pathIf (decide (0x3000 ≤ obj ∧ obj < 0x3200)) (ascii "dma.cq." ++ digits 3 (obj - 0x3000) ++ ascii ".bad_head")
    else (rxqPrefix obj).bind (fun p => nameAt p ["wait_drop", "oversize_drop", "bus_error_drop"] (ev - 4))
  | 0x09 => hostPath obj ev
  | 0x0A =>
    if ev < 4 then
      (if 256 ≤ obj then none
       else nameAt (ascii "rec.s" ++ digits 3 obj ++ ascii ".") ["frames", "octets", "stage_drop", "disabled_drop"] ev)
    else if 256 ≤ obj ∧ obj < 258 then
      nameAt (ascii "rec.rc" ++ digits 1 (obj - 256) ++ ascii ".")
        ["segments", "index_blocks", "stalls", "resets_failed", "read_errors"] (ev - 4)
    else none
  | 0x0B =>
    let p := ascii "qsample.port" ++ digits 2 (obj / 8) ++ ascii ".q" ++ digits 1 (obj % 8)
    if 160 ≤ obj ∨ 16 < ev then none
    else if ev = 0 then some (p ++ ascii ".samples")
    else some (p ++ ascii ".bin" ++ digits (if ev ≤ 10 then 1 else 2) (ev - 1))
  | 0x0C =>
    if obj < 768 then nameAt (ascii "fault.fs" ++ digits 3 obj ++ ascii ".") ["native", "shadow", "forced"] ev
    else if obj = 768 ∧ 3 ≤ ev then nameAt (ascii "fault.") ["selftest_dropped", "latch_overflow"] (ev - 3)
    else none
  | 0x0D => miscPath obj ev
  | _ => trafficPath fam obj ev

/-! ### Counter reads (R455, R456) -/

/-- A performance counter as a read returns it. -/
def perfWord (c : Perf) : Nat := c.v + c.wrap * 2 ^ 56

/-- A statistics counter by its index as a read returns it. -/
def statRead (s : State) (clear : Bool) (i : Nat) : Nat :=
  let c := tblGet {} s.ctr.stat i
  if (statPath i).isNone then 2 ^ 61 else statWord (if clear then c.before (now s) else c) clear

/-- The statistics counters after a clearing read of so many from an index. -/
def clearedStats (s : State) (first n : Nat) : Tbl Stat :=
  (s.ctr.stat.filter (fun e => decide (first ≤ e.1) && decide (e.1 < first + n))).foldl
    (fun t e => tblSet {} t e.1 (e.2.cleared (now s))) s.ctr.stat

/-- An entry of the catalogue. -/
def pathEntry (i : Nat) : Octets :=
  let p := (statPath i).getD []
  p ++ List.replicate (64 - p.length) 0

/-- KN_COUNTER_READ: an owner's read clears the statistics counters that it returns. -/
def counterReadRun (s : State) (r : Request) : Res :=
  let first := leAt r.params 0 4
  let n := leAt r.params 4 4
  let sp := leAt r.params 8 1
  let size := if sp = 2 then 64 else 8
  let held := if r.isBulk then min n (bulkWindow r.master / size) else min n (224 / size)
  let idx := (List.range held).map (first + ·)
  let head := leBytes 4 first ++ leBytes 4 n ++ leBytes 8 0
  let clear := isOwner s r && sp == 1
  let body := idx.flatMap (fun i =>
    if sp = 0 then leBytes 8 (perfWord (tblGet {} s.ctr.perf i)) else if sp = 1 then leBytes 8 (statRead s clear i) else pathEntry i)
  let t := if clear then { s with ctr := { s.ctr with stat := clearedStats s first held } } else s
  if leAt r.params 9 7 ≠ 0 then .fail 4 0
  else if 2 < sp then .fail 4 3
  else if sp = 0 ∧ 1792 ≤ first then .fail 5 0
  else if n < 1 ∨ 8192 < n ∨ (sp = 0 ∧ 1792 < first + n) then .fail 6 2
  else if r.isBulk then .ok t head body else .ok t (head ++ body) []

/-! ### KN_OBJ_READ (R412; log entry 43) -/

/-- The set commands that have no read command of their own, in the order of the catalogue. -/
def objCmds : List SetCmd :=
  [timeSetCmd, timeConfigCmd, timerSetCmd, evcapSetCmd, hashProfileCmd, portDefaultsCmd, meterSetCmd, vatQuotaCmd, spillCmd,
   queueSetCmd, shaperCmd, streamBindCmd, qsampleCmd, slotBindCmd, pauseCmd, streamIdCmd, frerGenCmd, frerRcvyCmd] ++
  [portSetCmd, podlSetCmd, queueMapCmd, eventMapCmd, dmaqCmd, recStreamCmd, recQuotaCmd, faultSetCmd, drainCmd]

/-- The structures of an object, one after the other. -/
def objStructs (s : State) (o : Nat) : Octets := (objCmds.filter (fun c => c.objOk s o)).flatMap (fun c => c.read s o)

/-- What the read of a firmware slot gives (R476). -/
def fwBytes (s : State) (k : Nat) : Octets :=
  let x := fwSlot s k
  leBytes 4 (fwState s k) ++ leBytes 4 x.svn ++ leBytes 4 x.release ++ leBytes 4 x.check

/-- The value of an object that no set command of R409 describes; none where the object does not exist. -/
def objOther (s : State) (o : Nat) : Option Octets :=
  let i := objIdx o
  match objCls o with
  | 0x03 => if i < 4096 then some (leBytes 40 (ruleAt s i)) else none
  | 0x0B => if i < 18 then some (gateOctets (gateAt s i).oper (gateAt s i).since) else none
  | 0x0D => if i < 128 then some (pageValue s i) else none
  | 0x10 => if i < 2 then some (driveValue (driveAt s i)) else none
  | 0x13 => if i < 6 then some (regionValue s i) else none
  | 0x14 => if i = 0 then some [] else none
  | 0x15 => if i < 2 then some (fwBytes s i) else none
  | 0x16 => if i = 0 then some [] else none
  | 0x17 => if i = 0 then some (ownBytes s.kn) else none
  | 0x19 => if i < 16 then some (leBytes 1 (tblGet [] s.cls.rrSets i).length ++ leBytes 7 0 ++
      (tblGet [] s.cls.rrSets i).flatMap (leBytes 2)) else none
  | 0x1A => if i < 4096 then some [] else none
  | _ => none

/-- KN_OBJ_READ. -/
def objReadRun (s : State) (r : Request) : Res :=
  let o := r.obj
  let x := objStructs s o
  let more := if objCls o = 0x12 then windowBytes s (objIdx o) else []
  let all := if x ≠ [] then some (x ++ more) else (objOther s o).map (leBytes 8 o ++ ·)
  match all with
  | none => .fail 5 0
  | some b => if isAbsent s o then .fail 0xB 0 else .ok s (b.take 240) []

/-! ### The rows -/

/-- How Keanak executes KN_OBJ_READ. -/
def objReadExe : Exe := { need := fun _ => 8, run := objReadRun }
/-- KN_OBJ_READ. -/
def knObjRead (s : State) : State := runKn s 0x000C objReadExe
/-- KN_FAULT_SET. -/
def knFaultSet (s : State) : State := runKn s 0x0801 faultSetCmd.exe
/-- KN_FAULT_FORCE. -/
def knFaultForce (s : State) : State := runKn s 0x0802 faultForceCmd.exe
/-- How Keanak executes KN_FAULT_LOG_READ. -/
def faultLogReadExe : Exe := { need := fun _ => 13, bulk := fun _ => 1, run := faultLogRun }
/-- KN_FAULT_LOG_READ. -/
def knFaultLogRead (s : State) : State := runKn s 0x0803 faultLogReadExe
/-- How Keanak executes KN_SELFTEST_RUN. -/
def selftestRunExe : Exe := { need := fun _ => 13, run := selftestRun }
/-- KN_SELFTEST_RUN. -/
def knSelftestRun (s : State) : State := runKn s 0x0804 selftestRunExe
/-- How Keanak executes KN_COUNTER_READ. -/
def counterReadExe : Exe := { need := fun _ => 9, bulk := fun _ => 1, run := counterReadRun }
/-- KN_COUNTER_READ. -/
def knCounterRead (s : State) : State := runKn s 0x0805 counterReadExe

/-! ### Meanings -/

/-- KN_OBJ_READ (R412). -/
def execKnObjRead (s : State) : Host.Outcome State Fault Refusal :=
  checked (Instr.wf (.knObjRead)) s (knObjRead s)

/-- KN_FAULT_SET (R419). -/
def execKnFaultSet (s : State) : Host.Outcome State Fault Refusal :=
  checked (Instr.wf (.knFaultSet)) s (knFaultSet s)

/-- KN_FAULT_FORCE (R429). -/
def execKnFaultForce (s : State) : Host.Outcome State Fault Refusal :=
  checked (Instr.wf (.knFaultForce)) s (knFaultForce s)

/-- KN_FAULT_LOG_READ (R440). -/
def execKnFaultLogRead (s : State) : Host.Outcome State Fault Refusal :=
  checked (Instr.wf (.knFaultLogRead)) s (knFaultLogRead s)

/-- KN_SELFTEST_RUN (R434). -/
def execKnSelftestRun (s : State) : Host.Outcome State Fault Refusal :=
  checked (Instr.wf (.knSelftestRun)) s (knSelftestRun s)

/-- KN_COUNTER_READ (R456). -/
def execKnCounterRead (s : State) : Host.Outcome State Fault Refusal :=
  checked (Instr.wf (.knCounterRead)) s (knCounterRead s)

end Sys2Proof.Machine
end

