-- ==== Sys2Proof/Machine/Apply.lean ====
section
/-! DEFINITION. Apply.lean: the stored configuration and its boot script at a start (R469, R478, R479). -/

namespace Sys2Proof.Machine

open Sys2Proof

/-! ### Commands of a script -/

/-- Commands of a script up to 0x0309. -/
def scriptLow (code : Nat) : Option Exe :=
  match code with
  | 0x0007 => some ownerStatusExe
  | 0x0008 => some auditReadExe
  | 0x0009 => some counterPageGrantExe
  | 0x000A => some counterPageWithdrawExe
  | 0x000B => some versionExe
  | 0x000C => some objReadExe
  | 0x0101 => some ringStatusExe
  | 0x0102 => some timeSetCmd.exe
  | 0x0103 => some timeConfigCmd.exe
  | 0x0104 => some timerSetCmd.exe
  | 0x0105 => some evcapSetCmd.exe
  | 0x0106 => some evcapReadExe
  | 0x0201 => some ruleWriteExe
  | 0x0202 => some hashProfileCmd.exe
  | 0x0203 => some portDefaultsCmd.exe
  | 0x0204 => some rrSetDefineExe
  | 0x0205 => some meterSetCmd.exe
  | 0x0206 => some meterResetExe
  | 0x0207 => some vatQuotaCmd.exe
  | 0x0208 => some spillCmd.exe
  | 0x0301 => some queueSetCmd.exe
  | 0x0302 => some gateLoadExe
  | 0x0303 => some gateCancelExe
  | 0x0304 => some gateReadExe
  | 0x0305 => some shaperCmd.exe
  | 0x0306 => some streamBindCmd.exe
  | 0x0307 => some qsampleCmd.exe
  | 0x0308 => some qsampleReadExe
  | 0x0309 => some slotBindCmd.exe
  | _ => none

/-- Commands of a script from 0x0401 on. -/
def scriptHigh (code : Nat) : Option Exe :=
  match code with
  | 0x0401 => some preemptCmd.exe
  | 0x0402 => some preemptReadExe
  | 0x0403 => some pauseCmd.exe
  | 0x0404 => some streamIdCmd.exe
  | 0x0405 => some frerGenCmd.exe
  | 0x0406 => some frerRcvyCmd.exe
  | 0x0501 => some portSetCmd.exe
  | 0x0502 => some portStatusExe
  | 0x0503 => some cableTestExe
  | 0x0504 => some podlSetCmd.exe
  | 0x0505 => some (moduleReadExe none)
  | 0x0601 => some queueMapCmd.exe
  | 0x0602 => some eventMapCmd.exe
  | 0x0603 => some dmaqSetExe
  | 0x0604 => some dmaqRecoverExe
  | 0x0605 => some dmaqStatusExe
  | 0x0606 => some regionPowerExe
  | 0x0701 => some recStreamCmd.exe
  | 0x0702 => some recFlushExe
  | 0x0703 => some recSealExe
  | 0x0704 => some recUnsealExe
  | 0x0705 => some recDriveExe
  | 0x0706 => some recQuotaCmd.exe
  | 0x0707 => some recStatusExe
  | 0x0801 => some faultSetCmd.exe
  | 0x0802 => some faultForceCmd.exe
  | 0x0803 => some faultLogReadExe
  | 0x0804 => some selftestRunExe
  | 0x0805 => some counterReadExe
  | 0x0901 => some schedLoadExe
  | 0x0902 => some schedStatusExe
  | 0x0904 => some ringReadmitExe
  | 0x090A => some configReadExe
  | 0x090B => some drainCmd.exe
  | _ => none

/-- What a command does in a script; none for those that may not appear in one (R479). -/
def scriptExe (code : Nat) : Option Exe := if code < 0x0401 then scriptLow code else scriptHigh code

/-! ### Entries (R478, R479) -/

/-- A state with the journal of another: the script writes no record per command (R479). -/
def quietly (s t : State) : State :=
  { t with
    kn := { t.kn with journal := s.kn.journal, mirror := s.kn.mirror, seq := s.kn.seq, chain := s.kn.chain, acts := s.kn.acts
                      tmpl := s.kn.tmpl }
    ctr := { t.ctr with perf := tblSet {} t.ctr.perf (pPkg 6) (tblGet {} s.ctr.perf (pPkg 6)) } }

/-- An entry's request: ORIGIN 7, an image of 256 bytes, and BULK_LEN bytes of bulk. -/
def scriptRequest (o : Octets) : Request := { master := 7, image := padTo 256 (o.take 256), bulk := (o.drop 256).take (leAt o 8 4) }

/-- An entry is skipped or fails, and is counted. -/
def scriptFail (s : State) : State := count s 0x09 0 12

/-- An entry executes outside the ownership check. -/
def scriptEntry (s0 : State) (o : Octets) : State :=
  let r := scriptRequest o
  let s := perf s0 (pPkg 5)
  match (if (badHeader r).isSome then none else scriptExe r.cmd), cmdOf r.cmd with
  | some x, some c =>
    if (preCheck { s with kn := { s.kn with owner := some 7 } } x c r).isSome then scriptFail s
    else (match x.run s r with
      | .fail _ _ => scriptFail s
      | .failAs t _ _ => scriptFail t
      | .ok t _ _ => quietly s t
      | .thenDo t after => quietly s (after t))
  | _, _ => scriptFail s0

/-- The entries of a script, each padded to a multiple of 8; the first argument bounds them. -/
def scriptEntries : Nat → Octets → List Octets
  | 0, _ => []
  | n + 1, o =>
    if o.length < 4 then []
    else
      let e := leAt o 0 4
      (o.drop 4).take e :: scriptEntries n (o.drop ((e + 11) / 8 * 8))

/-- The script of a store. -/
def scriptOf (o : Octets) : List Octets :=
  let x := (o.take (leAt o 16 4)).drop 448
  scriptEntries (x.length / 8 + 1) x

/-! ### CONFIG_APPLY -/

/-- A region starts with the configuration, unless it is power-gated (R23, R469). -/
def startRegion (s : State) (r : Region) : State :=
  if s.regs.gated.contains r then s else regionUp s r

/-- An entry that sets parameters of a port or of its PoDL power: KN_PORT_SET or KN_PODL_SET. -/
def podlEntry (o : Octets) : Bool := let c := (scriptRequest o).cmd; c == 0x0501 || c == 0x0504

/-- The entries that execute: the whole script, or in fallback mode none. DESIGN CHOICE (log entry 124): with PODL_IN_FALLBACK those
that hold the parameters stored for the ports (R279, R465). -/
def scriptRuns (b : Boot) (o : Octets) : List Octets :=
  if !b.fallback then scriptOf o else if (nodeCfg o).podlFb then (scriptOf o).filter podlEntry else []

/-- CONFIG_APPLY: the valid store takes effect and its script executes, or without one the reset values stand; then the other regions
start. In fallback mode they stay out of service, and the ports are powered as PODL_IN_FALLBACK says (R279, R465). -/
def configApply (s : State) : State :=
  if s.boot.stage ≠ 6 ∨ s.boot.corePowered = false ∨ s.boot.cfgApplied = true ∨ inService s .control = false then s
  else
    let s1 := match validStore s.boot with
      | some x => (scriptRuns s.boot x.bytes).foldl scriptEntry (applyStore s x.bytes)
      | none => count s 0x09 0 11
    let s2 := if s.boot.fallback then s1 else [Region.edge, .ring, .record].foldl startRegion s1
    let s3 := { s2 with boot := { s2.boot with cfgApplied := true } }
    if s.boot.fallback then (List.range 16).foldl podlStart s3 else s3

/-! ### Meanings -/

/-- CONFIG_APPLY (R479). -/
def execConfigApply (s : State) : Host.Outcome State Fault Refusal :=
  checked (Instr.wf (.configApply)) s (configApply s)

end Sys2Proof.Machine
end

