-- ==== Sys2Proof/Machine/Regs.lean ====
section
/-! DEFINITION. Regs.lean: what the registers of BAR0 and of the SPI address space read, the levels of the part's output pins, and
writes of registers that have no row of their own (R10 to R14, R293 to R301, R386, R442, R468, R505 to R507). -/

namespace Sys2Proof.Machine

open Sys2Proof

/-! ### Mailbox registers (R386) -/

/-- STATE of a mailbox. -/
def mbxStateNo : MbxSt → Nat
  | .idle => 0 | .busy => 1 | .done => 2

/-- MBX_STATUS of a master. -/
def mbxStatus (s : State) (m : Nat) : Nat :=
  fallbackReason s * 2 ^ 24 + ownerCode s * 2 ^ 16 + b2n (s.kn.target == some m) * 2 ^ 4 + b2n (s.kn.owner == some m) * 2 ^ 3 +
    b2n (mbxAt s m).held * 2 ^ 2 + mbxStateNo (mbxAt s m).state

/-- The words of a mailbox space: MBX_REQ, MBX_RESP and its registers. -/
def mbxWord (s : State) (m off : Nat) : Nat :=
  if off < 0x100 then leAt (mbxAt s m).req off 4
  else if off < 0x200 then leAt (mbxAt s m).resp (off - 0x100) 4
  else if off = 0x204 then mbxStatus s m
  else if off = 0x208 then leaseLeft s
  else 0

/-! ### Function registers (R88, R301) -/

/-- HOST_FUNC_STATUS. -/
def hostFuncStatus (s : State) (f : Nat) : Nat :=
  fallbackReason s * 2 ^ 24 + b2n s.boot.fallback * 8 + b2n (funcAt s f).page * 4 +
    b2n (f % 64 == 0 && s.kn.owner == some (f / 64)) * 2 + linkOfFunc s f

/-- HOST_LINK_STATUS. -/
def hostLinkStatus (s : State) (f : Nat) : Nat :=
  let k := linkOfFunc s f
  tblGet 0 s.host.widths k * 2 ^ 8 + tblGet 0 s.host.speeds k * 2 ^ 4 + b2n s.host.bifurcated * 8 + b2n s.host.sris * 4

/-- The time registers after HOST_NTIME_LO: what its last read held. -/
def ntimeHeld (s : State) (f off : Nat) : Nat :=
  let h := tblGet (0, 0, 0) s.host.ntHeld f
  if off = 0x244 then h.1 else if off = 0x248 then h.2.1 else h.2.2

/-! ### Queue slots (R295, R314, R324, R343) -/

/-- The slot at an offset of BAR0. -/
def slotAtOff (f off : Nat) : Option Nat :=
  if 0x400 ≤ off ∧ off < 0x1000 then some ((off - 0x400) / 8)
  else if 0x1000 ≤ off ∧ off < (if f % 64 = 0 then 0x8000 else 0x2000) then
    some (384 + 512 * (off / 0x1000 - 1) + off % 0x1000 / 8)
  else none

/-- The read register of a queue: DMA_TX2_CONS, DMA_RX2_CONS, DMA_RRQ_CONS, DMA_CQ_TAIL or DMA_G1_STATUS. -/
def queueReadReg (s : State) (q : Nat) : Nat :=
  let x := qAt s q
  let st := fun (y : QReg) => match y.state with
    | .disabled => 0 | .running => 1 | .draining => 2 | .error => 3 | .halted => 4
  let reason := if x.state = .error ∨ x.state = .halted then x.reason else 0
  match qKind q with
  | 3 => st x * 2 ^ 29 + b2n (cqFull s q) * 2 ^ 28 + b2n x.held.isSome * 2 ^ 27 + b2n x.armed * 2 ^ 26 + reason * 2 ^ 16 + x.prod
  | 4 =>
    let r := 0x5000 + qNum q
    st x * 2 ^ 29 + st (qAt s r) * 2 ^ 26 + (qAt s r).scan % (ringSize s r) % 4096 * 2 ^ 12 + x.scan % (ringSize s q) % 4096
  | _ => st x * 2 ^ 29 + b2n (cqWait s q) * 2 ^ 28 + b2n x.resWait * 2 ^ 27 + reason * 2 ^ 16 + x.cons

/-- The read register of a slot; 0 where it holds no queue. -/
def slotReadReg (s : State) (f slot : Nat) : Nat :=
  match tblGet 0 s.host.slots (f * 4096 + slot) with
  | 0 => 0
  | q + 1 => queueReadReg s q

/-! ### Interrupts and the counter page (R297, R299, R452, R453) -/

/-- Where the MSI-X table of a function begins. -/
def msixBase (f : Nat) : Nat := if f % 64 = 0 then 0x8000 else 0x2000

/-- Where the pending-bit array of a function begins. -/
def pbaBase (f : Nat) : Nat := if f % 64 = 0 then 0x9000 else 0x2800

/-- A word of the MSI-X table. -/
def msixWord (s : State) (f o : Nat) : Nat :=
  let v := vecAt s f (o / 16)
  match o / 4 % 4 with
  | 0 => v.addr % 2 ^ 32
  | 1 => v.addr / 2 ^ 32
  | 2 => v.data
  | _ => b2n v.masked

/-- A word of the pending-bit array. -/
def pbaWord (s : State) (f o : Nat) : Nat :=
  (List.range 32).foldl (fun a i => a + b2n (vecAt s f (o * 8 + i)).pend * 2 ^ i) 0

/-- PERF_CNT_HI: of the counter whose low word the function read last, what that read latched. -/
def perfCntHi (s : State) (f i : Nat) : Nat :=
  let l := tblGet (0, 0) s.host.perfLatch f
  if l.1 = i + 1 then l.2 else perfHigh s i

/-- A word of a function's counter page. -/
def pageWord (s : State) (f o : Nat) : Nat :=
  let i := (o - 0x100) / 8
  if !pageSeen s f then 0
  else if o = 0 then 0x00010700
  else if o < 0x100 ∨ 1792 ≤ i then 0
  else if o % 8 = 0 then (tblGet {} s.ctr.perf i).v % 2 ^ 32
  else perfCntHi s f i

/-! ### Trestle registers (R442, R446, R447, R468) -/

/-- TRS_STATUS. -/
def trsStatus (s : State) : Nat :=
  let b := s.boot
  fallbackReason s * 2 ^ 24 + b.lastReset * 2 ^ 20 + b.stage * 2 ^ 12 + b2n b.pllLost * 2 ^ 11 + b2n b.refLost * 2 ^ 10 +
    b2n b.tempTripped * 2 ^ 9 + b2n b.wdtExpired * 2 ^ 8 + b2n b.fallback * 8 + b2n b.running * 4 + b2n b.corePowered * 2 +
    b2n b.ready

/-- TRS_BOOT. -/
def trsBoot (s : State) : Nat :=
  let b := s.boot
  b.minSvn * 2 ^ 24 + b.failCount * 2 ^ 10 + b2n b.startMark * 2 ^ 9 + b2n b.trialPending * 2 ^ 8 + b2n b.rolledBack * 2 ^ 7 +
    b.trialSlot * 2 ^ 6 + b.committed * 2 ^ 5 + b.runSlot * 4 + b2n b.trialRunning * 2

/-- TRS_OP_STATUS. -/
def trsOpStatus (s : State) : Nat :=
  let b := s.boot
  b.opLast * 2 ^ 28 + b.cause % 64 * 2 ^ 8 + b2n s.ring.bypassOn * 2 ^ 7 + b2n b.tempShut * 2 ^ 6 + b.opState * 4

/-- TRS_WDT_STATUS; LEFT_MS is the trestle's time, which the model does not keep: a free value up to the period (log entries 4, 6). -/
def trsWdtStatus (s : State) : Nat :=
  let ms := s.boot.cfg.wdt % 2 ^ 15
  b2n s.boot.wdtPaused * 2 ^ 31 + ms * 2 ^ 16 + drawVal s (ms + 1)

/-- TRS_TEMP. -/
def trsTemp (s : State) : Nat :=
  ofSigned 8 s.boot.tPhy1 * 2 ^ 24 + ofSigned 8 s.boot.tPhy0 * 2 ^ 16 + ofSigned 8 s.boot.tIo * 2 ^ 8 + ofSigned 8 s.boot.tCore

/-- A word of the trestle registers, by its offset. -/
def trsWord (s : State) (o : Nat) : Nat :=
  if o = 4 then trsOpStatus s else if o = 8 then trsStatus s else if o = 12 then trsBoot s else if o = 16 then trsWdtStatus s
  else if o = 24 then trsTemp s else 0

/-! ### The address maps (R27, R293, R294, R298, R307, R407, R441) -/

/-- What a 32-bit read of a function's BAR0 returns, where it does not change state. -/
def barWord (s : State) (f off : Nat) : Nat :=
  let pf := f % 64 == 0
  let fpage := fun (_ : Unit) =>
    if pf && decide (off < 0x240) then mbxWord s (f / 64) off
    else if off = 0x240 then ntNs s % 2 ^ 32
    else if off = 0x244 ∨ off = 0x248 ∨ off = 0x24C then ntimeHeld s f off
    else if off = 0x250 then hostFuncStatus s f
    else if off = 0x254 ∧ pf = true then hostLinkStatus s f
    else 0
  if !barLive s f then 0xFFFFFFFF
  else if pf && (off == 0xA000) then trsStatus s
  else if pf && (off == 0xA004) then trsBoot s
  else if s.boot.fallback ∧ 0x240 ≤ off ∧ off ≠ 0x250 then 0xFFFFFFFF
  else if off < 0x400 then fpage ()
  else if 0x10000 ≤ off ∧ off < 0x20000 then pageWord s f (off - 0x10000)
  else if msixBase f ≤ off ∧ off < msixBase f + 16 * numVecs f then msixWord s f (off - msixBase f)
  else if pbaBase f ≤ off ∧ off < pbaBase f + numVecs f / 8 then pbaWord s f (off - pbaBase f)
  else match slotAtOff f off with
    | some k => if off % 8 = 4 then slotReadReg s f k else 0
    | none => 0

/-- A word of octets laid one after the other. -/
def octetWord (l : List Octets) (size o : Nat) : Nat := leAt (l.getD (o / size) []) (o % size) 4

/-- What a read of the SPI address space returns. -/
def spiWord (s : State) (a : Nat) : Nat :=
  if a < 0x240 then mbxWord s 2 a
  else if 0x10000 ≤ a ∧ a < 0x20000 then leAt (mbxAt s 2).bulk (a - 0x10000) 4
  else if 0x20000 ≤ a ∧ a < 0x30000 then leAt (mbxAt s 2).respBulk (a - 0x20000) 4
  else if 0x30000 ≤ a ∧ a < 0x32000 then octetWord s.kn.mirror 64 (a - 0x30000)
  else if 0x40000 ≤ a ∧ a < 0x42000 then octetWord (s.flt.mirror.map (leBytes 32)) 32 (a - 0x40000)
  else if 0x42000 ≤ a ∧ a < 0x42200 then octetWord (s.flt.pendingArea.map (leBytes 32)) 32 (a - 0x42000)
  else if 0x50000 ≤ a then trsWord s (a - 0x50000)
  else 0

/-! ### Output pins that follow the state (R153, R284, R446, R505 to R508) -/

/-- EAST_TXDIS and WEST_TXDIS stand low: the trestle holds them so whenever the bypass is on; a transmit fault pulses them. -/
def ringTxdis (_ : State) : Bool := false

/-- UPn_TXDIS stands high until the port's ADMIN_UP is 1. -/
def upTxdis (s : State) (n : Nat) : Bool := !(portAt s (16 + n)).cfg.adminUp

/-- x_RS0 and x_RS1 of EAST, WEST and the uplinks: low until the configuration is applied and the port's rate with it, then as the rate
wants them (R283, R505; log entry 126). -/
def rateSelect (s : State) (p : Nat) : Bool × Bool :=
  if s.boot.cfgApplied then Config.rateSelect (lineMbps s p) else (false, false)

/-- RCn_PERST_N. -/
def rcPerstN (s : State) : Bool := s.pins.rcPerst

/-- THERM_TRIP_N is low during a temperature shutdown. -/
def thermTripN (s : State) : Bool := !s.boot.tempShut

/-- SMB_ALERT_N is low in fallback mode, during a temperature shutdown and while a flag of TRS_STATUS stands. -/
def smbAlertN (s : State) : Bool :=
  let b := s.boot
  !(b.fallback || b.tempShut || b.pllLost || b.refLost || b.tempTripped || b.wdtExpired)

/-! ### Writes (R10, R12 to R14) -/

/-- A write to MBX_REQ (R386). -/
def mbxWrite (s : State) (m off : Nat) (d : Octets) : State :=
  let x := mbxAt s m
  if x.state = .busy then count s 0x09 m 9 else setMbx s m { x with req := overwrite (padTo 256 x.req) off d }

/-- A write to the request bulk window (R296, R386). -/
def bulkWrite (s : State) (m off : Nat) (d : Octets) : State :=
  let x := mbxAt s m
  if x.state = .busy then count s 0x09 m 9 else setMbx s m { x with bulk := overwrite x.bulk off d }

/-- A write of a word of the MSI-X table: what is pending may send once its vector is unmasked (R299, R300). -/
def msixWrite (s : State) (f o v : Nat) : State :=
  let n := o / 16
  let x := vecAt s f n
  match o / 4 % 4 with
  | 0 => setVec s f n { x with addr := x.addr / 2 ^ 32 * 2 ^ 32 + v % 2 ^ 32 }
  | 1 => setVec s f n { x with addr := x.addr % 2 ^ 32 + v % 2 ^ 32 * 2 ^ 32 }
  | 2 => setVec s f n { x with data := v % 2 ^ 32 }
  | _ => trySend (setVec s f n { x with masked := bitOf v 0 }) f n

/-- A 32-bit write to a function's BAR0 (R293 to R295). -/
def barWriteWord (s : State) (f off v : Nat) : State :=
  let pf := f % 64 == 0
  if pf && decide (off < 0x100) then mbxWrite s (f / 64) off (leBytes 4 v)
  else if pf && (off == 0x200) then (if bitOf v 0 then mbxGo s (f / 64) else s)
  else if s.boot.fallback then s
  else if msixBase f ≤ off ∧ off < msixBase f + 16 * numVecs f then msixWrite s f (off - msixBase f) v
  else match slotAtOff f off with
    | some k => if off % 8 = 0 then slotWrite s f k v else s
    | none => s

/-- A write to a function's BAR0: aligned, of 4 octets or of 8, the low word first; any other is discarded and counted (R10). That an
aligned write of 8 octets over two registers of 32 bits acts in the same way is a DESIGN CHOICE (log entry 121). -/
def barWrite (s : State) (f off : Nat) (d : Octets) : State :=
  if !barLive s f then s
  else if d.length = 4 ∧ off % 4 = 0 then barWriteWord s f off (leAt d 0 4)
  else if d.length = 8 ∧ off % 8 = 0 then barWriteWord (barWriteWord s f off (leAt d 0 4)) f (off + 4) (leAt d 4 4)
  else count s 0x09 0 0

/-- A write to BAR2 of a PF: naturally aligned, of 4 to 512 octets; the response half ignores it (R296). -/
def bulkBarWrite (s : State) (m off : Nat) (d : Octets) : State :=
  let n := d.length
  if !barLive s (m * 64) then s
  else if !([4, 8, 16, 32, 64, 128, 256, 512].contains n && off % n == 0) then count s 0x09 0 0
  else if off < 0x80000 then bulkWrite s m off d
  else s

/-- A write to TRS_OP with an OP of its own performs it; a reserved OP has no effect and is counted (R14, R442). -/
def trsOpWrite (s : State) (v : Nat) : State :=
  let key := v / 2 ^ 24
  match v % 16 with
  | 1 => trsChipReset s key
  | 2 => trsBypassOn s key
  | 3 => trsBypassRelease s key
  | 4 => forceFallback s key
  | _ => if key ≠ 0xA5 then count s 0x0D 0 11 else count s 0x09 0 1

/-- Flags of TRS_STATUS and TRS_BOOT are cleared by writing 1 (R12, R468). -/
def w1c (s : State) (status boot : Nat) : State :=
  let b := s.boot
  { s with boot := { b with
    pllLost := b.pllLost && !bitOf status 11, refLost := b.refLost && !bitOf status 10
    tempTripped := b.tempTripped && !bitOf status 9, wdtExpired := b.wdtExpired && !bitOf status 8
    rolledBack := b.rolledBack && !bitOf boot 7 } }

/-- A whole word of an SPI write (R385, R442, R468). -/
def spiWriteWord (s : State) (a v : Nat) : State :=
  if a < 0x100 then mbxWrite s 2 a (leBytes 4 v)
  else if a = 0x200 then (if bitOf v 0 then mbxGo s 2 else s)
  else if 0x10000 ≤ a ∧ a < 0x20000 then bulkWrite s 2 (a - 0x10000) (leBytes 4 v)
  else if a = 0x50000 then trsOpWrite s v
  else if a = 0x50008 then w1c s v 0
  else if a = 0x5000C then w1c s 0 v
  else s

/-- The whole words of an SPI frame, in order; the second argument bounds them. -/
def spiWords : Nat → State → Nat → Octets → State
  | 0, s, _, _ => s
  | n + 1, s, a, d => if d.length < 4 then s else spiWords n (spiWriteWord s a (leAt d 0 4)) (a + 4) (d.drop 4)

/-- An SPI write frame: it discards the words that it covers in part; the target answers once the trestle has started (R507). -/
def spiWrite (s : State) (a : Nat) (d : Octets) : State :=
  let skip := (4 - a % 4) % 4
  if !s.boot.ready then s else spiWords d.length s (a + skip) (d.drop skip)

/-- Every vector of a function sends where it may. -/
def trySendAll (s : State) (f : Nat) : State := (List.range (numVecs f)).foldl (fun t v => trySend t f v) s

/-- The configuration registers that have no row: 0 is MSI-X Message Control, 4 Device Control, 8 the power management register, whose
function issues no request and takes no BAR access in D3hot (R288, R300, R304; log entries 45, 128). -/
def configWrite (s : State) (f off : Nat) (d : Octets) : State :=
  let v := leAt d 0 d.length
  let x := funcAt s f
  if !funcExists s f || x.flr || d.length < 2 then s
  else if off = 0 then trySendAll (setFunc s f { x with msixEn := bitOf v 15, fmask := bitOf v 14 }) f
  else if off = 4 then
    let k := fld v 12 3
    setFunc s f { x with relaxed := bitOf v 4, noSnoop := bitOf v 11, maxRead := if k < 6 then 128 * 2 ^ k else x.maxRead }
  else if off = 8 then
    if v % 4 = 3 then setFunc s f { x with d3 := true }
    else if v % 4 = 0 ∧ x.d3 = true then resumeFunc (setFunc s f { x with d3 := false }) f
    else s
  else s

/-- REGISTER_WRITE. In the space of a mailbox of M0 or M1 the bulk window lies at 0x10000; the spaces of M2's mailbox and of the
trestle are the SPI address space (log entry 45). -/
def registerWrite (s : State) (sp : RegSpace) (off : Nat) (d : Octets) : State :=
  match sp with
  | .host f => barWrite s f off d
  | .counters f => barWrite s f (0x10000 + off) d
  | .msix f => barWrite s f (msixBase f + off) d
  | .config f => configWrite s f off d
  | .mailbox m =>
    if m = 2 then spiWrite s off d
    else if 1 < m then s
    else if off < 0x10000 then (if off < 0x240 then barWrite s (m * 64) off d else s)
    else bulkBarWrite s m (off - 0x10000) d
  | .trestle => spiWrite s off d

/-- A BAR access that R10 does not allow: a write is discarded, a read returns all ones, and it is counted. -/
def badBar (s : State) (f : Nat) (write : Bool) : State :=
  let t := if barLive s f then count s 0x09 0 0 else s
  if write || !funcExists s f then t else emit t (.readData f 0xFFFFFFFF)

/-- BAD_ACCESS (R10). -/
def badAccess (s : State) (sp : RegSpace) (write : Bool) : State :=
  match sp with
  | .host f => badBar s f write
  | .counters f => badBar s f write
  | .msix f => badBar s f write
  | .mailbox m => if m < 2 then badBar s (m * 64) write else s
  | .config _ => s
  | .trestle => s

/-! ### Meanings -/

/-- REGISTER_WRITE (R12). -/
def execRegisterWrite (space : RegSpace) (off : Nat) (data : Octets) (s : State) : Host.Outcome State Fault Refusal :=
  checked (Instr.wf (.registerWrite space off data)) s (registerWrite s space off data)

/-- BAD_ACCESS (R10). -/
def execBadAccess (space : RegSpace) (write : Bool) (s : State) : Host.Outcome State Fault Refusal :=
  checked (Instr.wf (.badAccess space write)) s (badAccess s space write)

end Sys2Proof.Machine
end

