-- ==== Sys2Proof/Machine/Tick.lean ====
section
/-! DEFINITION. Tick.lean: what passes with a tick of the 1.25 GHz span clock: network time, the vat's arbiter, a pending chip reset,
and the counters of clocks and microseconds (R36 to R38, R84, R103, R177, R443, R457; log entry 1). -/

namespace Sys2Proof.Machine

open Sys2Proof

/-! ### Network time (R84, R103) -/

/-- What the counter adds at a tick of the 125 MHz domain, without a slew, in 2⁻⁴⁸ ns: 8 ns × (1 + ρ · 2⁻³²). -/
def timeStep (rho : Int) : Nat := (8 * 2 ^ 48 + 8 * rho * 2 ^ 16).toNat

/-- The part of a slew made once so much of its interval has passed, in 2⁻⁴⁸ ns: linear over the network-idle interval `len`. -/
def slewMade (phi : Int) (len gone : Nat) : Int := phi * 2 ^ 32 * (min gone len : Nat) / (len : Nat)

/-- The network-idle interval, in 2⁻⁴⁸ ns. -/
def idleSpan (s : State) : Nat := match s.cyc.image with
  | some i => mts i i.lnit * 2 ^ 32
  | none => 0

/-- A tick of the network time base: the counter advances, with the share of a slew in progress. -/
def timeTick (s : State) : State :=
  let d := timeStep s.time.rho
  match s.time.slew with
  | none => { s with time := { s.time with nt := s.time.nt + d } }
  | some (phi, gone) =>
    let len := idleSpan s
    let x := slewMade phi len (gone + d) - slewMade phi len gone
    let y := if len ≤ gone + d then none else some (phi, gone + d)
    { s with time := { s.time with nt := s.time.nt + ((d : Int) + x).toNat, slew := y } }

/-! ### Clock counters (R37, R457) -/

/-- The region whose power and supplies a clock domain of R37 follows: Edge, Ring, Host, Record or Control; none for what is never
gated while the root clocks run. -/
def domainRegion (d : Nat) : Option Region :=
  if d < 4 ∨ d = 5 then some .edge else if d = 4 then some .ring else if d = 6 then some .host else if d = 7 then none
  else if d < 10 then some .record
  else if d < 14 ∨ d = 15 then some .edge else if d = 14 ∨ d = 16 then some .ring else if d < 21 then some .host
  else if d = 21 then some .control else if d = 22 then some .record else if d < 39 then some .edge
  else if d = 39 then none else some .edge

/-- Some port from `a` on, of `n`, is administratively up (R23). -/
def someUp (s : State) (a n : Nat) : Bool := (List.range n).any (fun i => (portAt s (a + i)).cfg.adminUp)

/-- A DMA cluster has a queue that is not DISABLED (R23; log entry 118). -/
def someQueue (s : State) (k : Nat) : Bool := s.dma.q.any (fun e => qCluster e.1 == k && e.2.state != .disabled)

/-- The cluster or PHY die that a clock copy serves has a port or channel that is administratively up (R23, R37). -/
def domainUsed (s : State) (d : Nat) : Bool :=
  if d < 4 then someUp s (4 * d) 4
  else if d = 5 ∨ d = 15 then someUp s 16 2
  else if 10 ≤ d ∧ d < 14 then someUp s (4 * (d - 10)) 4
  else if 17 ≤ d ∧ d < 21 then someQueue s (d - 17)
  else if 23 ≤ d ∧ d < 39 then someUp s ((d - 23) / 4 * 4) 4
  else if d = 40 ∨ d = 41 then someUp s (8 * (d - 40)) 8
  else true

/-- A copy of a root frequency runs: the core die is powered, its region is not power-gated, and its cluster or PHY die is in use; the
network time base always does (R23, R38). -/
def domainRuns (s : State) (d : Nat) : Bool :=
  d == 39 || (s.boot.corePowered && domainUsed s d && (match domainRegion d with
    | some r => !s.regs.gated.contains r
    | none => true))

/-- Ticks of a domain that fall on a tick of the span clock (R36). -/
def domainStep (t d : Nat) : Nat :=
  if d < 8 then 1
  else if d < 10 then t * 2 / 3 - (t - 1) * 2 / 3
  else if d < 21 then b2n (t % 2 == 0)
  else if d < 23 then b2n (t % 4 == 0)
  else if d < 39 then b2n (t % 8 == 0)
  else if d < 42 then b2n (t % 10 == 0)
  else Config.domainTicks d t

/-- The clock counters after a tick. -/
def clockTick (s : State) : State :=
  (List.range 64).foldl (fun t d =>
    let n := domainStep s.clk.tick d
    if n = 0 ∨ (d < 42 ∧ domainRuns s d = false) then t else perfN t (1472 + d) n) s

/-! ### Microseconds (R457) -/

/-- A counter of microseconds advances where its condition holds. -/
def usWhere (b : Bool) (i : Nat) (s : State) : State := if b then perf s i else s

/-- link_up_us and tx_busy_us of a port. -/
def portUs (s : State) (p : Nat) : State :=
  if p < 18 then
    let m := tblGet ({} : MacTx) s.eg.mac p
    usWhere (m.ex.isSome || (m.pm.isSome && !m.susp)) (pPort p 13) (usWhere (portAt s p).link (pPort p 12) s)
  else
    let e := rpOf p
    let x := rtx s e
    let busy := x.express.isSome || (x.curH.isSome && !x.suspH) || (x.curL.isSome && !x.suspL)
    usWhere busy (pPort p 13) (usWhere (rport s e).link (pPort p 12) s)

/-- blocked_us of a queue: its head frame is not eligible. -/
def queueUs (s : State) (k : Nat) : State :=
  let p := k / 8
  let q := k % 8
  let blocked := (headOf s (queueKey s p q)).isSome && !(if p < 18 then eligible s p q else ringEligible s p q)
  usWhere blocked (pQueue p q 3) s

/-- running_us, out_of_service_us and gated_us of a region. -/
def regionUs (s : State) (r : Region) : State :=
  let i := regionIdx r
  usWhere (s.regs.gated.contains r) (pRegion i 6) (usWhere (!inService s r) (pRegion i 1) (usWhere (inService s r) (pRegion i 0) s))

/-- cq_full_us of a cluster: a completion queue of it is full. -/
def clusterUs (s : State) (k : Nat) : State :=
  let full := s.dma.q.any (fun e => qKind e.1 == 3 && qCluster e.1 == k && e.2.state != .disabled && cqFull s e.1)
  usWhere full (pCluster k 13) s

/-- hold_us of a rotation. -/
def holdUs (s : State) (e : RPort) : State := usWhere (rtx s e).hold (pRot (rotOfPort s e) 13) s

/-- The counters of microseconds. -/
def microTick (s : State) : State :=
  let s1 := perf s (pPkg 19)
  let s2 := [Region.edge, .ring, .host, .record, .control, .trestle].foldl regionUs s1
  let s3 := (List.range 20).foldl portUs s2
  let s4 := (List.range 160).foldl queueUs s3
  let s5 := (List.range 4).foldl clusterUs s4
  holdUs (holdUs s5 .east) .west

/-! ### The tick -/

/-- Host reads of receive slot buffers that are over end, and swaps that waited for them take place (R64, R339). -/
def endReads (s : State) : State :=
  s.cyc.rx.foldl (fun t e => if e.2.reading && due t e.2.readEnd then rxReadEnd t e.1 else t) s

/-- The ring entries whose second copies are overdue count them (R251). -/
def overdueCopies (s : State) : State :=
  s.frer.rcvy.foldl (fun t e => if 8192 ≤ e.1 ∧ e.2.awaiting ≠ [] then setRcvy t e.1 (latentMissing t e.2) else t) s

/-- The bus errors that completion queues met in this tick are counted by their fault sources (R306, R420). -/
def feedOwed (s : State) : State :=
  s.dma.owed.foldl (fun t e => feed t e.1 0 e.2) { s with dma := { s.dma with owed := [] } }

/-- One tick of the span clock, 0.8 ns; while the root clocks stand nothing passes but the trestle's own time, and a chip reset that is
due takes hold (R41, R42). -/
def tickStep (s : State) : State :=
  let s0 := if s.clk.pllLocked then meterArrivals s else s
  let s1 := { s0 with clk := { s0.clk with tick := s0.clk.tick + 1 } }
  if !s.clk.pllLocked then resetDue s1
  else
    let s2 := if s1.clk.tick % 10 = 0 then refTick (timeTick s1) (timeStep s1.time.rho) else s1
    let s3 := clockTick (grantBeat (admitTurn (grantWaiting s2)))
    let s4 := if s3.clk.tick % 1250 = 0 then microTick s3 else s3
    resetDue (rcRelease (overdueCopies (endReads (heldReads (heldReads (changeStreams (feedOwed s4)) 0) 1))))

end Sys2Proof.Machine
end

