-- ==== Sys2Proof/Machine/Dispatch.lean ====
section
/-! DEFINITION. Dispatch.lean: each command's meaning, one arm per constructor. -/

namespace Sys2Proof.Machine

/-- The effect of a command on everything but the queue of waiting commands. -/
def exec (i : Instr) (s : State) : Host.Outcome State Fault Refusal :=
  match i with
  | .mbxGo m => Sys2Proof.Machine.execMbxGo m s
  | .mgmtFrameRx port frame => Sys2Proof.Machine.execMgmtFrameRx port frame s
  | .consoleLine line => Sys2Proof.Machine.execConsoleLine line s
  | .knModuleRead data => Sys2Proof.Machine.execKnModuleRead data s
  | .dmaCmdIndex f slot prod => Sys2Proof.Machine.execDmaCmdIndex f slot prod s
  | .dmaCmdEnable f slot => Sys2Proof.Machine.execDmaCmdEnable f slot s
  | .dmaCmdDisable f slot => Sys2Proof.Machine.execDmaCmdDisable f slot s
  | .dmaCmdResume f slot => Sys2Proof.Machine.execDmaCmdResume f slot s
  | .dmaCmdSkip f slot => Sys2Proof.Machine.execDmaCmdSkip f slot s
  | .dmaCmdReset f slot => Sys2Proof.Machine.execDmaCmdReset f slot s
  | .cqCmdIndex f slot head arm => Sys2Proof.Machine.execCqCmdIndex f slot head arm s
  | .cqCmdEnable f slot => Sys2Proof.Machine.execCqCmdEnable f slot s
  | .cqCmdDisable f slot => Sys2Proof.Machine.execCqCmdDisable f slot s
  | .cqCmdResume f slot => Sys2Proof.Machine.execCqCmdResume f slot s
  | .cqCmdReset f slot => Sys2Proof.Machine.execCqCmdReset f slot s
  | .dmaG1Doorbell f slot => Sys2Proof.Machine.execDmaG1Doorbell f slot s
  | .hostNtimeLoRead f => Sys2Proof.Machine.execHostNtimeLoRead f s
  | .perfCntLoRead f k => Sys2Proof.Machine.execPerfCntLoRead f k s
  | .hostSyncRead f => Sys2Proof.Machine.execHostSyncRead f s
  | .badAccess space write => Sys2Proof.Machine.execBadAccess space write s
  | .registerWrite space off data => Sys2Proof.Machine.execRegisterWrite space off data s
  | .chipReset key => Sys2Proof.Machine.execChipReset key s
  | .bypassOn key => Sys2Proof.Machine.execBypassOn key s
  | .bypassRelease key => Sys2Proof.Machine.execBypassRelease key s
  | .forceFallback key => Sys2Proof.Machine.execForceFallback key s
  | .perstAssert link => Sys2Proof.Machine.execPerstAssert link s
  | .dlDown link => Sys2Proof.Machine.execDlDown link s
  | .pcieLinkTrained link width speed => Sys2Proof.Machine.execPcieLinkTrained link width speed s
  | .functionLevelReset f => Sys2Proof.Machine.execFunctionLevelReset f s
  | .flrComplete f => Sys2Proof.Machine.execFlrComplete f s
  | .busMasterEnableClear f => Sys2Proof.Machine.execBusMasterEnableClear f s
  | .busMasterEnableSet f => Sys2Proof.Machine.execBusMasterEnableSet f s
  | .vfEnableClear pf => Sys2Proof.Machine.execVfEnableClear pf s
  | .msixUnmask f vec => Sys2Proof.Machine.execMsixUnmask f vec s
  | .msixModerationEnd f vec => Sys2Proof.Machine.execMsixModerationEnd f vec s
  | .descriptorFetch q => Sys2Proof.Machine.execDescriptorFetch q s
  | .hostReadCompletion tag data => Sys2Proof.Machine.execHostReadCompletion tag data s
  | .hostBusError tag kind => Sys2Proof.Machine.execHostBusError tag kind s
  | .completionTimeout tag => Sys2Proof.Machine.execCompletionTimeout tag s
  | .creditTimeout target => Sys2Proof.Machine.execCreditTimeout target s
  | .txJobStart q => Sys2Proof.Machine.execTxJobStart q s
  | .rxFrameDeliver q => Sys2Proof.Machine.execRxFrameDeliver q s
  | .rxWaitLimitExpiry q => Sys2Proof.Machine.execRxWaitLimitExpiry q s
  | .drainTimeout res => Sys2Proof.Machine.execDrainTimeout res s
  | .slotFetchPoint buf rot => Sys2Proof.Machine.execSlotFetchPoint buf rot s
  | .slotSend buf rot => Sys2Proof.Machine.execSlotSend buf rot s
  | .guardianCut port => Sys2Proof.Machine.execGuardianCut port s
  | .forwardWindowCut port => Sys2Proof.Machine.execForwardWindowCut port s
  | .miniSlotBoundary rot => Sys2Proof.Machine.execMiniSlotBoundary rot s
  | .holdRaise port => Sys2Proof.Machine.execHoldRaise port s
  | .holdRelease port => Sys2Proof.Machine.execHoldRelease port s
  | .ringFrameRx port mp ts => Sys2Proof.Machine.execRingFrameRx port mp ts s
  | .delayReqRx port frame ts => Sys2Proof.Machine.execDelayReqRx port frame ts s
  | .delayRespRx port frame ts => Sys2Proof.Machine.execDelayRespRx port frame ts s
  | .calTimeout port => Sys2Proof.Machine.execCalTimeout port s
  | .calBurstStart port ts => Sys2Proof.Machine.execCalBurstStart port ts s
  | .delayReportRx port frame ts => Sys2Proof.Machine.execDelayReportRx port frame ts s
  | .linkBeatSend port ts => Sys2Proof.Machine.execLinkBeatSend port ts s
  | .linkBeatRx port frame ts => Sys2Proof.Machine.execLinkBeatRx port frame ts s
  | .announceRx port frame ts => Sys2Proof.Machine.execAnnounceRx port frame ts s
  | .ringEventRx port frame ts => Sys2Proof.Machine.execRingEventRx port frame ts s
  | .missingBeats port => Sys2Proof.Machine.execMissingBeats port s
  | .lossOfSignal port => Sys2Proof.Machine.execLossOfSignal port s
  | .serdesLinkUp who => Sys2Proof.Machine.execSerdesLinkUp who s
  | .restoreCycleReached port => Sys2Proof.Machine.execRestoreCycleReached port s
  | .pierOccurrenceEnd slot => Sys2Proof.Machine.execPierOccurrenceEnd slot s
  | .pierBackoffEnd slot => Sys2Proof.Machine.execPierBackoffEnd slot s
  | .ringPreemptVerify port => Sys2Proof.Machine.execRingPreemptVerify port s
  | .reassemblyTimeout port level => Sys2Proof.Machine.execReassemblyTimeout port level s
  | .timerEdge k => Sys2Proof.Machine.execTimerEdge k s
  | .evcapEdge k rising ts => Sys2Proof.Machine.execEvcapEdge k rising ts s
  | .gptpSend p msg ts => Sys2Proof.Machine.execGptpSend p msg ts s
  | .gptpRx p frame ts => Sys2Proof.Machine.execGptpRx p frame ts s
  | .macFrameRx p mp ts => Sys2Proof.Machine.execMacFrameRx p mp ts s
  | .cellRequestTimeout k => Sys2Proof.Machine.execCellRequestTimeout k s
  | .spillReturn q => Sys2Proof.Machine.execSpillReturn q s
  | .spillReturnDone q => Sys2Proof.Machine.execSpillReturnDone q s
  | .pauseFrameRx p frame => Sys2Proof.Machine.execPauseFrameRx p frame s
  | .pauseExpiry p c => Sys2Proof.Machine.execPauseExpiry p c s
  | .pauseWatchdogBreak p c => Sys2Proof.Machine.execPauseWatchdogBreak p c s
  | .transmissionOpportunity p mac ts => Sys2Proof.Machine.execTransmissionOpportunity p mac ts s
  | .frameTxEnd p mac => Sys2Proof.Machine.execFrameTxEnd p mac s
  | .gateEntryBoundary p => Sys2Proof.Machine.execGateEntryBoundary p s
  | .holdAdvance p => Sys2Proof.Machine.execHoldAdvance p s
  | .verifyTimeExpiry p => Sys2Proof.Machine.execVerifyTimeExpiry p s
  | .recoveryResetTimeout k => Sys2Proof.Machine.execRecoveryResetTimeout k s
  | .latentPeriodEnd k => Sys2Proof.Machine.execLatentPeriodEnd k s
  | .edgeLinkUp p rate master inverted => Sys2Proof.Machine.execEdgeLinkUp p rate master inverted s
  | .edgeLinkDown p => Sys2Proof.Machine.execEdgeLinkDown p s
  | .recoveredClockLoss p => Sys2Proof.Machine.execRecoveredClockLoss p s
  | .cableTestDone p echo => Sys2Proof.Machine.execCableTestDone p echo s
  | .podlDetectProbe p probe => Sys2Proof.Machine.execPodlDetectProbe p probe s
  | .podlClassResult p cls => Sys2Proof.Machine.execPodlClassResult p cls s
  | .podlInrushEnd p reached => Sys2Proof.Machine.execPodlInrushEnd p reached s
  | .podlOverload p => Sys2Proof.Machine.execPodlOverload p s
  | .podlShort p => Sys2Proof.Machine.execPodlShort p s
  | .podlSupplyShort p => Sys2Proof.Machine.execPodlSupplyShort p s
  | .podlMpsLost p => Sys2Proof.Machine.execPodlMpsLost p s
  | .podlRetryDelayEnd p => Sys2Proof.Machine.execPodlRetryDelayEnd p s
  | .podlBudgetWaitEnd p => Sys2Proof.Machine.execPodlBudgetWaitEnd p s
  | .podlPowered10s p => Sys2Proof.Machine.execPodlPowered10s p s
  | .moduleInsert who ident => Sys2Proof.Machine.execModuleInsert who ident s
  | .moduleTxfault who => Sys2Proof.Machine.execModuleTxfault who s
  | .segmentCloseTime d stream => Sys2Proof.Machine.execSegmentCloseTime d stream s
  | .nvmeWriteDone d ok => Sys2Proof.Machine.execNvmeWriteDone d ok s
  | .nvmeFlushTimer d => Sys2Proof.Machine.execNvmeFlushTimer d s
  | .nvmeFlushDone d ok => Sys2Proof.Machine.execNvmeFlushDone d ok s
  | .driveLinkLoss d => Sys2Proof.Machine.execDriveLinkLoss d s
  | .driveReady d => Sys2Proof.Machine.execDriveReady d s
  | .driveMountDone d info => Sys2Proof.Machine.execDriveMountDone d info s
  | .driveStall d => Sys2Proof.Machine.execDriveStall d s
  | .controllerReset d => Sys2Proof.Machine.execControllerReset d s
  | .controllerResetEnd d ready => Sys2Proof.Machine.execControllerResetEnd d ready s
  | .healthPoll d log => Sys2Proof.Machine.execHealthPoll d log s
  | .formatDone d ok => Sys2Proof.Machine.execFormatDone d ok s
  | .recordReadDone d status data => Sys2Proof.Machine.execRecordReadDone d status data s
  | .faultEvent src loc detail => Sys2Proof.Machine.execFaultEvent src loc detail s
  | .faultWindowEnd src => Sys2Proof.Machine.execFaultWindowEnd src s
  | .reactionEnd id => Sys2Proof.Machine.execReactionEnd id s
  | .shadowEnd id => Sys2Proof.Machine.execShadowEnd id s
  | .selftestStart src => Sys2Proof.Machine.execSelftestStart src s
  | .selftestDone src verdict => Sys2Proof.Machine.execSelftestDone src verdict s
  | .forcedEvent src => Sys2Proof.Machine.execForcedEvent src s
  | .boundaryDetect src nb => Sys2Proof.Machine.execBoundaryDetect src nb s
  | .tempSample core io phy0 phy1 => Sys2Proof.Machine.execTempSample core io phy0 phy1 s
  | .supplyExcursion group => Sys2Proof.Machine.execSupplyExcursion group s
  | .d2dLinkDown k => Sys2Proof.Machine.execD2dLinkDown k s
  | .unitClockGate unit => Sys2Proof.Machine.execUnitClockGate unit s
  | .regionRestartDone region => Sys2Proof.Machine.execRegionRestartDone region s
  | .slotMissed slot port => Sys2Proof.Machine.execSlotMissed slot port s
  | .smdVerifyRx p smd => Sys2Proof.Machine.execSmdVerifyRx p smd s
  | .uplinkLinkDown u => Sys2Proof.Machine.execUplinkLinkDown u s
  | .recoveredClockReturn p => Sys2Proof.Machine.execRecoveredClockReturn p s
  | .vfEnableSet pf n => Sys2Proof.Machine.execVfEnableSet pf n s
  | .knClaim => Sys2Proof.Machine.execKnClaim s
  | .knRelease => Sys2Proof.Machine.execKnRelease s
  | .knHeartbeat => Sys2Proof.Machine.execKnHeartbeat s
  | .knHandover => Sys2Proof.Machine.execKnHandover s
  | .knAccept => Sys2Proof.Machine.execKnAccept s
  | .knTakeover => Sys2Proof.Machine.execKnTakeover s
  | .knOwnerStatus => Sys2Proof.Machine.execKnOwnerStatus s
  | .knAuditRead => Sys2Proof.Machine.execKnAuditRead s
  | .knCounterPageGrant => Sys2Proof.Machine.execKnCounterPageGrant s
  | .knCounterPageWithdraw => Sys2Proof.Machine.execKnCounterPageWithdraw s
  | .knVersion => Sys2Proof.Machine.execKnVersion s
  | .knObjRead => Sys2Proof.Machine.execKnObjRead s
  | .knRingStatus => Sys2Proof.Machine.execKnRingStatus s
  | .knTimeSet => Sys2Proof.Machine.execKnTimeSet s
  | .knTimeConfig => Sys2Proof.Machine.execKnTimeConfig s
  | .knTimerSet => Sys2Proof.Machine.execKnTimerSet s
  | .knEvcapSet => Sys2Proof.Machine.execKnEvcapSet s
  | .knEvcapRead => Sys2Proof.Machine.execKnEvcapRead s
  | .knRuleWrite => Sys2Proof.Machine.execKnRuleWrite s
  | .knHashProfileSet => Sys2Proof.Machine.execKnHashProfileSet s
  | .knPortDefaultsSet => Sys2Proof.Machine.execKnPortDefaultsSet s
  | .knRrSetDefine => Sys2Proof.Machine.execKnRrSetDefine s
  | .knMeterSet => Sys2Proof.Machine.execKnMeterSet s
  | .knMeterReset => Sys2Proof.Machine.execKnMeterReset s
  | .knVatQuotaSet => Sys2Proof.Machine.execKnVatQuotaSet s
  | .knSpillSet => Sys2Proof.Machine.execKnSpillSet s
  | .knQueueSet => Sys2Proof.Machine.execKnQueueSet s
  | .knGateLoad => Sys2Proof.Machine.execKnGateLoad s
  | .knGateCancel => Sys2Proof.Machine.execKnGateCancel s
  | .knGateRead => Sys2Proof.Machine.execKnGateRead s
  | .knShaperSet => Sys2Proof.Machine.execKnShaperSet s
  | .knStreamShaperBind => Sys2Proof.Machine.execKnStreamShaperBind s
  | .knQsampleSet => Sys2Proof.Machine.execKnQsampleSet s
  | .knQsampleRead => Sys2Proof.Machine.execKnQsampleRead s
  | .knSlotEgressBind => Sys2Proof.Machine.execKnSlotEgressBind s
  | .knPreemptSet => Sys2Proof.Machine.execKnPreemptSet s
  | .knPreemptRead => Sys2Proof.Machine.execKnPreemptRead s
  | .knPauseSet => Sys2Proof.Machine.execKnPauseSet s
  | .knStreamIdSet => Sys2Proof.Machine.execKnStreamIdSet s
  | .knFrerGenSet => Sys2Proof.Machine.execKnFrerGenSet s
  | .knFrerRcvySet => Sys2Proof.Machine.execKnFrerRcvySet s
  | .knPortSet => Sys2Proof.Machine.execKnPortSet s
  | .knPortStatus => Sys2Proof.Machine.execKnPortStatus s
  | .knCableTest => Sys2Proof.Machine.execKnCableTest s
  | .knPodlSet => Sys2Proof.Machine.execKnPodlSet s
  | .knFuncQueueMap => Sys2Proof.Machine.execKnFuncQueueMap s
  | .knEventMap => Sys2Proof.Machine.execKnEventMap s
  | .knDmaqSet => Sys2Proof.Machine.execKnDmaqSet s
  | .knDmaqRecover => Sys2Proof.Machine.execKnDmaqRecover s
  | .knDmaqStatus => Sys2Proof.Machine.execKnDmaqStatus s
  | .knRegionPower => Sys2Proof.Machine.execKnRegionPower s
  | .knRecStreamSet => Sys2Proof.Machine.execKnRecStreamSet s
  | .knRecFlush => Sys2Proof.Machine.execKnRecFlush s
  | .knRecSeal => Sys2Proof.Machine.execKnRecSeal s
  | .knRecUnseal => Sys2Proof.Machine.execKnRecUnseal s
  | .knRecDrive => Sys2Proof.Machine.execKnRecDrive s
  | .knRecQuotaSet => Sys2Proof.Machine.execKnRecQuotaSet s
  | .knRecStatus => Sys2Proof.Machine.execKnRecStatus s
  | .knFaultSet => Sys2Proof.Machine.execKnFaultSet s
  | .knFaultForce => Sys2Proof.Machine.execKnFaultForce s
  | .knFaultLogRead => Sys2Proof.Machine.execKnFaultLogRead s
  | .knSelftestRun => Sys2Proof.Machine.execKnSelftestRun s
  | .knCounterRead => Sys2Proof.Machine.execKnCounterRead s
  | .knSchedLoad => Sys2Proof.Machine.execKnSchedLoad s
  | .knSchedStatus => Sys2Proof.Machine.execKnSchedStatus s
  | .knRingWithdraw => Sys2Proof.Machine.execKnRingWithdraw s
  | .knRingReadmit => Sys2Proof.Machine.execKnRingReadmit s
  | .knBypass => Sys2Proof.Machine.execKnBypass s
  | .knReset => Sys2Proof.Machine.execKnReset s
  | .knFwWrite => Sys2Proof.Machine.execKnFwWrite s
  | .knFwActivate => Sys2Proof.Machine.execKnFwActivate s
  | .knConfigStore => Sys2Proof.Machine.execKnConfigStore s
  | .knConfigRead => Sys2Proof.Machine.execKnConfigRead s
  | .knDrainSet => Sys2Proof.Machine.execKnDrainSet s
  | .leaseLapse => Sys2Proof.Machine.execLeaseLapse s
  | .handoverWindowEnd => Sys2Proof.Machine.execHandoverWindowEnd s
  | .cycleBoundary => Sys2Proof.Machine.execCycleBoundary s
  | .offsetSlew => Sys2Proof.Machine.execOffsetSlew s
  | .delayReportSend => Sys2Proof.Machine.execDelayReportSend s
  | .calChainTimeout => Sys2Proof.Machine.execCalChainTimeout s
  | .ringEventSend => Sys2Proof.Machine.execRingEventSend s
  | .listenPeriodEnd => Sys2Proof.Machine.execListenPeriodEnd s
  | .announceResend => Sys2Proof.Machine.execAnnounceResend s
  | .announceWindowEnd => Sys2Proof.Machine.execAnnounceWindowEnd s
  | .cycleOriginReached => Sys2Proof.Machine.execCycleOriginReached s
  | .rankBackoffEnd => Sys2Proof.Machine.execRankBackoffEnd s
  | .bypassSwitchOn => Sys2Proof.Machine.execBypassSwitchOn s
  | .bypassSwitchOff => Sys2Proof.Machine.execBypassSwitchOff s
  | .withdrawActTime => Sys2Proof.Machine.execWithdrawActTime s
  | .withdrawBypass => Sys2Proof.Machine.execWithdrawBypass s
  | .ppsOutEdge => Sys2Proof.Machine.execPpsOutEdge s
  | .holdoverEnd => Sys2Proof.Machine.execHoldoverEnd s
  | .gateListActivation => Sys2Proof.Machine.execGateListActivation s
  | .shaperRefill => Sys2Proof.Machine.execShaperRefill s
  | .qsampleInstant => Sys2Proof.Machine.execQsampleInstant s
  | .faultLogCollect => Sys2Proof.Machine.execFaultLogCollect s
  | .tempCoolReset => Sys2Proof.Machine.execTempCoolReset s
  | .watchdogKick => Sys2Proof.Machine.execWatchdogKick s
  | .watchdogExpiry => Sys2Proof.Machine.execWatchdogExpiry s
  | .pllLossOfLock => Sys2Proof.Machine.execPllLossOfLock s
  | .referenceLoss => Sys2Proof.Machine.execReferenceLoss s
  | .referenceReturn => Sys2Proof.Machine.execReferenceReturn s
  | .cellarSelfRefresh => Sys2Proof.Machine.execCellarSelfRefresh s
  | .resetNFall => Sys2Proof.Machine.execResetNFall s
  | .resetNRise => Sys2Proof.Machine.execResetNRise s
  | .powerOnResetRelease => Sys2Proof.Machine.execPowerOnResetRelease s
  | .trestleSupplyDip => Sys2Proof.Machine.execTrestleSupplyDip s
  | .imageVerified => Sys2Proof.Machine.execImageVerified s
  | .corePgoodRise => Sys2Proof.Machine.execCorePgoodRise s
  | .configApply => Sys2Proof.Machine.execConfigApply s
  | .runningReached => Sys2Proof.Machine.execRunningReached s
  | .startTimeout => Sys2Proof.Machine.execStartTimeout s
  | .fallbackEntry => Sys2Proof.Machine.execFallbackEntry s
  | .recoveryImageLoad => Sys2Proof.Machine.execRecoveryImageLoad s
  | .flashWriteDone => Sys2Proof.Machine.execFlashWriteDone s
  | .configStoreDone => Sys2Proof.Machine.execConfigStoreDone s
  | .schedStagingDone => Sys2Proof.Machine.execSchedStagingDone s
  | .schedActivation => Sys2Proof.Machine.execSchedActivation s

end Sys2Proof.Machine
end

