-- ==== Sys2Proof/Safety.lean ====
section
/-! DEFINITION. Safety.lean: what a safe run of the block is, and the words in which the claims speak of a request of Keanak:
what lets it pass, what its answer shows, what its record holds, and what a request leaves as it was. -/

namespace Sys2Proof.Machine

open Sys2Proof

/-- Every waiting command has its operands in range. -/
abbrev State.Inv (s : State) : Prop := ∀ c ∈ s.pending, Instr.wf c = true

/-- The part's step neither faults nor refuses. -/
def State.safe (s : State) : Prop := ∃ t, step s = .next t

/-- An effect, with the queue of waiting commands as it stood. -/
def keeping (s t : State) : State := { t with pending := s.pending }

/-- A slot of a function whose BAR0 takes accesses holds queue `q` (R295). -/
abbrev SlotOn (s : State) (f slot q : Nat) : Prop :=
  barLive s f = true ∧ slot < slotCount f ∧ tblGet 0 s.host.slots (f * 4096 + slot) = q + 1

/-- A function's BAR0 answers reads of every register: its accesses are taken, and the part is not in fallback mode (R298). -/
abbrev Reads (s : State) (f : Nat) : Prop := barLive s f = true ∧ s.boot.fallback = false

/-- It is the turn of request `r`, it carries the command `code`, and the checks 1 to 7 of R391 let it pass. -/
abbrev Accepted (s : State) (code : Nat) (x : Exe) (r : Request) : Prop :=
  nextRequest s = some r ∧ r.cmd = code ∧ badHeader r = none ∧ (cmdOf code).map (fun c => preCheck s x c r) = some none

/-- A set command whose turn it is passes the checks 1 to 11 of R391 that hold for every set command. -/
abbrev SetAccepted (s : State) (code : Nat) (c : SetCmd) (r : Request) : Prop :=
  Accepted s code c.exe r ∧ c.objOk s r.obj = true ∧ pCheck (c.defs r.obj) r.params r.mask = none ∧ isAbsent s r.obj = false

/-- The values of an object after a set command: those its MASK gives, and the present ones (R409). -/
def SetCmd.vals (c : SetCmd) (s : State) (r : Request) : List Nat :=
  pMerge (c.defs r.obj) r.params r.mask (c.get s r.obj)

/-- The response of request `r` stands in its mailbox with STATE DONE, and the request waits no more (R386, R390). The image is that
of R390 as ownership and fallback stand in `u`. -/
def Answered (u t : State) (r : Request) (status detail : Nat) (result bulk : Octets) : Prop :=
  (mbxAt t r.master).resp = respImage u r status detail result bulk.length ∧ (mbxAt t r.master).respBulk = bulk ∧
    (mbxAt t r.master).state = .done ∧ (mbxAt t r.master).held = false ∧ ∀ x ∈ t.kn.waiting, x.master ≠ r.master

/-- One record with this body is the journal's newest and no other has joined it; it carries the SEQ and the time that stood in
`s` (R401, R402). -/
def Recorded (s t : State) (body : Octets) : Prop :=
  t.kn.journal = (auditRecord s (auditFlags s body 0) (nt16 s) :: s.kn.journal).take 16384 ∧ t.kn.seq = s.kn.seq + 1

/-- The journal stands as it was. -/
def Unrecorded (s t : State) : Prop := t.kn.journal = s.kn.journal ∧ t.kn.seq = s.kn.seq ∧ t.kn.chain = s.kn.chain

/-- What no answer of Keanak changes: everything but what goes out (the ring's egress, the departure of a DELAY_REQ that leaves before
the answer, the vectors), the counters, and Keanak's own mailboxes, queue, journal and lease instant. -/
def KnFrame (s t : State) : Prop :=
  t.free = s.free ∧ t.clk = s.clk ∧ t.regs = s.regs ∧ t.time = s.time ∧ t.cyc = s.cyc ∧
    { t.ring with eastTx := s.ring.eastTx, westTx := s.ring.westTx
                  east := { t.ring.east with outT1 := s.ring.east.outT1 }
                  west := { t.ring.west with outT1 := s.ring.west.outT1 } } = s.ring ∧
    t.cls = s.cls ∧ t.meters = s.meters ∧ t.vat = s.vat ∧ t.eg = s.eg ∧ t.frer = s.frer ∧ t.ports = s.ports ∧
    { t.host with vecs := s.host.vecs } = s.host ∧ t.dma = s.dma ∧ t.geley = s.geley ∧
    { t.kn with mbx := s.kn.mbx, waiting := s.kn.waiting, leaseEnd := s.kn.leaseEnd, journal := s.kn.journal, seq := s.kn.seq,
                chain := s.kn.chain, mirror := s.kn.mirror } = s.kn ∧
    t.flt = s.flt ∧ t.boot = s.boot ∧ t.sched = s.sched ∧ t.pins = s.pins ∧ t.pending = s.pending

/-- Command `i` completes as a change of request `r`: the record with `body` is in the journal, the owner's lease restarts, the
change `f` takes effect, and the response is OK with the record's SEQ and `result`; nothing else changes (R390, R394, R399,
R404). -/
def KnWrites (i : Instr) (s : State) (r : Request) (body result : Octets) (f : State → State) : Prop :=
  ∃ a t, KnFrame s a ∧ a.kn.leaseEnd = now s + msTicks s.kn.leaseMs ∧ Recorded s a body ∧ exec i s = .next t ∧
    KnFrame (f a) t ∧ t.kn.leaseEnd = (f a).kn.leaseEnd ∧ t.kn.journal = (f a).kn.journal ∧ t.kn.seq = (f a).kn.seq ∧
    Answered (f a) t r 0 0 (leBytes 8 s.kn.seq ++ result) []

/-- The record of a set command: the object's structure before and after (R402, R403). -/
def SetCmd.body (c : SetCmd) (s : State) (r : Request) (f : State → State) : Octets :=
  changeBody s r r.obj (some (c.read s r.obj)) (some (c.read (f s) r.obj))

/-- Set command `i` completes with the change `f`. -/
def KnSets (i : Instr) (s : State) (r : Request) (c : SetCmd) (f : State → State) : Prop :=
  KnWrites i s r (c.body s r f) [] f

/-- Command `i` completes with no record: the change `f` takes effect, and the response is OK with a result and its bulk; the lease
ends at `lease`; nothing else changes. -/
def KnReads (i : Instr) (s : State) (r : Request) (lease : Nat) (result bulk : Octets) (f : State → State) : Prop :=
  ∃ a t, KnFrame s a ∧ exec i s = .next t ∧ KnFrame (f a) t ∧ Unrecorded s t ∧ t.kn.leaseEnd = lease ∧
    Answered s t r 0 0 result bulk

/-! ### The commands of the catalogue (R413) -/

/-- Ownership, audit and versions: each row's command, its code, and how Keanak executes it. -/
def knRowsOwner : List (Instr × Nat × Exe) :=
  [(.knClaim, 0x0001, claimExe), (.knRelease, 0x0002, releaseExe), (.knHeartbeat, 0x0003, heartbeatExe),
   (.knHandover, 0x0004, handoverExe), (.knAccept, 0x0005, acceptExe), (.knTakeover, 0x0006, takeoverExe),
   (.knOwnerStatus, 0x0007, ownerStatusExe), (.knAuditRead, 0x0008, auditReadExe),
   (.knCounterPageGrant, 0x0009, counterPageGrantExe), (.knCounterPageWithdraw, 0x000A, counterPageWithdrawExe),
   (.knVersion, 0x000B, versionExe), (.knObjRead, 0x000C, objReadExe)]

/-- Ring, time, classification and the vat: each row's command, its code, and how Keanak executes it. -/
def knRowsTime : List (Instr × Nat × Exe) :=
  [(.knRingStatus, 0x0101, ringStatusExe), (.knTimeSet, 0x0102, timeSetCmd.exe), (.knTimeConfig, 0x0103, timeConfigCmd.exe),
   (.knTimerSet, 0x0104, timerSetCmd.exe), (.knEvcapSet, 0x0105, evcapSetCmd.exe), (.knEvcapRead, 0x0106, evcapReadExe),
   (.knRuleWrite, 0x0201, ruleWriteExe), (.knHashProfileSet, 0x0202, hashProfileCmd.exe),
   (.knPortDefaultsSet, 0x0203, portDefaultsCmd.exe), (.knRrSetDefine, 0x0204, rrSetDefineExe),
   (.knMeterSet, 0x0205, meterSetCmd.exe), (.knMeterReset, 0x0206, meterResetExe), (.knVatQuotaSet, 0x0207, vatQuotaCmd.exe),
   (.knSpillSet, 0x0208, spillCmd.exe)]

/-- Egress, preemption and redundancy: each row's command, its code, and how Keanak executes it. -/
def knRowsEgress : List (Instr × Nat × Exe) :=
  [(.knQueueSet, 0x0301, queueSetCmd.exe), (.knGateLoad, 0x0302, gateLoadExe), (.knGateCancel, 0x0303, gateCancelExe),
   (.knGateRead, 0x0304, gateReadExe), (.knShaperSet, 0x0305, shaperCmd.exe), (.knStreamShaperBind, 0x0306, streamBindCmd.exe),
   (.knQsampleSet, 0x0307, qsampleCmd.exe), (.knQsampleRead, 0x0308, qsampleReadExe),
   (.knSlotEgressBind, 0x0309, slotBindCmd.exe), (.knPreemptSet, 0x0401, preemptCmd.exe),
   (.knPreemptRead, 0x0402, preemptReadExe), (.knPauseSet, 0x0403, pauseCmd.exe), (.knStreamIdSet, 0x0404, streamIdCmd.exe),
   (.knFrerGenSet, 0x0405, frerGenCmd.exe), (.knFrerRcvySet, 0x0406, frerRcvyCmd.exe)]

/-- Ports, the host link and the recorder: each row's command, its code, and how Keanak executes it. -/
def knRowsPorts (data : Option Octets) : List (Instr × Nat × Exe) :=
  [(.knPortSet, 0x0501, portSetCmd.exe), (.knPortStatus, 0x0502, portStatusExe), (.knCableTest, 0x0503, cableTestExe),
   (.knPodlSet, 0x0504, podlSetCmd.exe), ((.knModuleRead data), 0x0505, moduleReadExe data),
   (.knFuncQueueMap, 0x0601, queueMapCmd.exe), (.knEventMap, 0x0602, eventMapCmd.exe), (.knDmaqSet, 0x0603, dmaqSetExe),
   (.knDmaqRecover, 0x0604, dmaqRecoverExe), (.knDmaqStatus, 0x0605, dmaqStatusExe), (.knRegionPower, 0x0606, regionPowerExe),
   (.knRecStreamSet, 0x0701, recStreamCmd.exe), (.knRecFlush, 0x0702, recFlushExe), (.knRecSeal, 0x0703, recSealExe),
   (.knRecUnseal, 0x0704, recUnsealExe), (.knRecDrive, 0x0705, recDriveExe), (.knRecQuotaSet, 0x0706, recQuotaCmd.exe),
   (.knRecStatus, 0x0707, recStatusExe)]

/-- Faults, firmware, configuration and the schedule: each row's command, its code, and how Keanak executes it. -/
def knRowsFaults : List (Instr × Nat × Exe) :=
  [(.knFaultSet, 0x0801, faultSetCmd.exe), (.knFaultForce, 0x0802, faultForceCmd.exe),
   (.knFaultLogRead, 0x0803, faultLogReadExe), (.knSelftestRun, 0x0804, selftestRunExe),
   (.knCounterRead, 0x0805, counterReadExe), (.knSchedLoad, 0x0901, schedLoadExe), (.knSchedStatus, 0x0902, schedStatusExe),
   (.knRingWithdraw, 0x0903, ringWithdrawExe), (.knRingReadmit, 0x0904, ringReadmitExe), (.knBypass, 0x0905, bypassExe),
   (.knReset, 0x0906, resetExe), (.knFwWrite, 0x0907, fwWriteExe), (.knFwActivate, 0x0908, fwActivateExe),
   (.knConfigStore, 0x0909, configStoreExe), (.knConfigRead, 0x090A, configReadExe), (.knDrainSet, 0x090B, drainCmd.exe)]

/-- Every command of the catalogue; KN_MODULE_READ with what the module answers. -/
def knRows (data : Option Octets) : List (Instr × Nat × Exe) :=
  knRowsOwner ++ knRowsTime ++ knRowsEgress ++ knRowsPorts data ++ knRowsFaults

/-! ### The ring -/

/-- A ring-control frame of type `typ` that arrives at `ts` and passes every check acts at a ring port (R59, R80, R96, R127). -/
abbrev CtlGood (s : State) (e : RPort) (o : Octets) (typ ts : Nat) : Prop :=
  ctlRuns s = true ∧ (rport s e).state ≠ .down ∧ hdrCheck s e o ts = none ∧ (parseHdr o).seg = 3 ∧ (parseHdr o).id = typ ∧
    fcsGood o = true

end Sys2Proof.Machine
end

