-- ==== Sys2Proof/Certificates/Slice0/Obligations.lean ====
section
/-! DEFINITION. Obligations.lean: the statements about the block, for the provers. -/

open Sys2Proof Sys2Proof.Machine

/-- R10, R12, R27, R88, R297, R301, R452, R453: a read of HOST_NTIME_LO answers the low word of network time and holds the rest for the
function; one of a granted page's PERF_CNT_LO answers the counter's low word and latches the high one; HOST_SYNC reads 0; an access
that BAR0 does not allow reads all ones and is counted. Where the function exists and its BAR0 takes no access, a read answers all
ones and holds nothing. -/
def Obligations.HostReadsThatChangeState : Prop :=
  (∀ s f, Instr.wf (.hostNtimeLoRead f) = true → funcExists s f = true → Reads s f →
    exec (.hostNtimeLoRead f) s = .next (emit { s with host := { s.host with
      ntHeld := tblSet (0, 0, 0) s.host.ntHeld f (ntNs s / 2 ^ 32 % 2 ^ 32, ntFrac s, timeStatus s) } }
      (.readData f (ntNs s % 2 ^ 32)))) ∧
  (∀ s f i, Instr.wf (.perfCntLoRead f i) = true → funcExists s f = true → Reads s f → pageSeen s f = true →
    exec (.perfCntLoRead f i) s = .next (emit { s with host := { s.host with
      perfLatch := tblSet (0, 0) s.host.perfLatch f (i + 1, perfHigh s i) } }
      (.readData f ((tblGet {} s.ctr.perf i).v % 2 ^ 32)))) ∧
  (∀ s f i, Instr.wf (.perfCntLoRead f i) = true → funcExists s f = true → Reads s f → pageSeen s f = false →
    exec (.perfCntLoRead f i) s = .next (emit s (.readData f 0))) ∧
  (∀ s f, Instr.wf (.hostSyncRead f) = true → funcExists s f = true → Reads s f →
    exec (.hostSyncRead f) s = .next (emit s (.readData f 0))) ∧
  (∀ s f, Instr.wf (.badAccess (.host f) false) = true → funcExists s f = true → barLive s f = true →
    exec (.badAccess (.host f) false) s = .next (emit (count s 0x09 0 0) (.readData f 0xFFFFFFFF)) ∧
    exec (.badAccess (.host f) true) s = .next (count s 0x09 0 0)) ∧
  (∀ s f i, Instr.wf (.hostNtimeLoRead f) = true → funcExists s f = true → ¬Reads s f →
    ∀ c ∈ [Instr.hostNtimeLoRead f, .perfCntLoRead f i, .hostSyncRead f], Instr.wf c = true →
      exec c s = .next (emit s (.readData f 0xFFFFFFFF)))

/-- R289, R291, R292, R307: an FLR disables the function's queues and resets its registers, its slots and mappings stay, and it ends;
an FLR of a PF takes its VFs, and the ownership where its master holds it; VF Enable makes VFs exist and takes them; Bus Master Enable
stops and resumes the function. -/
def Obligations.FunctionResetsAndEnables : Prop :=
  (∀ s f, Instr.wf (.functionLevelReset f) = true → funcExists s f = true → (funcAt s f).flr = false →
    ∃ t, exec (.functionLevelReset f) s = .next t ∧ funcAt t f = { page := (funcAt s f).page, flr := true } ∧
      (∀ q, funcOfQueue s q = some f → (qAt t q).state = .disabled) ∧ t.host.slots = s.host.slots ∧ t.host.evMap = s.host.evMap ∧
      tblGet (0, 0, 0) t.host.ntHeld f = (0, 0, 0) ∧ (f % 64 = 0 → tblGet 0 t.host.numVfs (f / 64) = 0) ∧
      t.kn.owner = (if f % 64 = 0 ∧ s.kn.owner = some (f / 64) then none else s.kn.owner)) ∧
  (∀ s f, Instr.wf (.flrComplete f) = true → (funcAt s f).flr = true →
    exec (.flrComplete f) s = .next (setFunc s f { funcAt s f with flr := false })) ∧
  (∀ s pf n, Instr.wf (.vfEnableSet pf n) = true → funcExists s (pf * 64) = true → s.boot.fallback = false →
    (funcAt s (pf * 64)).flr = false → tblGet 0 s.host.numVfs pf = 0 →
    exec (.vfEnableSet pf n) s = .next { s with host := { s.host with numVfs := tblSet 0 s.host.numVfs pf n } }) ∧
  (∀ s pf, Instr.wf (.vfEnableClear pf) = true → funcExists s (pf * 64) = true →
    ∃ t, exec (.vfEnableClear pf) s = .next t ∧ tblGet 0 t.host.numVfs pf = 0 ∧
      (∀ n, 1 ≤ n → n ≤ 63 → funcExists s (pf * 64 + n) = true → funcAt t (pf * 64 + n) = {}) ∧
      t.host.slots = s.host.slots ∧ t.host.evMap = s.host.evMap ∧ t.kn = s.kn) ∧
  (∀ s f, Instr.wf (.busMasterEnableClear f) = true → funcExists s f = true → (funcAt s f).flr = false →
    exec (.busMasterEnableClear f) s = .next (setFunc s f { funcAt s f with bme := false })) ∧
  (∀ s f, Instr.wf (.busMasterEnableSet f) = true → funcExists s f = true → (funcAt s f).flr = false → liveQueues s f = [] →
    (∀ v < numVecs f, (vecAt s f v).pend = false) →
    exec (.busMasterEnableSet f) s = .next (setFunc s f { funcAt s f with bme := true }))

/-- R286, R287, R290, R300: PERST and a link that goes down reset the link and its functions, a trained link is up with its width and
speed, and a vector that is unmasked, or whose moderation ends, sends its pending message once. -/
def Obligations.HostLinksAndVectors : Prop :=
  (∀ s k, Instr.wf (.perstAssert k) = true → linkExists s k = true →
    exec (.perstAssert k) s =
      .next (keeping s (linkReset { s with host := { s.host with perst := setInsert s.host.perst k } } k))) ∧
  (∀ s k, Instr.wf (.dlDown k) = true → linkExists s k = true →
    ∃ t, exec (.dlDown k) s = .next t ∧ t = keeping s (linkReset s k) ∧ t.host.linkUp.contains k = false ∧ tblGet 0 t.host.widths k = 0 ∧
      tblGet 0 t.host.speeds k = 0 ∧ t.host.slots = s.host.slots) ∧
  (∀ s k w v, Instr.wf (.pcieLinkTrained k w v) = true → linkExists s k = true → trainOk s w v = true → s.boot.inReset = false →
    exec (.pcieLinkTrained k w v) s = .next { s with host := { s.host with
      linkUp := setInsert s.host.linkUp k, widths := tblSet 0 s.host.widths k w, speeds := tblSet 0 s.host.speeds k v
      perst := setErase s.host.perst k } }) ∧
  (∀ s f v, Instr.wf (.msixUnmask f (some v)) = true → barLive s f = true → v < numVecs f →
    let u := setVec s f v { vecAt s f v with masked := false }
    (vecMaySend u f v = true → exec (.msixUnmask f (some v)) s = .next
      (emit (setVec u f v { vecAt u f v with pend := false, lastSent := some (now s) }) (.msix f v))) ∧
    (vecMaySend u f v = false → exec (.msixUnmask f (some v)) s = .next u)) ∧
  (∀ s f, Instr.wf (.msixUnmask f none) = true → funcExists s f = true → (∀ v < numVecs f, (vecAt s f v).pend = false) →
    exec (.msixUnmask f none) s = .next (setFunc s f { funcAt s f with fmask := false })) ∧
  (∀ s f v, Instr.wf (.msixModerationEnd f v) = true → vecMaySend s f v = true →
    exec (.msixModerationEnd f v) s = .next
      (emit (setVec s f v { vecAt s f v with pend := false, lastSent := some (now s) }) (.msix f v))) ∧
  (∀ s f v, Instr.wf (.msixModerationEnd f v) = true → (vecAt s f v).pend = false → exec (.msixModerationEnd f v) s = .next s)

/-- R315, R316, R324, R344: a producer index that lies ahead within the ring is taken, one that overruns or retreats places the queue in
ERROR, and one for a queue that is off is discarded and counted; a completion queue's head moves and arms it, and a head beyond the
tail is counted; a generation-1 doorbell starts a scan of each ring that is on. -/
def Obligations.DmaIndexWrites : Prop :=
  (∀ s f slot prod q, Instr.wf (.dmaCmdIndex f slot prod) = true → SlotOn s f slot q → qKind q < 3 →
    let x := qAt s q
    let i := exec (.dmaCmdIndex f slot prod) s
    let on := x.state ≠ .disabled ∧ x.state ≠ .draining
    (on → idxDiff prod x.cons ≤ ringSize s q → idxDiff x.prod x.cons ≤ idxDiff prod x.cons →
      i = .next (setQ s q { x with prod := prod })) ∧
    (on → ringSize s q < idxDiff prod x.cons → i = .next (keeping s (errorQueue s q 1 prod))) ∧
    (on → idxDiff prod x.cons ≤ ringSize s q → idxDiff prod x.cons < idxDiff x.prod x.cons →
      i = .next (keeping s (errorQueue s q 2 prod))) ∧
    (¬on → i = .next (count s 0x08 0 1))) ∧
  (∀ s f slot head arm q, Instr.wf (.cqCmdIndex f slot head arm) = true → SlotOn s f slot q → qKind q = 3 →
    let x := qAt s q
    let u := setQ s q { x with cons := head, fullFired := x.fullFired && decide (head = x.cons) }
    let i := exec (.cqCmdIndex f slot head arm) s
    let on := x.state ≠ .disabled ∧ x.state ≠ .draining
    (on → idxDiff x.prod head ≤ idxDiff x.prod x.cons → x.held = none → arm = false → i = .next u) ∧
    (on → idxDiff x.prod head ≤ idxDiff x.prod x.cons → x.held = none → arm = true → x.prod = head →
      i = .next (setQ u q { qAt u q with armed := true })) ∧
    (on → idxDiff x.prod head ≤ idxDiff x.prod x.cons → x.held = none → arm = true → x.prod ≠ head →
      i = .next (keeping s (fireCq (setQ u q { qAt u q with armed := false }) q 0))) ∧
    (on → idxDiff x.prod x.cons < idxDiff x.prod head → i = .next (count s 0x08 q 3)) ∧
    (¬on → i = .next (count s 0x08 0 1))) ∧
  (∀ s f slot q, Instr.wf (.dmaG1Doorbell f slot) = true → SlotOn s f slot q → qKind q = 4 →
    let off := fun (t : State) (r : Nat) => (qAt t r).state = .disabled ∨ (qAt t r).state = .draining
    let r := 0x5000 + qNum q
    (off s q → off s r → exec (.dmaG1Doorbell f slot) s = .next s) ∧
    (off s q → ¬off s r → exec (.dmaG1Doorbell f slot) s = .next (keeping s (startScan s r))) ∧
    (¬off s q → off (startScan s q) r → exec (.dmaG1Doorbell f slot) s = .next (keeping s (startScan s q))) ∧
    (¬off s q → ¬off (startScan s q) r → exec (.dmaG1Doorbell f slot) s = .next (keeping s (startScan (startScan s q) r)))) ∧
  (∀ s f slot prod, Instr.wf (.dmaCmdIndex f slot prod) = true → barLive s f = true → slot < slotCount f →
    tblGet 0 s.host.slots (f * 4096 + slot) = 0 → exec (.dmaCmdIndex f slot prod) s = .next (count s 0x09 0 7))

/-- R309, R312, R314, R353, R355: ENABLE runs a disabled queue with every index 0 where R309 allows it, DISABLE drains it, RESUME and SKIP
act on a queue that is halted or in ERROR, RESET disables it, and a command that is not valid in the queue's state is counted; a queue
that has not drained at its timeout is disabled. The commands of a completion queue do the same, but SKIP is none of them. -/
def Obligations.DmaQueueCommands : Prop :=
  (∀ s f slot q, SlotOn s f slot q → qKind q ≠ 4 →
    (∀ c ∈ [Instr.dmaCmdEnable f slot, .cqCmdEnable f slot], Instr.wf c = true →
      ((qAt s q).state = .disabled → mayEnable s q = true → exec c s = .next (keeping s (enableQueue s q))) ∧
      ((qAt s q).state = .disabled → mayEnable s q = true → (qAt s q).kept = [] →
        exec c s = .next (setQ s q { (qAt s q).cleared with state := .running })) ∧
      ((qAt s q).state = .disabled → mayEnable s q = false → exec c s = .next (count s 0x08 0 0)) ∧
      ((qAt s q).state ≠ .disabled → exec c s = .next (count s 0x08 0 2))) ∧
    (∀ c ∈ [Instr.dmaCmdDisable f slot, .cqCmdDisable f slot], Instr.wf c = true →
      let off := (qAt s q).state = .disabled ∨ (qAt s q).state = .draining ∨ (qKind q = 3 ∧ boundLive s q ≠ [])
      (off → exec c s = .next (count s 0x08 0 2)) ∧ (¬off → exec c s = .next (keeping s (startDrain s q)))) ∧
    (∀ c ∈ [Instr.dmaCmdResume f slot, .cqCmdResume f slot], Instr.wf c = true →
      ((qAt s q).state = .halted → exec c s = .next (keeping s (resumeQueue s q))) ∧
      ((qAt s q).state ≠ .halted → exec c s = .next (count s 0x08 0 2))) ∧
    (∀ c ∈ [Instr.dmaCmdReset f slot, .cqCmdReset f slot], Instr.wf c = true →
      (qKind q ≠ 3 → ∃ t, exec c s = .next t ∧ t = keeping s (disableQueue s q true) ∧ (qAt t q).state = .disabled ∧
        (qAt t q).reason = 0 ∧ jobsOf t q = []) ∧
      (qKind q = 3 → exec c s = .next (setQ s q { (qAt s q).cleared with
        kept := ((qAt s q).held.map (·, 0)).toList ++ (qAt s q).kept })))) ∧
  (∀ s f slot q, SlotOn s f slot q → qKind q < 3 → Instr.wf (.dmaCmdSkip f slot) = true →
    let x := qAt s q
    (x.state = .error → x.reason = 1 ∨ x.reason = 2 → exec (.dmaCmdSkip f slot) s = .next (setQ s q
      { x with state := .running, reason := 0, errAddr := 0, errDir := false, errFetch := false, haltN := 0 })) ∧
    (x.state = .halted → exec (.dmaCmdSkip f slot) s = .next (keeping s (skipHalted s q))) ∧
    (x.state ≠ .error → x.state ≠ .halted → exec (.dmaCmdSkip f slot) s = .next (count s 0x08 0 2))) ∧
  (∀ s q, Instr.wf (.drainTimeout (.queue q)) = true → (qAt s q).state = .draining → (qAt s q).drainEnd ≤ now s →
    ∃ t, exec (.drainTimeout (.queue q)) s = .next t ∧ (qAt t q).state = .disabled ∧ jobsOf t q = []) ∧
  (∀ s q, Instr.wf (.drainTimeout (.queue q)) = true → (qAt s q).state ≠ .draining → exec (.drainTimeout (.queue q)) s = .next s) ∧
  (∀ s p, Instr.wf (.drainTimeout (.port p)) = true → (portAt s p).draining = true → (portAt s p).drainEnd ≤ now s →
    exec (.drainTimeout (.port p)) s = .next (keeping s (endPortDrain s p)))

/-- R199, R201, R203, R210, R212, R213, R225, R526: at a boundary the gates take their entry's states, and its operation sets or releases
the hold of the preemptable MAC; pending lists whose instant has come become
operative together and the others stay; before a SetAndHoldMAC entry the preemptable MAC is held; port-class shapers refill every 125
ticks; every queue is sampled at a sampling instant.
R248, R249, R251: an entry of the strainer that has passed nothing for its timeout takes any next frame and is counted; at the end of
its period too few discards are a latent error, and the period starts again. -/
def Obligations.GatesSamplesAndStrainerTimers : Prop :=
  (∀ s p, Instr.wf (.gateEntryBoundary p) = true → (gateAt s p).next ≠ 0 → (gateAt s p).next ≤ nt16 s → (macAt s p).pm = none →
    let u := positionGates s p
    let op := opAt (gateAt u p) (gateAt u p).start (gateAt u p).entry
    (gateAt u p).states = (gatePos (gateAt s p) (nt16 s)).states ∧ (gateAt u p).entry = (gatePos (gateAt s p) (nt16 s)).entry ∧
      (gateAt u p).oper = (gateAt s p).oper ∧
      (preemptActive s p = false ∨ op = 0 → exec (.gateEntryBoundary p) s = .next u) ∧
      (preemptActive s p = true → op = 1 → (macAt s p).hold = false →
        exec (.gateEntryBoundary p) s = .next (countPort (setMac u p { macAt s p with hold := true }) p 55)) ∧
      (preemptActive s p = true → op = 2 → exec (.gateEntryBoundary p) s = .next (setMac u p { macAt s p with hold := false }))) ∧
  (∀ s p, Instr.wf (.gateEntryBoundary p) = true → nt16 s < (gateAt s p).next → exec (.gateEntryBoundary p) s = .next s) ∧
  (∀ s, ∃ t, exec .gateListActivation s = .next t ∧ (∀ p < 18,
    match (gateAt s p).pend with
    | some (n, act) =>
      if act ≤ nt16 s then (gateAt t p).oper = n ∧ (gateAt t p).since = act ∧ (gateAt t p).pend = none else gateAt t p = gateAt s p
    | none => gateAt t p = gateAt s p)) ∧
  (∀ s p, Instr.wf (.holdAdvance p) = true → preemptActive s p = true → (gateAt s p).next ≠ 0 → nextOp (gateAt s p) = 1 →
    (gateAt s p).next ≤ nt16 s + holdAdvance s p → (macAt s p).hold = false →
    exec (.holdAdvance p) s = .next (keeping s (interrupt (countPort (setMac s p { macAt s p with hold := true }) p 55) p))) ∧
  (∀ s p, Instr.wf (.holdAdvance p) = true → preemptActive s p = false → exec (.holdAdvance p) s = .next s) ∧
  (∀ s, s.eg.lastRefill + 125 ≤ now s →
    ∃ t, exec .shaperRefill s = .next t ∧ t.eg.lastRefill = s.eg.lastRefill + 125 ∧ (∀ i < 1024, shaperAt t i = shaperAt s i)) ∧
  (∀ s t x, x.enable = true → x.pend = none → x.rate * 2 ^ 25 % 625 = 0 →
    classRefill s t x = { x with tokens := min (x.burst * 2 ^ 32) (x.tokens + x.rate * 2 ^ 25 / 625) }) ∧
  (∀ s, s.eg.qsPeriod ≠ 0 → s.eg.qsNext ≤ ntNs s →
    ∃ t, exec .qsampleInstant s = .next t ∧ (∀ i < 160,
      let v := queueSample s s.eg.qsNext (queueKey s (i / 8) (i % 8))
      let x := tblGet {} s.eg.qs i
      tblGet {} t.eg.qs i = { minBytes := min x.minBytes v.1, maxBytes := max x.maxBytes v.1, minFrames := min x.minFrames v.2.1
                              maxFrames := max x.maxFrames v.2.1, minSoj := min x.minSoj v.2.2, maxSoj := max x.maxSoj v.2.2 } ∧
      tblGet {} t.ctr.stat (statIdx 0x0B i 0) = (tblGet {} s.ctr.stat (statIdx 0x0B i 0)).add 1 (now s)) ∧
      t.eg.qsNext = (ntNs s / (s.eg.qsPeriod * 1000) + 1) * (s.eg.qsPeriod * 1000)) ∧
  (∀ s i, Instr.wf (.recoveryResetTimeout i) = true → i < 8192 → (rcvyAt s i).enable = true → (rcvyAt s i).takeAny = false →
    (rcvyAt s i).lastPass + msTicks (rcvyAt s i).timeout ≤ now s →
    exec (.recoveryResetTimeout i) s = .next (count (setRcvy s i { rcvyAt s i with takeAny := true }) 0x05 i 5)) ∧
  (∀ s i, Instr.wf (.recoveryResetTimeout i) = true → ((rcvyAt s i).enable = false ∨ (rcvyAt s i).takeAny = true) →
    exec (.recoveryResetTimeout i) s = .next s) ∧
  (∀ s i, Instr.wf (.latentPeriodEnd i) = true → i < 8192 → (rcvyAt s i).enable = true → (rcvyAt s i).latent = true →
    (rcvyAt s i).perEnd ≤ now s →
    let x := rcvyAt s i
    let u := setRcvy s i { x with passed := 0, disc := 0, perEnd := now s + msTicks x.period }
    (x.diff < x.passed * (x.paths - 1) - x.disc →
      exec (.latentPeriodEnd i) s = .next (keeping s (feedSystem (signal u 1789) 274 i 0))) ∧
    (x.passed * (x.paths - 1) - x.disc ≤ x.diff → exec (.latentPeriodEnd i) s = .next u)) ∧
  (∀ s i, Instr.wf (.latentPeriodEnd i) = true → i < 8192 → now s < (rcvyAt s i).perEnd →
    exec (.latentPeriodEnd i) s = .next s)

/-- R222, R238 to R241, R261: a PAUSE frame with a good FCS pauses each class of the port's mask for its quanta and leaves the
others; another MAC control frame is counted; a pause ends at its time, and an armed watchdog ends one that lasts longer, but for a pause
renewed in its tick, which starts anew (R241); verification repeats three times and then fails,
and its messages are answered and taken. -/
def Obligations.PausesAndVerification : Prop :=
  (∀ s p o, Instr.wf (.pauseFrameRx p o) = true → (portAt s p).link = true → fcsGood o = true → etypeAt o 12 = 0x8808 →
    etypeAt o 14 = 1 →
    ∃ t, exec (.pauseFrameRx p o) s = .next t ∧ (∀ c < 8,
      tblGet 0 (pauseAt t p).upto c =
        if bitOf (pauseAt s p).mask c then
          (if etypeAt o 16 = 0 then 0 else now s + octetTicks (lineMbps s p) (64 * etypeAt o 16))
        else tblGet 0 (pauseAt s p).upto c) ∧ (pauseAt t p).mask = (pauseAt s p).mask ∧
      (∀ q, q ≠ p → pauseAt t q = pauseAt s q) ∧ t.kn = s.kn ∧ t.ports = s.ports) ∧
  (∀ s p o, Instr.wf (.pauseFrameRx p o) = true → (portAt s p).link = false ∨ etypeAt o 12 ≠ 0x8808 →
    exec (.pauseFrameRx p o) s = .next s) ∧
  (∀ s p o, Instr.wf (.pauseFrameRx p o) = true → (portAt s p).link = true → etypeAt o 12 = 0x8808 →
    (fcsGood o = false → etypeAt o 14 = 1 ∨ etypeAt o 14 = 0x0101 →
      exec (.pauseFrameRx p o) s = .next (keeping s (perf s (pPort p 8)))) ∧
    (etypeAt o 14 ≠ 1 → etypeAt o 14 ≠ 0x0101 →
      exec (.pauseFrameRx p o) s = .next (keeping s (countPort (perf s (pPort p 8)) p 12)))) ∧
  (∀ s p c, Instr.wf (.pauseExpiry p c) = true → tblGet 0 (pauseAt s p).upto c ≠ 0 → tblGet 0 (pauseAt s p).upto c ≤ now s →
    let x := pauseAt s p
    exec (.pauseExpiry p c) s = .next (setPause s p { x with upto := tblSet 0 x.upto c 0, since := tblSet 0 x.since c 0 })) ∧
  (∀ s p c, Instr.wf (.pauseWatchdogBreak p c) = true → watchdogArmed s p = true → paused s p c = true →
    tblGet 0 (pauseAt s p).since c + msTicks (pauseAt s p).wdTime ≤ now s →
    let x := pauseAt s p
    let i := exec (.pauseWatchdogBreak p c) s
    (tblGet 0 x.renewed c ≠ now s + 1 → i = .next (keeping s (signal (countPort
      (setPause s p { x with upto := tblSet 0 x.upto c 0, since := tblSet 0 x.since c 0 }) p 47) (1763 + p)))) ∧
    (tblGet 0 x.renewed c = now s + 1 → i = .next (keeping s (signal (countPort
      (setPause s p { x with since := tblSet 0 x.since c (now s) }) p 47) (1763 + p))))) ∧
  (∀ s p c, Instr.wf (.pauseWatchdogBreak p c) = true → watchdogArmed s p = false →
    exec (.pauseWatchdogBreak p c) s = .next s) ∧
  (∀ s p, Instr.wf (.verifyTimeExpiry p) = true → (preAt s p).ver = .verifying → (preAt s p).next ≤ now s →
    let x := preAt s p
    (x.tries < 3 → exec (.verifyTimeExpiry p) s = .next
      (emit (setPre s p { x with tries := x.tries + 1, next := now s + msTicks x.verTime }) (.verify p .verifyP))) ∧
    (3 ≤ x.tries → exec (.verifyTimeExpiry p) s = .next (countPort (setPre s p { x with ver := .failed }) p 41))) ∧
  (∀ s p, Instr.wf (.smdVerifyRx p .verifyP) = true →
    exec (.smdVerifyRx p .verifyP) s = .next (emit s (.verify p .responseP))) ∧
  (∀ s p, Instr.wf (.smdVerifyRx p .responseP) = true → p < 18 → (preAt s p).ver = .verifying →
    exec (.smdVerifyRx p .responseP) s = .next (setPre s p { preAt s p with ver := .succeeded }))

/-- R118, R120, R122 to R124: PPS_OUT rises on a whole second and falls after its high time, a selected edge is timestamped into its input's
FIFO, a timer's output rises and falls at its instants and a counted train stops, and holdover ends. -/
def Obligations.TimingPins : Prop :=
  (∀ s, s.clk.pllLocked = true → s.time.pps = false → ppsRuns s = true → ppsPhase s < ns16 16 →
    exec .ppsOutEdge s = .next (keeping s (perf { s with time := { s.time with pps := true } } (pPkg 17)))) ∧
  (∀ s, s.clk.pllLocked = true → s.time.pps = true → (ppsRuns s = false ∨ s.time.cfg.ppsHigh * 1000 * 65536 ≤ ppsPhase s) →
    exec .ppsOutEdge s = .next { s with time := { s.time with pps := false } }) ∧
  (∀ s, s.time.pps = false → (ppsRuns s = false ∨ ns16 16 ≤ ppsPhase s) → exec .ppsOutEdge s = .next s) ∧
  (∀ s i rising ts, Instr.wf (.evcapEdge i rising ts) = true → s.clk.pllLocked = true → capSelected s i rising = true →
    (∀ t, (capAt s i).lastEdge = some t → t + 16 * 65536 ≤ ts) →
    let x := capAt s i
    (x.fifo.length < capDepth i →
      ∃ t, exec (.evcapEdge i rising ts) s = .next t ∧ capAt t i =
        { x with fifo := x.fifo ++ [capRecord s (capTime x ts) (!rising) x.lost], lost := false, lastEdge := some ts } ∧
        (∀ j, j ≠ i → capAt t j = capAt s j)) ∧
    (capDepth i ≤ x.fifo.length →
      exec (.evcapEdge i rising ts) s = .next (count (setCap s i { x with lost := true }) 0x0D i 5))) ∧
  (∀ s i rising ts t, Instr.wf (.evcapEdge i rising ts) = true → s.clk.pllLocked = true → capSelected s i rising = true →
    (capAt s i).lastEdge = some t → ts < t + 16 * 65536 → exec (.evcapEdge i rising ts) s = .next (count s 0x0D i 4)) ∧
  (∀ s i rising ts, Instr.wf (.evcapEdge i rising ts) = true → capSelected s i rising = false →
    exec (.evcapEdge i rising ts) s = .next s) ∧
  (∀ s i, Instr.wf (.timerEdge i) = true → s.clk.pllLocked = true → (timerAt s i).running = true →
    (timerAt s i).nextEdge + (timerAt s i).delay * 16384 ≤ (nt16 s : Int) →
    let x := timerAt s i
    (x.level = false → exec (.timerEdge i) s = .next (setTimer s i
      { x with level := true, curPeriod := x.period, curHigh := x.high, nextEdge := x.nextEdge + x.high * 16384 })) ∧
    (x.level = true → exec (.timerEdge i) s = .next (setTimer s i
      { x with level := false, done := x.done + 1, running := !(decide (x.count ≠ 0) && decide (x.count ≤ x.done + 1))
               nextEdge := x.nextEdge + (x.curPeriod - x.curHigh) * 16384 }))) ∧
  (∀ s i, Instr.wf (.timerEdge i) = true → (timerAt s i).running = false ∨
    (nt16 s : Int) < (timerAt s i).nextEdge + (timerAt s i).delay * 16384 →
    exec (.timerEdge i) s = .next s) ∧
  (∀ s, s.time.holdover = true → s.time.holdoverEnd ≤ now s →
    exec .holdoverEnd s = .next { s with time := { s.time with
      holdover := false, gptpStopped := true, pps := s.time.pps && s.time.cfg.ppsFreeRun } })

/-- R117 to R119: a live port sends Pdelay_Req in every state, and Sync only while the part sends time and the peer is asCapable; a
received Sync or Announce is counted and changes no time, a message of another domain is dropped and counted, and a response and
a follow-up that answer the pending request give the delay (when a peer is asCapable, and the ratio of rates: the model's choice, log
entry 15). -/
def Obligations.GptpMessages : Prop :=
  (∀ s p ts, Instr.wf (.gptpSend p .pdelayReq ts) = true → portLive s p = true →
    let x := gptpAt s p
    let lost := if x.waiting then x.lost + 1 else x.lost
    ∃ t, exec (.gptpSend p .pdelayReq ts) s = .next t ∧
      gptpAt t p = { x with seqReq := (x.seqReq + 1) % 65536, waiting := true, t1 := quant ts, lost := lost
                            asCapable := x.asCapable && decide (lost < 9), prev := if lost < 9 then x.prev else none } ∧
      (∀ q, q ≠ p → gptpAt t q = gptpAt s q) ∧ t.time.nt = s.time.nt) ∧
  (∀ s p ts, Instr.wf (.gptpSend p .sync ts) = true → portLive s p = true → (gptpAt s p).asCapable = true →
    (gptpClock s).isSome = true → exec (.gptpSend p .sync ts) s = .next (keeping s (sendSync s p (quant ts)))) ∧
  (∀ s p ts c, Instr.wf (.gptpSend p .announce ts) = true → portLive s p = true → (gptpAt s p).asCapable = true →
    gptpClock s = some c → exec (.gptpSend p .announce ts) s = .next (keeping s (sendGptpAnnounce s p c))) ∧
  (∀ s p ts m, m ∈ [GptpMsg.sync, .announce] → Instr.wf (.gptpSend p m ts) = true → (gptpClock s = none ∨
    (gptpAt s p).asCapable = false) → exec (.gptpSend p m ts) s = .next s) ∧
  (∀ s p o ts, Instr.wf (.gptpRx p o ts) = true → portLive s p = true → fcsGood o = true → etypeAt o 12 = 0x88F7 →
    let m := (bodyOf o).drop 14
    let u := perf s (pPort p 14)
    (beAt m 4 1 ≠ 0 → exec (.gptpRx p o ts) s = .next (keeping s (count u 0x0D p 2))) ∧
    (beAt m 4 1 = 0 → (beAt m 0 1 % 16 = 0 ∨ beAt m 0 1 % 16 = 0xB) →
      exec (.gptpRx p o ts) s = .next (keeping s (count u 0x0D p 3))) ∧
    (beAt m 4 1 = 0 → beAt m 0 1 % 16 = 0xA → (gptpAt s p).waiting = true → beAt m 30 2 = (gptpAt s p).seqReq →
      (gptpAt s p).t4 ≠ 0 → slice m 44 8 = clockId s →
      let x := gptpAt s p
      let t3 := ptpAt m 34 (beAt m 8 8)
      exec (.gptpRx p o ts) s = .next (keeping s (setGptp u p { x with
        waiting := false, lost := 0, t2 := 0, t4 := 0, prev := some (t3, x.t4), delay := some (linkDelay x t3)
        asCapable := (match delayThreshold p with
          | some d => decide (linkDelay x t3 ≤ d)
          | none => true) && slice m 20 8 != clockId s }))) ∧
    (beAt m 4 1 = 0 → beAt m 0 1 % 16 = 3 → (gptpAt s p).waiting = true → beAt m 30 2 = (gptpAt s p).seqReq →
      slice m 44 8 = clockId s → exec (.gptpRx p o ts) s =
        .next (keeping s (setGptp u p { gptpAt s p with t2 := ptpAt m 34 (beAt m 8 8), t4 := quant ts })))) ∧
  (∀ x t3, x.prev = none → linkDelay x t3 = ((((x.t4 : Int) - x.t1) - ((t3 : Int) - x.t2)) / 2).toNat)

/-- R47, R101, R103: at the boundary after an applying cycle the rate takes effect and the cycle number steps; after a measuring cycle with
three values and both corrections within their limits the pair waits for its cycle; before its instant nothing happens. In the idle
interval of an applying cycle the slew of the offset begins. -/
def Obligations.CycleBoundaries : Prop :=
  (∀ s i c, s.cyc.image = some i → boundary s (s.cyc.n + 1) = some c → nt16 s < c → exec .cycleBoundary s = .next s) ∧
  (∀ s i c, s.cyc.image = some i → boundary s (s.cyc.n + 1) = some c → c ≤ nt16 s → s.cyc.n % 2 = 1 → synced s = true →
    s.time.limitFail = 0 → s.time.thin < i.nStarve →
    ∃ t, exec .cycleBoundary s = .next t ∧ t.cyc.n = s.cyc.n + 1 ∧ t.cyc.c0 = s.cyc.c0 ∧ t.cyc.image = s.cyc.image ∧
      t.cyc.seen = [] ∧ t.cyc.msIdxCW = 0 ∧ t.cyc.msIdxCCW = 0 ∧ t.cyc.rx = s.cyc.rx ∧
      t.time.rho = s.time.rhoNext.getD s.time.rho ∧ t.time.rhoNext = none ∧ t.time.phiNext = none ∧
      t.time.pairsInSync = s.time.pairsInSync + b2n s.time.prev.isSome ∧ t.time.nt = s.time.nt ∧ t.ring.state = s.ring.state) ∧
  (∀ s i c phi, s.cyc.image = some i → boundary s (s.cyc.n + 1) = some c → c ≤ nt16 s → s.cyc.n % 2 = 0 → synced s = true →
    s.ring.pendReps = [] → s.ring.pendEvs = [] →
    let vals := valuesOf s i s.cyc.n s.time.cur
    let rho := rateOf s i false (driftsOf s i vals)
    3 ≤ vals.length → ftm false (vals.map (·.2)) = some (-phi) → phi.natAbs ≤ i.phiLim * 65536 → rho.natAbs ≤ i.rhoLim →
    ∃ t, exec .cycleBoundary s = .next t ∧ t.cyc.n = s.cyc.n + 1 ∧ t.time.phiNext = some phi ∧ t.time.rhoNext = some rho ∧
      t.time.rho = s.time.rho ∧ t.time.nval = vals.length % 16 ∧ t.time.limitFail = 0 ∧ t.time.cur = [] ∧
      t.ring.state = s.ring.state) ∧
  (∀ s i c phi, s.cyc.image = some i → boundary s (s.cyc.n + 1) = some c → s.time.phiNext = some phi → s.cyc.n % 2 = 1 →
    c ≤ nt16 s + mts i i.lnit →
    exec .offsetSlew s = .next { s with time := { s.time with slew := some (phi, 0), phiNext := none } }) ∧
  (∀ s, s.time.phiNext = none → exec .offsetSlew s = .next s)

/-- R51, R54, R61, R62, R68, R110 to R112, R114, R115, R145: at the fetch point of an occurrence its buffer's content is latched with its
SEQ; at its window's opening a frame starts with that content, a late one is not sent and is counted, and one whose port is not in the
ring is stripped there; an own frame still in transmission when its window closes is cut, and so is a forwarded one, or it is not
begun. -/
def Obligations.SlotTransmission : Prop :=
  (∀ s i e b rot n, Instr.wf (.slotFetchPoint b rot) = true → s.cyc.image = some i → txEnt s b = some e → e.isDyn = false →
    occCycle s i rot e.id (nt16 s + ns16 104) = some n → txActive s e n = true → nt16 s < tSend s i n rot e.id + ns16 1 →
    tSend s i n rot e.id ≤ nt16 s + ns16 104 → ((txAt s b).fet rot).map (·.1) ≠ some n →
    let x := txAt s b
    let q := if x.sentCur then x.seq else (x.seq + 1) % 65536
    exec (.slotFetchPoint b rot) s =
      .next (setTx s b (x.setLat rot ((fetchContent s e x rot n).map (fun d => (q, d))) (some (n, now s / 2))))) ∧
  (∀ s i e b rot bnd, Instr.wf (.slotFetchPoint b rot) = true → s.cyc.image = some i → txEnt s b = some e → e.isDyn = true →
    dynBoundOf s i rot e.id = some bnd → txActive s e s.cyc.n = true → nt16 s < bnd + mts i i.apo + ns16 1 →
    bnd + mts i i.apo ≤ nt16 s + ns16 104 → (rtx s (portOfRot s rot)).exBuf ≠ some b →
    let x := txAt s b
    let q := if x.sentCur then x.seq else (x.seq + 1) % 65536
    exec (.slotFetchPoint b rot) s =
      .next (setTx s b (x.setLat rot ((fetchContent s e x rot s.cyc.n).map (fun d => (q, d))) (some (s.cyc.n, now s / 2))))) ∧
  (∀ s e x rot n, (∀ d, x.front = some d → e.sendNothing = false → e.isDyn = false ∨ x.pend rot = true →
      fetchContent s e x rot n = some d) ∧
    (∀ d, x.front = some d → e.sendNothing = true → x.newCW = false → x.newCCW = false → withdrawing s n = false →
      fetchContent s e x rot n = none) ∧
    (x.front = none → withdrawing s n = true → fetchContent s e x rot n = some (filler e)) ∧
    (x.front = none → withdrawing s n = false → fetchContent s e x rot n = none)) ∧
  (∀ s b rot, Instr.wf (.slotFetchPoint b rot) = true → txEnt s b = none → exec (.slotFetchPoint b rot) s = .next s) ∧
  (∀ s i e b rot q d n k, Instr.wf (.slotSend b rot) = true → s.cyc.image = some i → txEnt s b = some e → e.isDyn = false →
    (txAt s b).lat rot = some (q, d) → (txAt s b).fet rot = some (n, k) →
    let port := portOfRot s rot
    let open_ := tSend s i n rot e.id
    (rtx s port).exBuf ≠ some b → txActive s e n = true → open_ < nt16 s + ns16 8 →
    (nt16 s ≤ open_ + ns16 1 → inRing s port = true → egressFree s port = true →
      ∃ t, exec (.slotSend b rot) s = .next t ∧ (rtx t port).express = some (ringFrame d (slotHdr s i e (txAt s b) rot q n)) ∧
        (rtx t port).exOwn = true ∧ (rtx t port).exBuf = some b ∧
        (rtx t port).exClose = slotStart s i n rot e.id + mts i i.lst - mts i i.g ∧ (txAt t b).seq = q ∧
        (txAt t b).sentCur = true ∧ (∀ c, c ≠ b → txAt t c = txAt s c) ∧ rtx t (otherPort port) = rtx s (otherPort port) ∧
        t.time = s.time ∧ t.kn = s.kn ∧ t.cyc.n = s.cyc.n) ∧
    (nt16 s ≤ open_ + ns16 1 → inRing s port = false → exec (.slotSend b rot) s =
      .next (keeping s (txReadEnd (perf (countPort s (rpIdx port) 34) (pRot rot 11)) b rot))) ∧
    (open_ + ns16 1 < nt16 s →
      exec (.slotSend b rot) s = .next (keeping s (txReadEnd (countPort s (rpIdx port) 29) b rot)))) ∧
  (∀ s i e b rot q d n k bnd, Instr.wf (.slotSend b rot) = true → s.cyc.image = some i → txEnt s b = some e → e.isDyn = true →
    (txAt s b).lat rot = some (q, d) → (txAt s b).fet rot = some (n, k) → armOf s rot = some (b, bnd) →
    let port := portOfRot s rot
    let open_ := bnd + mts i i.apo
    (rtx s port).exBuf ≠ some b → open_ < nt16 s + ns16 8 → nt16 s ≤ open_ + ns16 1 → inRing s port = true →
    egressFree s port = true →
    ∃ t, exec (.slotSend b rot) s = .next t ∧ (rtx t port).express = some (ringFrame d (slotHdr s i e (txAt s b) rot q n)) ∧
      (rtx t port).exOwn = true ∧ (rtx t port).exBuf = some b ∧ (rtx t port).exClose = dynEnd s i n rot - mts i i.g ∧
      armOf t rot = none ∧ (txAt t b).pend rot = false ∧
      (msOf t rot).2.2 = ((msOf s rot).2.1 - 1, open_ + tOcc s (max 64 (d.length + 20))) :: (msOf s rot).2.2 ∧ t.time = s.time) ∧
  (∀ s e b, Instr.wf (.guardianCut e) = true → (rtx s e).express.isSome = true → (rtx s e).exOwn = true →
    (synced s = false ∨ (rtx s e).exClose ≤ nt16 s) → (rtx s e).exBuf = some b →
    exec (.guardianCut e) s =
      .next (keeping s (txReadEnd (expressCut (countPort s (rpIdx e) 30) e) b (rotOfPort s e)))) ∧
  (∀ s e, Instr.wf (.guardianCut e) = true → (rtx s e).express = none → exec (.guardianCut e) s = .next s) ∧
  (∀ s e, Instr.wf (.forwardWindowCut e) = true → (rtx s e).express.isSome = true → (rtx s e).exOwn = false →
    (rtx s e).exClose ≤ nt16 s →
    exec (.forwardWindowCut e) s = .next (keeping s (expressCut (perf (countPort s (rpIdx e) 31) (pRot (rotOfPort s e) 9)) e))) ∧
  (∀ s e o c g, Instr.wf (.forwardWindowCut e) = true → (rtx s e).express = none → (rtx s e).exNext = some (o, c, g) → c ≤ nt16 s →
    exec (.forwardWindowCut e) s = .next (keeping s (perf (countPort
      (setRtx s e { rtx s e with exNext := none }) (rpIdx e) 31) (pRot (rotOfPort s e) 9))))

/-- R66, R69, R70, R74, R75, R77, R79, R232: the mini-slot counter starts and steps at its boundaries and an own pending frame that fits
becomes due, a hold keeps preemptable traffic off the express period, a slot of which nothing came is counted once and feeds its
fault source, and pier claims observe eight empty occurrences, are claimed with the next, are held after the first of their own, and
start again after their backoff. That the counter's next ID is the next number is the model's choice (log entry 101). -/
def Obligations.MiniSlotsHoldsAndPiers : Prop :=
  (∀ s i rot, Instr.wf (.miniSlotBoundary rot) = true → s.cyc.image = some i → synced s = true → (msOf s rot).2.1 < i.ndyn →
    let j := (msOf s rot).2.1
    let bnd := dynStart s i s.cyc.n rot + mts i (j * i.lms)
    let counter := msCounter s i rot
    let u := setArm (setMs s rot counter (j + 1) ((msOf s rot).2.2.filter (fun b => decide (bnd ≤ b.2)))) rot none
    let x := exec (.miniSlotBoundary rot) s
    (nt16 s + ns16 8 ≤ bnd → x = .next s) ∧
    (bnd < nt16 s + ns16 8 → (msHeld s i rot j = true ∨ ∀ c, counter = some c → (c, me s) ∉ i.dyn) → x = .next u) ∧
    (∀ c e, bnd < nt16 s + ns16 8 → msHeld s i rot j = false → counter = some c → (c, me s) ∈ i.dyn → dynBuf s i c = some e →
      (∀ q d, (txAt s e.buf).lat rot = some (q, d) → txActive s e s.cyc.n = true →
        bnd + mts i i.apo + tOcc s (max 64 (d.length + 20)) + mts i i.g ≤ dynEnd s i s.cyc.n rot →
        x = .next (setArm u rot (some (e.buf, bnd)))) ∧
      ((txAt s e.buf).lat rot = none → fetchContent s e (txAt s e.buf) rot s.cyc.n = none → x = .next u))) ∧
  (∀ s i rot, (msOf s rot).2.1 = 0 → msCounter s i rot = msFirst i rot) ∧
  (∀ s i c, (msOf s .cw).1 = some c → 0 < (msOf s .cw).2.1 →
    (msHeld s i .cw (msOf s .cw).2.1 = true → msCounter s i .cw = some c) ∧
    (msHeld s i .cw (msOf s .cw).2.1 = false → (∃ e ∈ i.dyn, e.2 = me s ∧ c < e.1) → msCounter s i .cw = some (c + 1)) ∧
    (msHeld s i .cw (msOf s .cw).2.1 = false → (∀ e ∈ i.dyn, e.2 = me s → e.1 ≤ c) → msCounter s i .cw = none)) ∧
  (∀ s i c e, Instr.wf (.holdRaise e) = true → s.cyc.image = some i → boundary s s.cyc.n = some c → synced s = true →
    hasExpress i = true → (rtx s e).hold = false →
    let rot := rotOfPort s e
    let lead := octetTime (ringMbps s) 143 + piT i
    let raised := fun (n : Nat) =>
      keeping s (ringInterrupt (countPort (setRtx s e { rtx s e with hold := true, holdCyc := n }) (rpIdx e) 55) e)
    let next := (boundary s (s.cyc.n + 1)).getD 0 + sigma s rot
    (nt16 s + lead < next → c + sigma s rot ≤ nt16 s + lead → nt16 s ≤ expressEnd s i s.cyc.n rot + piT i →
      exec (.holdRaise e) s = .next (raised s.cyc.n)) ∧
    (next ≤ nt16 s + lead → nt16 s ≤ expressEnd s i (s.cyc.n + 1) rot + piT i →
      exec (.holdRaise e) s = .next (raised (s.cyc.n + 1)))) ∧
  (∀ s i e, Instr.wf (.holdRelease e) = true → s.cyc.image = some i → (rtx s e).hold = true →
    expressEnd s i (rtx s e).holdCyc (rotOfPort s e) + piT i ≤ nt16 s →
    exec (.holdRelease e) s = .next (setRtx s e { rtx s e with hold := false })) ∧
  (∀ s i k e o, Instr.wf (.slotMissed k e) = true → s.cyc.image = some i → expectedOrigin s i k = some o → synced s = true →
    holdsSlot s i k s.cyc.n = false → slotSeen s k e = false →
    let rot := match rotOfPort s e with
      | .cw => Rot.ccw
      | .ccw => .cw
    let u := perf (count (markMissed s k e) 0x07 (rpBit e * 2048 + k - 1) 0) (pRot rot 8)
    let x := exec (.slotMissed k e) s
    (slotMissCounted s k e = true → x = .next s) ∧
    (slotMissCounted s k e = false → tExp s i s.cyc.n rot k o + (piT i : Nat) ≤ (nt16 s : Int) →
      ((s.cyc.withdrawn.contains (k, o) = true ∨ crossesFold s e o = true) → x = .next (keeping s u)) ∧
      (s.cyc.withdrawn.contains (k, o) = false → crossesFold s e o = false →
        x = .next (keeping s (feedSystem u (258 + rpBit e) k 0))))) ∧
  (∀ s i k p c, Instr.wf (.pierOccurrenceEnd k) = true → s.cyc.image = some i → pierOf i k s.cyc.n = some p →
    boundary s (s.cyc.n + 1) = some c →
    let x := exec (.pierOccurrenceEnd k) s
    let seen := slotSeen s k .east || slotSeen s k .west
    (nt16 s < c ∨ (checkAt s k).done = true → x = .next s) ∧
    (c ≤ nt16 s → (checkAt s k).done = false → synced s = true → (ownPiers s).contains p = true →
      ∃ t, x = .next t ∧ (checkAt t k).done = true ∧
        ((claimAt s p.idx).state = .observing → (claimAt t p.idx).state = .observing ∧
          (claimAt t p.idx).count = if (claimAt s p.idx).seen || seen then 0 else min 8 ((claimAt s p.idx).count + 1)) ∧
        ((claimAt s p.idx).state = .claiming → (claimAt t p.idx).state = .held) ∧
        ((expectAt s p.idx).expected = true → seen = false → (expectAt s p.idx).empty = 7 → expectAt t p.idx = {}) ∧
        (∀ j, j ≠ p.idx → claimAt t j = claimAt s j ∧ expectAt t j = expectAt s j) ∧
        t = { s with cyc := { s.cyc with claims := t.cyc.claims, expects := t.cyc.expects, seen := t.cyc.seen } })) ∧
  (∀ s i p, synced s = true → (claimAt s p.idx).state = .observing → s.cyc.n % 64 % p.m = p.b →
    (8 ≤ (claimAt s p.idx).count → (claimAt (startClaiming s i p) p.idx).state = .claiming) ∧
    ((claimAt s p.idx).count < 8 → startClaiming s i p = s)) ∧
  (∀ s k p, Instr.wf (.pierBackoffEnd k) = true → p ∈ ownPiers s → p.slot = k → (claimAt s p.idx).state = .backoff →
    (claimAt s p.idx).backoff = 0 →
    ∃ t, exec (.pierBackoffEnd k) s = .next t ∧ claimAt t p.idx = { state := .observing } ∧
      t = { s with cyc := { s.cyc with claims := t.cyc.claims } }) ∧
  (∀ s k, Instr.wf (.pierBackoffEnd k) = true →
    (∀ p ∈ ownPiers s, p.slot = k → (claimAt s p.idx).state = .backoff → 0 < (claimAt s p.idx).backoff) →
    exec (.pierBackoffEnd k) s = .next s)

/-- R90 to R92, R94, R96: a burst's exchange sends a DELAY_REQ, one in a cycle, whose departure is kept as it starts; a request is answered
with its number, its requester, its exchange and the two times of this node; the response that carries the number and the node
completes the exchange, and one that comes after 10 µs, or none within them, fails it. A burst without a good exchange is counted
and leaves the span delay; the first result after the link comes up is the span delay; a later one that lies more than 8 ns off
replaces it, and fires the port's event. -/
def Obligations.CalibrationAndSpanDelay : Prop :=
  (∀ s e ts k, Instr.wf (.calBurstStart e ts) = true → ctlRuns s = true → (rport s e).state ≠ .down →
    (rport s e).burstNo = some k → (rport s e).outT1 = none → (rtx s e).ctl = [] → exchangeMayGo s e = true →
    let x := rport s e
    let q := (x.reqSeq + 1) % 65536
    let f := ctlFrame s 0x10 (padTo 32 (beBytes 2 q ++ beBytes 1 (rpBit e) ++ beBytes 1 k)) false (rotOfPort s e)
    let u := setRport s e { x with reqSeq := q, burstCycle := some s.cyc.n, burstNext := now s + usTicks 25 }
    exec (.calBurstStart e ts) s = .next (keeping s (sendCtl u e f ts)) ∧
    ((rtx s e).curH = none → (rtx s e).exNext = none → egressFree s e = true → ctlMayStart s e f = true →
      ∃ t, exec (.calBurstStart e ts) s = .next t ∧ (rport t e).outT1 = some (quant ts) ∧ (rport t e).reqSeq = q ∧
        t.trace = .ring e f :: s.trace ∧ (rtx t e).ctl = [] ∧ rport t (otherPort e) = rport s (otherPort e) ∧
        t.time = s.time ∧ t.cyc = s.cyc) ∧
    ((rtx s e).hold = true →
      ∃ t, exec (.calBurstStart e ts) s = .next t ∧ (rtx t e).ctl = [f] ∧ t.trace = s.trace ∧ (rport t e).outT1 = none)) ∧
  (∀ s e ts, Instr.wf (.calBurstStart e ts) = true → ((rport s e).burstNo = none ∨ (rport s e).outT1.isSome = true ∨
      (s.cyc.c0 ≠ none ∧ (rport s e).burstCycle = some s.cyc.n) ∨ (s.cyc.c0 = none ∧ due s (rport s e).burstNext = false)) →
    exec (.calBurstStart e ts) s = .next s) ∧
  (∀ s e o ts, Instr.wf (.delayReqRx e o ts) = true → CtlGood s e o 0x10 ts →
    let u := ringRxCount s e o
    let p := ctlPayload o
    exec (.delayReqRx e o ts) s = .next (keeping s (sendCtl u e (ctlFrame u 0x11 (padTo 32 (slice p 0 2 ++
      beBytes 1 (parseHdr o).origin ++ slice p 3 1 ++ timeBytes (quant ts) ++ timeBytes (quant (nt16 s)) ++ beBytes 1 (rpBit e)))
      false (rotOfPort u e)) (nt16 s)))) ∧
  (∀ s e o ts k t1, Instr.wf (.delayRespRx e o ts) = true → CtlGood s e o 0x11 ts → (rport s e).outT1 = some t1 →
    (rport s e).burstNo = some k → k < 3 → beAt (ctlPayload o) 0 2 = (rport s e).reqSeq → beAt (ctlPayload o) 2 1 = me s →
    let x := rport s e
    let p := ctlPayload o
    let y := { x with calNb := (parseHdr o).origin, respPort := some (if beAt p 24 1 % 2 = 0 then RPort.east else .west)
                      outT1 := none, burstNo := some (k + 1) }
    (quant ts ≤ t1 + ns16 10000 → exec (.delayRespRx e o ts) s = .next (keeping s (setRport (ringRxCount s e o) e { y with
      exch := x.exch ++ [{ t1 := t1, t2 := timeAt p 4, t3 := timeAt p 14, t4 := quant ts }] }))) ∧
    (t1 + ns16 10000 < quant ts →
      exec (.delayRespRx e o ts) s = .next (keeping s (setRport (countPort (ringRxCount s e o) (rpIdx e) 26) e y)))) ∧
  (∀ s e o ts, Instr.wf (.delayRespRx e o ts) = true → CtlGood s e o 0x11 ts → ((rport s e).outT1 = none ∨
    beAt (ctlPayload o) 0 2 ≠ (rport s e).reqSeq ∨ beAt (ctlPayload o) 2 1 ≠ me s) →
    exec (.delayRespRx e o ts) s = .next (keeping s (ringRxCount s e o))) ∧
  (∀ s e t1 k, Instr.wf (.calTimeout e) = true → (rport s e).outT1 = some t1 → (rport s e).burstNo = some k → k < 3 →
    t1 + ns16 10000 ≤ nt16 s →
    exec (.calTimeout e) s = .next (setRport (countPort s (rpIdx e) 26) e
      { rport s e with outT1 := none, burstNo := some (k + 1) })) ∧
  (∀ s e t1, Instr.wf (.calTimeout e) = true → (rport s e).outT1 = some t1 → nt16 s < t1 + ns16 10000 →
    exec (.calTimeout e) s = .next s) ∧
  (∀ s e k, Instr.wf (.calTimeout e) = true → (rport s e).outT1 = some k → k + ns16 10000 ≤ nt16 s → (rport s e).burstNo = some 3 →
    (rport s e).exch = [] → (burstOver s (otherPort e) = false) →
    exec (.calTimeout e) s = .next (countPort (setRport (countPort s (rpIdx e) 26) e
      { rport s e with outT1 := none, burstNo := none, exch := [] }) (rpIdx e) 27)) ∧
  (∀ s e dn, ((rport s e).d = none ∨ (rport s e).firstBurst = true) →
    updateDelay s e dn = setRport s e { rport s e with
      d := some dn.toNat, firstBurst := false, burstOk := true, dinSinceReset := true }) ∧
  (∀ s e dn d, (rport s e).d = some d → (rport s e).firstBurst = false → 8 * 65536 < (dn - (d : Int)).natAbs →
    updateDelay s e dn = signal (countPort (setRport s e { rport s e with
      d := some dn.toNat, firstBurst := false, burstOk := true, dinSinceReset := true }) (rpIdx e) 28) (1782 + rpBit e)) ∧
  (∀ s e dn d, (rport s e).d = some d → (rport s e).firstBurst = false → (dn - (d : Int)).natAbs ≤ 8 * 65536 →
    ∃ v : Int, (dn - (d : Int)) / 4 ≤ v ∧ v ≤ (dn - (d : Int)) / 4 + 1 ∧ ((dn - (d : Int)) % 4 = 0 → v = (dn - (d : Int)) / 4) ∧
      (rport (updateDelay s e dn) e).d = some ((d : Int) + v).toNat)

/-- R95, R131, R147: a report goes out once, with the next calibration number, and waits for its odd cycle; a received one waits for the
cycle it names, or, late, for the next odd boundary, and a repeated one changes no report; events go out when they are due and a received
abutment enters or leaves the view of the ring. Twenty milliseconds after its bursts a node with an incomplete chain listens. -/
def Obligations.ReportsAndRingEvents : Prop :=
  (∀ s c, s.ring.reportDue = some c → ctlRuns s = true → s.cyc.c0 ≠ none → c ≤ s.cyc.n →
    (synced s = true → viewAhead s .east = true ∧ viewAhead s .west = true) →
    ∃ t, exec .delayReportSend s = .next t ∧ t.ring.reportDue = none ∧ t.ring.calSeq = (s.ring.calSeq + 1) % 65536 ∧
      t.ring.pendReps = s.ring.pendReps.filter (fun p => decide (p.node ≠ me s)) ++ [{
        node := me s, cycle := oddFrom (s.cyc.n + 4)
        rep := { ownReport s with calSeq := (s.ring.calSeq + 1) % 65536 } }] ∧ t.cyc = s.cyc ∧ t.time = s.time) ∧
  (∀ s c, s.ring.reportDue = some c → ctlRuns s = true → s.cyc.c0 = none → synced s = false →
    ∃ t, exec .delayReportSend s = .next t ∧ t.ring.reportDue = none ∧ t.ring.calSeq = (s.ring.calSeq + 1) % 65536 ∧
      t.ring.pendReps = s.ring.pendReps ∧
      (reportAt t (me s)).map (fun r => r.calSeq) = some ((s.ring.calSeq + 1) % 65536)) ∧
  (∀ s c, s.ring.reportDue = some c → (ctlRuns s = false ∨ (s.cyc.c0 ≠ none ∧ s.cyc.n < c) ∨
    (synced s = true ∧ (viewAhead s .east = false ∨ viewAhead s .west = false))) → exec .delayReportSend s = .next s) ∧
  (∀ s, s.ring.reportDue = none → exec .delayReportSend s = .next s) ∧
  (∀ s e o ts, Instr.wf (.delayReportRx e o ts) = true → CtlGood s e o 0x12 ts →
    let u := ringRxCount s e o
    let p := ctlPayload o
    let node := beAt p 0 1 % 64
    let r := passAll u e o (parseHdr o) true false true
    (r.1 = false ∨ s.ring.repSeen.contains (node, beAt p 2 2) = true →
      exec (.delayReportRx e o ts) s = .next (keeping s r.2)) ∧
    (r.1 = true → s.ring.repSeen.contains (node, beAt p 2 2) = false → s.cyc.c0 ≠ none →
      ∃ t, exec (.delayReportRx e o ts) s = .next t ∧
        (node, beAt p 2 2) ∈ t.ring.repSeen ∧ t.cyc = s.cyc ∧ t.time = s.time ∧
        t.ring.pendReps = s.ring.pendReps.filter (fun x => decide (x.node ≠ node)) ++ [{
          node := node, rep := parseReport p
          cycle := if beAt p 4 4 = 0 ∨ near32 s.cyc.n (beAt p 4 4) ≤ s.cyc.n then oddFrom (s.cyc.n + 1)
                   else near32 s.cyc.n (beAt p 4 4) }]) ∧
    (r.1 = true → s.ring.repSeen.contains (node, beAt p 2 2) = false → s.cyc.c0 = none →
      ∃ t, exec (.delayReportRx e o ts) s = .next t ∧ t.ring.pendReps = s.ring.pendReps ∧
        (reportAt t node).map (fun x => x.calSeq) = some (beAt p 2 2))) ∧
  (∀ s, ctlRuns s = true → s.ring.evOut = [] → exec .ringEventSend s = .next s) ∧
  (∀ s, (ctlRuns s = false ∨ (synced s = true ∧ (viewAhead s .east = false ∨ viewAhead s .west = false))) →
    exec .ringEventSend s = .next s) ∧
  (∀ s ev e sub c, ctlRuns s = true → (synced s = true → viewAhead s .east = true ∧ viewAhead s .west = true) →
    s.ring.evOut = [(ev, e, sub, c)] →
    exec .ringEventSend s = .next (keeping s (sendEvent { s with ring := { s.ring with evOut := [] } } (ev, e, sub, c)))) ∧
  (∀ s e sub c, (sendEvent s (2, e, sub, c)).ring.evSeq = (s.ring.evSeq + 1) % 65536 ∧ (sendEvent s (2, e, sub, c)).cyc = s.cyc ∧
    (me s, e, s.cyc.n) ∈ (sendEvent s (2, e, sub, c)).ring.unfolded) ∧
  (∀ s ev e sub c, s.cyc.c0 ≠ none → (ev = 3 ∨ ev = 4) → (sendEvent s (ev, e, sub, c)).ring.evSeq = (s.ring.evSeq + 1) % 65536 ∧
    (sendEvent s (ev, e, sub, c)).ring.pendEvs =
      s.ring.pendEvs ++ [{ cycle := oddFrom (s.cyc.n + 2), ev := ev, subject := sub }]) ∧
  (∀ s e o ts, Instr.wf (.ringEventRx e o ts) = true → CtlGood s e o 0x22 ts →
    let p := ctlPayload o
    let r := passAll (ringRxCount s e o) e o (parseHdr o) true false false
    (r.1 = false → exec (.ringEventRx e o ts) s = .next (keeping s r.2)) ∧
    (r.1 = true → beAt p 1 1 = 1 →
      let x := (beAt p 0 1 % 64, beAt p 2 1 % 2)
      ∃ t, exec (.ringEventRx e o ts) s = .next t ∧
        t.ring.folds = if s.ring.folds.contains x then s.ring.folds else x :: s.ring.folds) ∧
    (r.1 = true → beAt p 1 1 = 2 →
      let ends := spanEnds s (beAt p 0 1 % 64) (beAt p 2 1 % 2)
      ∃ t, exec (.ringEventRx e o ts) s = .next t ∧ t.ring.folds = s.ring.folds.filter (fun x => !ends.contains x) ∧
        ∀ x ∈ s.ring.folds, x ∈ ends → (x.1, x.2, s.cyc.n) ∈ t.ring.unfolded) ∧
    (r.1 = true → (beAt p 1 1 = 3 ∨ beAt p 1 1 = 4) → s.cyc.c0 ≠ none → recentEvent s (beAt p 1 1) (beAt p 3 1) = false →
      let c := near32 s.cyc.n (beAt p 6 4)
      ∃ t, exec (.ringEventRx e o ts) s = .next t ∧ t.ring.pendEvs = s.ring.pendEvs ++ [{
        cycle := if beAt p 6 4 = 0 ∨ c ≤ s.cyc.n then oddFrom (s.cyc.n + 1) else c, ev := beAt p 1 1, subject := beAt p 3 1 }]) ∧
    (r.1 = true → (beAt p 1 1 = 3 ∨ beAt p 1 1 = 4) → recentEvent s (beAt p 1 1) (beAt p 3 1) = true →
      exec (.ringEventRx e o ts) s = .next (keeping s r.2))) ∧
  (∀ s, s.ring.state = .calibrating → s.ring.calEnded = true → due s s.ring.calDeadline = true →
    ((rport s .east).state = .down ∨ (rport s .east).burstOk = true) →
    ((rport s .west).state = .down ∨ (rport s .west).burstOk = true) → chainComplete s = false →
    ∃ t, exec .calChainTimeout s = .next t ∧ t.ring.state = .listen ∧ t.time = s.time ∧ t.cyc = s.cyc ∧
      tblGet {} t.ctr.stat (statIdx 0x07 0 9) = (tblGet {} s.ctr.stat (statIdx 0x07 0 9)).add 1 (now s)) ∧
  (∀ s, s.ring.state ≠ .calibrating → exec .calChainTimeout s = .next s)

/-- R128, R129, R142, R144, R149: a beat leaves once a cycle with its fields, or, with no origin held, every 25 µs, where a beat period ends
too; a received beat of the image in force keeps its sender, its origin and its state, one of another origin takes a port of a node that
holds one out of the ring; eight missing beats and loss of signal do so too, and at the agreed cycle a restored port returns
and says so. -/
def Obligations.BeatsAndPortStates : Prop :=
  (∀ s e ts, Instr.wf (.linkBeatSend e ts) = true → ctlRuns s = true → (rport s e).state ≠ .down → beatDue s e = true →
    let x := rport s e
    let pay := padTo 48 (beBytes 1 (me s) ++ beBytes 1 (beatStateOct s e) ++ beBytes 1 (rpBit e) ++
      beBytes 1 s.ring.keystone ++ beBytes 4 ((s.cyc.image.map (·.id)).getD 0) ++ timeBytes (quant ts) ++
      timeBytes (s.cyc.c0.getD 0) ++ beBytes 8 (if s.cyc.c0.isSome then s.cyc.n else 0) ++
      beBytes 4 (if x.state = .linked then x.restore % 2 ^ 32 else 0) ++ beBytes 1 s.time.nval)
    let u := sendCtl s e (ctlFrame s 0x21 pay false (rotOfPort s e)) ts
    (s.cyc.c0 ≠ none → exec (.linkBeatSend e ts) s =
      .next (keeping s (setRport u e { rport u e with beatSent := boundary s s.cyc.n }))) ∧
    (s.cyc.c0 = none → ∃ t, exec (.linkBeatSend e ts) s = .next t ∧ rtx t e = rtx u e ∧ t.trace = u.trace ∧
      (rport t e).beatNext = now s + usTicks 25 ∧ (rport t e).beatSeen = false ∧
      (x.beatSeen = true → (rport t e).beatRun = x.beatRun + 1 ∧ (rport t e).beatMiss = 0) ∧
      (x.beatSeen = false → (rport t e).beatRun = 0 ∧ (rport t e).beatMiss = x.beatMiss + 1))) ∧
  (∀ s e ts, Instr.wf (.linkBeatSend e ts) = true → ((rport s e).state = .down ∨ beatDue s e = false) →
    exec (.linkBeatSend e ts) s = .next s) ∧
  (∀ s e, (s.cyc.c0 ≠ none → (rport s e).beatSent = boundary s s.cyc.n → beatDue s e = false) ∧
    (s.cyc.c0 = none → beatDue s e = decide ((rport s e).beatNext ≤ now s))) ∧
  (∀ s e o ts, Instr.wf (.linkBeatRx e o ts) = true → CtlGood s e o 0x21 ts → s.ring.state = .synchronised → s.cyc.c0 ≠ none →
    imageKnown s (beAt (ctlPayload o) 4 4) (some (beAt (ctlPayload o) 28 8)) = true → (rport s e).state = .inRing →
    ((rport s e).beatFrom = 0xFF ∨ (rport s e).beatFrom = beAt (ctlPayload o) 0 1) → bitOf (beAt (ctlPayload o) 1 1) 3 = false →
    let p := ctlPayload o
    ((timeAt p 18 = 0 ∨ s.cyc.c0 = some (timeAt p 18)) → (rport s e).ready = false →
      exec (.linkBeatRx e o ts) s = .next (keeping s (setRport (ringRxCount s e o) e { rport s e with
        beatFrom := beAt p 0 1, beatC0 := timeAt p 18, beatState := beAt p 1 1, beatPort := beAt p 2 1 % 2
        beatDiff := (quant ts : Int) - ((timeAt p 8 + dIn s e : Nat) : Int), beatRestore := beAt p 36 4, beatSeen := true }))) ∧
    (timeAt p 18 ≠ 0 → s.cyc.c0 ≠ some (timeAt p 18) → inRing s (otherPort e) = true →
      ∃ t, exec (.linkBeatRx e o ts) s = .next t ∧ (rport t e).state = .linked ∧ (rport t (otherPort e)).state = .inRing ∧
        t.ring.state = .synchronised)) ∧
  (∀ s e o ts, Instr.wf (.linkBeatRx e o ts) = true → CtlGood s e o 0x21 ts → s.cyc.c0 ≠ none →
    imageKnown s (beAt (ctlPayload o) 4 4) (some (beAt (ctlPayload o) 28 8)) = false → (rport s e).state ≠ .inRing →
    s.ring.state = .synchronised →
    exec (.linkBeatRx e o ts) s = .next (keeping s (countPort (ringRxCount s e o) (rpIdx e) 33))) ∧
  (∀ s e, Instr.wf (.missingBeats e) = true → inRing s e = true → 8 ≤ (rport s e).beatMiss →
    ∃ t, exec (.missingBeats e) s = .next t ∧ (rport t e).state = .linked ∧
      (rport t (otherPort e)).state = (rport s (otherPort e)).state) ∧
  (∀ s e, Instr.wf (.missingBeats e) = true → ((rport s e).state ≠ .inRing ∨ (rport s e).beatMiss < 8) →
    exec (.missingBeats e) s = .next s) ∧
  (∀ s e, Instr.wf (.lossOfSignal e) = true → (rport s e).link = true →
    ∃ t, exec (.lossOfSignal e) s = .next t ∧ (rport t e).state = .down ∧ (rport t e).link = false ∧ (rport t e).burstNo = none ∧
      (rport t (otherPort e)).link = (rport s (otherPort e)).link ∧
      ((rport s (otherPort e)).link = false → t.ring.state = .offline)) ∧
  (∀ s e b, Instr.wf (.restoreCycleReached e) = true → s.cyc.c0 ≠ none → boundary s (rport s e).restore = some b → b ≤ nt16 s →
    (rport s e).state = .linked → (rport s e).restore ≠ 0 → (rport s e).beatRestore = (rport s e).restore % 2 ^ 32 →
    ∃ t, exec (.restoreCycleReached e) s = .next t ∧ (rport t e).state = .inRing ∧ (rport t e).restore = (rport s e).restore ∧
      (2, rpBit e, (rport s e).beatFrom, s.cyc.n) ∈ t.ring.evOut) ∧
  (∀ s e, Instr.wf (.restoreCycleReached e) = true → (rport s e).state ≠ .linked → exec (.restoreCycleReached e) s = .next s)

/-- R133 to R137: a listen period that has ended makes the node announce with its origin three cycles ahead; a candidate repeats, and at
the end of its window confirms as keystone; at its origin it is synchronised with its counter unchanged; a lower rank sends
a candidate back to listening, an equal one to a backoff; and a confirmed announce starts integration. -/
def Obligations.ColdStart : Prop :=
  (∀ s i d, s.ring.state = .listen → s.ring.listenEnd = some d → d ≤ now s → s.cyc.image = some i →
    ∃ t, exec .listenPeriodEnd s = .next t ∧ t.ring.state = .announce ∧ t.ring.confirmed = false ∧
      t.ring.annC0 = quant (nt16 s) + 3 * tcyc i ∧ t.ring.annEnd = now s + 2 * tcycTicks s ∧
      t.ring.annNext = now s + tcycTicks s ∧ t.ring.annSeq = (s.ring.annSeq + 1) % 65536 ∧ t.time = s.time ∧ t.cyc = s.cyc) ∧
  (∀ s, s.ring.state ≠ .listen → exec .listenPeriodEnd s = .next s) ∧
  (∀ s, s.ring.state = .announce → s.ring.confirmed = false → due s s.ring.annNext = true → due s s.ring.annEnd = false →
    ∃ t, exec .announceResend s = .next t ∧ t.ring.annNext = s.ring.annNext + tcycTicks s ∧
      t.ring.annSeq = (s.ring.annSeq + 1) % 65536 ∧ t.ring.state = .announce ∧ t.ring.annC0 = s.ring.annC0) ∧
  (∀ s, s.ring.state = .announce → s.ring.confirmed = false → due s s.ring.annEnd = true →
    ∃ t, exec .announceWindowEnd s = .next t ∧ t.ring.confirmed = true ∧ t.ring.keystone = me s ∧ t.cyc.c0 = some s.ring.annC0 ∧
      t.cyc.n = 0 ∧ t.ring.state = .announce ∧ t.time = s.time) ∧
  (∀ s, s.ring.state = .announce → s.ring.confirmed = true → s.ring.annC0 ≤ nt16 s →
    ∃ t, exec .cycleOriginReached s = .next t ∧ t.ring.state = .synchronised ∧ t.time.nt = s.time.nt ∧ t.time.rho = 0 ∧
      t.cyc.c0 = s.cyc.c0 ∧ t.cyc.n = s.cyc.n ∧ t.ring.keystone = s.ring.keystone) ∧
  (∀ s, s.ring.state = .rankBackoff → due s s.ring.backoffEnd = true →
    ∃ t, exec .rankBackoffEnd s = .next t ∧ t.ring.state = .listen ∧
      (coldStart s = true → s.ring.readmitted = false → t.ring.listenEnd =
        some (now s + (if s.time.everSync then 64 else 2) * tcycTicks s + usTicks (4 * s.boot.cfg.rank)))) ∧
  (∀ s e o ts, Instr.wf (.announceRx e o ts) = true → CtlGood s e o 0x20 ts → imageKnown s (beAt (ctlPayload o) 4 4) none = true →
    beAt (ctlPayload o) 0 1 ≠ me s →
    let p := ctlPayload o
    let r := passAll (ringRxCount s e o) e o (parseHdr o) true false false
    (r.1 = false → exec (.announceRx e o ts) s = .next (keeping s r.2)) ∧
    (r.1 = true → bitOf (beAt p 1 1) 7 = false → s.ring.annHeard.contains (beAt p 0 1, beAt p 2 2) = false → mayAnnounce s = true →
      s.ring.state = .announce → s.ring.confirmed = false →
      ∃ t, exec (.announceRx e o ts) s = .next t ∧ (beAt p 0 1, beAt p 2 2) ∈ t.ring.annHeard ∧
        (beAt p 1 1 % 8 < s.boot.cfg.rank → t.ring.state = .listen ∧
          t.ring.listenEnd = some (now s + 4 * tcycTicks s + usTicks (4 * s.boot.cfg.rank))) ∧
        (beAt p 1 1 % 8 = s.boot.cfg.rank → t.ring.state = .rankBackoff) ∧
        (s.boot.cfg.rank < beAt p 1 1 % 8 → t.ring.state = .announce)) ∧
    (∀ d, r.1 = true → bitOf (beAt p 1 1) 7 = true → pathDelay r.2 e (beAt p 0 1) = some d → mayIntegrate r.2 = true →
      ∃ t, exec (.announceRx e o ts) s = .next t ∧ t.ring.state = .integrating ∧ t.cyc.c0 = some (timeAt p 18) ∧ t.cyc.n = 0 ∧
        t.ring.keystone = beAt p 0 1 ∧
        t.time.nt = ((nt16 s : Int) + ((timeAt p 8 + d : Nat) : Int) - (quant ts : Nat)).toNat * 2 ^ 32))

/-- R153, R156, R490, R491: with a cause the bypass goes on, the origin is dropped and the ring logic is offline; it goes off
with every cause
clear once the ring has been judged, after 1 ms without a beat that holds an origin, or in its idle time; at its instant a withdrawal
takes a synchronised node out of the ring, and a cycle later the bypass follows. -/
def Obligations.BypassAndWithdrawal : Prop :=
  (∀ s, s.boot.cause ≠ 0 → s.ring.bypassOn = false →
    ∃ t, exec .bypassSwitchOn s = .next t ∧ t.ring.bypassOn = true ∧ t.ring.state = .offline ∧ t.cyc.c0 = none ∧
      t.boot.cause = s.boot.cause ∧ t.ring.evOut = []) ∧
  (∀ s, s.boot.cause = 0 ∨ s.ring.bypassOn = true → exec .bypassSwitchOn s = .next s) ∧
  (∀ s i, s.cyc.image = some i → s.ring.bypassOn = true → s.boot.cause = 0 → inService s .ring = true →
    (s.ring.bypassSince + msTicks 1 ≤ now s ∨ ∃ c, s.ring.bypassC0 = some c ∧ 2 ≤ s.ring.bypassBeats ∧ bypassIdle s i c = true) →
    s.ring.state = .offline → s.ring.east.state = .linked →
    s.ring.west.state = .linked →
    ∃ t, exec .bypassSwitchOff s = .next t ∧ t.ring.bypassOn = false ∧ t.ring.east.state = .inRing ∧
      t.ring.west.state = .inRing) ∧
  (∀ s, s.ring.bypassOn = true → s.ring.bypassC0 = none → now s < s.ring.bypassSince + msTicks 1 →
    exec .bypassSwitchOff s = .next s) ∧
  (∀ s, s.ring.bypassOn = false ∨ s.boot.cause ≠ 0 → exec .bypassSwitchOff s = .next s) ∧
  (∀ s n b, s.ring.withdrawAt = some n → boundary s n = some b → b ≤ nt16 s → s.sched.actCycle ≠ some n →
    ∃ t, exec .withdrawActTime s = .next t ∧ t.ring.withdrawAt = none ∧
      (synced s = true → t.ring.state = .withdrawn ∧ t.time.lossReason = 7) ∧ (synced s = false → t.ring.state = s.ring.state) ∧
      t.ring.withdrawBypCycle = (if s.ring.withdrawByp then some (n + 1) else none) ∧
      t.time.nt = s.time.nt) ∧
  (∀ s n b, s.ring.withdrawAt = some n → boundary s n = some b → nt16 s < b → exec .withdrawActTime s = .next s) ∧
  (∀ s n b i, s.ring.withdrawAt = some n → boundary s n = some b → b ≤ nt16 s → s.sched.actCycle = some n →
    s.sched.pending = some i → exec .withdrawActTime s = .next (keeping s (withdrawActTime (schedActivation s)))) ∧
  (∀ s n b, s.ring.withdrawBypCycle = some n → boundary s n = some b → b ≤ nt16 s →
    ∃ t, exec .withdrawBypass s = .next t ∧ t.ring.bypassOn = true ∧ t.ring.state = .offline ∧ bitOf t.boot.cause 5 = true ∧
      t.ring.withdrawBypCycle = none ∧ t.cyc.c0 = none) ∧
  (∀ s, s.ring.withdrawBypCycle = none → exec .withdrawBypass s = .next s)

/-- R386 to R388, R391: with its mailbox idle a doorbell submits the image and its bulk, and while it is busy the doorbell is counted
and ignored; a request of another node is taken from a management frame, and a second one while it waits is answered MBX_BUSY; a
console line is 16 to
256 octets in hexadecimal, and a faulty one is counted. -/
def Obligations.RequestsReachKeanak : Prop :=
  (∀ s m, Instr.wf (.mbxGo m) = true → doorbellReaches s m = true → (mbxAt s m).state = .busy →
    exec (.mbxGo m) s = .next (count s 0x09 m 8)) ∧
  (∀ s m, Instr.wf (.mbxGo m) = true → doorbellReaches s m = false → exec (.mbxGo m) s = .next s) ∧
  (∀ s m, Instr.wf (.mbxGo m) = true → doorbellReaches s m = true → (mbxAt s m).state ≠ .busy → s.kn.waiting = [] →
    let q : Request := { image := padTo 256 (mbxAt s m).req }
    let r : Request := { master := m, node := 0xFF, image := padTo 256 (mbxAt s m).req
                         bulk := if q.isBulk then padTo (min q.blen (bulkWindow m)) (mbxAt s m).bulk else []
                         port := .east, arr := now s, win := now s * 2 / 25 }
    (∀ st, heldNow s r = false → badHeader r = some st →
      ∃ t, exec (.mbxGo m) s = .next t ∧ Answered s t r st 0 [] []) ∧
    (badHeader r = none → ∃ t, exec (.mbxGo m) s = .next t ∧ (mbxAt t m).state = .busy ∧
      t.kn.waiting = [{ r with held := heldNow s r }])) ∧
  (∀ s e o, Instr.wf (.mgmtFrameRx e o) = true → ctlRuns s = true → hdrCheck s e o (nt16 s) = none →
    (parseHdr o).seg = 2 → (parseHdr o).mgmt = true → (parseHdr o).destAll = false → (parseHdr o).dest = me s →
    (parseHdr o).origin ≠ me s → fcsGood o = true → inRing s e = true →
    let u := forwardFrom (ringRxCount s e o) e (levelBy s o) o true false
    (s.kn.waiting.any (fun x => x.master == 3) = true →
      exec (.mgmtFrameRx e o) s = .next (keeping s (sendMgmt u (parseHdr o).origin (respImage s
        { master := 3, node := (parseHdr o).origin, port := e
          image := padTo 256 (((bodyOf o).drop 28).take (16 + min (leAt ((bodyOf o).drop 28) 6 2) 240))
          bulk := (((bodyOf o).drop 28).drop (16 + leAt ((bodyOf o).drop 28) 6 2)).take (leAt ((bodyOf o).drop 28) 8 4) }
        0x14 0 [] 0)))) ∧
    (s.kn.waiting.any (fun x => x.master == 3) = false →
      exec (.mgmtFrameRx e o) s = .next (keeping s (submit u 3 (parseHdr o).origin
        (padTo 256 (((bodyOf o).drop 28).take (16 + min (leAt ((bodyOf o).drop 28) 6 2) 240)))
        ((((bodyOf o).drop 28).drop (16 + leAt ((bodyOf o).drop 28) 6 2)).take (leAt ((bodyOf o).drop 28) 8 4)) e)))) ∧
  (∀ s l, Instr.wf (.consoleLine l) = true →
    let k := l.filter (fun b => b != 10)
    (k = [] → exec (.consoleLine l) s = .next s) ∧
    (∀ c d, k = c :: d → c ≠ 62 → exec (.consoleLine l) s = .next (count s 0x09 4 10)) ∧
    (∀ d, k = 62 :: d → hexBytes d = none → exec (.consoleLine l) s = .next (count s 0x09 4 10)) ∧
    (∀ d img, k = 62 :: d → hexBytes d = some img → (img.length < 16 ∨ 256 < img.length) →
      exec (.consoleLine l) s = .next (count s 0x09 4 10)) ∧
    (∀ d img, k = 62 :: d → hexBytes d = some img → 16 ≤ img.length → img.length ≤ 256 →
      (mbxAt s 4).state = .busy → exec (.consoleLine l) s = .next (count s 0x09 4 8)) ∧
    (∀ d img, k = 62 :: d → hexBytes d = some img → 16 ≤ img.length → img.length ≤ 256 → (mbxAt s 4).state ≠ .busy →
      exec (.consoleLine l) s = .next (keeping s (submit s 4 0xFF img [] .east))))

/-- R218, R235, R256, R257, R261: on a port that receives, an mPacket after a short gap is counted and dropped, a frame of fewer than 18
octets is a runt, a MAC control frame is consumed, any other frame goes to the vat cut at MAX_FRAME with its MAC status, and the
fragments of a preemptable frame are put together in order. -/
def Obligations.EdgeFramesReceived : Prop :=
  (∀ s p mp ts, Instr.wf (.macFrameRx p mp ts) = true → portReceives s p = false → exec (.macFrameRx p mp ts) s = .next s) ∧
  (∀ s p mp ts, Instr.wf (.macFrameRx p mp ts) = true → portReceives s p = true →
    let u := returned (countFec (wake s [portUnit p]) p mp) p mp
    let o := mp.data
    let maxF := maxFrameAt s p ts
    let st := macStatus maxF o.length (fcsGood o) (packetSym mp)
    (mp.shortGap = true → exec (.macFrameRx p mp ts) s = .next (countPort u p 9)) ∧
    (mp.shortGap = false → mp.smd = .express →
      (o.length < 18 → exec (.macFrameRx p mp ts) s = .next (countPort u p 7)) ∧
      (18 ≤ o.length → etypeAt o 12 = 0x8808 →
        exec (.macFrameRx p mp ts) s = .next (keeping s (macControl (countRx u p st o) p o
          (fcsGood o && decide (o.length ≤ maxF))))) ∧
      (18 ≤ o.length → etypeAt o 12 = 0x88F7 → st = 0 →
        exec (.macFrameRx p mp ts) s = .next (keeping s (gptpRx (countRx u p st o) p o ts))) ∧
      (18 ≤ o.length → etypeAt o 12 ≠ 0x8808 → (etypeAt o 12 ≠ 0x88F7 ∨ st ≠ 0) →
        exec (.macFrameRx p mp ts) s = .next (keeping s (continueArrival (countRx u p st o)
          { data := o.take maxF, kind := .edge
            fr := { data := o.take maxF, acct := p, ingress := p, status := st, ts := quant ts
                    tsFlags := timeFlags s } })))) ∧
    (mp.shortGap = false → mp.smd = .contP → (portAt s p).asmb.isOpen = false →
      exec (.macFrameRx p mp ts) s = .next (countPort (countPort u p 45) p 51)) ∧
    (mp.shortGap = false → mp.smd = .startP → (portAt s p).asmb.isOpen = false → mp.last = false → mp.crcOk = true →
      ∃ t, exec (.macFrameRx p mp ts) s = .next t ∧ (portAt t p).asmb = {
        isOpen := true, data := o, cnt := mp.frameCount % 4, frag := 0, since := now s, ts := ts, sym := packetSym mp } ∧
        t.vat = s.vat ∧ t.eg = s.eg) ∧
    (mp.shortGap = false → mp.smd = .contP → (portAt s p).asmb.isOpen = true →
      ((portAt s p).asmb.cnt ≠ mp.frameCount % 4 ∨ (portAt s p).asmb.frag ≠ mp.fragCount % 4) →
      ∃ t, exec (.macFrameRx p mp ts) s = .next t ∧ (portAt t p).asmb = {} ∧ t.vat = s.vat ∧ t.eg = s.eg) ∧
    (mp.shortGap = false → mp.smd = .contP → (portAt s p).asmb.isOpen = true → mp.last = false → mp.crcOk = true →
      (portAt s p).asmb.cnt = mp.frameCount % 4 → (portAt s p).asmb.frag = mp.fragCount % 4 →
      ∃ t, exec (.macFrameRx p mp ts) s = .next t ∧ (portAt t p).asmb.data = (portAt s p).asmb.data ++ o ∧
        (portAt t p).asmb.isOpen = true ∧ (portAt t p).asmb.frag = ((portAt s p).asmb.frag + 1) % 4 ∧
        t.vat = s.vat ∧ t.eg = s.eg))

/-- R176, R177, R180, R186: a cell request that has waited 32 ticks fails with its frame, and no other; a return takes cells from the
shared pool and marks its entry, and when it is done the entry is ready. -/
def Obligations.CellRequestsAndReturns : Prop :=
  (∀ s i a, Instr.wf (.cellRequestTimeout i) = true → s.vat.waits[i]? = some a → a.since + 32 ≤ now s →
    ∃ t, exec (.cellRequestTimeout i) s = .next t ∧ t.vat.waits = s.vat.waits.eraseIdx i ∧ t.vat.frames = s.vat.frames ∧
      t.vat.poolUsed = s.vat.poolUsed - a.fr.pool ∧ t.vat.stagingUsed = s.vat.stagingUsed - a.fr.staging ∧ t.eg = s.eg) ∧
  (∀ s i, Instr.wf (.cellRequestTimeout i) = true → (s.vat.waits[i]? = none ∨ ∃ a, s.vat.waits[i]? = some a ∧ now s < a.since + 32) →
    exec (.cellRequestTimeout i) s = .next s) ∧
  (∀ s k e, Instr.wf (.spillReturn k) = true → (queueAt s k).find? (fun x => x.state == .inCellar) = some e →
    (frameAt s e.h).inCellar = true → 2 * destCells s (destOfQueue k) < (destQuota s (destOfQueue k)).limit →
    cellsOf (frameAt s e.h).data.length ≤ poolFree s → cellarUp s = true →
    (∀ x ∈ queueAt s k, x.state ≠ .returning) →
    ∃ t, exec (.spillReturn k) s = .next t ∧
      queueAt t k = (queueAt s k).map (fun x => if x.h = e.h then { x with state := .returning } else x) ∧
      t.vat.poolUsed = s.vat.poolUsed + cellsOf (frameAt s e.h).data.length ∧ (frameAt t e.h).inCellar = false ∧
      (frameAt t e.h).data = (frameAt s e.h).data ∧ (∀ j, j ≠ k → queueAt t j = queueAt s j)) ∧
  (∀ s k e, Instr.wf (.spillReturn k) = true → (queueAt s k).find? (fun x => x.state == .inCellar) = some e →
    (frameAt s e.h).inCellar = true → poolFree s < cellsOf (frameAt s e.h).data.length →
    exec (.spillReturn k) s = .next s) ∧
  (∀ s k e, Instr.wf (.spillReturnDone k) = true → (queueAt s k).find? (fun x => x.state == .returning) = some e →
    ∃ t, exec (.spillReturnDone k) s = .next t ∧
      queueAt t k = (queueAt s k).map (fun x => if x.h = e.h then { x with state := .ready } else x) ∧
      (frameAt t e.h).spillDests = (frameAt s e.h).spillDests.erase (destOfQueue k) ∧
      (∀ j, j ≠ k → queueAt t j = queueAt s j)) ∧
  (∀ s k, Instr.wf (.spillReturnDone k) = true → (∀ x ∈ queueAt s k, x.state ≠ .returning) →
    exec (.spillReturnDone k) s = .next s)

/-- R55, R59, R80, R81, R113, R145, R153, R229, R235: with the bypass on what arrives leaves the other port; a frame that fails a
header check
is counted under it and goes no further; a frame of another node passes to the other port with one more hop; a static frame of a slot
this node owns is drained; one outside its acceptance window is discarded and feeds the port's source, and one inside it is sent on;
a preemptable frame's pieces are kept by port and level, and a context with none for two cycles is discarded. -/
def Obligations.RingFramesReceived : Prop :=
  (∀ s e mp ts, Instr.wf (.ringFrameRx e mp ts) = true → (inService s .ring = false ∨ (rport s e).link = false) →
    exec (.ringFrameRx e mp ts) s = .next (throughBypass s e mp.data)) ∧
  (∀ s e o, (s.ring.bypassOn = true → throughBypass s e o = { s with trace := .bypass (otherPort e) o :: s.trace }) ∧
    (s.ring.bypassOn = false → throughBypass s e o = s)) ∧
  (∀ s e mp ts, Instr.wf (.ringFrameRx e mp ts) = true → inService s .ring = true → (rport s e).link = true →
    let o := mp.data
    let h := parseHdr o
    let v := countFec (throughBypass s e o) (rpIdx e) mp
    let u := ringRxCount (if packetSym mp then countPort v (rpIdx e) 6 else v) e o
    let out := otherPort e
    (mp.shortGap = true → exec (.ringFrameRx e mp ts) s = .next (countPort v (rpIdx e) 9)) ∧
    (mp.shortGap = false → mp.smd = .invalid →
      exec (.ringFrameRx e mp ts) s = .next (countPort (countPort v (rpIdx e) 42) (rpIdx e) 51)) ∧
    (mp.shortGap = false → mp.smd = .express → s.ring.bypassOn = false → 18 ≤ o.length →
      o.length ≤ 16000 → etypeAt o 12 ≠ 0x8808 →
      (∀ ev, hdrCheck s e o (quant ts) = some ev →
        exec (.ringFrameRx e mp ts) s = .next (keeping s (countPort u (rpIdx e) ev))) ∧
      (hdrCheck s e o (quant ts) = none → h.seg ≠ 3 → inRing s e = false →
        exec (.ringFrameRx e mp ts) s = .next (keeping s (countPort (if fcsGood o then u else countPort u (rpIdx e) 5) (rpIdx e) 36))) ∧
      (hdrCheck s e o (quant ts) = none → h.seg = 2 → inRing s e = true → inRing s out = true → h.origin ≠ me s →
        (fcsGood o = true → h.destAll = false → h.dest ≠ me s →
          exec (.ringFrameRx e mp ts) s =
            .next (keeping s (perf (toTransit u out (levelBy s o) (hopFrame { data := o })) (pRot (rxRot s e) 5)))) ∧
        (fcsGood o = false →
          exec (.ringFrameRx e mp ts) s = .next (keeping s (toTransit (countPort (countPort u (rpIdx e) 5) (rpIdx e) 25) out
            (levelBy s o) (hopFrame { data := o, bad := true }))))) ∧
      (∀ i, hdrCheck s e o (quant ts) = none → h.seg = 0 → fcsGood o = true → inRing s e = true → h.origin ≠ me s →
        synced s = true → s.cyc.image = some i →
        let rot := rxRot s e
        let n := viewCycle s rot (quant ts)
        let m := measureSync u i rot n h (quant ts)
        (holdsSlot s i h.id n = true → ownerOf i h.id n = some (me s) →
          exec (.ringFrameRx e mp ts) s = .next (keeping s (feedSystem (countRing m 1) 269 h.id 0))) ∧
        (holdsSlot s i h.id n = false → inStaticWindow m i rot n h (quant ts) = false →
          exec (.ringFrameRx e mp ts) s = .next (keeping s
            (feedSystem (perf (countPort m (rpIdx e) 31) (pRot rot 9)) (260 + rpBit e) h.id 0))) ∧
        (holdsSlot s i h.id n = false → inStaticWindow m i rot n h (quant ts) = true → boundBuffers s i n h = [] →
          packetSym mp = false → inRing s out = true → egressFree s out = true → (rtx s out).exNext = none →
          ∃ t, exec (.ringFrameRx e mp ts) s = .next t ∧ (rtx t out).express = some (hopped o) ∧ (rtx t out).exOwn = false ∧
            (rtx t out).exBad = false ∧ slotSeen t h.id e = true ∧ t.cyc.rx = s.cyc.rx ∧ t.vat = s.vat ∧
            (rtx t out).exClose = slotStart s i n rot h.id + mts i i.lst +
              (if wrapped s rot h.origin then lap s rot else 0) - mts i i.g + piT i) ∧
        (holdsSlot s i h.id n = false → inStaticWindow m i rot n h (quant ts) = true → boundBuffers s i n h = [] →
          packetSym mp = false → inRing s out = true → (rtx s out).express.isSome = true →
          ∃ t, exec (.ringFrameRx e mp ts) s = .next t ∧ rtx t out = rtx s out ∧ slotSeen t h.id e = true ∧
            (tblGet {} t.ctr.stat (statIdx 0x01 (rpIdx out) 32)).v =
              ((tblGet {} s.ctr.stat (statIdx 0x01 (rpIdx out) 32)).add 1 (now s)).v))) ∧
    (∀ l, mp.shortGap = false → mp.smd = (match l with
        | Level.high => Smd.startH
        | .low => .startP) → (ctxAt s e l).isOpen = false → mp.last = false → mp.crcOk = true →
      ∃ t, exec (.ringFrameRx e mp ts) s = .next t ∧ ctxAt t e l = {
        isOpen := true, data := o, cnt := mp.frameCount % 4, since := now s, ts := quant ts, sym := packetSym mp
        fwd := (fwdFirst v e l o (quant ts)).1 } ∧ t.vat = s.vat) ∧
    (∀ l, mp.shortGap = false → mp.smd = (match l with
        | Level.high => Smd.contH
        | .low => .contP) → (ctxAt s e l).isOpen = false →
      exec (.ringFrameRx e mp ts) s = .next (countPort (countPort v (rpIdx e) 45) (rpIdx e) 51)) ∧
    (∀ l, mp.shortGap = false → mp.smd = (match l with
        | Level.high => Smd.contH
        | .low => .contP) → (ctxAt s e l).isOpen = true → mp.last = false → mp.crcOk = true →
      (ctxAt s e l).cnt = mp.frameCount % 4 → (ctxAt s e l).frag = mp.fragCount % 4 →
      ∃ t, exec (.ringFrameRx e mp ts) s = .next t ∧ (ctxAt t e l).data = (ctxAt s e l).data ++ o ∧ (ctxAt t e l).isOpen = true ∧
        (ctxAt t e l).frag = ((ctxAt s e l).frag + 1) % 4 ∧ t.vat = s.vat)) ∧
  (∀ s e l, Instr.wf (.reassemblyTimeout e l) = true → (ctxAt s e l).isOpen = true →
    (ctxAt s e l).since + 2 * tcycTicks s ≤ now s →
    exec (.reassemblyTimeout e l) s =
      .next (keeping s (countPort (countPort (dropCtx s (ctxOf e l)) (rpIdx e) 45) (rpIdx e) 50)) ∧
    ((ctxAt s e l).fwd = false →
      exec (.reassemblyTimeout e l) s = .next (countPort (countPort (setCtx s e l {}) (rpIdx e) 45) (rpIdx e) 50))) ∧
  (∀ s e l, Instr.wf (.reassemblyTimeout e l) = true → (ctxAt s e l).isOpen = false ∨ now s < (ctxAt s e l).since + 2 * tcycTicks s →
    exec (.reassemblyTimeout e l) s = .next s)

/-- R193, R220, R230, R231, R259: a MAC that is free starts the head frame of the highest eligible strict-priority queue; with an express
frame to send it interrupts the preemptable one; on the ring a transit frame goes first at its level; and a frame whose last octet is
due leaves its MAC. -/
def Obligations.FramesSent : Prop :=
  (∀ s p mac ts, Instr.wf (.transmissionOpportunity p mac ts) = true → p < 18 → portLive s p = false →
    exec (.transmissionOpportunity p mac ts) s = .next (shaperRefill s)) ∧
  (∀ s, now s < s.eg.lastRefill + 125 → shaperRefill s = s) ∧
  (∀ s p ts, Instr.wf (.transmissionOpportunity p .express ts) = true → p < 18 → portLive s p = true →
    (portAt s p).disabled = false → unitBusy s (portUnit p) = false → unitBusy s (176 + p) = false →
    let u := tagHeads (cleanHeads (wake (shaperRefill s) [portUnit p, 176 + p, 199]) p) p
    let mine := macQueues u p .express
    let el := mine.filter (eligible u p)
    ((macAt u p).ex.isSome = true ∨ el = [] → exec (.transmissionOpportunity p .express ts) s = .next (keeping s u)) ∧
    ((macAt u p).ex = none → el ≠ [] → (macAt u p).pm.isSome = true → (macAt u p).susp = false →
      exec (.transmissionOpportunity p .express ts) s = .next (keeping s (interrupt u p))) ∧
    (∀ q e, (macAt u p).ex = none → (macAt u p).pm = none → due u (macAt u p).freeAt = true →
      (el.filter (fun q => !(qcfgAt u (8 * p + q)).drr)).max? = some q → headOf u (queueKey u p q) = some e →
      (frameAt u e.h).tsq = none →
      ∃ t, exec (.transmissionOpportunity p .express ts) s = .next t ∧ (macAt t p).ex = some e.h ∧ (macAt t p).exQ = q ∧
        (macAt t p).start = now s ∧ queueAt t (queueKey u p q) = (queueAt u (queueKey u p q)).tail)) ∧
  (∀ s e ts, Instr.wf (.transmissionOpportunity (rpIdx e) .express ts) = true →
    let u := expressNext (tagHeads (cleanHeads (shaperRefill s) (rpIdx e)) (rpIdx e)) e
    let x := rtx u e
    (inService s .ring = false ∨ s.ring.bypassOn = true ∨ x.hold = true →
      exec (.transmissionOpportunity (rpIdx e) .express ts) s = .next (keeping s u)) ∧
    (inService s .ring = true → s.ring.bypassOn = false → x.exNext = none → x.hold = false → busyLv x .low = false →
      x.curH = none → x.curL = none → egressFree u e = true → beatOwed u e = false → (beatFirst u e && synced u) = false →
      (∀ f l, frontStart u e .high = some (f, l) →
        exec (.transmissionOpportunity (rpIdx e) .express ts) s =
          .next (keeping s (ringStart (setRtx u e { x with transitH := l }) e .high f none))) ∧
      (∀ o l, frontStart u e .high = none → ctlNext u e = some (o, l) →
        exec (.transmissionOpportunity (rpIdx e) .express ts) s =
          .next (keeping s (startCtl (setRtx u e { x with ctl := l }) e o ts))))) ∧
  (∀ s p h, Instr.wf (.frameTxEnd p .express) = true → p < 18 → (macAt s p).ex = some h → loopedBack s p = false →
    (portAt s p).draining = false →
    let m := macAt s p
    let due' := m.start + octetTicks (lineMbps s p) (8 + wireLen p (frameAt s h))
    (now s < due' → exec (.frameTxEnd p .express) s = .next s) ∧
    (due' ≤ now s → ∃ t, exec (.frameTxEnd p .express) s = .next t ∧ (macAt t p).ex = none ∧
      (macAt t p).freeAt = due' + octetTicks (lineMbps s p) 12 ∧ (macAt t p).pm = m.pm)) ∧
  (∀ s e f, Instr.wf (.frameTxEnd (rpIdx e) .preemptable) = true → (rtx s e).curL = some f → (rtx s e).suspL = false →
    f.ctx = none → (rtx s e).startL + octetTicks (ringMbps s) (8 + (f.data.length - 4 - (rtx s e).sentL) + 4 + 12) ≤ now s →
    ∃ t, exec (.frameTxEnd (rpIdx e) .preemptable) s = .next t ∧ (rtx t e).curL = none ∧ (rtx t e).sentL = 0 ∧
      (rtx t e).curH = (rtx s e).curH)

/-- R222, R263 to R266, R282: a port whose training ended at a rate it allows, in a role it allows, is up with that rate and role; a
forced role that is not met leaves it down and is counted with autonegotiation; a link that goes down drops its frames in
progress, its pauses and its verification, and leaves every other port's link. -/
def Obligations.EdgeLinks : Prop :=
  (∀ s p rate m inv, Instr.wf (.edgeLinkUp p rate m inv) = true → mayLink s p = true →
    let x := portAt s p
    let ok := if x.cfg.an then bitOf x.cfg.adv rate else x.cfg.forced == rate
    let want : Option Bool := if x.cfg.an then (match x.cfg.role with
        | 2 => some true
        | 3 => some false
        | _ => none)
      else some (x.cfg.role % 2 == 0)
    (ok = true → (want = none ∨ want = some m) →
      ∃ t, exec (.edgeLinkUp p rate m inv) s = .next t ∧
        portAt t p = { x with link := true, rate := rate + 1, master := m, anDone := x.cfg.an, polInv := inv } ∧
        (∀ q, q ≠ p → portAt t q = portAt s q)) ∧
    (ok = true → x.cfg.an = true → want = some (!m) →
      exec (.edgeLinkUp p rate m inv) s = .next (countPort s p 48)) ∧
    (ok = false → exec (.edgeLinkUp p rate m inv) s = .next s)) ∧
  (∀ s p rate m inv, Instr.wf (.edgeLinkUp p rate m inv) = true → mayLink s p = false →
    exec (.edgeLinkUp p rate m inv) s = .next s) ∧
  (∀ s p, Instr.wf (.edgeLinkDown p) = true → (portAt s p).link = true →
    ∃ t, exec (.edgeLinkDown p) s = .next t ∧ (portAt t p).link = false ∧ (portAt t p).rate = 0 ∧ (portAt t p).asmb = {} ∧
      (portAt t p).cfg = (portAt s p).cfg ∧ (macAt t p).ex = none ∧ (macAt t p).pm = none ∧ (pauseAt t p).upto = [] ∧
      (∀ q, q ≠ p → portAt t q = portAt s q)) ∧
  (∀ s p, Instr.wf (.edgeLinkDown p) = true → (portAt s p).link = false → exec (.edgeLinkDown p) s = .next s) ∧
  (∀ s u, Instr.wf (.uplinkLinkDown u) = true → (portAt s (16 + u)).link = true →
    ∃ t, exec (.uplinkLinkDown u) s = .next t ∧ (portAt t (16 + u)).link = false ∧ (macAt t (16 + u)).ex = none ∧
      (macAt t (16 + u)).pm = none ∧ (∀ q, q ≠ 16 + u → portAt t q = portAt s q)) ∧
  (∀ s u, Instr.wf (.uplinkLinkDown u) = true → (portAt s (16 + u)).link = false → exec (.uplinkLinkDown u) s = .next s)

/-- R418, R420, R423, R425, R426, R429: a source's count returns to 0 at the end of its window; a reaction's reset ends and is signalled
once its time has come; a shadow ends with a record of its hits; a forced train makes its next event; and a boundary sees one outage
once. -/
def Obligations.ReactionsAndForcedEvents : Prop :=
  (∀ s f, Instr.wf (.faultWindowEnd f) = true → (fsrcAt s f).count ≠ 0 → (fsrcAt s f).winEnd ≤ nt16 s →
    exec (.faultWindowEnd f) s = .next (setFsrc s f { fsrcAt s f with count := 0 })) ∧
  (∀ s f, Instr.wf (.faultWindowEnd f) = true → nt16 s < (fsrcAt s f).winEnd →
    ∃ t, exec (.faultWindowEnd f) s = .next t ∧ ∀ g, fsrcAt t g = fsrcAt s g) ∧
  (∀ s id r, Instr.wf (.reactionEnd id) = true → reactOf s id = some r → r.done = false → r.code < 6 → r.resetEnd ≤ now s →
    exec (.reactionEnd id) s = .next (keeping s (signal (afterReset { s with flt := { s.flt with
      reacts := s.flt.reacts.map (fun o => if o.id = id then { o with done := true } else o) } } r) 1737))) ∧
  (∀ s id r, Instr.wf (.reactionEnd id) = true → reactOf s id = some r → (r.done = true ∨ now s < r.resetEnd) →
    exec (.reactionEnd id) s = .next s) ∧
  (∀ s id r, Instr.wf (.shadowEnd id) = true → reactOf s id = some r → r.done = true → r.test = false → r.shadowEnd ≤ now s →
    exec (.shadowEnd id) s = .next (keeping s (latchRec { s with flt := { s.flt with
      reacts := s.flt.reacts.filter (fun o => o.id != id) } } r.src { kind := 2, detail := r.hits, id := id, reaction := r.code }))) ∧
  (∀ s id r, Instr.wf (.shadowEnd id) = true → reactOf s id = some r → (r.done = false ∨ r.test = true ∨ now s < r.shadowEnd) →
    exec (.shadowEnd id) s = .next s) ∧
  (∀ s f, Instr.wf (.forcedEvent f) = true → forceDue s f = true →
    let x := fsrcAt s f
    let u := setFsrc s f { x with fLeft := x.fLeft - 1, force := decide (1 < x.fLeft), fNext := x.fNext + usTicks x.fSpacing }
    exec (.forcedEvent f) s = .next (keeping s (feedWith reactReset u f x.fLoc x.fDetail false true x.fRecOnly)) ∧
    ((fsrcCfg s f).enable = false → exec (.forcedEvent f) s = .next u)) ∧
  (∀ s f, Instr.wf (.forcedEvent f) = true → (fsrcAt s f).force = false → exec (.forcedEvent f) s = .next s) ∧
  (∀ s f nb, Instr.wf (.boundaryDetect f nb) = true → (fsrcAt s f).boundary = some nb → unitBusy s nb = true →
    exec (.boundaryDetect f nb) s = .next s) ∧
  (∀ s f nb, Instr.wf (.boundaryDetect f nb) = true → (fsrcAt s f).boundary ≠ some nb → s.flt.reacts = [] → s.flt.tests = [] →
    exec (.boundaryDetect f nb) s = .next (keeping s (feed (setFsrc s f { fsrcAt s f with boundary := some nb }) f 0 (2 ^ 31)))) ∧
  (∀ s f nb r, Instr.wf (.boundaryDetect f nb) = true → (fsrcAt s f).boundary ≠ some nb → s.flt.reacts = [r] → r.done = false →
    inScope r nb = true → inScope r f = false → (fsrcCfg s f).enable = true →
    let u := count (setFsrc s f { fsrcAt s f with boundary := some nb }) 0x0C f 0
    exec (.boundaryDetect f nb) s = .next (keeping s (latchRec u f
      { detail := 2 ^ 31, isNative := true, cons := true, id := r.id, count := (windowClosed s f).count
        severity := b2n (fsrcCfg s f).degraded })))

/-- R27, R431 to R433, R435, R436, R439, R441: a requested test starts with a PENDING record once its unit is free; a test that passes
ends with its record and no repair; a lasting one takes the next spare, or disables its unit; the oldest record is logged after 20 µs with
the next LOG_SEQ; and a restarted region runs again. -/
def Obligations.SelfTestsLogAndRegions : Prop :=
  (∀ s f t, Instr.wf (.selftestStart f) = true → testRuns s (unitOf f) = false →
    s.flt.reacts.any (fun r => !r.done && inScope r f) = false → s.flt.tests = [t] → t.src = f → t.running = false →
    ∃ u, exec (.selftestStart f) s = .next u ∧ u.flt.tests = [{ t with running := true }] ∧
      u.flt.repairs = s.flt.repairs ∧ u.flt.disabled = s.flt.disabled) ∧
  (∀ s f, Instr.wf (.selftestStart f) = true → testRuns s (unitOf f) = true → exec (.selftestStart f) s = .next s) ∧
  (∀ s f t, Instr.wf (.selftestDone f .passed) = true → s.flt.tests = [t] → t.src = f → t.running = true → t.byCmd = false →
    s.flt.reacts = [] → testOf f ≠ .d2dLink →
    exec (.selftestDone f .passed) s = .next (keeping s (latchRec { s with flt := { s.flt with tests := [] } } f
      { kind := 1, loc := t.loc, id := t.id, detail := 0xFF, verdict := 2 }))) ∧
  (∀ s f v, Instr.wf (.selftestDone f v) = true → s.flt.tests = [] → exec (.selftestDone f v) s = .next s) ∧
  (∀ s f t, Instr.wf (.selftestDone f .lasting) = true → s.flt.tests = [t] → t.src = f → t.running = true → t.repair = true →
    s.flt.reacts = [] → testOf f ≠ .none →
    let used := (s.flt.repairs.filter (fun e => sameSpares (testOf f) f e.fs)).length
    ∃ u, exec (.selftestDone f .lasting) s = .next u ∧
      (used < sparesOf (testOf f) → s.flt.repairs.length < 1024 → u.flt.tests = [] ∧
        u.flt.repairs = s.flt.repairs ++ [{ fs := f, loc := t.loc, spare := used, ts := ntNs s }] ∧
        u.flt.disabled = s.flt.disabled) ∧
      (sparesOf (testOf f) ≤ used → testOf f = .rowMarch → u.flt.tests = [] ∧ u.flt.repairs = s.flt.repairs ∧
        u.flt.disabled = setInsert s.flt.disabled (unitOf f))) ∧
  (∀ s r, s.flt.latches = [r] → mramUp s = true → r.tick + usTicks 20 ≤ now s → s.flt.overflowOwed = 0 →
    let w := r.word + s.flt.logSeq % 2 ^ 64 * 2 ^ 96
    ∃ t, exec .faultLogCollect s = .next t ∧ t.flt.latches = [] ∧ t.flt.log = (w :: s.flt.log).take 16384 ∧
      t.flt.mirror = (w :: s.flt.mirror).take 256 ∧ t.flt.logSeq = s.flt.logSeq + 1 ∧ t.kn = s.kn) ∧
  (∀ s, mramUp s = false → exec .faultLogCollect s = .next s) ∧
  (∀ s r, Instr.wf (.regionRestartDone r) = true → s.regs.restarting.contains r = false →
    exec (.regionRestartDone r) s = .next s) ∧
  (∀ s, Instr.wf (.regionRestartDone .host) = true → s.regs.restarting.contains .host = true → s.boot.fallback = false →
    s.kn.waiting = [] →
    ∃ t, exec (.regionRestartDone .host) s = .next t ∧ t.regs.out = setErase s.regs.out .host ∧
      t.regs.restarting = setErase s.regs.restarting .host ∧ t.kn.waiting = [] ∧ t.time = s.time) ∧
  (∀ s r, Instr.wf (.regionRestartDone r) = true → s.regs.restarting.contains r = true → s.boot.fallback = true →
    fallbackOut r = true → (r ≠ .record ∨ s.clk.d2dDown.contains 3 = false) → s.kn.waiting = [] →
    ∃ t, exec (.regionRestartDone r) s = .next t ∧ t.regs.restarting = setErase s.regs.restarting r ∧ t.regs.out = s.regs.out)

/-- R40, R94, R144, R234, R282, R284: a recovered clock's loss is kept for its port, whose link is down, and its return ends it; a
module that suits the rate lets a SerDes port up; a transmitter fault pulses x_TXDIS at most once a second; and the preemptable levels of a
LINKED ring port are verified by up to three tries. -/
def Obligations.ClocksModulesAndSerdes : Prop :=
  (∀ s p, Instr.wf (.recoveredClockLoss p) = true →
    ∃ t, exec (.recoveredClockLoss p) s = .next t ∧ p ∈ t.clk.rxClockLost ∧ (p < 18 → (portAt t p).link = false) ∧
      (18 ≤ p → (rport t (rpOf p)).link = false)) ∧
  (∀ s p, Instr.wf (.recoveredClockReturn p) = true →
    exec (.recoveredClockReturn p) s = .next { s with clk := { s.clk with rxClockLost := setErase s.clk.rxClockLost p } }) ∧
  (∀ s u, u < 2 → (let w := if u = 0 then Serdes.up0 else .up1
    Instr.wf (.serdesLinkUp w) = true → (portAt s (16 + u)).modReady = true → mayLink s (16 + u) = true →
    ∃ t, exec (.serdesLinkUp w) s = .next t ∧ portAt t (16 + u) = { portAt s (16 + u) with link := true, rate := 0 })) ∧
  (∀ s w, Instr.wf (.serdesLinkUp w) = true → moduleOk s w = false → exec (.serdesLinkUp w) s = .next s) ∧
  (Instr.wf (.serdesLinkUp .east) = true → ∀ s, s.ports.modEast = true → s.clk.rxClockLost.contains 18 = false →
    inService s .ring = true → s.ring.east.link = false → s.flt.disabled.contains 262 = false → s.ring.east.state = .down →
    ∃ t, exec (.serdesLinkUp .east) s = .next t ∧ t.ring.east.link = true ∧ t.ring.east.state = .linked ∧
      t.ring.east.firstBurst = true ∧ t.ring.west.link = s.ring.west.link) ∧
  (∀ s w id, Instr.wf (.moduleInsert w id) = true →
    let ok := Config.moduleSupports id (serdesMbps s (serdesPort w))
    ∃ t, exec (.moduleInsert w id) s = .next t ∧ moduleOk t w = ok ∧
      tblGet {} t.ctr.stat (statIdx 0x0D (serdesPort w) 8) = (if ok then tblGet {} s.ctr.stat (statIdx 0x0D (serdesPort w) 8)
        else (tblGet {} s.ctr.stat (statIdx 0x0D (serdesPort w) 8)).add 1 (now s))) ∧
  (∀ s w t0, Instr.wf (.moduleTxfault w) = true → lastPulse s w = some t0 → now s < t0 + msTicks 1000 →
    exec (.moduleTxfault w) s = .next (keeping s (feed (count s 0x0D (serdesPort w) 9) (match w with
      | .east => 264
      | .west => 265
      | .up0 => 203
      | .up1 => 207) 0 0))) ∧
  (∀ s w, Instr.wf (.moduleTxfault w) = true → lastPulse s w = none →
    exec (.moduleTxfault w) s = .next (keeping s (feed (count (pulseTxdis s w) 0x0D (serdesPort w) 9) (match w with
      | .east => 264
      | .west => 265
      | .up0 => 203
      | .up1 => 207) 0 0))) ∧
  (∀ s e, Instr.wf (.ringPreemptVerify e) = true → inService s .ring = true → (rport s e).state = .linked →
    ((rport s e).verL = false ∨ (rport s e).verH = false) → (rport s e).verNext ≤ now s →
    let x := rport s e
    (x.verTries < 3 → exec (.ringPreemptVerify e) s = .next (emit (emit
      (setRport s e { x with verTries := x.verTries + 1, verNext := now s + msTicks 1 }) (.verify (rpIdx e) .verifyP))
        (.verify (rpIdx e) .verifyH))) ∧
    (3 ≤ x.verTries → exec (.ringPreemptVerify e) s = .next (keeping s (feed (countPort
      (setRport s e { x with verTries := 0, verNext := now s + msTicks 97 }) (rpIdx e) 44) (262 + rpBit e) 0 0)))) ∧
  (∀ s e, Instr.wf (.ringPreemptVerify e) = true → (rport s e).state ≠ .linked → exec (.ringPreemptVerify e) s = .next s)

/-- R273, R275: the power controller of a port goes from detection to classification, inrush and power as its probes say, keeps within
the budget, and answers an overload, a short and a foreign voltage as R275 names them; after its delay it tries again, until
its limit locks it out. -/
def Obligations.PowerOverThePair : Prop :=
  (∀ s p x, Instr.wf (.podlDetectProbe p .valid) = true → podlRuns s p = true → podlAt s p = x → x.state = .detecting →
    exec (.podlDetectProbe p .valid) s = .next (setPodl s p { x with state := .classifying, budgetWait := false }) ∧
    exec (.podlDetectProbe p .openCircuit) s = .next s ∧
    exec (.podlDetectProbe p .reversed) s = .next (keeping s (podlFault s p .backoff 3)) ∧
    exec (.podlDetectProbe p .shorted) s = .next (keeping s (podlFault s p .backoff 1)) ∧
    exec (.podlDetectProbe p .invalid) s = .next (keeping s (podlFault s p .backoff 4))) ∧
  (∀ s p st c, podlFault s p st c = feed (countPort (setPodl s p { podlAt s p with
    state := st, fault := c, faults := (podlAt s p).faults + 1, budgetWait := false
    waitEnd := now s + msTicks (1000 * (podlAt s p).retryDel) }) p 49) (114 + 4 * p) 0 c) ∧
  (∀ s p c x, Instr.wf (.podlClassResult p (some c)) = true → podlRuns s p = true → podlAt s p = x → x.state = .classifying →
    x.budgetWait = false →
    let u := setPodl s p { x with pdClass := c }
    (x.classMax < c → exec (.podlClassResult p (some c)) s = .next (keeping s (podlFault u p .lockout 6))) ∧
    (c ≤ x.classMax → podlOn x = false → podlSum u + Config.podlClassMw c ≤ s.ports.budget →
      ∃ t, exec (.podlClassResult p (some c)) s = .next t ∧ podlAt t p = { x with pdClass := c, cls := c, state := .inrush }) ∧
    (c ≤ x.classMax → s.ports.budget < podlSum u + Config.podlClassMw c →
      ∃ t, exec (.podlClassResult p (some c)) s = .next t ∧ podlAt t p = { x with
        pdClass := c, fault := 7, budgetWait := true, waitEnd := now s + msTicks 1000 })) ∧
  (∀ s p x, Instr.wf (.podlInrushEnd p true) = true → podlRuns s p = true → podlAt s p = x → x.state = .inrush →
    exec (.podlInrushEnd p true) s = .next (setPodl s p { x with state := .powered, waitEnd := now s + msTicks 10000 }) ∧
    exec (.podlInrushEnd p false) s = .next (keeping s (podlFault s p .backoff 2))) ∧
  (∀ s p, Instr.wf (.podlOverload p) = true → podlRuns s p = true → (podlAt s p).state = .powered →
    exec (.podlOverload p) s = .next (keeping s (podlFault s p .backoff 2))) ∧
  (∀ s p, Instr.wf (.podlShort p) = true → podlRuns s p = true → (podlAt s p).state = .inrush ∨ (podlAt s p).state = .powered →
    podlRuns s p = true → exec (.podlShort p) s = .next (keeping s (podlFault s p .backoff 1))) ∧
  (∀ s p, Instr.wf (.podlShort p) = true → podlRuns s p = true → (podlAt s p).state = .disabled → (podlAt s p).offAt = some (now s) →
    exec (.podlShort p) s = .next (keeping s (podlFault s p .disabled 1))) ∧
  (∀ s p, Instr.wf (.podlSupplyShort p) = true → podlRuns s p = true → (podlAt s p).state ≠ .inrush →
    (podlAt s p).state ≠ .powered →
    ((podlAt s p).state = .lockout → exec (.podlSupplyShort p) s = .next (setPodl s p { podlAt s p with fault := 9 })) ∧
    ((podlAt s p).state ≠ .lockout → exec (.podlSupplyShort p) s = .next (keeping s (podlFault s p .lockout 9)))) ∧
  (∀ s p x, Instr.wf (.podlMpsLost p) = true → podlRuns s p = true → podlAt s p = x → x.state = .powered →
    exec (.podlMpsLost p) s = .next (setPodl s p { x with state := .detecting, fault := 8, budgetWait := false })) ∧
  (∀ s p x, Instr.wf (.podlRetryDelayEnd p) = true → podlRuns s p = true → podlAt s p = x → x.state = .backoff →
    x.waitEnd ≤ now s →
    (x.faults < x.retryLim →
      exec (.podlRetryDelayEnd p) s = .next (setPodl s p { x with state := .detecting, budgetWait := false })) ∧
    (x.retryLim ≤ x.faults → exec (.podlRetryDelayEnd p) s =
      .next (keeping s (feed (countPort (setPodl s p { x with state := .lockout }) p 49) (114 + 4 * p) 0 x.fault)))) ∧
  (∀ s p x, Instr.wf (.podlBudgetWaitEnd p) = true → podlRuns s p = true → podlAt s p = x → x.state = .classifying →
    x.budgetWait = true → x.waitEnd ≤ now s →
    exec (.podlBudgetWaitEnd p) s = .next (setPodl s p { x with state := .detecting, budgetWait := false })) ∧
  (∀ s p x, Instr.wf (.podlPowered10s p) = true → podlRuns s p = true → podlAt s p = x → x.state = .powered → x.waitEnd ≤ now s →
    exec (.podlPowered10s p) s = .next (setPodl s p { x with faults := 0 }))

/-- R23, R270 to R272, R415: the clock of a unit idle for 32 ticks of its domain is gated, except of a ring member's ring units; a cellar
unused for 1 ms enters self-refresh; a die-to-die link that goes down is kept; and a cable test ends with the record of the first
row of R270 that applies. -/
def Obligations.GatingAndLinksBetweenDies : Prop :=
  (∀ s u, Instr.wf (.unitClockGate u) = true → listed u = true → unitOf u = u → (srcInfo u).level = 0 →
    srcRegion u = .edge ∨ (srcRegion u = .ring ∧ ringMember s = false) →
    max s.clk.bootTick (tblGet 0 s.clk.lastUse u) + 32 * unitPeriod u ≤ now s →
    exec (.unitClockGate u) s = .next { s with clk := { s.clk with gatedUnits := setInsert s.clk.gatedUnits u } }) ∧
  (∀ s u, Instr.wf (.unitClockGate u) = true → (srcRegion u = .control ∨ (srcRegion u = .ring ∧ ringMember s = true) ∨
      now s < tblGet 0 s.clk.lastUse u + 32 * unitPeriod u) →
    exec (.unitClockGate u) s = .next s) ∧
  (∀ s, (∀ e ∈ s.eg.queues, ∀ x ∈ e.2, x.state ≠ .returning) → s.geley.d0.writing = none → s.geley.d1.writing = none →
    max s.clk.bootTick s.clk.cellarUse + msTicks 1 ≤ now s →
    exec .cellarSelfRefresh s = .next { s with clk := { s.clk with cellarSelfRefresh := true } }) ∧
  (∀ s k, Instr.wf (.d2dLinkDown k) = true → (fsrcCfg s (97 + 2 * k)).enable = false →
    exec (.d2dLinkDown k) s = .next (count { s with clk := { s.clk with d2dDown := setInsert s.clk.d2dDown k } } 0x0C (97 + 2 * k) 0)) ∧
  (∀ s k, Instr.wf (.d2dLinkDown k) = true → s.clk.d2dDown.contains k = true →
    exec (.d2dLinkDown k) s = .next (keeping s (feed { s with clk := { s.clk with d2dDown := setInsert s.clk.d2dDown k } }
      (97 + 2 * k) 0 k))) ∧
  (∀ s p m, Instr.wf (.cableTestDone p m) = true → (portAt s p).cableTest = true →
    ∃ t, exec (.cableTestDone p m) s = .next t ∧
      portAt t p = { portAt s p with cableTest := false, cableRes := cableResult (portAt s p).cfg.nvp m } ∧
      ((podlAt s p).state = .test → (podlAt t p).state = .detecting) ∧
      ((podlAt s p).state ≠ .test → podlAt t p = podlAt s p)) ∧
  (∀ s p m, Instr.wf (.cableTestDone p m) = true → (portAt s p).cableTest = false → exec (.cableTestDone p m) s = .next s) ∧
  (∀ v m, let near := fun (x : Reflection) => x ∈ m.echoes ∧ v * 299792458 * x.delay ≤ 254 * 10 ^ 12 * 65536
    (m.overlapped = true → cableResult v m = 0xFF5) ∧
    (m.overlapped = false → (∃ x, near x ∧ x.short = true ∧ 7 * 65536 < 10 * x.size) → cableResult v m % 16 = 2) ∧
    (m.overlapped = false → (∀ x, near x → 7 * 65536 < 10 * x.size → x.short = false) →
      ((∃ x, near x ∧ 7 * 65536 < 10 * x.size) → cableResult v m % 16 = 1) ∧
      ((∀ x, near x → 10 * x.size ≤ 7 * 65536) → (m.reversed = true → cableResult v m = 0xFF3) ∧
        (m.reversed = false → (∃ x, near x ∧ 2 * 65536 ≤ 10 * x.size) → cableResult v m % 16 = 4) ∧
        (m.reversed = false → (∀ x, near x → 10 * x.size < 2 * 65536) → cableResult v m = 0xFF0)))) ∧
  (∀ v x, v * 299792458 * x.delay ≤ 254 * 10 ^ 12 * 65536 →
    let d : Int := (cableRecord v 1 (some x) / 16 % 256 : Nat)
    (2 * d - 1) * 10 ^ 12 * 65536 ≤ 4 * (v * 299792458 * x.delay : Nat) ∧
      4 * (v * 299792458 * x.delay : Nat) < (2 * d + 1) * 10 ^ 12 * 65536)

/-- R306, R313, R352: a running queue with room fetches descriptors at CONS, and a read that returns whole enters its cache; a fetch past
the top of the address space and a failed read halt the queue; and a read that is not outstanding, or whose data is not whole, changes
nothing. -/
def Obligations.DescriptorFetches : Prop :=
  (∀ s q, Instr.wf (.descriptorFetch q) = true → qKind q = 0 → (qAt s q).state = .running → (qAt s q).fetching = false →
    mayRead s q = true → cqWait s q = false → headHeld s q = false → fetchCount s q ≠ 0 →
    let x := qAt s q
    let n := fetchCount s q
    let addr := x.ringAddr + 32 * (x.cons % ringSize s q)
    (addr + 32 * n ≤ 2 ^ 64 → ∃ t, exec (.descriptorFetch q) s = .next t ∧
      qAt t q = { x with fetching := true, fetchAt := x.cons } ∧
      ∃ f, funcOfQueue s q = some f ∧ t.dma.reads = tblSet {} s.dma.reads (nextTag s q)
        { q := q, addr := addr, len := 32 * n, kind := .desc, since := now s, func := f }) ∧
    (2 ^ 64 < addr + 32 * n → exec (.descriptorFetch q) s =
      .next (keeping s (haltQueue (setQ s q { x with haltN := n }) q 0x13 addr x.cons false true)))) ∧
  (∀ s q, Instr.wf (.descriptorFetch q) = true → qKind q < 3 → ((qAt s q).state ≠ .running ∨ (qAt s q).fetching = true ∨
    mayIssue s q = false ∨ mayRead s q = false) → exec (.descriptorFetch q) s = .next s) ∧
  (∀ s tag r o, Instr.wf (.hostReadCompletion tag o) = true → s.dma.reads.find? (fun e => e.1 == tag) = some (tag, r) →
    r.kind = .desc → o.length = r.len → (qAt s r.q).state = .running →
    ∃ t, exec (.hostReadCompletion tag o) s = .next t ∧ t.dma.reads = tblErase s.dma.reads tag ∧
      (qAt t r.q).cache = (qAt s r.q).cache ++ parseEntries 32 (o.length / 32) (qAt s r.q).fetchAt o ∧
      (qAt t r.q).cons = ((qAt s r.q).fetchAt + o.length / 32) % 65536 ∧ (qAt t r.q).fetching = false ∧ t.dma.jobs = s.dma.jobs) ∧
  (∀ s tag o, Instr.wf (.hostReadCompletion tag o) = true → (∀ e ∈ s.dma.reads, e.1 = tag → e.2.len ≠ o.length) →
    exec (.hostReadCompletion tag o) s = .next s) ∧
  (∀ s tag r k, Instr.wf (.hostBusError tag k) = true → s.dma.reads.find? (fun e => e.1 == tag) = some (tag, r) → r.kind = .desc →
    let u := { s with dma := { s.dma with reads := tblErase s.dma.reads tag } }
    exec (.hostBusError tag k) s = .next (keeping s (haltQueue (setQ u r.q { qAt u r.q with
      fetching := false, haltN := r.len / 32 }) r.q (if k = .poisoned then 0x12 else 0x10) r.addr (qAt u r.q).fetchAt false true))) ∧
  (∀ s tag k, Instr.wf (.hostBusError tag k) = true → (∀ e ∈ s.dma.reads, e.1 ≠ tag) →
    exec (.hostBusError tag k) s = .next s) ∧
  (∀ s tag r, Instr.wf (.completionTimeout tag) = true → s.dma.reads.find? (fun e => e.1 == tag) = some (tag, r) →
    (r.since + msTicks 50 ≤ now s → exec (.completionTimeout tag) s = .next (keeping s (readFails s tag 0x11))) ∧
    (now s < r.since + msTicks 50 → exec (.completionTimeout tag) s = .next s))

/-- R300, R328, R334, R335, R337, R349, R350, R352: the next descriptor of a running queue becomes a job, or breaks a rule and
puts its queue
in ERROR; one with no operation and no completion is over at once; a receive frame takes a channel to its buffers once they are
enough, and is dropped after its wait limit; a beat goes to a channel of the highest priority; a message not accepted stays pending,
a completion queue halts with the record, and a queue's job halts. -/
def Obligations.JobsAndDeliveries : Prop :=
  (∀ s q idx d rest, Instr.wf (.txJobStart q) = true → qKind q = 0 → mayIssue s q = true → (qAt s q).state = .running →
    channelFree s q = true → cqWait s q = false → jobsOf s q = [] → (qAt s q).cache = (idx, d) :: rest → headHeld s q = false →
    let u := wake s [321 + 8 * qCluster q, 323 + 8 * qCluster q, 324 + 8 * qCluster q]
    (checkDesc s q d ≠ 0 → exec (.txJobStart q) s = .next (keeping s
      (errorQueue u q (checkDesc s q d) idx))) ∧
    (checkDesc s q d = 0 → exec (.txJobStart q) s = .next (keeping s
      (startJob (setQ u q { qAt s q with cache := rest }) q idx d))) ∧
    (dOp d = 0 → dReq d = false → dTs d = false → dCrc d = false → dFcs d = false → (qAt s q).errPend = none →
      ∃ t, exec (.txJobStart q) s = .next t ∧ t.dma.jobs = s.dma.jobs ∧ (qAt t q).cache = rest ∧ (qAt t q).state = .running)) ∧
  (∀ s q, Instr.wf (.txJobStart q) = true → mayIssue s q = false → exec (.txJobStart q) s = .next s) ∧
  (∀ s q e rest, Instr.wf (.rxFrameDeliver q) = true → qKind q = 1 → rxReady s q = true → (qAt s q).state = .running →
    (qAt s q).rxq = e :: rest →
    let r := takeBufs ((rxAvail s q).take (qAt s q).maxChain) (frameAt s e.h).data.length
    (r.2 = true → (∀ d ∈ r.1, bufOk q d.2 = true) →
      ∃ t j, exec (.rxFrameDeliver q) s = .next t ∧ (qAt t q).rxq = e :: rest ∧ (qAt t q).rsv = r.1 ∧
        (qAt t q).cache = (rxAvail s q).drop r.1.length ∧ jobsOf t q = [j] ∧ j.state = .writing ∧ j.prio = (qAt s q).prio ∧
        (j.out.map (·.2)).flatten = (frameAt s e.h).data ∧ (∀ x ∈ j.out, ∃ d ∈ r.1, x.1 = fld d.2 0 64 ∧ x.2.length ≤ fld d.2 64 16)) ∧
    (∀ d, r.1.find? (fun d => !bufOk q d.2) = some d → exec (.rxFrameDeliver q) s =
      .next (keeping s (errorQueue s q 4 d.1))) ∧
    (r.2 = false → (∀ d ∈ r.1, bufOk q d.2 = true) → (rxAvail s q).length < (qAt s q).maxChain →
      (rxAvail s q).length < ringSize s q →
      exec (.rxFrameDeliver q) s = .next (setQ s q { qAt s q with rsv := rxAvail s q, cache := [], resWait := true }))) ∧
  (∀ s q, Instr.wf (.rxFrameDeliver q) = true → rxReady s q = false → exec (.rxFrameDeliver q) s = .next s) ∧
  (∀ s q e rest, Instr.wf (.rxWaitLimitExpiry q) = true → qKind q = 1 → (qAt s q).state = .running → (qAt s q).rxq = e :: rest →
    jobsOf s q = [] →
    ((qAt s q).waitLim ≠ 0 → (qAt s q).headSince + usTicks (qAt s q).waitLim ≤ now s →
      ∃ t, exec (.rxWaitLimitExpiry q) s = .next t ∧ (qAt t q).rxq = rest ∧ (qAt t q).rsv = [] ∧
        (qAt t q).cache = rxAvail s q) ∧
    (now s < (qAt s q).headSince + usTicks (qAt s q).waitLim → exec (.rxWaitLimitExpiry q) s = .next s)) ∧
  (∀ s f v, Instr.wf (.creditTimeout (.msix f v)) = true →
    exec (.creditTimeout (.msix f v)) s = .next (setVec s f v { vecAt s f v with pend := true })) ∧
  (∀ s q r, Instr.wf (.creditTimeout (.completion q)) = true → qKind q = 3 → (qAt s q).state = .running →
    (qAt s q).lastRec = some r →
    let x := qAt s q
    let prod := (x.prod + 65535) % 65536
    exec (.creditTimeout (.completion q)) s = .next (keeping s (cqHalt s q prod r 0x14)) ∧
    ∃ t, exec (.creditTimeout (.completion q)) s = .next t ∧ qAt t q = { x with
      state := .halted, reason := 0x14, errAddr := x.ringAddr + 32 * (prod % ringSize s q), errDir := true, errIdx := prod
      prod := prod, lastRec := none, held := some r, stop := true, kept := (x.held.map (·, 0)).toList ++ x.kept } ∧
      t.dma.owed = s.dma.owed ++ [(325 + 8 * qCluster q, 0x14)] ∧ t.dma.jobs = s.dma.jobs) ∧
  (∀ s q j, Instr.wf (.creditTimeout (.queue q)) = true → (jobsOf s q).find? (fun j => j.state == .writing) = some j →
    exec (.creditTimeout (.queue q)) s = .next (keeping s (haltWrite s j 0x14 (j.out.headD (0, [])).1)) ∧
    (qKind q = 1 → (qAt s q).state = .running → ∃ t, exec (.creditTimeout (.queue q)) s = .next t ∧ (qAt t q).state = .halted ∧
      (qAt t q).reason = 0x14 ∧ (qAt t q).errAddr = (j.out.headD (0, [])).1 ∧ (qAt t q).rsv = (qAt s q).rsv)) ∧
  (∀ s q, Instr.wf (.creditTimeout (.queue q)) = true → (∀ j ∈ jobsOf s q, j.state ≠ .writing) →
    exec (.creditTimeout (.queue q)) s = .next s) ∧
  (∀ s j, nextBeat s = some j → j ∈ s.dma.jobs ∧ beatReady s j = true ∧ ∀ i ∈ s.dma.jobs, beatReady s i = true → i.prio ≤ j.prio)

/-- R362, R368, R372, R377 to R379, R381: a completed write is followed by what R368 issues, a failed one is issued again, and a Flush
releases what it covers; a drive whose link goes is ABSENT and keeps what is staged, one that is ready mounts; resets come every
2 s and the third failure in a row ends in FAILED. -/
def Obligations.DriveEvents : Prop :=
  (∀ s d stream g, Instr.wf (.segmentCloseTime d stream) = true → inService s .record = true →
    s.geley.isOpen.find? (fun e => e.1 == d * 256 + stream) = some (d * 256 + stream, g) →
    (g.openedAt + msTicks (tblGet {} s.geley.streams stream).close ≤ now s →
      exec (.segmentCloseTime d stream) s = .next (keeping s (closeSeg s d stream false))) ∧
    (now s < g.openedAt + msTicks (tblGet {} s.geley.streams stream).close → exec (.segmentCloseTime d stream) s = .next s)) ∧
  (∀ s d, Instr.wf (.nvmeWriteDone d true) = true → (driveAt s d).writing = none → ∀ ok, exec (.nvmeWriteDone d ok) s = .next s) ∧
  (∀ s d n, Instr.wf (.nvmeWriteDone d false) = true → (driveAt s d).writing = some n → driveLive s d = true →
    exec (.nvmeWriteDone d false) s = .next (keeping s (pump (setDrive s d { driveAt s d with writing := none }) d))) ∧
  (∀ s d n u, Instr.wf (.nvmeWriteDone d true) = true → (driveAt s d).writing = some n → driveLive s d = true →
    (driveAt s d).staged = [u] → u.kind = .segment → u.unit = n → u.unit ≠ 0 → u.written = false → (driveAt s d).ptr % 65 ≠ 1 →
    ∃ t, exec (.nvmeWriteDone d true) s = .next t ∧ (driveAt t d).writing = none ∧ (driveAt t d).staged = [{ u with written := true }] ∧
      (driveAt t d).unflushed = some ((driveAt s d).unflushed.getD (now s))) ∧
  (∀ s d t0, Instr.wf (.nvmeFlushTimer d) = true → (driveAt s d).unflushed = some t0 → driveLive s d = true →
    (t0 + msTicks 50 ≤ now s → (driveAt s d).flushing = false →
      (driveAt s d).staged.any (fun u => u.written && !u.flushing) = true →
      let x := driveAt s d
      exec (.nvmeFlushTimer d) s = .next (emit (setDrive s d { x with
        flushing := true, unflushed := none
        staged := x.staged.map (fun u => if u.written then { u with flushing := true } else u) }) (.nvme d 0 0 []))) ∧
    (now s < t0 + msTicks 50 → exec (.nvmeFlushTimer d) s = .next s)) ∧
  (∀ s d, Instr.wf (.nvmeFlushDone d false) = true → (driveAt s d).flushing = true → driveLive s d = true →
    exec (.nvmeFlushDone d false) s = .next (setDrive s d { driveAt s d with
      flushing := false, unflushed := some (now s), staged := (driveAt s d).staged.map (fun u => { u with flushing := false }) })) ∧
  (∀ s d ok, Instr.wf (.nvmeFlushDone d ok) = true → (driveAt s d).flushing = false → exec (.nvmeFlushDone d ok) s = .next s) ∧
  (∀ s d, Instr.wf (.driveLinkLoss d) = true →
    exec (.driveLinkLoss d) s = .next (keeping s (driveTo (setDrive s d { rewriteAll (driveAt s d) with
      link := false, resetOn := false }) d .absent))) ∧
  (∀ s d, Instr.wf (.driveReady d) = true → (driveAt s d).state = .absent → inService s .record = true →
    ∃ t, exec (.driveReady d) s = .next t ∧ (driveAt t d).state = .init ∧ (driveAt t d).link = true ∧
      (driveAt t d).staged = (driveAt s d).staged ∧ driveAt t (1 - d) = driveAt s (1 - d)) ∧
  (∀ s d, Instr.wf (.driveReady d) = true → (driveAt s d).state ≠ .absent → exec (.driveReady d) s = .next s) ∧
  (∀ s d, Instr.wf (.driveStall d) = true → (driveAt s d).state = .recording → inService s .record = true →
    exec (.driveStall d) s = .next (keeping s (driveTo (setDrive s d { driveAt s d with
      resets := 0, resetOn := false, resetAt := now s }) d .stalled))) ∧
  (∀ s d, Instr.wf (.controllerReset d) = true → (driveAt s d).state = .stalled → (driveAt s d).resetOn = false →
    inService s .record = true → (driveAt s d).resetAt ≤ now s →
    exec (.controllerReset d) s = .next (setDrive s d { driveAt s d with resetOn := true, resetAt := now s + msTicks 2000 })) ∧
  (∀ s d, Instr.wf (.controllerResetEnd d false) = true → (driveAt s d).state = .stalled → (driveAt s d).resetOn = true →
    inService s .record = true →
    let x := driveAt s d
    let u := count (setDrive s d { x with resetOn := false, resets := x.resets + 1 }) 0x0A (256 + d) 7
    (x.resets < 2 → exec (.controllerResetEnd d false) s = .next u) ∧
    (2 ≤ x.resets → exec (.controllerResetEnd d false) s = .next (keeping s (driveTo u d .failed))) ∧
    (exec (.controllerResetEnd d true) s =
      .next (keeping s (driveTo (setDrive s d { rewriteAll x with resetOn := false, resets := 0 }) d .recording)))) ∧
  (∀ s d l, Instr.wf (.healthPoll d l) = true → (driveAt s d).state ≠ .absent → inService s .record = true →
    (leAt l 0 1 ≠ 0 → exec (.healthPoll d l) s = .next (keeping s (signal s (1785 + d)))) ∧
    (leAt l 0 1 = 0 → exec (.healthPoll d l) s = .next s))

/-- R365, R367, R369, R371, R373, R378, R381: a mount that fails a check ends in FAILED with its line; a drive that is too small,
or holds no
good label, is UNFORMATTED; a mounted drive records and takes its label's seals; a format starts every sequence at 0; and an
answered read completes its job. -/
def Obligations.MountsFormatsAndRecordReads : Prop :=
  (∀ s d m, Instr.wf (.driveMountDone d m) = true → (driveAt s d).state = .init → inService s .record = true →
    let fails := fun (c : Nat) => exec (.driveMountDone d m) s =
      .next (keeping s (driveTo (setDrive s d { driveAt s d with reason := c }) d .failed))
    let lbaOk := (m.lba = 512 ∨ m.lba = 4096) ∧ m.metadata = 0
    (m.version < 0x00010400 → fails 1) ∧ (0x00010400 ≤ m.version → ¬lbaOk → fails 2) ∧
    (0x00010400 ≤ m.version → lbaOk → m.mdts ≠ 0 → m.mdts < 131072 → fails 3) ∧
    (0x00010400 ≤ m.version → lbaOk → (m.mdts = 0 ∨ 131072 ≤ m.mdts) → m.depth < 256 → fails 4)) ∧
  (∀ s d m, Instr.wf (.driveMountDone d m) = true → (driveAt s d).state = .init → inService s .record = true →
    0x00010400 ≤ m.version → (m.lba = 512 ∨ m.lba = 4096) → m.metadata = 0 → (m.mdts = 0 ∨ 131072 ≤ m.mdts) → 256 ≤ m.depth →
    (driveAt s d).readsHeld = [] → (driveAt s d).readIssued = [] →
    (groupsOf m.units < 32 → ∃ t, exec (.driveMountDone d m) s = .next t ∧ (driveAt t d).state = .unformatted ∧
      (driveAt t d).reason = 5 ∧ (driveAt t d).units = m.units) ∧
    (32 ≤ groupsOf m.units → validLabel m = none → ∃ t, exec (.driveMountDone d m) s = .next t ∧
      (driveAt t d).state = .unformatted ∧ (driveAt t d).reason = 0 ∧ (driveAt t d).units = m.units ∧ (driveAt t d).lba = m.lba) ∧
    (∀ c l, 32 ≤ groupsOf m.units → validLabel m = some (c, l) → (driveAt s d).disabledByOwner = true →
      (driveAt s d).staged = [] → ∃ t, exec (.driveMountDone d m) s = .next t ∧ (driveAt t d).state = .disabled ∧
        (driveAt t d).seals = labelSeals l ∧ (driveAt t d).labelSeq = leAt l 8 8) ∧
    (∀ c l, 32 ≤ groupsOf m.units → validLabel m = some (c, l) → (driveAt s d).disabledByOwner = false →
      exec (.driveMountDone d m) s =
        .next (keeping s (driveTo (setDrive s d (mounted d m (driveAt s d) c l)) d .recording)))) ∧
  (∀ s d r, Instr.wf (.driveMountDone d r) = true → (driveAt s d).state ≠ .init → exec (.driveMountDone d r) s = .next s) ∧
  (∀ s d, Instr.wf (.formatDone d true) = true → (driveAt s d).state = .formatting → inService s .record = true →
    (driveAt s d).readsHeld = [] → (driveAt s d).readIssued = [] →
    ∃ t, exec (.formatDone d true) s = .next t ∧ (driveAt t d).state = .recording ∧ (driveAt t d).seals = [] ∧ (driveAt t d).ptr = 2 ∧
      (driveAt t d).wseq = 0 ∧ (driveAt t d).segSeqs = [] ∧ (driveAt t d).staged = [] ∧ (driveAt t d).labelCopy = 1 ∧
      (driveAt t d).labelSeq = (driveAt s d).labelSeq + 2) ∧
  (∀ s d, Instr.wf (.formatDone d false) = true → exec (.formatDone d false) s = .next s) ∧
  (∀ s d st o k rest, Instr.wf (.recordReadDone d st o) = true → (driveAt s d).readIssued = k :: rest → driveLive s d = true →
    (keyJob s k = none → exec (.recordReadDone d st o) s = .next (setDrive s d ((driveAt s d).dropRead k))) ∧
    (∀ j, keyJob s k = some j → mayIssue s j.q = true →
      let u := setDrive s d ((driveAt s d).dropRead k)
      (st = 0 → exec (.recordReadDone d st o) s = .next (keeping s (readDone u j 0 0 (o.take (dLen j.desc)) false))) ∧
      (st ≠ 0 → exec (.recordReadDone d st o) s = .next (keeping s (count (readDone u j 2 st [] false) 0x0A (256 + d) 8))))) ∧
  (∀ s d st o, Instr.wf (.recordReadDone d st o) = true → (driveAt s d).readIssued = [] →
    exec (.recordReadDone d st o) s = .next s)

/-- R23, R286, R404, R463, R464, R468, R475, R501: RESET_N low and a dip of the trestle's supply hold the part at its reset values, but for
MRAM and flash; with both released a start samples the straps, selects a slot and sets START_MARK; the core powers up, runs and is
marked running. -/
def Obligations.ResetPinsAndStarts : Prop :=
  (∀ s, s.boot.por = false → ∃ t, exec .resetNFall s = .next t ∧ t.pins.resetN = false ∧ t.boot.inReset = true ∧ t.boot.lastReset = 1 ∧
    t.ring = State.reset.ring ∧ t.cyc = State.reset.cyc ∧ t.cls = State.reset.cls ∧ t.meters = State.reset.meters ∧
    t.vat = State.reset.vat ∧ t.eg = { lastRefill := s.clk.tick } ∧ t.frer = State.reset.frer ∧ t.host = State.reset.host ∧
    t.dma = State.reset.dma ∧ t.geley = State.reset.geley ∧ t.sched = State.reset.sched ∧ t.ctr = State.reset.ctr ∧
    t.regs = State.reset.regs ∧ t.kn.owner = State.reset.kn.owner ∧ t.kn.waiting = [] ∧ t.kn.journal = s.kn.journal ∧
    t.kn.seq = s.kn.seq ∧ t.kn.chain = s.kn.chain ∧ t.flt.log = s.flt.log ∧ t.flt.logSeq = s.flt.logSeq ∧
    t.flt.repairs = s.flt.repairs ∧ t.boot.minSvn = s.boot.minSvn ∧ t.boot.committed = s.boot.committed ∧ t.clk.tick = s.clk.tick) ∧
  (∀ s, s.boot.por = true → exec .resetNFall s = .next { s with pins := { s.pins with resetN := false } }) ∧
  (∀ s, s.boot.por = false → s.boot.inReset = true → s.pins.testEn = false → s.boot.startMark = false → s.boot.failCount < 3 →
    s.boot.committed < 2 → slotValid s.boot s.boot.committed = true → s.boot.trialPending = false → s.boot.trialRunning = false →
    ∃ t, exec .resetNRise s = .next t ∧ t.boot.inReset = false ∧ t.boot.ready = true ∧ t.boot.startMark = true ∧ t.boot.stage = 2 ∧
      t.boot.selected = s.boot.committed ∧ t.boot.fallback = false ∧ t.host.bifurcated = s.pins.bifurcate ∧
      t.host.sris = s.pins.srisPin ∧ t.pins.resetN = true) ∧
  (∀ s, s.boot.por = true → exec .resetNRise s = .next { s with pins := { s.pins with resetN := true } }) ∧
  (∀ s, s.boot.por = true → s.pins.resetN = false →
    exec .powerOnResetRelease s = .next { s with boot := { s.boot with por := false } }) ∧
  (∀ s, s.boot.por = true → s.pins.resetN = true → s.pins.testEn = false →
    ∃ t, exec .powerOnResetRelease s = .next t ∧ t.boot.por = false ∧ t.boot.inReset = false ∧ t.boot.startMark = true ∧
      (slotValid s.boot 0 = false → slotValid s.boot 1 = false → t.boot.selected = 2 ∧ t.boot.fallback = true ∧
        t.boot.fbReason = 2)) ∧
  (∀ s, ∃ t, exec .trestleSupplyDip s = .next t ∧ t.boot.por = true ∧ t.boot.inReset = true ∧ t.boot.lastReset = 0 ∧
    t.boot.pllLost = false ∧ t.boot.refLost = false ∧ t.boot.tempTripped = false ∧ t.boot.wdtExpired = false ∧
    t.boot.startMark = s.boot.startMark ∧ t.flt.pendingArea = [] ∧ t.flt.latches = [] ∧ t.time.nt = 0 ∧
    t.kn.journal = s.kn.journal ∧ t.flt.log = s.flt.log ∧ t.ring = State.reset.ring) ∧
  (∀ s g, Instr.wf (.supplyExcursion g) = true → g < 8 →
    exec (.supplyExcursion g) s = .next (keeping s (nativeEvent s (516 + g) 0 0))) ∧
  (∀ s, s.boot.stage = 2 → s.boot.inReset = false → exec .imageVerified s = .next { s with
    boot := { s.boot with stage := 4 }, pins := { s.pins with corePwrEn := true } }) ∧
  (∀ s, s.boot.stage = 4 → s.boot.corePowered = false → s.pins.corePwrEn = true → s.clk.pllLocked = true →
    ∃ t, exec .corePgoodRise s = .next t ∧ t.boot.corePowered = true ∧ t.boot.runSlot = s.boot.selected ∧
      t.regs.out = [.edge, .ring, .record] ∧ t.kn.mirror = s.kn.journal.take 128 ∧ t.flt.mirror = s.flt.log.take 256) ∧
  (∀ s, s.boot.stage ≠ 4 → exec .corePgoodRise s = .next { s with pins := { s.pins with corePgood := true } }) ∧
  (∀ s, s.boot.fallback = true → s.boot.running = false → s.boot.recoveryTried = false → s.pins.corePwrEn = true →
    ∃ t, exec .recoveryImageLoad s = .next t ∧ t.boot.runSlot = 2 ∧ t.boot.recoveryTried = true ∧ t.boot.corePowered = true)

/-- R442, R463 to R465, R467, R469, R470, R478, R479: a part that may run is marked running, with its BOOT record; a start past
its limit is a
failed one; the trestle's operations need their key; and the stored configuration gives the node its fields before the regions
start. -/
def Obligations.RunningAndTrestleOperations : Prop :=
  (∀ s, mayRun s = true → s.boot.fallback = true → ∃ t, exec .runningReached s = .next t ∧ t.boot.running = true ∧
    t.boot.startMark = false ∧ t.boot.stage = 8 ∧ t.boot.failCount = s.boot.failCount ∧
    (mramUp s = true → t.kn.seq = s.kn.seq + 1)) ∧
  (∀ s, mayRun s = true → s.boot.fallback = false → validStore s.boot = none → ∃ t, exec .runningReached s = .next t ∧
    t.boot.running = true ∧ t.boot.startMark = false ∧ t.boot.stage = 7 ∧ t.boot.failCount = 0 ∧
    (mramUp s = true → t.kn.seq = s.kn.seq + 1)) ∧
  (∀ s, mayRun s = false → exec .runningReached s = .next s) ∧
  (∀ s, s.boot.inReset = false → s.boot.running = false → s.boot.startMark = true → s.boot.fallback = false →
    exec .startTimeout s = .next (keeping s (chipReset (failedStart s) 7 none))) ∧
  (∀ s, s.boot.running = true → exec .startTimeout s = .next s) ∧
  (∀ s r, s.boot.fbPending = some r → exec .fallbackEntry s = .next (keeping s (chipReset s 8 (some r)))) ∧
  (∀ s, s.boot.fbPending = none → exec .fallbackEntry s = .next s) ∧
  (∀ s k c, c ∈ [Instr.chipReset k, .bypassOn k, .bypassRelease k, .forceFallback k] → Instr.wf c = true →
    (s.boot.ready = false → exec c s = .next s) ∧
    (s.boot.ready = true → k ≠ 0xA5 → exec c s = .next (count s 0x0D 0 11))) ∧
  (∀ s, s.boot.ready = true → s.clk.pllLocked = true → s.boot.tempShut = false → s.boot.pendingReset = none →
    ∃ t, exec (.chipReset 0xA5) s = .next t ∧ t.boot.pendingReset = some (2, now s + usTicks 5) ∧ t.boot.opLast = 1 ∧
      (s.boot.fallback = true → t.boot.failCount = 0)) ∧
  (∀ s, s.boot.ready = true → s.ring.bypassOn = false →
    ∃ t, exec (.bypassOn 0xA5) s = .next t ∧ bitOf t.boot.cause 5 = true ∧ t.boot.opLast = 2 ∧ t.boot.opState = 1) ∧
  (∀ s, s.boot.ready = true → s.ring.bypassOn = true →
    ∃ t, exec (.bypassRelease 0xA5) s = .next t ∧ bitOf t.boot.cause 5 = false ∧ t.boot.opLast = 3 ∧ t.boot.opState = 3) ∧
  (∀ s, s.boot.ready = true → ∃ t, exec (.forceFallback 0xA5) s = .next t ∧ t.boot.fbPending = some 3 ∧ t.boot.opLast = 4 ∧
    bitOf t.boot.cause 2 = true) ∧
  (∀ s, s.boot.stage = 6 → s.boot.corePowered = true → s.boot.cfgApplied = false → inService s .control = true →
    validStore s.boot = none → s.regs.gated = [.edge, .ring, .record] →
    ∃ t, exec .configApply s = .next t ∧ t.boot.cfgApplied = true ∧ t.regs.out = s.regs.out ∧ t.boot.cfg = s.boot.cfg ∧
      tblGet {} t.ctr.stat (statIdx 0x09 0 11) = (tblGet {} s.ctr.stat (statIdx 0x09 0 11)).add 1 (now s)) ∧
  (∀ s x, s.boot.stage = 6 → s.boot.corePowered = true → s.boot.cfgApplied = false → inService s .control = true →
    validStore s.boot = some x → s.regs.gated = [.edge, .ring, .record] → scriptOf x.bytes = [] →
    ∃ t, exec .configApply s = .next t ∧ t.boot.cfgApplied = true ∧ t.boot.cfg = nodeCfg x.bytes) ∧
  (∀ s, s.boot.cfgApplied = true → exec .configApply s = .next s)

/-- R42, R279, R420, R446, R447: a sample above TEMP_TRIP shuts the core down and one second below the release threshold resets it; a kick
is kept; an expiry, a lost lock and a lost reference set their flag, and the lock and the reference stop the root clocks; and any
other event is fed to its source. -/
def Obligations.TemperaturesClocksAndEvents : Prop :=
  (∀ s a b c d, Instr.wf (.tempSample a b c d) = true → s.boot.ready = true → s.boot.tempShut = false →
    (∀ t ∈ [a, b, c, d], t ≤ (s.boot.cfg.tempWarn : Int)) → s.boot.cfg.tempWarn ≤ s.boot.cfg.tempTrip →
    exec (.tempSample a b c d) s =
      .next { s with boot := { s.boot with tCore := a, tIo := b, tPhy0 := c, tPhy1 := d, coolSince := none } }) ∧
  (∀ s a b c d, Instr.wf (.tempSample a b c d) = true → s.boot.ready = false → exec (.tempSample a b c d) s = .next s) ∧
  (∀ s, s.boot.tempShut = false → ∃ t, tempShutdown s = t ∧ t.boot.tempShut = true ∧ t.boot.tempTripped = true ∧
    t.boot.corePowered = false ∧ t.pins.corePwrEn = false ∧ t.regs.out = [.edge, .ring, .host, .record, .control] ∧
    bitOf t.boot.cause 1 = true) ∧
  (∀ s n, s.boot.coolSince = some n → s.boot.tempShut = true → 4000 ≤ n →
    exec .tempCoolReset s = .next (keeping s (chipReset s 5 none))) ∧
  (∀ s n, s.boot.coolSince = some n → n < 4000 → exec .tempCoolReset s = .next s) ∧
  (∀ s, s.boot.corePowered = true → inService s .control = true →
    exec .watchdogKick s = .next { s with boot := { s.boot with wdtKicked := true } }) ∧
  (∀ s, s.boot.corePowered = true → s.boot.wdtPaused = false → s.boot.running = true →
    exec .watchdogExpiry s = .next (keeping s (startReset
      (nativeEvent { s with boot := { s.boot with wdtExpired := true } } 524 0 0) 4 (usTicks 10)))) ∧
  (∀ s, s.boot.wdtPaused = true → exec .watchdogExpiry s = .next s) ∧
  (∀ s, s.clk.pllLocked = true → exec .pllLossOfLock s =
    .next (keeping s (nativeEvent (rootStops { s with boot := { s.boot with pllLost := true } }) 514 0 0))) ∧
  (∀ s, s.clk.refPresent = true → exec .referenceLoss s = .next (keeping s (nativeEvent (rootStops
    { s with clk := { s.clk with refPresent := false }, boot := { s.boot with refLost := true } }) 515 0 0))) ∧
  (∀ s, ∃ t, rootStops s = t ∧ t.clk.pllLocked = false ∧ bitOf t.boot.cause 3 = true ∧ t.ring.bypassOn = true) ∧
  (∀ s, s.clk.pllLocked = true → exec .referenceReturn s = .next { s with clk := { s.clk with refPresent := true } }) ∧
  (∀ s, s.clk.pllLocked = false → s.boot.inReset = false → exec .referenceReturn s =
    .next (keeping s (chipReset (rootRuns { s with clk := { s.clk with refPresent := true } }) 6 none))) ∧
  (∀ s f l d, Instr.wf (.faultEvent f l d) = true → (listed f = false ∨ s.boot.inReset = true) →
    exec (.faultEvent f l d) s = .next s) ∧
  (∀ s f l d, Instr.wf (.faultEvent f l d) = true → listed f = true → s.boot.inReset = false → 106 ≤ f → f < 512 →
    exec (.faultEvent f l d) s = .next (keeping s (nativeEvent s f l d)))

/-- R203, R474, R476, R479, R483 to R485: a staged image that fails its checks is refused with its status, and one that passes is pending;
at its cycle it is in force with the cycle number carried on, and an immediate one at once; what was written to flash is in its slot, and
its last part has it checked; and a stored configuration that has been read back is valid. -/
def Obligations.ImagesAndStores : Prop :=
  (∀ s n r o, s.sched.staging = some (n, r) → s.sched.loading = some o →
    let act := if n.isSome then leAt r.params 0 8 else 0
    let refused := fun (st : Nat) =>
      { s with sched := { s.sched with staging := none, loading := none, refusal := st } }
    (mramUp s = false → exec .schedStagingDone s = .next s) ∧
    (mramUp s = true → actLate s n act = true → exec .schedStagingDone s = .next (refused 0x0F)) ∧
    (∀ st, mramUp s = true → actLate s n act = false → stageImage s.boot.cfg.imageKeys o = .error st →
      exec .schedStagingDone s = .next (refused st)) ∧
    (∀ i, mramUp s = true → actLate s n act = false → stageImage s.boot.cfg.imageKeys o = .ok i →
      ∃ t, exec .schedStagingDone s = .next t ∧ t.sched.pending = some i ∧ t.sched.staging = none ∧ t.sched.loading = none ∧
        t.sched.refusal = 0 ∧ t.sched.actCycle = n ∧ t.cyc = s.cyc)) ∧
  (∀ s, s.sched.staging = none → exec .schedStagingDone s = .next s) ∧
  (∀ s, s.sched.pending = none → exec .schedActivation s = .next s) ∧
  (∀ s i n, s.sched.pending = some i → s.sched.actCycle = some n → nt16 s < actInstant s → exec .schedActivation s = .next s) ∧
  (∀ s i n, s.sched.pending = some i → s.sched.actCycle = some n → actInstant s ≤ nt16 s → s.cyc.c0 ≠ none →
    namedCycle s s.sched.actTime = some n → s.cyc.n = n →
    ∃ t, exec .schedActivation s = .next t ∧ t.cyc.image = some i ∧ t.sched.pending = none ∧ t.cyc.n = n ∧
      t.sched.lastAct = actInstant s / 65536 ∧ t.time.nt = s.time.nt) ∧
  (∀ s i, s.sched.pending = some i → s.sched.actCycle = none → s.ring.state = .offline → s.ring.bypassOn = true →
    ∃ t, exec .schedActivation s = .next t ∧ t.cyc.image = some i ∧ t.cyc.c0 = none ∧ t.sched.pending = none ∧
      t.ring.state = .offline) ∧
  (∀ s k off d, s.boot.fwBusy = some (k, off, d, false) → k < 2 → ∃ t, exec .flashWriteDone s = .next t ∧ t.boot.fwBusy = none ∧
    fwSlot t k = { fwSlot s k with bytes := flashPlace (fwSlot s k).bytes off d } ∧ fwSlot t (1 - k) = fwSlot s (1 - k)) ∧
  (∀ s k off d, s.boot.fwBusy = some (k, off, d, true) → k < 2 →
    let o := flashPlace (fwSlot s k).bytes off d
    ∃ t, exec .flashWriteDone s = .next t ∧ t.boot.fwBusy = none ∧ (fwSlot t k).bytes = o ∧
      (fwSlot t k).state = (fwCheck s.boot o).1 ∧ (fwSlot t k).check = (fwCheck s.boot o).2 ∧
      fwSlot t (1 - k) = fwSlot s (1 - k)) ∧
  (∀ s, s.boot.fwBusy = none → exec .flashWriteDone s = .next s) ∧
  (∀ s, s.boot.storeBusy = some 0 → exec .configStoreDone s = .next { s with boot := { s.boot with
    store0 := { s.boot.store0 with valid := true }, storeBusy := none } }) ∧
  (∀ s, s.boot.storeBusy = some 1 → exec .configStoreDone s = .next { s with boot := { s.boot with
    store1 := { s.boot.store1 with valid := true }, storeBusy := none } }) ∧
  (∀ s, s.boot.storeBusy = none → exec .configStoreDone s = .next s)

/-- R10, R12, R14, R299, R386, R442, R468: an aligned write of a word to an idle request mailbox replaces the word, and one to a
busy mailbox is
counted and lost; an unaligned one is discarded and counted; a flag of the trestle is cleared by writing 1 and left by 0; and a
write to a function's space while its BAR takes no accesses has no effect. -/
def Obligations.RegisterWrites : Prop :=
  (∀ s m off d, Instr.wf (.registerWrite (.mailbox m) off d) = true → m < 2 → barLive s (m * 64) = true → off < 0x100 →
    d.length = 4 → off % 4 = 0 →
    ((mbxAt s m).state ≠ .busy → ∃ t, exec (.registerWrite (.mailbox m) off d) s = .next t ∧
      mbxAt t m = { mbxAt s m with req := overwrite (padTo 256 (mbxAt s m).req) off (leBytes 4 (leAt d 0 4)) } ∧
      (∀ k, k ≠ m → mbxAt t k = mbxAt s k)) ∧
    ((mbxAt s m).state = .busy → exec (.registerWrite (.mailbox m) off d) s = .next (count s 0x09 m 9))) ∧
  (∀ s f off d, Instr.wf (.registerWrite (.host f) off d) = true → barLive s f = true → d.length ≠ 4 → d.length ≠ 8 →
    exec (.registerWrite (.host f) off d) s = .next (count s 0x09 0 0)) ∧
  (∀ s f off d, Instr.wf (.registerWrite (.host f) off d) = true → barLive s f = true → off % 4 ≠ 0 →
    exec (.registerWrite (.host f) off d) s = .next (count s 0x09 0 0)) ∧
  (∀ s f off d, Instr.wf (.registerWrite (.host f) off d) = true → barLive s f = false →
    exec (.registerWrite (.host f) off d) s = .next s) ∧
  (∀ s f n v, Instr.wf (.registerWrite (.msix f) (16 * n + 8) (leBytes 4 v)) = true → barLive s f = true → s.boot.fallback = false →
    n < numVecs f → v < 2 ^ 32 →
    exec (.registerWrite (.msix f) (16 * n + 8) (leBytes 4 v)) s = .next (setVec s f n { vecAt s f n with data := v })) ∧
  (∀ s v, Instr.wf (.registerWrite .trestle 0x50008 (leBytes 4 v)) = true → v < 2 ^ 32 → s.boot.ready = true →
    exec (.registerWrite .trestle 0x50008 (leBytes 4 v)) s = .next { s with boot := { s.boot with
      pllLost := s.boot.pllLost && !bitOf v 11, refLost := s.boot.refLost && !bitOf v 10,
      tempTripped := s.boot.tempTripped && !bitOf v 9, wdtExpired := s.boot.wdtExpired && !bitOf v 8 } }) ∧
  (∀ s o d, Instr.wf (.registerWrite .trestle o d) = true → s.boot.ready = false →
    exec (.registerWrite .trestle o d) s = .next s)

/-- A step runs the command at the front of the queue on the part with the queue's rest; where no command waits it is one tick of the
1.25 GHz span clock, and the queue stays empty (log entry 1: the tick is the model's choice). -/
def Obligations.StepTakesTheFront : Prop :=
  (∀ s c rest, s.pending = c :: rest → step s = exec c { s with pending := rest }) ∧
  (∀ s, s.pending = [] → step s = .next { tickStep s with pending := [] })

/-- R7, R86, R125, R158, R168, R198, R207, R238, R246, R255, R311, R398, R449 and R450: what the part holds at reset where the spec says
so; no command waits, so the invariant of the queue holds (log entry 1). -/
def Obligations.ResetValues : Prop :=
  ntNs State.reset = 0 ∧ State.reset.time.timeValid = false ∧ State.reset.ring.state = .offline ∧
  State.reset.kn.owner = none ∧ State.reset.kn.target = none ∧ (∀ m, (mbxAt State.reset m).state = .idle) ∧
  (∀ p, let d : PortDef := tblGet {} State.reset.cls.defs p
        d.vid = 1 ∧ d.pcp = 0 ∧ d.colour = 0x44444444) ∧
  (∀ k, let m : Meter := tblGet {} State.reset.meters k
        m.cir = 0 ∧ m.pir = 1 ∧ m.cbs = 0 ∧ m.pbs = 1 ∧ m.aware = false) ∧
  (∀ p, let g : GateList := (gateAt State.reset p).oper
        g.enabled = false ∧ g.admin = 0xFF ∧ g.base = 0 ∧ g.cycle = 1000000 ∧ g.ext = 0 ∧ g.entries = []) ∧
  (∀ q, (qAt State.reset q).state = .disabled ∧ (qAt State.reset q).maxChain = 16 ∧ (qAt State.reset q).waitLim = 100) ∧
  (∀ f slot q, ¬SlotOn State.reset f slot q) ∧
  (∀ i, tblGet ({} : Stat) State.reset.ctr.stat i = { v := 0, sat := false }) ∧
  (∀ i, tblGet ({} : Perf) State.reset.ctr.perf i = { v := 0, wrap := 0 }) ∧
  State.reset.boot.cfg.wdt = 2000 ∧ State.reset.boot.fallback = false ∧ State.reset.pending = [] ∧
  State.reset.Inv

/-- Every command whose operands are in range takes a next state and leaves the queue as it stood; one whose operands are not stops
with the fault illFormed (log entry 3); no command is refused. So every step keeps the invariant that each waiting command's operands
are in range, and from such a state the block always steps on. -/
def Obligations.EveryStepKeepsTheQueue : Prop :=
  (∀ i s, Instr.wf i = true → ∃ t, exec i s = .next t ∧ t.pending = s.pending) ∧
  (∀ i s, Instr.wf i = false → exec i s = .fault .illFormed) ∧
  (∀ s : State, s.Inv → ∃ t, step s = .next t ∧ t.pending = s.pending.tail ∧ t.Inv)

/-- R391 and R393: each command of the catalogue acts on the request whose turn it is and only where that request carries it; a request
that fails a check of length, encoding, fallback or ownership is answered with that check's status, and changes nothing else: no
record, no lease, no configuration. -/
def Obligations.RequestsRefused : Prop :=
  (∀ data, ∀ x ∈ knRows data, ∀ s r c st, nextRequest s = some r → r.cmd = x.2.1 → badHeader r = none → cmdOf x.2.1 = some c →
    preCheck s x.2.2 c r = some st →
    ∃ t, exec x.1 s = .next t ∧ KnFrame s t ∧ Unrecorded s t ∧ t.kn.leaseEnd = s.kn.leaseEnd ∧ Answered s t r st 0 [] []) ∧
  (∀ data, ∀ x ∈ knRows data, ∀ s, (∀ r, nextRequest s = some r → r.cmd ≠ x.2.1 ∨ (badHeader r).isSome = true) →
    exec x.1 s = .next s)

/-- R391, R398 and R394: a command of class W or O whose turn comes for a master that does not own the part changes no configuration, no
ownership and no lease, and writes no record, whatever it carries and whatever the part holds. -/
def Obligations.OnlyTheOwnerChanges : Prop :=
  ∀ data, ∀ x ∈ knRows data, ∀ s r c, cmdOf x.2.1 = some c → (c.cls = .w ∨ c.cls = .o) → nextRequest s = some r → isOwner s r = false →
    ∃ t, exec x.1 s = .next t ∧ KnFrame s t ∧ Unrecorded s t ∧ t.kn.leaseEnd = s.kn.leaseEnd

/-- R454: a statistics counter that reaches 2⁴⁰ − 1 stays there, and sets its sticky SAT flag; further events are not counted; below
that every event is counted, and no other counter moves. -/
def Obligations.CountersSaturate : Prop :=
  (∀ s fam obj ev n, (tblGet ({} : Stat) s.ctr.stat (statIdx fam obj ev)).v + n < 2 ^ 40 - 1 →
    tblGet ({} : Stat) (countN s fam obj ev n).ctr.stat (statIdx fam obj ev) =
      { tblGet ({} : Stat) s.ctr.stat (statIdx fam obj ev) with v := (tblGet ({} : Stat) s.ctr.stat (statIdx fam obj ev)).v + n }) ∧
  (∀ s fam obj ev n, 0 < n → 2 ^ 40 - 1 ≤ (tblGet ({} : Stat) s.ctr.stat (statIdx fam obj ev)).v + n →
    tblGet ({} : Stat) (countN s fam obj ev n).ctr.stat (statIdx fam obj ev) = { v := 2 ^ 40 - 1, sat := true }) ∧
  (∀ s fam obj ev n i, i ≠ statIdx fam obj ev →
    tblGet ({} : Stat) (countN s fam obj ev n).ctr.stat i = tblGet ({} : Stat) s.ctr.stat i)

/-- R50: static slot k holds window position k on CW, and S + 1 − k on CCW; so among slots 1 to S the two positions mirror each other,
and a position belongs to one slot. -/
def Obligations.WindowPositions : Prop :=
  ∀ (i : Image) (k : Nat), 1 ≤ k → k ≤ i.s →
    winPos i .cw k = k ∧ winPos i .ccw k = i.s + 1 - k ∧ 1 ≤ winPos i .ccw k ∧ winPos i .ccw k ≤ i.s ∧
      winPos i .cw k + winPos i .ccw k = i.s + 1 ∧
      (∀ k' r, 1 ≤ k' → k' ≤ i.s → winPos i r k' = winPos i r k → k' = k)

/-- R58: HCRC is a CRC-16 over header octets 0 to 13 in order, its register starting at 0xFFFF, each octet's bits taken from the
highest, with generator polynomial 0x1021 and no final exclusive-OR; its check value over the string "123456789" is 0x29B1; it stands in
header octets 14 and 15 of a frame that is sent, and is what a receiver checks. A forwarder recomputes HCRC after it increments HOPS: the
frame it sends passes the check, carries HOPS one more modulo 256, and is otherwise the frame received up to its FCS. -/
def Obligations.HeaderChecks : Prop :=
  (∀ o : Octets, crc16 o =
    ((o.flatMap (fun b => (List.range 8).map (fun i => b.getMsbD i))).foldl
      (fun (c : BitVec 16) d => if c.getMsbD 0 != d then (c <<< 1) ^^^ 0x1021#16 else c <<< 1) 0xFFFF#16).toNat) ∧
  crc16 (ascii "123456789") = 0x29B1 ∧
  (∀ o : Octets, hcrcGood o = true ↔ beAt o 26 2 = crc16 (slice o 12 14)) ∧
  (∀ (body : Octets) (h : Hdr), 12 ≤ body.length → hcrcGood (ringFrame body h) = true) ∧
  (∀ o : Octets, 32 ≤ o.length → hcrcGood (hopped o) = true ∧ beAt (hopped o) 19 1 = (beAt o 19 1 + 1) % 256 ∧
    (hopped o).length = o.length ∧ slice (hopped o) 0 19 = slice o 0 19 ∧ slice (hopped o) 20 6 = slice o 20 6 ∧
    slice (hopped o) 28 (o.length - 32) = slice o 28 (o.length - 32) ∧ fcsGood (hopped o) = true)

/-- R87, R117, R122, R124: the commands on network time, its outputs, the timers and the captures complete with the values that their
structures give. A timer with a START starts its train there; other changes wait for the next period. -/
def Obligations.KnTimeSets : Prop :=
  (∀ s r, SetAccepted s 0x0102 timeSetCmd r → ((bitOf r.mask 0 || bitOf r.mask 1) = true → ringMember s = false) →
    let v := timeSetCmd.vals s r
    KnSets .knTimeSet s r timeSetCmd (fun a =>
      let utc := fun (t : State) =>
        if bitOf r.mask 2 then { t with time := { t.time with utcOffset := some (toSigned 32 (val v 2)) } } else t
      if bitOf r.mask 0 || bitOf r.mask 1 then
        let t := setCounter a (val v 0 * 65536 + val v 1 / 16384 * 16384)
        utc { t with time := { t.time with timeValid := true, timeByOwner := t.time.timeByOwner || !a.time.everSync
                                           gptpStopped := t.time.gptpStopped && a.time.everSync } }
      else utc a)) ∧
  (∀ s r, SetAccepted s 0x0103 timeConfigCmd r →
    let v := timeConfigCmd.vals s r
    KnSets .knTimeConfig s r timeConfigCmd (fun a =>
      let c : TimeCfg :=
        if r.obj = objId 0x1B 0 then
          { a.time.cfg with oneStep := val v 0, syncInterval := toSigned 32 (val v 1), announceInterval := toSigned 32 (val v 2)
                            priority1 := val v 3, priority2 := val v 4, traceable := valB v 5, timeSource := val v 6
                            holdoverLimit := val v 7 }
        else if r.obj = objId 0x11 16 then
          { a.time.cfg with ppsHigh := val v 8, ppsDelay := toSigned 32 (val v 9), ppsFreeRun := valB v 10 }
        else { a.time.cfg with ref10mDelay := toSigned 32 (val v 9) }
      { a with time := { a.time with cfg := c } })) ∧
  (∀ s r, SetAccepted s 0x0104 timerSetCmd r →
    let v := timerSetCmd.vals s r
    let i := objIdx r.obj
    val v 2 < val v 1 → (bitOf r.mask 0 = true → nt16 s + ns16 1000 ≤ ns16 (val v 0)) →
    KnSets .knTimerSet s r timerSetCmd (fun a =>
      let y := { timerAt a i with period := val v 1, high := val v 2, count := val v 3, cont := valB v 4 }
      setTimer a i (if bitOf r.mask 0 then
        { y with start := val v 0, running := true, level := false, done := 0, curPeriod := val v 1, curHigh := val v 2
                 nextEdge := ns16 (val v 0) } else y))) ∧
  (∀ s r, SetAccepted s 0x0105 evcapSetCmd r →
    let v := evcapSetCmd.vals s r
    let i := objIdx r.obj - 8
    KnSets .knEvcapSet s r evcapSetCmd (fun a =>
      setCap a i { capAt a i with edges := if i = 0 then 0 else val v 0, delay := toSigned 32 (val v 1) }))

/-- R161, R172, R175, R183, R521: the commands on hash profiles, port defaults, meters, quotas and spill complete with the values that
their structures give. A meter's buckets keep their tokens, clipped to the new sizes; a quota that leaves the pool with fewer than
16 384 cells is refused with EXHAUSTED. -/
def Obligations.KnClassSets : Prop :=
  (∀ s r, SetAccepted s 0x0202 hashProfileCmd r →
    KnSets .knHashProfileSet s r hashProfileCmd (fun a =>
      { a with cls := { a.cls with profiles := tblSet 0 a.cls.profiles (objIdx r.obj) (val (hashProfileCmd.vals s r) 0) } })) ∧
  (∀ s r, SetAccepted s 0x0203 portDefaultsCmd r →
    let v := portDefaultsCmd.vals s r
    (bitOf r.mask 2 = true → targetMeets s (val v 2) = true) →
    KnSets .knPortDefaultsSet s r portDefaultsCmd (fun a =>
      let d : PortDef := { vid := val v 0, pcp := val v 1, action := val v 2, colour := val v 3 }
      { a with cls := { a.cls with defs := tblSet {} a.cls.defs (objIdx r.obj) d } })) ∧
  (∀ s r, SetAccepted s 0x0205 meterSetCmd r →
    let v := meterSetCmd.vals s r
    val v 0 ≤ val v 1 →
    KnSets .knMeterSet s r meterSetCmd (fun a =>
      let x := meterRefill a (meterAt a (objIdx r.obj))
      let y : Meter :=
        { x with cir := val v 0, pir := val v 1, cbs := val v 2, pbs := val v 3, aware := valB v 4, adjust := toSigned 32 (val v 5)
                 actG := fld (val v 6) 0 32, actY := fld (val v 6) 32 32, actR := fld (val v 6) 64 32
                 tc := min x.tc (val v 2 * 2 ^ 32), tp := min x.tp (val v 3 * 2 ^ 32) }
      drawn (drawn { a with meters := tblSet {} a.meters (objIdx r.obj) y }))) ∧
  (∀ s r, SetAccepted s 0x0207 vatQuotaCmd r →
    let v := vatQuotaCmd.vals s r
    let i := objIdx r.obj
    let acct := fun (a : State) =>
      let q : Quota := { acctQuota a i with reserve := val v 0, limit := val v 1 }
      { a with vat := { a.vat with acctQ := tblSet (acctDefault i) a.vat.acctQ i q } }
    (objCls r.obj = 0x09 → val v 0 ≤ val v 1 ∧ 16384 ≤ poolSize (acct s)) → (objCls r.obj ≠ 0x09 → val v 3 ≤ val v 2) →
    KnSets .knVatQuotaSet s r vatQuotaCmd (fun a =>
      let q : Quota := { destQuota a i with limit := val v 2, yellow := val v 3 }
      if objCls r.obj = 0x09 then acct a else { a with vat := { a.vat with destQ := tblSet destDefault a.vat.destQ i q } })) ∧
  (∀ s r, SetAccepted s 0x0207 vatQuotaCmd r →
    let v := vatQuotaCmd.vals s r
    let i := objIdx r.obj
    let q : Quota := { acctQuota s i with reserve := val v 0, limit := val v 1 }
    let u := { s with vat := { s.vat with acctQ := tblSet (acctDefault i) s.vat.acctQ i q } }
    objCls r.obj = 0x09 → val v 0 ≤ val v 1 → poolSize u < 16384 →
    ∃ t, exec .knVatQuotaSet s = .next t ∧ KnFrame s t ∧ Unrecorded s t ∧ Answered s t r 0xC 0 [] []) ∧
  (∀ s r, SetAccepted s 0x0208 spillCmd r →
    let v := spillCmd.vals s r
    (r.obj = objId 0x1B 0 → val v 2 + s.geley.quota + 256 ≤ 4096) →
    (r.obj ≠ objId 0x1B 0 → (valB v 0 = true → maySpill s (objIdx r.obj) = true) ∧
      (bitOf r.mask 1 = true → val v 1 ≤ s.vat.spillArea)) →
    KnSets .knSpillSet s r spillCmd (fun a =>
      let x : SpillCfg := { enable := valB v 0, limit := val v 1 }
      if r.obj = objId 0x1B 0 then { a with vat := { a.vat with spillArea := val v 2 } }
      else { a with vat := { a.vat with spill := tblSet {} a.vat.spill (objIdx r.obj) x } }))

/-- R190, R192, R207, R210, R212: the commands on egress queues, shapers, stream bindings, samples and slot egress bindings complete
with the values that their structures give. A stream shaper changes at once and a port-class shaper at its next refill; a change of
the sampling clears every sampled value. -/
def Obligations.KnEgressSets : Prop :=
  (∀ s r, SetAccepted s 0x0301 queueSetCmd r →
    let v := queueSetCmd.vals s r
    let i := objIdx r.obj
    KnSets .knQueueSet s r queueSetCmd (fun a =>
      let c : QCfg := { drr := valB v 0, quantum := val v 1, weight := val v 2, maxSdu := val v 3 }
      if objCls r.obj = 0x02 then { a with eg := { a.eg with cfg := tblSet (qcfgDefault i) a.eg.cfg i c } }
      else { a with eg := { a.eg with sched := tblSet 0 a.eg.sched i (val v 4) } })) ∧
  (∀ s r, SetAccepted s 0x0305 shaperCmd r →
    let v := shaperCmd.vals s r
    let i := objIdx r.obj
    KnSets .knShaperSet s r shaperCmd (fun a =>
      let x := shaperAt a i
      if i < 1024 then
        let had := tokensOf a i x
        let tok := if valB v 0 = true ∧ x.enable = false then val v 2 * 2 ^ 32 else min had (val v 2 * 2 ^ 32)
        let was := if x.pendTick = now a ∧ x.old.isSome then x.old else some (x.enable, x.rate, x.burst, x.overhead, had)
        drawn (setShaper a i
          { x with enable := valB v 0, rate := val v 1, burst := val v 2, overhead := val v 3, last := now a / 2, tokens := tok
                   pendTick := now a, old := was })
      else setShaper a i { x with pend := some (valB v 0, val v 1, val v 2, val v 3), pendTick := now a })) ∧
  (∀ s r, SetAccepted s 0x0306 streamBindCmd r →
    KnSets .knStreamShaperBind s r streamBindCmd (fun a =>
      { a with eg := { a.eg with binds := tblSet 0xFFFF a.eg.binds (objIdx r.obj) (val (streamBindCmd.vals s r) 0) } })) ∧
  (∀ s r, SetAccepted s 0x0307 qsampleCmd r →
    let v := qsampleCmd.vals s r
    KnSets .knQsampleSet s r qsampleCmd (fun a =>
      let per := val v 0 * 1000
      if val v 0 = s.eg.qsPeriod ∧ val v 1 = s.eg.qsE then a
      else { clearSamples a with eg := { a.eg with
        qs := [], qsTick := none, qsOld := [], qsPeriod := val v 0, qsE := val v 1, qsNext := (ntNs a / per + 1) * per } })) ∧
  (∀ s r, SetAccepted s 0x0309 slotBindCmd r →
    let v := slotBindCmd.vals s r
    KnSets .knSlotEgressBind s r slotBindCmd (fun a =>
      let x := (valB v 0, val v 1, val v 2)
      let b := objIdx r.obj - 0x8000
      { a with cyc := { a.cyc with binds := tblSet (false, 0, 0) a.cyc.binds b x
                                   bindWas := tblSet (0, false, 0, 0) a.cyc.bindWas b (now a / 2 + 1, bindAt a b) } }))

/-- R221, R238, R519: the commands on preemption, pauses and ports complete with the values that their structures give, and leave a
ring port as it was where they take it. A new preemption setting starts verification again; a port whose link parameters change
trains again. -/
def Obligations.KnPortSets : Prop :=
  (∀ s r, SetAccepted s 0x0401 preemptCmd r →
    let v := preemptCmd.vals s r
    let p := objIdx r.obj
    KnSets .knPreemptSet s r preemptCmd (fun a =>
      if 18 ≤ p then a
      else startVerify (setPre a p { preAt a p with enable := valB v 0, mask := val v 1, verDis := valB v 2, verTime := val v 3 }) p)) ∧
  (∀ s r, SetAccepted s 0x0403 pauseCmd r →
    let v := pauseCmd.vals s r
    let p := objIdx r.obj
    KnSets .knPauseSet s r pauseCmd (fun a =>
      if 18 ≤ p then a else setPause a p { pauseAt a p with mask := val v 0, pfc := val v 1, wdTime := val v 2 })) ∧
  (∀ s r, SetAccepted s 0x0501 portSetCmd r →
    let v := portSetCmd.vals s r
    let p := objIdx r.obj
    let c : PortCfg :=
      { adminUp := valB v 0, maxFrame := val v 1, loopback := val v 2, an := valB v 3, adv := val v 4, forced := val v 5
        role := val v 6, nvp := val v 7, upRate := val v 8, upFec := val v 9 }
    (16 ≤ p → p < 18 → fecOk c.upRate c.upFec = true) →
    KnSets .knPortSet s r portSetCmd (fun a =>
      let old := (portAt a p).cfg
      let b := setPort a p { portAt a p with
        cfg := c, frameWas := if c.maxFrame = old.maxFrame then (portAt a p).frameWas else some (old.maxFrame, nt16 a) }
      let retrain := linkParams c old || c.upRate != old.upRate || c.upFec != old.upFec ||
        (loopsLink c.loopback && !loopsLink old.loopback)
      let d := if retrain then portLinkDown b p else b
      if 18 ≤ p then a else if c.adminUp = old.adminUp then d else adminChange d p c.adminUp)) ∧
  (∀ s r, SetAccepted s 0x0504 podlSetCmd r →
    let v := podlSetCmd.vals s r
    let p := objIdx r.obj
    KnSets .knPodlSet s r podlSetCmd (fun a =>
      if objCls r.obj = 0x01 then
        podlSetState (setPodl a p { podlAt a p with enable := valB v 0, classMax := val v 1, allowUn := val v 2, shortF := val v 3
                                                    tCut := val v 4, retryLim := val v 5, retryDel := val v 6 }) p
      else { a with ports := { a.ports with budget := val v 7 } }))

/-- R242, R244, R246, R419, R429: the commands on redundant streams and on fault sources complete with the values that their structures
give. A recovery entry then takes any next frame; a fixed fault source refuses; a forced train is due at once. -/
def Obligations.KnStreamAndFaultSets : Prop :=
  (∀ s r, SetAccepted s 0x0404 streamIdCmd r →
    let v := streamIdCmd.vals s r
    (bitOf (val v 3) 18 = true → (rcvyAt s (val v 4)).isMatch = false) →
    KnSets .knStreamIdSet s r streamIdCmd (fun a =>
      let x : StreamId := { valid := true, smac := valB v 0, mac := val v 1, vid := val v 2, ports := val v 3, handle := val v 4 }
      { a with frer := { a.frer with ids := tblSet {} a.frer.ids (objIdx r.obj) x } })) ∧
  (∀ s r, SetAccepted s 0x0405 frerGenCmd r →
    let v := frerGenCmd.vals s r
    KnSets .knFrerGenSet s r frerGenCmd (fun a =>
      let x : Gen := { enable := valB v 0, split := val v 1, next := val v 2 }
      { a with frer := { a.frer with gen := tblSet {} a.frer.gen (objIdx r.obj) x } })) ∧
  (∀ s r, SetAccepted s 0x0406 frerRcvyCmd r →
    let v := frerRcvyCmd.vals s r
    let i := objIdx r.obj
    (i < 8192 → valB v 1 = true → ringIdentified s i = false) →
    KnSets .knFrerRcvySet s r frerRcvyCmd (fun a =>
      if 8192 ≤ i then a
      else setRcvy a i { rcvyAt a i with
        enable := valB v 0, isMatch := valB v 1, history := val v 2, timeout := val v 3, popRtag := valB v 4, takeNoSeq := valB v 5
        latent := valB v 6, paths := val v 7, diff := val v 8, period := val v 9
        takeAny := true, lastPass := now a, passed := 0, disc := 0, perEnd := now a + msTicks (val v 9) })) ∧
  (∀ s r, SetAccepted s 0x0801 faultSetCmd r →
    let v := faultSetCmd.vals s r
    let f := objIdx r.obj
    let a := val v 5 + 1
    (srcInfo f).fixed = false →
    (a < 3 ∨ (a ≤ widestReset f ∧ (a = 4 → (clusterOf f).isSome = true) ∧ (a = 5 → (phyDieOf f).isSome = true) ∧
      (a = 6 → restartRegion f ≠ .trestle) ∧ (a = 3 → (srcInfo f).level = 0))) → (valB v 6 = true → testOf f ≠ .none) →
    KnSets .knFaultSet s r faultSetCmd (fun a =>
      setFsrc a f { fsrcAt a f with
        set := true, enable := valB v 0, threshold := val v 1, window := val v 2, degraded := valB v 3, baseEvent := valB v 4
        severe := val v 5, selftest := valB v 6, count := 0 })) ∧
  (∀ s r, SetAccepted s 0x0801 faultSetCmd r → (srcInfo (objIdx r.obj)).fixed = true →
    ∃ t, exec .knFaultSet s = .next t ∧ KnFrame s t ∧ Unrecorded s t ∧ Answered s t r 0x15 0 [] []) ∧
  (∀ s r, SetAccepted s 0x0802 faultForceCmd r →
    let v := faultForceCmd.vals s r
    let f := objIdx r.obj
    ((srcInfo f).fixed = true → valB v 0 = true) →
    KnSets .knFaultForce s r faultForceCmd (fun a =>
      setFsrc a f { fsrcAt a f with
        force := decide (val v 1 ≠ 0), fRecOnly := valB v 0, fLeft := val v 1, fSpacing := val v 2, fLoc := val v 3
        fDetail := val v 4, fNext := now a }))

/-- R295, R310, R358, R375, R384, R488, R520: the commands on queue slots, event sources, DMA queues, record streams and quotas and the
drain timeout complete with the values that their structures give. A queue's ring, its size and its completion queue change only while
it is disabled; a stream's new parameters hold from the end of their tick. -/
def Obligations.KnHostAndRecordSets : Prop :=
  (∀ s r, SetAccepted s 0x0601 queueMapCmd r →
    let v := queueMapCmd.vals s r
    let q := objIdx r.obj
    let k := val v 0 * 4096 + val v 1
    (∀ x ∈ ringsOf q, (qAt s x).state = .disabled) →
    (val v 0 ≠ 0xFFFF → val v 1 < slotCount (val v 0) ∧ (tblGet 0 s.host.slots k = 0 ∨ tblGet 0 s.host.slots k = q + 1)) →
    KnSets .knFuncQueueMap s r queueMapCmd (fun a =>
      let free := a.host.slots.filter (fun e => e.2 != q + 1)
      { a with host := { a.host with slots := if val v 0 = 0xFFFF then free else tblSet 0 free k (q + 1) } })) ∧
  (∀ s r, SetAccepted s 0x0602 eventMapCmd r →
    let v := eventMapCmd.vals s r
    let f := val v 0
    (f ≠ 0xFFFF → val v 1 < numVecs f) → bitOf r.mask 2 = false →
    KnSets .knEventMap s r eventMapCmd (fun a =>
      let m := a.host.evMap
      let n := if f = 0xFFFF then tblErase m (objIdx r.obj) else tblSet (0, 0) m (objIdx r.obj) (f + 1, val v 1)
      let was := tblSet (0, 0, 0) a.host.evWas (objIdx r.obj) (now a + 1, vecOf a (objIdx r.obj))
      { a with host := { a.host with evMap := n, evWas := was } })) ∧
  (∀ s r, SetAccepted s 0x0602 eventMapCmd r →
    let v := eventMapCmd.vals s r
    let f := val v 0
    f ≠ 0xFFFF → val v 1 < numVecs f → bitOf r.mask 2 = true →
    ∃ t, exec .knEventMap s = .next t ∧ tblGet (0, 0) t.host.evMap (objIdx r.obj) = (f + 1, val v 1) ∧
      (vecAt t f (val v 1)).moder = val v 2 ∧ Answered s t r 0 0 (leBytes 8 s.kn.seq) []) ∧
  (∀ s r, SetAccepted s 0x0603 dmaqCmd r →
    let v := dmaqCmd.vals s r
    let q := objIdx r.obj
    bitOf r.mask 12 = false →
    ((dmaqGet s r.obj).take 3 = v.take 3 ∨ ∀ x ∈ ringsOf q, (qAt s x).state = .disabled) →
    KnSets .knDmaqSet s r dmaqCmd (fun a => dmaqPut a q v)) ∧
  (∀ s r, SetAccepted s 0x0603 dmaqCmd r →
    let v := dmaqCmd.vals s r
    let q := objIdx r.obj
    bitOf r.mask 12 = true → valB v 12 = true → (∀ x ∈ ringsOf q, (qAt s x).state = .disabled) →
    mayEnable (dmaqPut s q v) q = true →
    KnSets .knDmaqSet s r dmaqCmd (fun a => (ringsOf q).foldl enableQueue (dmaqPut a q v))) ∧
  (∀ s r, SetAccepted s 0x0701 recStreamCmd r →
    let v := recStreamCmd.vals s r
    KnSets .knRecStreamSet s r recStreamCmd (fun a =>
      let x : RStream := { enable := valB v 0, drive := val v 1, snap := val v 2, close := val v 3 }
      let n := tblInsert (objIdx r.obj) x (tblErase a.geley.streamNext (objIdx r.obj))
      { a with geley := { a.geley with streamNext := n } })) ∧
  (∀ s r, SetAccepted s 0x0706 recQuotaCmd r →
    let v := recQuotaCmd.vals s r
    s.vat.spillArea + val v 0 + 256 ≤ 4096 →
    KnSets .knRecQuotaSet s r recQuotaCmd (fun a =>
      { a with geley := { a.geley with quota := val v 0, readLimit := val v 1 } })) ∧
  (∀ s r, SetAccepted s 0x090B drainCmd r →
    KnSets .knDrainSet s r drainCmd (fun a => { a with dma := { a.dma with drainMs := val (drainCmd.vals s r) 0 } })) ∧
  (∀ s k x, s.geley.streamNext = [(k, x)] →
    (changeStreams s).geley.streamNext = [] ∧ tblGet {} (changeStreams s).geley.streams k = x)

/-- R396 to R398, R400: an accepted KN_CLAIM, KN_ACCEPT or KN_TAKEOVER makes its master the owner with its lease, KN_RELEASE leaves the
part without one, and KN_HANDOVER offers the part to a master for 1 s; each change is recorded. -/
def Obligations.KnOwnershipChanges : Prop :=
  (∀ s r, Accepted s 0x0001 claimExe r → leaseOk (leAt r.params 0 4) = true → s.kn.owner = none →
    ∃ t, exec .knClaim s = .next t ∧ t.kn.owner = some r.master ∧ t.kn.ownerNode = (if r.master = 3 then r.node else 0xFF) ∧
      t.kn.steward = false ∧ t.kn.target = none ∧ t.kn.leaseMs = leaseOf (leAt r.params 0 4) ∧
      t.kn.leaseEnd = now s + msTicks (leaseOf (leAt r.params 0 4)) ∧ t.kn.seq = s.kn.seq + 1 ∧
      KnFrame { s with kn := t.kn } t) ∧
  (∀ s r, Accepted s 0x0006 takeoverExe r → leaseOk (leAt r.params 0 4) = true → r.master = 2 → s.pins.stewardN = false →
    ∃ t, exec .knTakeover s = .next t ∧ t.kn.owner = some 2 ∧ t.kn.steward = true ∧ t.kn.target = none ∧
      t.kn.leaseMs = leaseOf (leAt r.params 0 4) ∧ t.kn.leaseEnd = now s + msTicks (leaseOf (leAt r.params 0 4)) ∧
      t.kn.seq = s.kn.seq + 1 ∧ KnFrame { s with kn := t.kn } t) ∧
  (∀ s r, Accepted s 0x0005 acceptExe r → s.kn.target = some r.master → (r.master = 3 → s.kn.targetNode = r.node) →
    r.arr < s.kn.windowEnd →
    ∃ t, exec .knAccept s = .next t ∧ t.kn.owner = some r.master ∧ t.kn.ownerNode = (if r.master = 3 then r.node else 0xFF) ∧
      t.kn.steward = false ∧ t.kn.target = none ∧ t.kn.leaseMs = s.kn.targetLease ∧
      t.kn.leaseEnd = now s + msTicks s.kn.targetLease ∧ t.kn.seq = s.kn.seq + 1 ∧ KnFrame { s with kn := t.kn } t) ∧
  (∀ s r, Accepted s 0x0002 releaseExe r →
    ∃ t, exec .knRelease s = .next t ∧ t.kn.owner = none ∧ t.kn.target = none ∧ t.kn.seq = s.kn.seq + 1 ∧
      KnFrame { s with kn := t.kn } t) ∧
  (∀ s r, Accepted s 0x0004 handoverExe r →
    let m := leAt r.params 0 1
    let node := leAt r.params 1 1
    let l := leAt r.params 4 4
    leAt r.params 2 2 = 0 → m ≤ 4 → (if m = 3 then node ≤ 63 else node = 0xFF) → leaseOk l = true →
    ¬(s.kn.owner = some m ∧ (m = 3 → s.kn.ownerNode = node)) → masterUp s m = true →
    ∃ t, exec .knHandover s = .next t ∧ t.kn.owner = s.kn.owner ∧ t.kn.ownerNode = s.kn.ownerNode ∧ t.kn.target = some m ∧
      t.kn.targetNode = node ∧ t.kn.targetLease = leaseOf l ∧ t.kn.windowEnd = now s + msTicks 1000 ∧
      t.kn.leaseEnd = now s + msTicks s.kn.leaseMs ∧ t.kn.seq = s.kn.seq + 1 ∧ KnFrame { s with kn := t.kn } t)

/-- R397 to R400: the ownership commands that their own conditions refuse leave the part as it was; the lease ends at its deadline, and a
handover's window at its own, unless a request that arrived in time still waits; each end is recorded, and before its deadline nothing
happens. -/
def Obligations.OwnershipRefusalsAndEnds : Prop :=
  (∀ s r, Accepted s 0x0001 claimExe r → leaseOk (leAt r.params 0 4) = true → s.kn.owner.isSome = true →
    ∃ t, exec .knClaim s = .next t ∧ KnFrame s t ∧ Unrecorded s t ∧ Answered s t r 0x11 0 [] []) ∧
  (∀ s r, Accepted s 0x0006 takeoverExe r → leaseOk (leAt r.params 0 4) = true → (r.master ≠ 2 ∨ s.pins.stewardN = true) →
    ∃ t, exec .knTakeover s = .next t ∧ KnFrame s t ∧ Unrecorded s t ∧ Answered s t r 0x13 0 [] []) ∧
  (∀ s r, Accepted s 0x0005 acceptExe r → s.kn.target ≠ some r.master ∨ s.kn.windowEnd ≤ r.arr →
    ∃ t, exec .knAccept s = .next t ∧ KnFrame s t ∧ Unrecorded s t ∧ Answered s t r 0x12 0 [] []) ∧
  (∀ s, s.kn.owner.isSome = true → mramUp s = true → s.kn.leaseEnd ≤ now s →
    (∀ r ∈ s.kn.waiting, isOwner s r = true → s.kn.leaseEnd ≤ r.arr) →
    ∃ t, exec .leaseLapse s = .next t ∧ t.kn.owner = none ∧ t.kn.target = none ∧ t.kn.seq = s.kn.seq + 1 ∧
      t.kn.waiting = s.kn.waiting ∧ KnFrame { s with kn := t.kn } t) ∧
  (∀ s, now s < s.kn.leaseEnd → exec .leaseLapse s = .next s) ∧
  (∀ s m, s.kn.target = some m → mramUp s = true → s.kn.windowEnd ≤ now s →
    (∀ r ∈ s.kn.waiting, r.master = m → r.cmd = 5 → s.kn.windowEnd ≤ r.arr) →
    ∃ t, exec .handoverWindowEnd s = .next t ∧ t.kn.owner = s.kn.owner ∧ t.kn.leaseEnd = s.kn.leaseEnd ∧ t.kn.target = none ∧
      t.kn.seq = s.kn.seq + 1 ∧ t.kn.waiting = s.kn.waiting ∧ KnFrame { s with kn := t.kn } t) ∧
  (∀ s, now s < s.kn.windowEnd → exec .handoverWindowEnd s = .next s)

/-- R160, R161, R164, R172, R201, R203: an accepted rule is written at its place, a round-robin set with its queues, a meter's buckets
are filled, gate lists become pending with their activation, and a pending list is cancelled. -/
def Obligations.KnTrafficChanges : Prop :=
  (∀ s rq k, Accepted s 0x0201 ruleWriteExe rq →
    let r := ruleKept (leAt rq.params 8 40)
    let i := objIdx rq.obj
    objCls rq.obj = 0x03 → (i < 4096 ∨ i = 0xFFFFFF) → wordReserved (ruleWord r) = false → targetMeets s (ruleWord r) = true →
    rulePlace s r i = .ok k → isAbsent s (objId 0x03 k) = false →
    KnWrites .knRuleWrite s rq (changeBody s rq (objId 0x03 k) (ruleValue k (ruleAt s k)) (ruleValue k r)) (leBytes 8 (objId 0x03 k))
      (fun a => { a with cls := { a.cls with rules := tblSet ruleReset a.cls.rules k r } })) ∧
  (∀ s r, Accepted s 0x0204 rrSetDefineExe r →
    let k := objIdx r.obj
    let l := (List.range (leAt r.params 8 1)).map (fun i => leAt r.params (16 + 2 * i) 2)
    objIn 0x19 16 r.obj = true → leAt r.params 9 7 = 0 → leAt r.params 8 1 ≤ 32 → (∀ q ∈ l, q < 1024) →
    KnWrites .knRrSetDefine s r (changeBody s r r.obj (some (rrValue (tblGet [] s.cls.rrSets k))) (some (rrValue l))) []
      (fun a => { a with cls := { a.cls with rrSets := tblSet [] a.cls.rrSets k l, rrLast := tblErase a.cls.rrLast k } })) ∧
  (∀ s r, Accepted s 0x0206 meterResetExe r → objIn 0x04 8192 r.obj = true → isAbsent s r.obj = false →
    let v := some (meterSetCmd.read s r.obj)
    KnWrites .knMeterReset s r (changeBody s r r.obj v v) []
      (fun a =>
        let x := meterAt a (objIdx r.obj)
        let y : Meter := { x with tc := x.cbs * 2 ^ 32, tp := x.pbs * 2 ^ 32, last := now a / 2 }
        { a with meters := tblSet {} a.meters (objIdx r.obj) y })) ∧
  (∀ s r l act, Accepted s 0x0302 gateLoadExe r →
    let ports := maskList 18 (leAt r.params 8 4)
    gateParts ports r.bulk = some l → 0 < leAt r.params 8 4 → leAt r.params 8 4 < 2 ^ 18 →
    (∀ e ∈ l, entriesNamed (gateParsed e.2) = true ∧ leAt e.2 0 4 < 2 ∧ gateListOk (gateParsed e.2) = true) →
    (∀ p ∈ ports, isAbsent s (gateObj p) = false ∧ gateNear s p = false) → gateInstant s (leAt r.params 0 8) = some act →
    ∃ t, exec .knGateLoad s = .next t ∧ (∀ e ∈ l, (gateAt t e.1).pend = some (gateParsed e.2, act)) ∧
      (∀ p, p ∉ ports → gateAt t p = gateAt s p) ∧ t.kn.seq = s.kn.seq + l.length ∧ KnFrame { s with kn := t.kn, eg := t.eg } t ∧
      Answered s t r 0 0 (leBytes 8 s.kn.seq) []) ∧
  (∀ s r n act, Accepted s 0x0303 gateCancelExe r → objIn 0x0B 18 r.obj = true → isAbsent s r.obj = false →
    let p := objIdx r.obj
    (gateAt s p).pend = some (n, act) → gateNear s p = false →
    KnWrites .knGateCancel s r
      (changeBody s r r.obj (some (gateOld (gateAt s p))) (some (gateValue (gateAt s p).oper (gateAt s p).since))) []
      (fun a => positionGates (setGate (dropStaged a r.obj) p { gateAt a p with pend := none, byImage := false }) p))

/-- R23, R353, R408, R520: a counter page is granted or withdrawn, a queue recovers, a gated region's power changes, and the drain of
what stands is left to the region; each is recorded. -/
def Obligations.KnHostChanges : Prop :=
  (∀ s r, Accepted s 0x0009 counterPageGrantExe r → objIn 0x0D 128 r.obj = true → isAbsent s r.obj = false →
    let f := objIdx r.obj
    funcExists s f = true →
    KnWrites .knCounterPageGrant s r (changeBody s r r.obj (some (pageValue s f)) (some (leBytes 4 1))) []
      (fun a => setFunc { a with host := { a.host with
        pageWas := tblSet (0, false) a.host.pageWas f (now a + 1, pageSeen a f) } } f { funcAt a f with page := true })) ∧
  (∀ s r, Accepted s 0x000A counterPageWithdrawExe r → objIn 0x0D 128 r.obj = true → isAbsent s r.obj = false →
    let f := objIdx r.obj
    KnWrites .knCounterPageWithdraw s r (changeBody s r r.obj (some (pageValue s f)) (some (leBytes 4 0))) []
      (fun a => setFunc { a with host := { a.host with
        pageWas := tblSet (0, false) a.host.pageWas f (now a + 1, pageSeen a f) } } f { funcAt a f with page := false })) ∧
  (∀ s r u, Accepted s 0x0604 dmaqRecoverExe r → dmaObj s r.obj = true → isAbsent s r.obj = false →
    let act := leAt r.params 8 1
    let ring := leAt r.params 9 1
    let x := objIdx r.obj + 0x1000 * ring
    act ≤ 2 → leAt r.params 10 6 = 0 → (ring = 0 ∨ (ring = 1 ∧ qKind (objIdx r.obj) = 4)) → recoverQueue s x act = some u →
    KnWrites .knDmaqRecover s r (changeBody s r r.obj (some (dmaqCmd.read s r.obj)) (some (dmaqCmd.read u r.obj))) []
      (fun a => (recoverQueue a x act).getD a)) ∧
  (∀ s r, Accepted s 0x0606 regionPowerExe r → objIn 0x13 6 r.obj = true →
    let g := regionOf (objIdx r.obj)
    let act := leAt r.params 8 1
    let f := fun (a : State) =>
      if act = 1 then (if a.regs.gated.contains g then a else regionDown a g false)
      else if a.regs.gated.contains g then regionDown a g true else a
    act ≤ 1 → leAt r.params 9 7 = 0 → (g = .host ∨ g = .record) →
    KnWrites .knRegionPower s r
      (changeBody s r r.obj (some (regionValue s (objIdx r.obj))) (some (regionValue (f s) (objIdx r.obj)))) [] f) ∧
  (∀ s r, Accepted s 0x0606 regionPowerExe r → objIn 0x13 6 r.obj = true →
    let g := regionOf (objIdx r.obj)
    leAt r.params 8 1 ≤ 1 → leAt r.params 9 7 = 0 → g ≠ .host → g ≠ .record →
    ∃ t, exec .knRegionPower s = .next t ∧ KnFrame s t ∧ Unrecorded s t ∧ Answered s t r 0x15 0 [] [])

/-- R183, R269, R362, R370, R378, R434: a cable test takes the link down, seals join and leave a drive's label, a drive's action takes
effect, and a self-test joins its unit's queue under an identifier of its own; each is recorded. -/
def Obligations.KnDeviceChanges : Prop :=
  (∀ s r, Accepted s 0x0503 cableTestExe r → objIn 0x01 16 r.obj = true → isAbsent s r.obj = false →
    let p := objIdx r.obj
    let v := some (portSetCmd.read s r.obj)
    ¬((podlAt s p).state = .lockout ∧ (podlAt s p).fault = 9) → (portAt s p).cableTest = false →
    KnWrites .knCableTest s r (changeBody s r r.obj v v) (leBytes 4 (portAt s p).cableRes) (fun a =>
      let t := portLinkDown a p
      let u := setPort t p { portAt t p with cableTest := true }
      if (podlAt s p).state = .disabled ∨ (podlAt s p).state = .lockout then u
      else setPodl u p { podlAt u p with state := .test, budgetWait := false })) ∧
  (∀ s r d, Accepted s 0x0703 recSealExe r →
    let t0 := leAt r.params 8 8
    let t1 := leAt r.params 16 8
    leAt r.params 0 1 = 2 ^ d → d < 2 → leAt r.params 1 7 = 0 → t0 ≤ t1 → isMounted (driveAt s d) = true →
    sealsFit (sealDrive (driveAt s d) t0 t1 0 0 0) = true →
    let x := sealDrive (driveAt s d) t0 t1 (leAt r.params 24 4) (s.kn.seq % 2 ^ 32) (ntNs s % 2 ^ 64)
    KnWrites .knRecSeal s r (changeBody s r (objId 0x10 d) (some (driveValue (driveAt s d))) (some (driveValue x))) []
      (fun a => labelChanged a d x)) ∧
  (∀ s r e, Accepted s 0x0704 recUnsealExe r → objIn 0x10 2 r.obj = true →
    let d := objIdx r.obj
    let x := driveAt s d
    leAt r.params 9 7 = 0 → isMounted x = true → x.seals[leAt r.params 8 1]? = some e →
    let y := { x with seals := x.seals.filter (fun c => c != e), liveSeals := x.liveSeals.filter (fun c => c.audit != e.audit) }
    KnWrites .knRecUnseal s r (changeBody s r r.obj (some (driveValue x)) (some (driveValue y))) []
      (fun a => labelChanged a d y)) ∧
  (∀ s r u, Accepted s 0x0705 recDriveExe r → objIn 0x10 2 r.obj = true →
    let d := objIdx r.obj
    let act := leAt r.params 8 1
    act < 5 → leAt r.params 9 7 = 0 → ((driveAt s d).state = .absent → act = 4) → driveAction s d act = .ok u →
    KnWrites .knRecDrive s r (changeBody s r r.obj (some (driveValue (driveAt s d))) (some (driveValue (driveAt u d)))) []
      (fun a => match driveAction a d act with
        | .ok w => w
        | .error _ => a)) ∧
  (∀ s r st, Accepted s 0x0705 recDriveExe r → objIn 0x10 2 r.obj = true →
    let act := leAt r.params 8 1
    act < 5 → leAt r.params 9 7 = 0 → (driveAt s (objIdx r.obj)).state ≠ .absent →
    driveAction s (objIdx r.obj) act = .error st →
    ∃ t, exec .knRecDrive s = .next t ∧ KnFrame s t ∧ Unrecorded s t ∧ Answered s t r st 0 [] []) ∧
  (∀ s r, Accepted s 0x0804 selftestRunExe r → objIn 0x12 768 r.obj = true →
    let f := objIdx r.obj
    let loc := leAt r.params 8 4
    let v := some (faultSetCmd.read s r.obj)
    leAt r.params 13 3 = 0 → loc ≤ 65535 → leAt r.params 12 1 ≤ 1 → testOf f ≠ .none →
    s.flt.disabled.contains (unitOf f) = false → (∀ t ∈ s.flt.tests, ¬(t.src = f ∧ t.loc = loc)) →
    KnWrites .knSelftestRun s r (changeBody s r r.obj v v) [] (fun a =>
      requestTest { a with flt := { a.flt with nextId := (a.flt.nextId + 1) % 65536 } }
        { src := f, loc := loc, repair := decide (leAt r.params 12 1 = 1), byCmd := true, id := a.flt.nextId }))

/-- R467, R476, R477, R479, R480: a firmware write begins, a slot's trial is asked for, committed or cancelled, a configuration is
written to the copy that is not in force, and a reset follows its response; each is recorded. -/
def Obligations.KnFirmwareChanges : Prop :=
  (∀ s r, Accepted s 0x0907 fwWriteExe r → objIn 0x15 2 r.obj = true →
    let k := objIdx r.obj
    let off := leAt r.params 8 4
    let fl := leAt r.params 12 1
    let base := if bitOf fl 0 then [] else (fwSlot s k).bytes
    let y : Slot := { fwSlot s k with bytes := base, state := 3, svn := 0, release := 0 }
    fl < 4 → off % 4096 = 0 → off + r.bulk.length ≤ 3145728 → s.boot.fwBusy = none → s.boot.runSlot ≠ k →
    ¬(s.boot.trialRunning = true ∧ s.boot.committed = k) →
    KnWrites .knFwWrite s r (changeBody s r r.obj (fwValue s k) (some (flashPlace base off r.bulk))) [] (fun a =>
      let t := setFwSlot a k y
      { t with boot := { t.boot with fwBusy := some (k, off, r.bulk, bitOf fl 1) } })) ∧
  (∀ s r, Accepted s 0x0908 fwActivateExe r → objIn 0x15 2 r.obj = true →
    let k := objIdx r.obj
    let v := fwValue s k
    (leAt r.params 8 1 = 0 → fwState s k = 2 → slotValid s.boot k = true →
      KnWrites .knFwActivate s r (changeBody s r r.obj v v) [] (fun a =>
        { a with boot := { a.boot with trialSlot := k, trialPending := true, failCount := 0 } })) ∧
    (leAt r.params 8 1 = 1 → s.boot.trialRunning = true → s.boot.runSlot = k → s.boot.fallback = false →
      KnWrites .knFwActivate s r (changeBody s r r.obj v v) [] (fun a =>
        { a with boot := { a.boot with
          committed := k, trialRunning := false, minSvn := max a.boot.minSvn (fwSlot s k).svn } })) ∧
    (leAt r.params 8 1 = 2 → s.boot.trialPending = true →
      KnWrites .knFwActivate s r (changeBody s r r.obj v v) [] (fun a =>
        { a with boot := { a.boot with trialPending := false } }))) ∧
  (∀ s r, Accepted s 0x0909 configStoreExe r → storeFormed r.bulk = true → s.boot.storeBusy = none →
    let seq := ((validStore s.boot).map (fun x => leAt x.bytes 8 8 + 1)).getD 1
    let x : Store := { bytes := storeFilled r.bulk seq, valid := false }
    KnWrites .knConfigStore s r
      (changeBody s r storeObj ((validStore s.boot).map (·.bytes)) (some (storeFilled r.bulk seq))) [] (fun a =>
        if storeTarget s.boot = 0 then { a with boot := { a.boot with store0 := x, storeBusy := some 0 } }
        else { a with boot := { a.boot with store1 := x, storeBusy := some 1 } })) ∧
  (∀ s r, Accepted s 0x0906 resetExe r → r.obj = packageObj → leAt r.params 8 1 = 1 → s.clk.pllLocked = true →
    s.boot.tempShut = false → s.boot.pendingReset = none →
    ∃ t, exec .knReset s = .next t ∧ t.boot.pendingReset = some (3, now s + usTicks 10) ∧
      t.boot.failCount = (if s.boot.fallback then 0 else s.boot.failCount) ∧ t.kn.seq = s.kn.seq + 1 ∧
        Answered s t r 0 0 (leBytes 8 s.kn.seq) []) ∧
  (∀ s r, Accepted s 0x0906 resetExe r → objIn 0x13 5 r.obj = true → leAt r.params 8 1 = 0 →
    let g := regionOf (objIdx r.obj)
    ∃ t, exec .knReset s = .next t ∧ t.regs.out.contains g = true ∧ t.regs.restarting.contains g = true ∧
      (mbxAt t r.master).resp = respImage s r 0 0 (leBytes 8 s.kn.seq) 0)

/-- R406, R483, R484, R490, R525: part of an image is kept, a final call starts its staging, a pending image is cancelled, a withdrawal
waits for its cycle, a readmitted node may start again, and the bypass follows its command. -/
def Obligations.KnScheduleChanges : Prop :=
  (∀ s r, Accepted s 0x0901 schedLoadExe r →
    let off := leAt r.params 8 4
    let img := if r.bulk = [] then s.sched.loading.getD [] else overwrite (s.sched.loading.getD []) off r.bulk
    leAt r.params 12 1 < 2 → off + r.bulk.length ≤ 4194304 → isAbsent s imageObj = false → activationNear s = false →
      s.sched.staging = none →
    (leAt r.params 12 1 = 0 →
      KnReads .knSchedLoad s r (now s + msTicks s.kn.leaseMs) [] [] (fun a =>
        { a with sched := { a.sched with loading := some img, refusal := 0 } })) ∧
    (∀ n, leAt r.params 12 1 = 1 → loadActTime s (leAt r.params 0 8) = .ok n →
      KnReads .knSchedLoad s r (now s + msTicks s.kn.leaseMs) [] [] (fun a =>
        { a with sched := { a.sched with loading := some img, refusal := 0, staging := some (n, r) } }))) ∧
  (∀ s r i, Accepted s 0x0901 schedLoadExe r → leAt r.params 12 1 = 2 → r.bulk = [] → leAt r.params 8 4 = 0 →
    isAbsent s imageObj = false → activationNear s = false → s.sched.pending = some i →
    ∃ t, exec .knSchedLoad s = .next t ∧ t.sched.pending = none ∧ t.sched.loading = none ∧ t.sched.staging = none ∧
      t.cyc = s.cyc ∧ tblGet [] t.kn.tmpl imageObj = [] ∧
      (∀ p < 18, (gateAt t p).pend = if (gateAt s p).byImage then none else (gateAt s p).pend) ∧ t.kn.seq = s.kn.seq + 1 ∧
      Answered s t r 0 0 (leBytes 8 s.kn.seq) []) ∧
  (∀ s r n b, Accepted s 0x0903 ringWithdrawExe r →
    let w := withdrawCycles s
    leAt r.params 8 1 < 2 → namedCycle s (leAt r.params 0 8) = some n → boundary s n = some b →
    nt16 s + w * tcyc (s.cyc.image.getD {}) ≤ b → nt16 s + ns16 1000000 ≤ b → s.ring.state ≠ .withdrawn →
    ∃ t, exec .knRingWithdraw s = .next t ∧ t.ring.withdrawAt = some n ∧ t.ring.withdrawFrom = n - w ∧
      t.ring.withdrawByp = decide (leAt r.params 8 1 = 1) ∧ t.ring.state = s.ring.state ∧ t.kn.seq = s.kn.seq + 1 ∧
      tblGet [] t.kn.tmpl packageObj ≠ [] ∧ Answered s t r 0 0 (leBytes 8 s.kn.seq) []) ∧
  (∀ s r, Accepted s 0x0904 ringReadmitExe r → s.ring.state = .withdrawn → s.ring.cmdBypassByWithdraw = false →
    KnWrites .knRingReadmit s r (changeBody s r packageObj (withdrawValue s) (some [0, 0])) [] (fun a =>
      enterListen { a with ring := { a.ring with
        readmitted := true, withdrawAt := none, withdrawBypCycle := none, withdrawByp := false } })) ∧
  (∀ s r, Accepted s 0x0904 ringReadmitExe r → s.ring.state ≠ .withdrawn → s.ring.cmdBypassByWithdraw = false →
    ∃ t, exec .knRingReadmit s = .next t ∧ KnFrame s t ∧ Unrecorded s t ∧ Answered s t r 9 0 [] []) ∧
  (∀ s r, Accepted s 0x0905 bypassExe r → r.obj = packageObj → leAt r.params 9 7 = 0 →
    let act := leAt r.params 8 1
    act ≤ 1 →
    KnWrites .knBypass s r (changeBody s r packageObj (some (commandValue s)) (some (leBytes 4 act))) [] (fun a =>
      let v := { a with boot := { a.boot with opLast := if act = 1 then 2 else 3, opState := 1 } }
      if act = 1 then bypassCommandOn v else bypassCommandOff v))

/-- R214, R226, R268, R284, R343, R377, R440, R487: the commands that read answer with what they read and change nothing. -/
def Obligations.KnReadAnswers : Prop :=
  (∀ s r, Accepted s 0x000C objReadExe r → objStructs s r.obj ≠ [] → isAbsent s r.obj = false → objCls r.obj ≠ 0x12 →
    KnReads .knObjRead s r s.kn.leaseEnd ((objStructs s r.obj).take 240) [] id) ∧
  (∀ s r, Accepted s 0x0101 ringStatusExe r → r.isBulk = false →
    ∃ y, KnReads .knRingStatus s r s.kn.leaseEnd
      (leBytes 1 (ringStateNo s.ring.state) ++ leBytes 1 (timeState s) ++ leBytes 1 (portStateNo s.ring.east.state) ++
        leBytes 1 (portStateNo s.ring.west.state) ++ y) [] id) ∧
  (∀ s r, Accepted s 0x0304 gateReadExe r → objIn 0x0B 18 r.obj = true → isAbsent s r.obj = false → r.isBulk = false →
    (gateAt s (objIdx r.obj)).pend = none →
    let g := gateAt s (objIdx r.obj)
    let x := gatePos g (nt16 s)
    KnReads .knGateRead s r s.kn.leaseEnd
      ((leBytes 4 0 ++ leBytes 4 x.entry ++ leBytes 8 0 ++ leBytes 8 (x.start.getD 0 / 65536) ++ gateOctets g.oper g.since).take 240)
      [] id) ∧
  (∀ s r, Accepted s 0x0402 preemptReadExe r → objIn 0x01 18 r.obj = true → isAbsent s r.obj = false →
    let p := objIdx r.obj
    KnReads .knPreemptRead s r s.kn.leaseEnd
      (preemptCmd.read s r.obj ++ leBytes 4 (verNo (preAt s p).ver) ++ leBytes 4 (b2n (preemptActive s p)) ++
        leBytes 4 (if lineMbps s p = 0 then 0 else holdAdvance s p / 65536) ++ leBytes 4 0) [] id) ∧
  (∀ s r, Accepted s 0x0502 portStatusExe r → objIn 0x01 20 r.obj = true → isAbsent s r.obj = false →
    KnReads .knPortStatus s r s.kn.leaseEnd (leBytes 4 (statusWord s (objIdx r.obj))) [] id) ∧
  (∀ s r o, Accepted s 0x0505 (moduleReadExe (some o)) r →
    let p := leAt r.params 0 1
    let n := leAt r.params 3 1
    leAt r.params 4 4 = 0 → 16 ≤ p → p < 20 → 0 < n → n ≤ 240 → leAt r.params 2 1 + n ≤ 256 → o.length = n →
    inService s (if p < 18 then .edge else .ring) = true → Instr.wf (.knModuleRead (some o)) = true →
    KnReads (.knModuleRead (some o)) s r s.kn.leaseEnd o [] id) ∧
  (∀ s r, Accepted s 0x0605 dmaqStatusExe r → dmaObj s r.obj = true → isAbsent s r.obj = false →
    KnReads .knDmaqStatus s r s.kn.leaseEnd ((ringsOf (objIdx r.obj)).flatMap (ringStatus s)) [] id) ∧
  (∀ s r, Accepted s 0x0707 recStatusExe r →
    KnReads .knRecStatus s r s.kn.leaseEnd (driveStatus s 0 ++ driveStatus s 1) [] id) ∧
  (∀ s r, Accepted s 0x0803 faultLogReadExe r → leAt r.params 12 1 = 0 → r.isBulk = false →
    let first := leAt r.params 0 8
    let n := leAt r.params 8 4
    1 ≤ n → n ≤ 16384 →
    KnReads .knFaultLogRead s r s.kn.leaseEnd
      (leBytes 8 (oldestLog s) ++ leBytes 8 (newestLog s) ++
        ((((s.flt.log.filter (fun w => decide (first ≤ logSeqOf w ∧ logSeqOf w < first + n))).reverse).map (leBytes 32)).take 7).flatten)
      [] id) ∧
  (∀ s r, Accepted s 0x0902 schedStatusExe r →
    KnReads .knSchedStatus s r s.kn.leaseEnd
      (leBytes 4 ((s.cyc.image.map (·.id)).getD 0) ++ leBytes 4 ((s.sched.pending.map (·.id)).getD 0) ++ leBytes 8 s.sched.actTime ++
        leBytes 1 (schedStage s) ++ leBytes 1 s.sched.refusal ++ leBytes 2 0 ++ leBytes 4 s.dma.drainMs ++ leBytes 8 s.sched.lastAct)
      [] id)

/-- R122, R214, R362, R399, R407, R410, R456, R479: the owner's heartbeat restarts its lease, the ownership, the journal, the version
and the counters are read, captures and samples are taken out as they are read, a stream is flushed, and the stored configuration
is read. -/
def Obligations.KnReadsOfPart : Prop :=
  (∀ s r, Accepted s 0x0003 heartbeatExe r →
    KnReads .knHeartbeat s r (now s + msTicks s.kn.leaseMs) (leBytes 8 ownershipObj ++ leBytes 4 s.kn.leaseMs) [] id) ∧
  (∀ s r, Accepted s 0x0007 ownerStatusExe r → s.kn.journal ≠ [] →
    KnReads .knOwnerStatus s r s.kn.leaseEnd
      (ownBytes s.kn ++ leBytes 4 (leaseLeft s) ++ leBytes 4 (if s.kn.target.isSome then msLeft s s.kn.windowEnd else 0) ++
        leBytes 8 (s.kn.seq - 1)) [] id) ∧
  (∀ s r, Accepted s 0x0008 auditReadExe r → s.kn.journal ≠ [] → r.isBulk = true →
    let first := leAt r.params 0 8
    let n := leAt r.params 8 4
    1 ≤ n → n ≤ 8192 →
    let recs := (s.kn.journal.filter (fun o => decide (first ≤ recSeq o ∧ recSeq o < first + n))).reverse
    KnReads .knAuditRead s r s.kn.leaseEnd
      (leBytes 8 ((s.kn.journal.getLast?.map recSeq).getD 0) ++ leBytes 8 (s.kn.seq - 1))
      (recs.take (bulkWindow r.master / 64)).flatten id) ∧
  (∀ s r, Accepted s 0x000B versionExe r → s.boot.runSlot < 2 →
    KnReads .knVersion s r s.kn.leaseEnd
      (leBytes 1 3 ++ leBytes 1 1 ++ leBytes 2 0 ++ leBytes 8 Config.partSerial ++ leBytes 4 (fwSlot s s.boot.runSlot).release ++
        leBytes 1 s.boot.runSlot) [] id) ∧
  (∀ s r, Accepted s 0x0106 evcapReadExe r → evcapSetCmd.objOk s r.obj = true →
    let i := objIdx r.obj - 8
    let n := min (leAt r.params 8 4) 15
    KnReads .knEvcapRead s r (now s + msTicks s.kn.leaseMs) (((capAt s i).fifo.take n).flatMap (leBytes 16)) []
      (fun a => setCap a i { capAt a i with fifo := (capAt a i).fifo.drop n })) ∧
  (∀ s r, Accepted s 0x0308 qsampleReadExe r → objIn 0x02 160 r.obj = true → isAbsent s r.obj = false →
    let k := objIdx r.obj
    KnReads .knQsampleRead s r (now s + msTicks s.kn.leaseMs) (sampleOctets s k) []
      (fun a => { a with eg := { a.eg with qs := tblErase a.eg.qs k } })) ∧
  (∀ s r, Accepted s 0x0702 recFlushExe r → objIn 0x0F 256 r.obj = true →
    KnReads .knRecFlush s r (now s + msTicks s.kn.leaseMs) [] [] (fun a => closeStream a (objIdx r.obj) false)) ∧
  (∀ s r, Accepted s 0x0805 counterReadExe r → leAt r.params 8 1 = 1 → leAt r.params 9 7 = 0 → r.isBulk = false →
    let first := leAt r.params 0 4
    let n := leAt r.params 4 4
    1 ≤ n → n ≤ 8192 →
    KnReads .knCounterRead s r s.kn.leaseEnd
      (leBytes 4 first ++ leBytes 4 n ++ leBytes 8 0 ++
        ((List.range (min n 28)).map (first + ·)).flatMap (fun i => leBytes 8 (statRead s (isOwner s r) i))) [] id) ∧
  (∀ s r x, Accepted s 0x090A configReadExe r → r.isBulk = false → validStore s.boot = some x →
    KnReads .knConfigRead s r s.kn.leaseEnd ((x.bytes.take (leAt x.bytes 16 4)).take 240) [] id)
end

