-- ==== Sys2Proof/Laws/Kn.lean ====
section
/-! SUPPORT. Kn.lean: what the answers of Keanak leave as it was, proved once for each operation they are made of. -/

namespace Sys2Proof.Machine

open Sys2Proof

theorem KnFrame.refl (s : State) : KnFrame s s := by simp [KnFrame]

theorem KnFrame.trans {s t u : State} (h : KnFrame s t) (g : KnFrame t u) : KnFrame s u := by
  unfold KnFrame at *
  obtain ⟨a1, a2, a3, a4, a5, a6, a7, a8, a9, a10, a11, a12, a13, a14, a15, a16, a17, a18, a19, a20, a21⟩ := h
  obtain ⟨b1, b2, b3, b4, b5, b6, b7, b8, b9, b10, b11, b12, b13, b14, b15, b16, b17, b18, b19, b20, b21⟩ := g
  refine ⟨b1.trans a1, b2.trans a2, b3.trans a3, b4.trans a4, b5.trans a5, ?_, b7.trans a7, b8.trans a8, b9.trans a9,
    b10.trans a10, b11.trans a11, b12.trans a12, ?_, b14.trans a14, b15.trans a15, ?_, b17.trans a17, b18.trans a18,
    b19.trans a19, b20.trans a20, b21.trans a21⟩
  · rw [← a6, ← b6]
  · rw [← a13, ← b13]
  · rw [← a16, ← b16]

/-- What goes out changes neither Keanak nor anything that no answer changes. -/
def OutFrame (s t : State) : Prop := KnFrame s t ∧ t.kn = s.kn

theorem OutFrame.refl (s : State) : OutFrame s s := ⟨KnFrame.refl s, rfl⟩

theorem OutFrame.trans {s t u : State} (h : OutFrame s t) (g : OutFrame t u) : OutFrame s u :=
  ⟨h.1.trans g.1, g.2.trans h.2⟩

theorem emit_out (s : State) (o : Output) : OutFrame s (emit s o) := by simp [OutFrame, KnFrame, emit]

theorem signal_out (s : State) (n : Nat) : OutFrame s (signal s n) := by
  unfold signal markVec trySend
  split
  · exact OutFrame.refl s
  · split
    · split <;> simp [OutFrame, KnFrame, emit, setVec]
    · exact OutFrame.refl s

theorem perfN_out (s : State) (i n : Nat) : OutFrame s (perfN s i n) := by
  unfold perfN
  dsimp only
  split
  · simp [OutFrame, KnFrame]
  · exact OutFrame.trans (by simp [OutFrame, KnFrame]) (signal_out _ _)

theorem countN_out (s : State) (f o e n : Nat) : OutFrame s (countN s f o e n) := by simp [countN, OutFrame, KnFrame]

theorem setRtx_out (s : State) (e : RPort) (x : RingTx) : OutFrame s (setRtx s e x) := by
  cases e <;> simp [setRtx, OutFrame, KnFrame]

theorem perf_out (s : State) (i : Nat) : OutFrame s (perf s i) := perfN_out s i 1

theorem countPort_out (s : State) (p e : Nat) : OutFrame s (countPort s p e) := countN_out s 1 p e 1

theorem dropRing_out (s : State) (p e i : Nat) : OutFrame s (perf (countPort s p e) i) :=
  (countPort_out s p e).trans (perf_out _ i)

theorem ringEndPiece_out (s : State) (e : RPort) (l : Level) (c : Nat) : OutFrame s (ringEndPiece s e l c) := by
  unfold ringEndPiece emitPiece
  dsimp only
  split
  · exact OutFrame.refl s
  · exact ((setRtx_out s e _).trans (perf_out _ _)).trans (emit_out _ _)

theorem ringInterrupt_out (s : State) (e : RPort) : OutFrame s (ringInterrupt s e) := by
  unfold ringInterrupt
  split
  · exact OutFrame.refl s
  · dsimp only
    split
    · exact OutFrame.refl s
    · split
      · exact ringEndPiece_out s e _ _
      · exact OutFrame.refl s

theorem ringStart_out (s : State) (e : RPort) (l : Level) (f : RFrame) (h : Option Nat) : OutFrame s (ringStart s e l f h) := by
  unfold ringStart
  dsimp only
  split
  · exact (setRtx_out s e _).trans (emit_out _ _)
  · exact (setRtx_out s e _).trans (countPort_out _ _ _)

theorem startCtl_out (s : State) (e : RPort) (o : Octets) (ts : Nat) : OutFrame s (startCtl s e o ts) := by
  unfold startCtl
  dsimp only
  split
  · refine OutFrame.trans ?_ (ringStart_out _ _ _ _ _)
    cases e <;> simp [setRport, rport, OutFrame, KnFrame]
  · exact ringStart_out _ _ _ _ _

theorem ctlKick_out (s : State) (e : RPort) (ts : Nat) : OutFrame s (ctlKick s e ts) := by
  unfold ctlKick
  dsimp only
  split
  · exact OutFrame.refl s
  · split
    · exact OutFrame.refl s
    · split
      · exact (setRtx_out s e _).trans (startCtl_out _ _ _ _)
      · split
        · exact ringInterrupt_out s e
        · exact OutFrame.refl s

theorem sendCtl_out (s : State) (e : RPort) (o : Octets) (ts : Nat) : OutFrame s (sendCtl s e o ts) :=
  (setRtx_out s e _).trans (ctlKick_out _ _ _)

theorem toTransit_out (s : State) (e : RPort) (l : Level) (f : RFrame) : OutFrame s (toTransit s e l f) := by
  unfold toTransit
  dsimp only
  split
  · exact setRtx_out s e _
  · exact dropRing_out s _ _ _

theorem loopOut_out (s : State) (e : RPort) (l : Level) (f : RFrame) : OutFrame s (loopOut s e l f) := by
  unfold loopOut
  split
  · exact (dropRing_out s _ _ _).trans (toTransit_out _ _ _ _)
  · exact dropRing_out s _ _ _

theorem sendOut_out (s : State) (e : RPort) (o : Octets) : OutFrame s (sendOut s e o) := by
  unfold sendOut
  split
  · exact sendCtl_out _ _ _ _
  · exact loopOut_out _ _ _ _

theorem sendMgmt_out (s : State) (n : Nat) (o : Octets) : OutFrame s (sendMgmt s n o) := by
  unfold sendMgmt
  dsimp only
  split
  · exact OutFrame.refl s
  · exact sendOut_out _ _ _

theorem setMbx_frame (s : State) (m : Nat) (x : Mbx) : KnFrame s (setMbx s m x) := by simp [setMbx, KnFrame]

/-- An answer changes nothing but Keanak's mailboxes and what goes out. -/
theorem answer_frame (s : State) (r : Request) (st d : Nat) (res b : Octets) : KnFrame s (answer s r st d res b) := by
  unfold answer
  dsimp only
  refine KnFrame.trans ?_ (signal_out _ _).1
  refine KnFrame.trans (setMbx_frame s r.master
    { mbxAt s r.master with resp := respImage s r st d res b.length, respBulk := b, state := .done, held := false }) ?_
  split
  · exact (sendMgmt_out _ _ _).1
  · simp [emit, KnFrame]
  · exact KnFrame.refl _

theorem answerBad_frame (n : Nat) : ∀ s : State, KnFrame s (answerBad n s) := by
  induction n with
  | zero => exact fun s => KnFrame.refl s
  | succ n ih =>
    intro s
    rw [answerBad]
    split
    · exact KnFrame.refl s
    · split
      · exact KnFrame.refl s
      · exact ((KnFrame.trans (t := dropRequest s _) (by simp [dropRequest, KnFrame]) (answer_frame _ _ _ _ _ _))).trans (ih _)

end Sys2Proof.Machine
end

