-- ==== Sys2Proof/Laws/Tables.lean ====
section
/-! SUPPORT. Tables.lean: the laws of the sparse tables: reading after writing, and the canonical form that every write keeps (log
entry 7). -/

namespace Sys2Proof.Machine

open Sys2Proof

variable {α : Type}

theorem tblGet_erase_ne (d : α) (t : Tbl α) (k j : Nat) (h : j ≠ k) : tblGet d (tblErase t k) j = tblGet d t j := by
  induction t with
  | nil => rfl
  | cons e t ih =>
    obtain ⟨k', v⟩ := e
    unfold tblErase at ih ⊢
    by_cases hk : k' = k
    · subst hk
      simp only [List.filter_cons, bne_self_eq_false, Bool.false_eq_true, if_false, tblGet, if_neg (Ne.symm h)]
      exact ih
    · have hb : (k' != k) = true := by simpa using hk
      simp only [List.filter_cons, hb, if_true, tblGet]
      split
      · rfl
      · exact ih

theorem tblGet_erase_same (d : α) (t : Tbl α) (k : Nat) : tblGet d (tblErase t k) k = d := by
  induction t with
  | nil => rfl
  | cons e t ih =>
    obtain ⟨k', v⟩ := e
    unfold tblErase at ih ⊢
    by_cases hk : k' = k
    · subst hk
      simpa [List.filter_cons] using ih
    · have hb : (k' != k) = true := by simpa using hk
      simp only [List.filter_cons, hb, if_true, tblGet, if_neg hk]
      exact ih

theorem tblGet_insert_same (d v : α) (t : Tbl α) (k : Nat) (h : ∀ e ∈ t, e.1 ≠ k) : tblGet d (tblInsert k v t) k = v := by
  induction t with
  | nil => simp [tblInsert, tblGet]
  | cons e t ih =>
    obtain ⟨k', v'⟩ := e
    simp only [tblInsert]
    split
    · simp [tblGet]
    · have h1 : k' ≠ k := h (k', v') (by simp)
      simp only [tblGet, if_neg h1]
      exact ih (fun e he => h e (by simp [he]))

theorem tblGet_insert_ne (d v : α) (t : Tbl α) (k j : Nat) (h : j ≠ k) : tblGet d (tblInsert k v t) j = tblGet d t j := by
  induction t with
  | nil => simp [tblInsert, tblGet, Ne.symm h]
  | cons e t ih =>
    obtain ⟨k', v'⟩ := e
    simp only [tblInsert]
    split
    · simp [tblGet, Ne.symm h]
    · simp only [tblGet]
      split
      · rfl
      · exact ih

/-- Reading what was written. -/
theorem tblGet_tblSet_same [DecidableEq α] (d : α) (t : Tbl α) (k : Nat) (v : α) : tblGet d (tblSet d t k v) k = v := by
  unfold tblSet
  split
  · rename_i h
    rw [h]
    exact tblGet_erase_same d t k
  · refine tblGet_insert_same d v _ k ?_
    intro e he
    have := List.of_mem_filter he
    simpa using this

/-- A write leaves every other object alone. -/
theorem tblGet_tblSet_ne [DecidableEq α] (d : α) (t : Tbl α) (k j : Nat) (v : α) (h : j ≠ k) :
    tblGet d (tblSet d t k v) j = tblGet d t j := by
  unfold tblSet
  split
  · exact tblGet_erase_ne d t k j h
  · rw [tblGet_insert_ne d v _ k j h]
    exact tblGet_erase_ne d t k j h

theorem tblWf_erase [DecidableEq α] (d : α) (t : Tbl α) (k : Nat) (h : tblWf d t = true) : tblWf d (tblErase t k) = true := by
  induction t with
  | nil => rfl
  | cons e t ih =>
    obtain ⟨k', v⟩ := e
    simp only [tblWf, Bool.and_eq_true, decide_eq_true_eq, List.all_eq_true] at h
    obtain ⟨⟨h1, h2⟩, h3⟩ := h
    unfold tblErase at ih ⊢
    simp only [List.filter_cons]
    split
    · simp only [tblWf, Bool.and_eq_true, decide_eq_true_eq, List.all_eq_true]
      exact ⟨⟨h1, fun e he => h2 e (List.mem_of_mem_filter he)⟩, ih h3⟩
    · exact ih h3

theorem mem_tblInsert (k : Nat) (v : α) (t : Tbl α) (e : Nat × α) (h : e ∈ tblInsert k v t) : e = (k, v) ∨ e ∈ t := by
  induction t with
  | nil => simpa [tblInsert] using h
  | cons x t ih =>
    obtain ⟨k', v'⟩ := x
    simp only [tblInsert] at h
    split at h
    · simpa using h
    · rcases List.mem_cons.mp h with h | h
      · exact .inr (by simp [h])
      · rcases ih h with h | h
        · exact .inl h
        · exact .inr (by simp [h])

theorem tblWf_insert [DecidableEq α] (d v : α) (t : Tbl α) (k : Nat) (hv : v ≠ d) (hk : ∀ e ∈ t, e.1 ≠ k)
    (h : tblWf d t = true) : tblWf d (tblInsert k v t) = true := by
  induction t with
  | nil => simp [tblInsert, tblWf, hv]
  | cons e t ih =>
    obtain ⟨k', v'⟩ := e
    have h0 := h
    simp only [tblWf, Bool.and_eq_true, decide_eq_true_eq, List.all_eq_true] at h
    obtain ⟨⟨h1, h2⟩, h3⟩ := h
    simp only [tblInsert]
    split
    · rename_i hlt
      rw [tblWf, h0]
      simp only [Bool.and_true, Bool.and_eq_true, decide_eq_true_eq, List.all_eq_true]
      refine ⟨hv, fun e he => ?_⟩
      rcases List.mem_cons.mp he with he | he
      · rw [he]
        exact hlt
      · exact hlt.trans (h2 e he)
    · rename_i hge
      have hne : k' ≠ k := hk (k', v') (by simp)
      simp only [tblWf, Bool.and_eq_true, decide_eq_true_eq, List.all_eq_true]
      refine ⟨⟨h1, fun e he => ?_⟩, ih (fun e he => hk e (by simp [he])) h3⟩
      rcases mem_tblInsert k v t e he with he | he
      · rw [he]
        exact Nat.lt_of_le_of_ne (Nat.le_of_not_lt hge) hne
      · exact h2 e he

/-- Every write of a table keeps the canonical form. -/
theorem tblWf_tblSet [DecidableEq α] (d : α) (t : Tbl α) (k : Nat) (v : α) (h : tblWf d t = true) :
    tblWf d (tblSet d t k v) = true := by
  unfold tblSet
  split
  · exact tblWf_erase d t k h
  · rename_i hv
    refine tblWf_insert d v _ k hv ?_ (tblWf_erase d t k h)
    intro e he
    have := List.of_mem_filter he
    simpa using this

end Sys2Proof.Machine
end

