-- ==== Sys2Proof/Laws/KnRun.lean ====
section
/-! SUPPORT. KnRun.lean: what the execution of an accepted request does, once for every command of Keanak. -/

namespace Sys2Proof.Machine

open Sys2Proof

@[simp] theorem signal_kn (s : State) (n : Nat) : (signal s n).kn = s.kn := (signal_out s n).2

@[simp] theorem perf_kn (s : State) (i : Nat) : (perf s i).kn = s.kn := (perf_out s i).2

@[simp] theorem sendMgmt_kn (s : State) (n : Nat) (o : Octets) : (sendMgmt s n o).kn = s.kn := (sendMgmt_out s n o).2

theorem perf_frame (s : State) (i : Nat) : KnFrame s (perf s i) := (perf_out s i).1

theorem answer_kn (s : State) (r : Request) (st d : Nat) (res b : Octets) :
    (answer s r st d res b).kn = (setMbx s r.master
      { mbxAt s r.master with resp := respImage s r st d res b.length, respBulk := b, state := .done, held := false }).kn := by
  unfold answer
  dsimp only
  rw [signal_kn]
  split
  · rw [sendMgmt_kn]
  · rfl
  · rfl

/-- Answering the requests whose header fails leaves a mailbox alone whose master waits for nothing. -/
theorem answerBad_mbx (n : Nat) : ∀ (s : State) (m : Nat), (∀ x ∈ s.kn.waiting, x.master ≠ m) →
    mbxAt (answerBad n s) m = mbxAt s m ∧ (∀ x ∈ (answerBad n s).kn.waiting, x.master ≠ m) := by
  induction n with
  | zero => exact fun s m h => ⟨rfl, h⟩
  | succ n ih =>
    intro s m h
    rw [answerBad]
    split
    · exact ⟨rfl, h⟩
    · rename_i r hr
      split
      · exact ⟨rfl, h⟩
      · rename_i st _
        have hm : r.master ≠ m := h r (List.mem_of_find?_eq_some hr)
        obtain ⟨h1, h2⟩ := ih (answer (dropRequest s r.master) r st 0 [] []) m (by
          rw [answer_kn]
          exact fun x hx => h x (List.mem_of_mem_filter hx))
        refine ⟨h1.trans ?_, h2⟩
        unfold mbxAt
        rw [answer_kn]
        exact tblGet_tblSet_ne ({} : Mbx) _ _ _ _ (Ne.symm hm)

/-- Answering the requests whose header fails leaves the journal and the lease alone. -/
theorem answerBad_kn (n : Nat) : ∀ s : State, (answerBad n s).kn.journal = s.kn.journal ∧ (answerBad n s).kn.seq = s.kn.seq ∧
    (answerBad n s).kn.chain = s.kn.chain ∧ (answerBad n s).kn.leaseEnd = s.kn.leaseEnd := by
  induction n with
  | zero => exact fun s => ⟨rfl, rfl, rfl, rfl⟩
  | succ n ih =>
    intro s
    rw [answerBad]
    split
    · exact ⟨rfl, rfl, rfl, rfl⟩
    · rename_i r hr
      split
      · exact ⟨rfl, rfl, rfl, rfl⟩
      · rename_i st _
        have h := ih (answer (dropRequest s r.master) r st 0 [] [])
        rw [answer_kn] at h
        exact h

/-- The state in which an accepted request takes its effect. -/
def begun (s : State) (c : Cmd) (r : Request) : State :=
  let s1 := perf (dropRequest s r.master) (pPkg 5)
  if c.cls = .w ∨ c.cls = .o then restartLease s1 else s1

theorem begun_frame (s : State) (c : Cmd) (r : Request) : KnFrame s (begun s c r) := by
  unfold begun
  dsimp only
  have h : KnFrame s (perf (dropRequest s r.master) (pPkg 5)) :=
    KnFrame.trans (t := dropRequest s r.master) (by simp [KnFrame, dropRequest]) (perf_frame _ _)
  split
  · exact h.trans (by simp [KnFrame, restartLease])
  · exact h

theorem preCheck_congr {s t : State} (x : Exe) (c : Cmd) (r : Request) (hb : t.boot = s.boot) (ho : t.kn.owner = s.kn.owner)
    (hn : t.kn.ownerNode = s.kn.ownerNode) : preCheck t x c r = preCheck s x c r := by
  simp [preCheck, isOwner, hb, ho, hn]

/-- An accepted request whose effect is `u` with a result: the row's state, what it leaves, and its answer. -/
theorem runKn_ok {s u : State} {code : Nat} {x : Exe} {c : Cmd} {r : Request} {res bulk : Octets}
    (hn : nextRequest s = some r) (hc : r.cmd = code) (hb : badHeader r = none) (hcmd : cmdOf code = some c)
    (hp : preCheck s x c r = none) (hrun : x.run (begun s c r) r = .ok u res bulk)
    (hw : ∀ y ∈ u.kn.waiting, y.master ≠ r.master) :
    KnFrame u (runKn s code x) ∧ (runKn s code x).kn.leaseEnd = u.kn.leaseEnd ∧ (runKn s code x).kn.journal = u.kn.journal ∧
      (runKn s code x).kn.seq = u.kn.seq ∧ (runKn s code x).kn.chain = u.kn.chain ∧
      Answered u (runKn s code x) r 0 0 ((if c.cls = .w ∧ u.kn.seq ≠ s.kn.seq then leBytes 8 s.kn.seq else []) ++ res) bulk := by
  have hpre : preCheck (perf (dropRequest s r.master) (pPkg 5)) x c r = none := by
    rw [preCheck_congr x c r (s := s) (t := perf (dropRequest s r.master) (pPkg 5)) ?_ ?_ ?_]
    · exact hp
    · have h := perf_frame (dropRequest s r.master) (pPkg 5)
      exact h.2.2.2.2.2.2.2.2.2.2.2.2.2.2.2.2.2.1.trans rfl
    · rw [perf_kn]; rfl
    · rw [perf_kn]; rfl
  have hex : execRequest s x c r = finish (begun s c r) c r s.kn.seq (.ok u res bulk) := by
    unfold execRequest begun
    dsimp only
    rw [hpre]
    dsimp only
    have hrun' := hrun
    unfold begun at hrun'
    dsimp only at hrun'
    rw [hrun']
  have hrow : runKn s code x = answerBad (execRequest s x c r).kn.waiting.length (execRequest s x c r) := by
    unfold runKn
    rw [hn, hcmd]
    simp [hc, hb]
  rw [hrow, hex]
  simp only [finish]
  generalize hres : (if c.cls = .w ∧ u.kn.seq ≠ s.kn.seq then leBytes 8 s.kn.seq else []) ++ res = rr
  have hkn := answer_kn u r 0 0 rr bulk
  obtain ⟨hm, hwt⟩ := answerBad_mbx (answer u r 0 0 rr bulk).kn.waiting.length (answer u r 0 0 rr bulk) r.master
    (by rw [hkn]; exact hw)
  obtain ⟨hj, hs, hch, hl⟩ := answerBad_kn (answer u r 0 0 rr bulk).kn.waiting.length (answer u r 0 0 rr bulk)
  refine ⟨(answer_frame u r 0 0 rr bulk).trans (answerBad_frame _ _), ?_, ?_, ?_, ?_, ?_⟩
  · rw [hl, hkn]; rfl
  · rw [hj, hkn]; rfl
  · rw [hs, hkn]; rfl
  · rw [hch, hkn]; rfl
  · unfold Answered
    rw [hm]
    have hx : mbxAt (answer u r 0 0 rr bulk) r.master =
        { mbxAt u r.master with resp := respImage u r 0 0 rr bulk.length, respBulk := bulk, state := .done, held := false } := by
      unfold mbxAt
      rw [hkn]
      exact tblGet_tblSet_same ({} : Mbx) _ _ _
    rw [hx]
    exact ⟨rfl, rfl, rfl, rfl, hwt⟩

end Sys2Proof.Machine
end

