-- ==== Sys2Proof/Laws/KnSet.lean ====
section
/-! SUPPORT. KnSet.lean: what a set command does once it is accepted, for every set command at once. -/

namespace Sys2Proof.Machine

open Sys2Proof

theorem KnFrame.kn_eq {s t : State} (h : KnFrame s t) :
    { t.kn with mbx := s.kn.mbx, waiting := s.kn.waiting, leaseEnd := s.kn.leaseEnd, journal := s.kn.journal, seq := s.kn.seq,
                chain := s.kn.chain, mirror := s.kn.mirror } = s.kn :=
  h.2.2.2.2.2.2.2.2.2.2.2.2.2.2.2.1

theorem KnFrame.regs_eq {s t : State} (h : KnFrame s t) : t.regs = s.regs := h.2.2.1
theorem KnFrame.time_eq {s t : State} (h : KnFrame s t) : t.time = s.time := h.2.2.2.1
theorem KnFrame.clk_eq {s t : State} (h : KnFrame s t) : t.clk = s.clk := h.2.1
theorem KnFrame.flt_eq {s t : State} (h : KnFrame s t) : t.flt = s.flt := h.2.2.2.2.2.2.2.2.2.2.2.2.2.2.2.2.1
theorem KnFrame.boot_eq {s t : State} (h : KnFrame s t) : t.boot = s.boot := h.2.2.2.2.2.2.2.2.2.2.2.2.2.2.2.2.2.1

theorem KnFrame.owner_eq {s t : State} (h : KnFrame s t) : t.kn.owner = s.kn.owner := by rw [← h.kn_eq]
theorem KnFrame.ownerNode_eq {s t : State} (h : KnFrame s t) : t.kn.ownerNode = s.kn.ownerNode := by rw [← h.kn_eq]
theorem KnFrame.steward_eq {s t : State} (h : KnFrame s t) : t.kn.steward = s.kn.steward := by rw [← h.kn_eq]
theorem KnFrame.leaseMs_eq {s t : State} (h : KnFrame s t) : t.kn.leaseMs = s.kn.leaseMs := by rw [← h.kn_eq]

/-- The turn of a command that changes a configuration comes only while its record can be written (R22, R27). -/
theorem mramUp_of_next {s : State} {r : Request} {k : Cmd} (h : nextRequest s = some r) (hk : cmdOf r.cmd = some k) (hw : k.cls = .w) :
    mramUp s = true := by
  have h1 := List.find?_some h
  have hn : needsMram k = true := by simp [needsMram, hw]
  simp only [heldNow, hk, hn, Bool.true_and, Bool.not_eq_true', Bool.or_eq_false_iff] at h1
  simpa using h1.2.1

theorem begun_kn (s : State) (c : Cmd) (r : Request) : (begun s c r).kn =
    { (dropRequest s r.master).kn with leaseEnd := if c.cls = .w ∨ c.cls = .o then now s + msTicks s.kn.leaseMs else s.kn.leaseEnd } := by
  unfold begun
  dsimp only
  split
  · unfold restartLease
    dsimp only
    rw [perf_kn]
    have : now (perf (dropRequest s r.master) (pPkg 5)) = now s := by
      unfold now
      rw [(perf_frame (dropRequest s r.master) (pPkg 5)).clk_eq]
      rfl
    rw [this]
    rfl
  · rw [perf_kn]
    rfl

theorem begun_waiting (s : State) (c : Cmd) (r : Request) : ∀ y ∈ (begun s c r).kn.waiting, y.master ≠ r.master := by
  rw [begun_kn]
  intro y hy
  simpa using List.of_mem_filter hy

/-- The record of a change while the Control region reaches the MRAM (R401, R402, R404). -/
theorem auditChange_kn (s : State) (r : Request) (obj : Nat) (old new : Option Octets) (h : mramUp s = true) :
    (auditChange s r obj old new).kn =
      (writeRecord s (auditFlags s (changeBody s r obj old new) 0) (nt16 s)).kn := by
  unfold auditChange writeAudit
  rw [if_pos h]

theorem writeRecord_frame (s : State) (b : Octets) (t : Nat) : KnFrame s (writeRecord s b t) := by
  unfold writeRecord
  dsimp only
  refine KnFrame.trans ?_ (perf_frame _ _)
  simp [KnFrame]

theorem auditChange_frame (s : State) (r : Request) (obj : Nat) (old new : Option Octets) (h : mramUp s = true) :
    KnFrame s (auditChange s r obj old new) := by
  unfold auditChange writeAudit
  rw [if_pos h]
  exact writeRecord_frame _ _ _

/-- A record made in a state that agrees with `s` on what records show is the record of `s`. -/
theorem recorded_of {s a : State} {b : Octets} (h : KnFrame s a) (hj : a.kn.journal = s.kn.journal) (hs : a.kn.seq = s.kn.seq)
    (hc : a.kn.chain = s.kn.chain) : Recorded s (writeRecord a (auditFlags a b 0) (nt16 a)) b := by
  unfold Recorded writeRecord
  dsimp only
  rw [perf_kn]
  simp only [auditRecord, auditFlags, nt16, h.time_eq, hj, hs, hc]
  trivial

theorem changeBody_congr {s a : State} (h : KnFrame s a) (r : Request) (o : Nat) (x y : Option Octets) :
    changeBody a r o x y = changeBody s r o x y := by
  simp [changeBody, stewardFlag, h.owner_eq, h.steward_eq]

theorem isAbsent_congr {s a : State} (h : KnFrame s a) (o : Nat) : isAbsent a o = isAbsent s o := by
  simp [isAbsent, h.flt_eq]

theorem begun_lease_w (s : State) {c : Cmd} (r : Request) (h : c.cls = .w) :
    (begun s c r).kn.leaseEnd = now s + msTicks s.kn.leaseMs := by rw [begun_kn]; simp [h]

/-- What every accepted set command that takes effect at once does. -/
theorem knSets_of {i : Instr} {s : State} {r : Request} {code : Nat} {k : Cmd} {c : SetCmd} {f : State → State}
    (h : SetAccepted s code c r) (hk : cmdOf code = some k) (hw : k.cls = .w) (hst : c.staged = false)
    (hrow : exec i s = .next { runKn s code c.exe with pending := s.pending })
    (hobj : ∀ a, KnFrame s a → c.objOk a r.obj = c.objOk s r.obj)
    (hget : ∀ a, KnFrame s a → c.get a r.obj = c.get s r.obj)
    (hput : ∀ a, KnFrame s a → c.put a r r.obj (c.vals s r) = .ok (f a))
    (hread : ∀ a, KnFrame s a → c.read (f a) r.obj = c.read (f s) r.obj)
    (hkn : ∀ a, KnFrame s a → (f a).kn = a.kn) (hp : ∀ a, KnFrame s a → (f a).pending = s.pending) : KnSets i s r c f := by
  obtain ⟨⟨hn, hc, hb, hpre'⟩, ho, hchk, habs⟩ := h
  have hpre : preCheck s c.exe k r = none := by rw [hk] at hpre'; exact Option.some.inj hpre'
  have hfr := begun_frame s k r
  have hin : mramUp (begun s k r) = true := by
    unfold mramUp inService
    rw [hfr.regs_eq, hfr.clk_eq]
    exact mramUp_of_next hn (hc ▸ hk) hw
  generalize hbody : c.body s r f = body
  let a := auditChange (begun s k r) r r.obj (some (c.read s r.obj)) (some (c.read (f s) r.obj))
  have hfa : KnFrame s a := hfr.trans (auditChange_frame _ _ _ _ _ hin)
  have hkna : a.kn = (writeRecord (begun s k r) (auditFlags (begun s k r) body 0) (nt16 (begun s k r))).kn := by
    show (auditChange _ _ _ _ _).kn = _
    rw [auditChange_kn _ _ _ _ _ hin, changeBody_congr hfr, ← hbody]
    rfl
  have hj : (begun s k r).kn.journal = s.kn.journal := by rw [begun_kn]; rfl
  have hs : (begun s k r).kn.seq = s.kn.seq := by rw [begun_kn]; rfl
  have hch : (begun s k r).kn.chain = s.kn.chain := by rw [begun_kn]; rfl
  have hrec : Recorded s a body := by
    have := recorded_of (b := body) hfr hj hs hch
    unfold Recorded at this ⊢
    rw [hkna]
    exact this
  have hrun : c.exe.run (begun s k r) r = .ok (f a) [] [] := by
    show c.run (begun s k r) r = _
    unfold SetCmd.run
    have hv : pMerge (c.defs r.obj) r.params r.mask (c.get (begun s k r) r.obj) = c.vals s r := by
      rw [hget _ hfr]
      rfl
    have hr0 : c.read (begun s k r) r.obj = c.read s r.obj := by
      unfold SetCmd.read
      rw [hget _ hfr]
    simp only [hobj _ hfr, ho, Bool.not_true, Bool.false_eq_true, if_false, hchk, isAbsent_congr hfr, habs, hv, hput _ hfr, hst, hr0,
      hread _ hfr]
    have := hput _ hfa
    simp only [a] at this
    rw [this]
  have hkf := hkn a hfa
  have hlease : a.kn.leaseEnd = now s + msTicks s.kn.leaseMs := by
    rw [hkna]
    unfold writeRecord
    dsimp only
    rw [perf_kn]
    exact begun_lease_w s r hw
  have hwait : ∀ y ∈ (f a).kn.waiting, y.master ≠ r.master := by
    rw [hkf, hkna]
    unfold writeRecord
    dsimp only
    rw [perf_kn]
    exact begun_waiting s k r
  obtain ⟨h1, h2, h3, h4, _, h6⟩ := runKn_ok hn hc hb hk hpre hrun hwait
  refine ⟨a, { runKn s code c.exe with pending := s.pending }, hfa, hlease, hbody ▸ hrec, hrow, ?_, h2, h3, h4, ?_⟩
  · have hpp := hp a hfa
    unfold KnFrame at h1 ⊢
    obtain ⟨b1, b2, b3, b4, b5, b6, b7, b8, b9, b10, b11, b12, b13, b14, b15, b16, b17, b18, b19, b20, b21⟩ := h1
    exact ⟨b1, b2, b3, b4, b5, b6, b7, b8, b9, b10, b11, b12, b13, b14, b15, b16, b17, b18, b19, b20, hpp.symm⟩
  · have hseq : (f a).kn.seq ≠ s.kn.seq := by
      rw [hkf, hrec.2]
      omega
    rw [if_pos ⟨hw, hseq⟩] at h6
    exact h6

end Sys2Proof.Machine
end

