-- ==== Sys2Proof/Laws/Exec.lean ====
section
/-! SUPPORT. Exec.lean: what every command's meaning has in common: its effect where its operands are in range, on the queue as it
stood. -/

namespace Sys2Proof.Machine

open Sys2Proof

theorem checked_good {ok : Bool} (s t : State) (h : ok = true) : checked ok s t = .next (keeping s t) := by
  subst h; rfl

theorem checked_bad {ok : Bool} (s t : State) (h : ok = false) : checked ok s t = .fault .illFormed := by
  subst h; rfl

@[simp] theorem keeping_pending (s t : State) : (keeping s t).pending = s.pending := rfl

/-- Every command's meaning is an effect that its operands' ranges guard. -/
theorem exec_checked (i : Instr) (s : State) : ∃ t, exec i s = checked (Instr.wf i) s t := by
  cases i <;> exact ⟨_, rfl⟩

/-- Each row of the catalogue runs Keanak with its code. -/
theorem exec_knRows (data : Option Octets) (s : State) :
    ∀ x ∈ knRows data, exec x.1 s = .next (keeping s (runKn s x.2.1 x.2.2)) := by
  intro x hx
  simp only [knRows, knRowsOwner, knRowsTime, knRowsEgress, knRowsPorts, knRowsFaults, List.cons_append, List.nil_append,
    List.mem_cons, List.not_mem_nil, or_false] at hx
  rcases hx with h | h | h | h | h | h | h | h | h | h | h | h | h | h | h | h | h | h | h | h | h | h | h | h | h | h | h | h | h | h |
    h | h | h | h | h | h | h | h | h | h | h | h | h | h | h | h | h | h | h | h | h | h | h | h | h | h | h | h | h | h | h | h | h |
    h | h | h | h | h | h | h | h | h | h | h | h <;> (subst h; rfl)

/-- A response's image shows no more of the part than ownership and fallback (R390). -/
theorem respImage_congr {s a : State} (h : KnFrame s a) (r : Request) (st d : Nat) (res : Octets) (n : Nat) :
    respImage a r st d res n = respImage s r st d res n := by
  simp only [respImage, fallbackReason, ownerCode, ownerNodeCode, h.boot_eq, h.owner_eq, h.ownerNode_eq]

/-- Where it is not this command's turn, its row leaves the part as it is (R393). -/
theorem runKn_idle {s : State} {code : Nat} (x : Exe)
    (h : ∀ r, nextRequest s = some r → r.cmd ≠ code ∨ (badHeader r).isSome = true) : runKn s code x = s := by
  unfold runKn
  split
  · rename_i r c hr hc
    rw [if_neg]
    rintro ⟨h1, h2⟩
    rcases h r hr with h3 | h3
    · exact h3 h1
    · simp [h2] at h3
  · rfl

/-- A request that fails a check of R391 is answered with the check's status, and that is all. -/
theorem runKn_refused {s : State} {code st : Nat} {x : Exe} {c : Cmd} {r : Request} (hn : nextRequest s = some r)
    (hc : r.cmd = code) (hb : badHeader r = none) (hcmd : cmdOf code = some c) (hp : preCheck s x c r = some st) :
    KnFrame s (runKn s code x) ∧ Unrecorded s (runKn s code x) ∧ (runKn s code x).kn.leaseEnd = s.kn.leaseEnd ∧
      Answered s (runKn s code x) r st 0 [] [] := by
  have hf : KnFrame s (perf (dropRequest s r.master) (pPkg 5)) :=
    KnFrame.trans (t := dropRequest s r.master) (by simp [KnFrame, dropRequest]) (perf_frame _ _)
  have hrow : runKn s code x =
      answerBad (answer (perf (dropRequest s r.master) (pPkg 5)) r st 0 [] []).kn.waiting.length
        (answer (perf (dropRequest s r.master) (pPkg 5)) r st 0 [] []) := by
    unfold runKn
    rw [hn, hcmd]
    simp only [hc, hb, and_self, if_true]
    have hx : execRequest s x c r = answer (perf (dropRequest s r.master) (pPkg 5)) r st 0 [] [] := by
      unfold execRequest
      dsimp only
      rw [preCheck_congr x c r (s := s) hf.boot_eq hf.owner_eq hf.ownerNode_eq, hp]
      rfl
    rw [hx]
  rw [hrow]
  generalize ha : answer (perf (dropRequest s r.master) (pPkg 5)) r st 0 [] [] = a
  have hak := answer_kn (perf (dropRequest s r.master) (pPkg 5)) r st 0 [] []
  rw [ha] at hak
  have haf : KnFrame s a := hf.trans (ha ▸ answer_frame _ r st 0 [] [])
  have hw : ∀ y ∈ a.kn.waiting, y.master ≠ r.master := by
    rw [hak, setMbx, perf_kn]
    intro y hy
    simpa using (List.mem_filter.mp hy).2
  obtain ⟨h1, h2⟩ := answerBad_mbx a.kn.waiting.length a r.master hw
  obtain ⟨g1, g2, g3, g4⟩ := answerBad_kn a.kn.waiting.length a
  have hm : mbxAt a r.master =
      { mbxAt s r.master with resp := respImage s r st 0 [] 0, respBulk := [], state := .done, held := false } := by
    have he : mbxAt a r.master = mbxAt (setMbx (perf (dropRequest s r.master) (pPkg 5)) r.master
        { mbxAt (perf (dropRequest s r.master) (pPkg 5)) r.master with
          resp := respImage (perf (dropRequest s r.master) (pPkg 5)) r st 0 [] 0, respBulk := [], state := .done, held := false })
        r.master := by
      unfold mbxAt
      rw [hak]
      rfl
    rw [he, mbxAt, setMbx, tblGet_tblSet_same, respImage_congr hf]
    simp only [mbxAt, perf_kn]
    rfl
  refine ⟨haf.trans (answerBad_frame _ _), ⟨?_, ?_, ?_⟩, ?_, ?_⟩
  · rw [g1, hak, setMbx, perf_kn]; rfl
  · rw [g2, hak, setMbx, perf_kn]; rfl
  · rw [g3, hak, setMbx, perf_kn]; rfl
  · rw [g4, hak, setMbx, perf_kn]; rfl
  · unfold Answered
    rw [h1, hm]
    exact ⟨rfl, rfl, rfl, rfl, h2⟩

end Sys2Proof.Machine
end

