-- ==== Sys2Proof/Laws/State.lean ====
section
/-! SUPPORT. State.lean: what each update of one entry leaves as it was, one lemma for each field of the state and of the part it
changes, and what the entry reads as after it. -/

namespace Sys2Proof.Machine

open Sys2Proof

/-! ### emit -/

@[simp] theorem emit_pending (s : State) (o : Output) : (emit s o).pending = s.pending := rfl
@[simp] theorem emit_free (s : State) (o : Output) : (emit s o).free = s.free := rfl
@[simp] theorem emit_clk (s : State) (o : Output) : (emit s o).clk = s.clk := rfl
@[simp] theorem emit_regs (s : State) (o : Output) : (emit s o).regs = s.regs := rfl
@[simp] theorem emit_time (s : State) (o : Output) : (emit s o).time = s.time := rfl
@[simp] theorem emit_cyc (s : State) (o : Output) : (emit s o).cyc = s.cyc := rfl
@[simp] theorem emit_ring (s : State) (o : Output) : (emit s o).ring = s.ring := rfl
@[simp] theorem emit_cls (s : State) (o : Output) : (emit s o).cls = s.cls := rfl
@[simp] theorem emit_meters (s : State) (o : Output) : (emit s o).meters = s.meters := rfl
@[simp] theorem emit_metersWas (s : State) (o : Output) : (emit s o).metersWas = s.metersWas := rfl
@[simp] theorem emit_vat (s : State) (o : Output) : (emit s o).vat = s.vat := rfl
@[simp] theorem emit_eg (s : State) (o : Output) : (emit s o).eg = s.eg := rfl
@[simp] theorem emit_frer (s : State) (o : Output) : (emit s o).frer = s.frer := rfl
@[simp] theorem emit_ports (s : State) (o : Output) : (emit s o).ports = s.ports := rfl
@[simp] theorem emit_host (s : State) (o : Output) : (emit s o).host = s.host := rfl
@[simp] theorem emit_dma (s : State) (o : Output) : (emit s o).dma = s.dma := rfl
@[simp] theorem emit_geley (s : State) (o : Output) : (emit s o).geley = s.geley := rfl
@[simp] theorem emit_kn (s : State) (o : Output) : (emit s o).kn = s.kn := rfl
@[simp] theorem emit_flt (s : State) (o : Output) : (emit s o).flt = s.flt := rfl
@[simp] theorem emit_ctr (s : State) (o : Output) : (emit s o).ctr = s.ctr := rfl
@[simp] theorem emit_boot (s : State) (o : Output) : (emit s o).boot = s.boot := rfl
@[simp] theorem emit_sched (s : State) (o : Output) : (emit s o).sched = s.sched := rfl
@[simp] theorem emit_pins (s : State) (o : Output) : (emit s o).pins = s.pins := rfl

/-! ### countN -/

@[simp] theorem countN_pending (s : State) (f o e n : Nat) : (countN s f o e n).pending = s.pending := rfl
@[simp] theorem countN_trace (s : State) (f o e n : Nat) : (countN s f o e n).trace = s.trace := rfl
@[simp] theorem countN_free (s : State) (f o e n : Nat) : (countN s f o e n).free = s.free := rfl
@[simp] theorem countN_clk (s : State) (f o e n : Nat) : (countN s f o e n).clk = s.clk := rfl
@[simp] theorem countN_regs (s : State) (f o e n : Nat) : (countN s f o e n).regs = s.regs := rfl
@[simp] theorem countN_time (s : State) (f o e n : Nat) : (countN s f o e n).time = s.time := rfl
@[simp] theorem countN_cyc (s : State) (f o e n : Nat) : (countN s f o e n).cyc = s.cyc := rfl
@[simp] theorem countN_ring (s : State) (f o e n : Nat) : (countN s f o e n).ring = s.ring := rfl
@[simp] theorem countN_cls (s : State) (f o e n : Nat) : (countN s f o e n).cls = s.cls := rfl
@[simp] theorem countN_meters (s : State) (f o e n : Nat) : (countN s f o e n).meters = s.meters := rfl
@[simp] theorem countN_metersWas (s : State) (f o e n : Nat) : (countN s f o e n).metersWas = s.metersWas := rfl
@[simp] theorem countN_vat (s : State) (f o e n : Nat) : (countN s f o e n).vat = s.vat := rfl
@[simp] theorem countN_eg (s : State) (f o e n : Nat) : (countN s f o e n).eg = s.eg := rfl
@[simp] theorem countN_frer (s : State) (f o e n : Nat) : (countN s f o e n).frer = s.frer := rfl
@[simp] theorem countN_ports (s : State) (f o e n : Nat) : (countN s f o e n).ports = s.ports := rfl
@[simp] theorem countN_host (s : State) (f o e n : Nat) : (countN s f o e n).host = s.host := rfl
@[simp] theorem countN_dma (s : State) (f o e n : Nat) : (countN s f o e n).dma = s.dma := rfl
@[simp] theorem countN_geley (s : State) (f o e n : Nat) : (countN s f o e n).geley = s.geley := rfl
@[simp] theorem countN_kn (s : State) (f o e n : Nat) : (countN s f o e n).kn = s.kn := rfl
@[simp] theorem countN_flt (s : State) (f o e n : Nat) : (countN s f o e n).flt = s.flt := rfl
@[simp] theorem countN_boot (s : State) (f o e n : Nat) : (countN s f o e n).boot = s.boot := rfl
@[simp] theorem countN_sched (s : State) (f o e n : Nat) : (countN s f o e n).sched = s.sched := rfl
@[simp] theorem countN_pins (s : State) (f o e n : Nat) : (countN s f o e n).pins = s.pins := rfl
@[simp] theorem countN_ctr_perf (s : State) (f o e n : Nat) : (countN s f o e n).ctr.perf = s.ctr.perf := rfl

/-! ### setQ -/

@[simp] theorem setQ_pending (s : State) (q : Nat) (x : QReg) : (setQ s q x).pending = s.pending := rfl
@[simp] theorem setQ_trace (s : State) (q : Nat) (x : QReg) : (setQ s q x).trace = s.trace := rfl
@[simp] theorem setQ_free (s : State) (q : Nat) (x : QReg) : (setQ s q x).free = s.free := rfl
@[simp] theorem setQ_clk (s : State) (q : Nat) (x : QReg) : (setQ s q x).clk = s.clk := rfl
@[simp] theorem setQ_regs (s : State) (q : Nat) (x : QReg) : (setQ s q x).regs = s.regs := rfl
@[simp] theorem setQ_time (s : State) (q : Nat) (x : QReg) : (setQ s q x).time = s.time := rfl
@[simp] theorem setQ_cyc (s : State) (q : Nat) (x : QReg) : (setQ s q x).cyc = s.cyc := rfl
@[simp] theorem setQ_ring (s : State) (q : Nat) (x : QReg) : (setQ s q x).ring = s.ring := rfl
@[simp] theorem setQ_cls (s : State) (q : Nat) (x : QReg) : (setQ s q x).cls = s.cls := rfl
@[simp] theorem setQ_meters (s : State) (q : Nat) (x : QReg) : (setQ s q x).meters = s.meters := rfl
@[simp] theorem setQ_metersWas (s : State) (q : Nat) (x : QReg) : (setQ s q x).metersWas = s.metersWas := rfl
@[simp] theorem setQ_vat (s : State) (q : Nat) (x : QReg) : (setQ s q x).vat = s.vat := rfl
@[simp] theorem setQ_eg (s : State) (q : Nat) (x : QReg) : (setQ s q x).eg = s.eg := rfl
@[simp] theorem setQ_frer (s : State) (q : Nat) (x : QReg) : (setQ s q x).frer = s.frer := rfl
@[simp] theorem setQ_ports (s : State) (q : Nat) (x : QReg) : (setQ s q x).ports = s.ports := rfl
@[simp] theorem setQ_host (s : State) (q : Nat) (x : QReg) : (setQ s q x).host = s.host := rfl
@[simp] theorem setQ_geley (s : State) (q : Nat) (x : QReg) : (setQ s q x).geley = s.geley := rfl
@[simp] theorem setQ_kn (s : State) (q : Nat) (x : QReg) : (setQ s q x).kn = s.kn := rfl
@[simp] theorem setQ_flt (s : State) (q : Nat) (x : QReg) : (setQ s q x).flt = s.flt := rfl
@[simp] theorem setQ_ctr (s : State) (q : Nat) (x : QReg) : (setQ s q x).ctr = s.ctr := rfl
@[simp] theorem setQ_boot (s : State) (q : Nat) (x : QReg) : (setQ s q x).boot = s.boot := rfl
@[simp] theorem setQ_sched (s : State) (q : Nat) (x : QReg) : (setQ s q x).sched = s.sched := rfl
@[simp] theorem setQ_pins (s : State) (q : Nat) (x : QReg) : (setQ s q x).pins = s.pins := rfl
@[simp] theorem setQ_dma_jobs (s : State) (q : Nat) (x : QReg) : (setQ s q x).dma.jobs = s.dma.jobs := rfl
@[simp] theorem setQ_dma_reads (s : State) (q : Nat) (x : QReg) : (setQ s q x).dma.reads = s.dma.reads := rfl
@[simp] theorem setQ_dma_lastCluster (s : State) (q : Nat) (x : QReg) : (setQ s q x).dma.lastCluster = s.dma.lastCluster := rfl
@[simp] theorem setQ_dma_lastChan (s : State) (q : Nat) (x : QReg) : (setQ s q x).dma.lastChan = s.dma.lastChan := rfl
@[simp] theorem setQ_dma_lastBeat (s : State) (q : Nat) (x : QReg) : (setQ s q x).dma.lastBeat = s.dma.lastBeat := rfl
@[simp] theorem setQ_dma_owed (s : State) (q : Nat) (x : QReg) : (setQ s q x).dma.owed = s.dma.owed := rfl
@[simp] theorem setQ_dma_chOff (s : State) (q : Nat) (x : QReg) : (setQ s q x).dma.chOff = s.dma.chOff := rfl
@[simp] theorem setQ_dma_drainMs (s : State) (q : Nat) (x : QReg) : (setQ s q x).dma.drainMs = s.dma.drainMs := rfl

/-! ### setGate -/

@[simp] theorem setGate_pending (s : State) (p : Nat) (x : Gate) : (setGate s p x).pending = s.pending := rfl
@[simp] theorem setGate_trace (s : State) (p : Nat) (x : Gate) : (setGate s p x).trace = s.trace := rfl
@[simp] theorem setGate_free (s : State) (p : Nat) (x : Gate) : (setGate s p x).free = s.free := rfl
@[simp] theorem setGate_clk (s : State) (p : Nat) (x : Gate) : (setGate s p x).clk = s.clk := rfl
@[simp] theorem setGate_regs (s : State) (p : Nat) (x : Gate) : (setGate s p x).regs = s.regs := rfl
@[simp] theorem setGate_time (s : State) (p : Nat) (x : Gate) : (setGate s p x).time = s.time := rfl
@[simp] theorem setGate_cyc (s : State) (p : Nat) (x : Gate) : (setGate s p x).cyc = s.cyc := rfl
@[simp] theorem setGate_ring (s : State) (p : Nat) (x : Gate) : (setGate s p x).ring = s.ring := rfl
@[simp] theorem setGate_cls (s : State) (p : Nat) (x : Gate) : (setGate s p x).cls = s.cls := rfl
@[simp] theorem setGate_meters (s : State) (p : Nat) (x : Gate) : (setGate s p x).meters = s.meters := rfl
@[simp] theorem setGate_metersWas (s : State) (p : Nat) (x : Gate) : (setGate s p x).metersWas = s.metersWas := rfl
@[simp] theorem setGate_vat (s : State) (p : Nat) (x : Gate) : (setGate s p x).vat = s.vat := rfl
@[simp] theorem setGate_frer (s : State) (p : Nat) (x : Gate) : (setGate s p x).frer = s.frer := rfl
@[simp] theorem setGate_ports (s : State) (p : Nat) (x : Gate) : (setGate s p x).ports = s.ports := rfl
@[simp] theorem setGate_host (s : State) (p : Nat) (x : Gate) : (setGate s p x).host = s.host := rfl
@[simp] theorem setGate_dma (s : State) (p : Nat) (x : Gate) : (setGate s p x).dma = s.dma := rfl
@[simp] theorem setGate_geley (s : State) (p : Nat) (x : Gate) : (setGate s p x).geley = s.geley := rfl
@[simp] theorem setGate_kn (s : State) (p : Nat) (x : Gate) : (setGate s p x).kn = s.kn := rfl
@[simp] theorem setGate_flt (s : State) (p : Nat) (x : Gate) : (setGate s p x).flt = s.flt := rfl
@[simp] theorem setGate_ctr (s : State) (p : Nat) (x : Gate) : (setGate s p x).ctr = s.ctr := rfl
@[simp] theorem setGate_boot (s : State) (p : Nat) (x : Gate) : (setGate s p x).boot = s.boot := rfl
@[simp] theorem setGate_sched (s : State) (p : Nat) (x : Gate) : (setGate s p x).sched = s.sched := rfl
@[simp] theorem setGate_pins (s : State) (p : Nat) (x : Gate) : (setGate s p x).pins = s.pins := rfl
@[simp] theorem setGate_eg_queues (s : State) (p : Nat) (x : Gate) : (setGate s p x).eg.queues = s.eg.queues := rfl
@[simp] theorem setGate_eg_cfg (s : State) (p : Nat) (x : Gate) : (setGate s p x).eg.cfg = s.eg.cfg := rfl
@[simp] theorem setGate_eg_sched (s : State) (p : Nat) (x : Gate) : (setGate s p x).eg.sched = s.eg.sched := rfl
@[simp] theorem setGate_eg_drr (s : State) (p : Nat) (x : Gate) : (setGate s p x).eg.drr = s.eg.drr := rfl
@[simp] theorem setGate_eg_wfq (s : State) (p : Nat) (x : Gate) : (setGate s p x).eg.wfq = s.eg.wfq := rfl
@[simp] theorem setGate_eg_shapers (s : State) (p : Nat) (x : Gate) : (setGate s p x).eg.shapers = s.eg.shapers := rfl
@[simp] theorem setGate_eg_binds (s : State) (p : Nat) (x : Gate) : (setGate s p x).eg.binds = s.eg.binds := rfl
@[simp] theorem setGate_eg_lastRefill (s : State) (p : Nat) (x : Gate) : (setGate s p x).eg.lastRefill = s.eg.lastRefill := rfl
@[simp] theorem setGate_eg_qsPeriod (s : State) (p : Nat) (x : Gate) : (setGate s p x).eg.qsPeriod = s.eg.qsPeriod := rfl
@[simp] theorem setGate_eg_qsE (s : State) (p : Nat) (x : Gate) : (setGate s p x).eg.qsE = s.eg.qsE := rfl
@[simp] theorem setGate_eg_qsNext (s : State) (p : Nat) (x : Gate) : (setGate s p x).eg.qsNext = s.eg.qsNext := rfl
@[simp] theorem setGate_eg_qs (s : State) (p : Nat) (x : Gate) : (setGate s p x).eg.qs = s.eg.qs := rfl
@[simp] theorem setGate_eg_qsTick (s : State) (p : Nat) (x : Gate) : (setGate s p x).eg.qsTick = s.eg.qsTick := rfl
@[simp] theorem setGate_eg_qsOld (s : State) (p : Nat) (x : Gate) : (setGate s p x).eg.qsOld = s.eg.qsOld := rfl
@[simp] theorem setGate_eg_mac (s : State) (p : Nat) (x : Gate) : (setGate s p x).eg.mac = s.eg.mac := rfl
@[simp] theorem setGate_eg_pre (s : State) (p : Nat) (x : Gate) : (setGate s p x).eg.pre = s.eg.pre := rfl
@[simp] theorem setGate_eg_pause (s : State) (p : Nat) (x : Gate) : (setGate s p x).eg.pause = s.eg.pause := rfl

/-! ### setPre -/

@[simp] theorem setPre_pending (s : State) (p : Nat) (x : Preempt) : (setPre s p x).pending = s.pending := rfl
@[simp] theorem setPre_trace (s : State) (p : Nat) (x : Preempt) : (setPre s p x).trace = s.trace := rfl
@[simp] theorem setPre_free (s : State) (p : Nat) (x : Preempt) : (setPre s p x).free = s.free := rfl
@[simp] theorem setPre_clk (s : State) (p : Nat) (x : Preempt) : (setPre s p x).clk = s.clk := rfl
@[simp] theorem setPre_regs (s : State) (p : Nat) (x : Preempt) : (setPre s p x).regs = s.regs := rfl
@[simp] theorem setPre_time (s : State) (p : Nat) (x : Preempt) : (setPre s p x).time = s.time := rfl
@[simp] theorem setPre_cyc (s : State) (p : Nat) (x : Preempt) : (setPre s p x).cyc = s.cyc := rfl
@[simp] theorem setPre_ring (s : State) (p : Nat) (x : Preempt) : (setPre s p x).ring = s.ring := rfl
@[simp] theorem setPre_cls (s : State) (p : Nat) (x : Preempt) : (setPre s p x).cls = s.cls := rfl
@[simp] theorem setPre_meters (s : State) (p : Nat) (x : Preempt) : (setPre s p x).meters = s.meters := rfl
@[simp] theorem setPre_metersWas (s : State) (p : Nat) (x : Preempt) : (setPre s p x).metersWas = s.metersWas := rfl
@[simp] theorem setPre_vat (s : State) (p : Nat) (x : Preempt) : (setPre s p x).vat = s.vat := rfl
@[simp] theorem setPre_frer (s : State) (p : Nat) (x : Preempt) : (setPre s p x).frer = s.frer := rfl
@[simp] theorem setPre_ports (s : State) (p : Nat) (x : Preempt) : (setPre s p x).ports = s.ports := rfl
@[simp] theorem setPre_host (s : State) (p : Nat) (x : Preempt) : (setPre s p x).host = s.host := rfl
@[simp] theorem setPre_dma (s : State) (p : Nat) (x : Preempt) : (setPre s p x).dma = s.dma := rfl
@[simp] theorem setPre_geley (s : State) (p : Nat) (x : Preempt) : (setPre s p x).geley = s.geley := rfl
@[simp] theorem setPre_kn (s : State) (p : Nat) (x : Preempt) : (setPre s p x).kn = s.kn := rfl
@[simp] theorem setPre_flt (s : State) (p : Nat) (x : Preempt) : (setPre s p x).flt = s.flt := rfl
@[simp] theorem setPre_ctr (s : State) (p : Nat) (x : Preempt) : (setPre s p x).ctr = s.ctr := rfl
@[simp] theorem setPre_boot (s : State) (p : Nat) (x : Preempt) : (setPre s p x).boot = s.boot := rfl
@[simp] theorem setPre_sched (s : State) (p : Nat) (x : Preempt) : (setPre s p x).sched = s.sched := rfl
@[simp] theorem setPre_pins (s : State) (p : Nat) (x : Preempt) : (setPre s p x).pins = s.pins := rfl
@[simp] theorem setPre_eg_queues (s : State) (p : Nat) (x : Preempt) : (setPre s p x).eg.queues = s.eg.queues := rfl
@[simp] theorem setPre_eg_cfg (s : State) (p : Nat) (x : Preempt) : (setPre s p x).eg.cfg = s.eg.cfg := rfl
@[simp] theorem setPre_eg_sched (s : State) (p : Nat) (x : Preempt) : (setPre s p x).eg.sched = s.eg.sched := rfl
@[simp] theorem setPre_eg_drr (s : State) (p : Nat) (x : Preempt) : (setPre s p x).eg.drr = s.eg.drr := rfl
@[simp] theorem setPre_eg_wfq (s : State) (p : Nat) (x : Preempt) : (setPre s p x).eg.wfq = s.eg.wfq := rfl
@[simp] theorem setPre_eg_gates (s : State) (p : Nat) (x : Preempt) : (setPre s p x).eg.gates = s.eg.gates := rfl
@[simp] theorem setPre_eg_shapers (s : State) (p : Nat) (x : Preempt) : (setPre s p x).eg.shapers = s.eg.shapers := rfl
@[simp] theorem setPre_eg_binds (s : State) (p : Nat) (x : Preempt) : (setPre s p x).eg.binds = s.eg.binds := rfl
@[simp] theorem setPre_eg_lastRefill (s : State) (p : Nat) (x : Preempt) : (setPre s p x).eg.lastRefill = s.eg.lastRefill := rfl
@[simp] theorem setPre_eg_qsPeriod (s : State) (p : Nat) (x : Preempt) : (setPre s p x).eg.qsPeriod = s.eg.qsPeriod := rfl
@[simp] theorem setPre_eg_qsE (s : State) (p : Nat) (x : Preempt) : (setPre s p x).eg.qsE = s.eg.qsE := rfl
@[simp] theorem setPre_eg_qsNext (s : State) (p : Nat) (x : Preempt) : (setPre s p x).eg.qsNext = s.eg.qsNext := rfl
@[simp] theorem setPre_eg_qs (s : State) (p : Nat) (x : Preempt) : (setPre s p x).eg.qs = s.eg.qs := rfl
@[simp] theorem setPre_eg_qsTick (s : State) (p : Nat) (x : Preempt) : (setPre s p x).eg.qsTick = s.eg.qsTick := rfl
@[simp] theorem setPre_eg_qsOld (s : State) (p : Nat) (x : Preempt) : (setPre s p x).eg.qsOld = s.eg.qsOld := rfl
@[simp] theorem setPre_eg_mac (s : State) (p : Nat) (x : Preempt) : (setPre s p x).eg.mac = s.eg.mac := rfl
@[simp] theorem setPre_eg_pause (s : State) (p : Nat) (x : Preempt) : (setPre s p x).eg.pause = s.eg.pause := rfl

/-! ### setMac -/

@[simp] theorem setMac_pending (s : State) (p : Nat) (x : MacTx) : (setMac s p x).pending = s.pending := rfl
@[simp] theorem setMac_trace (s : State) (p : Nat) (x : MacTx) : (setMac s p x).trace = s.trace := rfl
@[simp] theorem setMac_free (s : State) (p : Nat) (x : MacTx) : (setMac s p x).free = s.free := rfl
@[simp] theorem setMac_clk (s : State) (p : Nat) (x : MacTx) : (setMac s p x).clk = s.clk := rfl
@[simp] theorem setMac_regs (s : State) (p : Nat) (x : MacTx) : (setMac s p x).regs = s.regs := rfl
@[simp] theorem setMac_time (s : State) (p : Nat) (x : MacTx) : (setMac s p x).time = s.time := rfl
@[simp] theorem setMac_cyc (s : State) (p : Nat) (x : MacTx) : (setMac s p x).cyc = s.cyc := rfl
@[simp] theorem setMac_ring (s : State) (p : Nat) (x : MacTx) : (setMac s p x).ring = s.ring := rfl
@[simp] theorem setMac_cls (s : State) (p : Nat) (x : MacTx) : (setMac s p x).cls = s.cls := rfl
@[simp] theorem setMac_meters (s : State) (p : Nat) (x : MacTx) : (setMac s p x).meters = s.meters := rfl
@[simp] theorem setMac_metersWas (s : State) (p : Nat) (x : MacTx) : (setMac s p x).metersWas = s.metersWas := rfl
@[simp] theorem setMac_vat (s : State) (p : Nat) (x : MacTx) : (setMac s p x).vat = s.vat := rfl
@[simp] theorem setMac_frer (s : State) (p : Nat) (x : MacTx) : (setMac s p x).frer = s.frer := rfl
@[simp] theorem setMac_ports (s : State) (p : Nat) (x : MacTx) : (setMac s p x).ports = s.ports := rfl
@[simp] theorem setMac_host (s : State) (p : Nat) (x : MacTx) : (setMac s p x).host = s.host := rfl
@[simp] theorem setMac_dma (s : State) (p : Nat) (x : MacTx) : (setMac s p x).dma = s.dma := rfl
@[simp] theorem setMac_geley (s : State) (p : Nat) (x : MacTx) : (setMac s p x).geley = s.geley := rfl
@[simp] theorem setMac_kn (s : State) (p : Nat) (x : MacTx) : (setMac s p x).kn = s.kn := rfl
@[simp] theorem setMac_flt (s : State) (p : Nat) (x : MacTx) : (setMac s p x).flt = s.flt := rfl
@[simp] theorem setMac_ctr (s : State) (p : Nat) (x : MacTx) : (setMac s p x).ctr = s.ctr := rfl
@[simp] theorem setMac_boot (s : State) (p : Nat) (x : MacTx) : (setMac s p x).boot = s.boot := rfl
@[simp] theorem setMac_sched (s : State) (p : Nat) (x : MacTx) : (setMac s p x).sched = s.sched := rfl
@[simp] theorem setMac_pins (s : State) (p : Nat) (x : MacTx) : (setMac s p x).pins = s.pins := rfl
@[simp] theorem setMac_eg_queues (s : State) (p : Nat) (x : MacTx) : (setMac s p x).eg.queues = s.eg.queues := rfl
@[simp] theorem setMac_eg_cfg (s : State) (p : Nat) (x : MacTx) : (setMac s p x).eg.cfg = s.eg.cfg := rfl
@[simp] theorem setMac_eg_sched (s : State) (p : Nat) (x : MacTx) : (setMac s p x).eg.sched = s.eg.sched := rfl
@[simp] theorem setMac_eg_drr (s : State) (p : Nat) (x : MacTx) : (setMac s p x).eg.drr = s.eg.drr := rfl
@[simp] theorem setMac_eg_wfq (s : State) (p : Nat) (x : MacTx) : (setMac s p x).eg.wfq = s.eg.wfq := rfl
@[simp] theorem setMac_eg_gates (s : State) (p : Nat) (x : MacTx) : (setMac s p x).eg.gates = s.eg.gates := rfl
@[simp] theorem setMac_eg_shapers (s : State) (p : Nat) (x : MacTx) : (setMac s p x).eg.shapers = s.eg.shapers := rfl
@[simp] theorem setMac_eg_binds (s : State) (p : Nat) (x : MacTx) : (setMac s p x).eg.binds = s.eg.binds := rfl
@[simp] theorem setMac_eg_lastRefill (s : State) (p : Nat) (x : MacTx) : (setMac s p x).eg.lastRefill = s.eg.lastRefill := rfl
@[simp] theorem setMac_eg_qsPeriod (s : State) (p : Nat) (x : MacTx) : (setMac s p x).eg.qsPeriod = s.eg.qsPeriod := rfl
@[simp] theorem setMac_eg_qsE (s : State) (p : Nat) (x : MacTx) : (setMac s p x).eg.qsE = s.eg.qsE := rfl
@[simp] theorem setMac_eg_qsNext (s : State) (p : Nat) (x : MacTx) : (setMac s p x).eg.qsNext = s.eg.qsNext := rfl
@[simp] theorem setMac_eg_qs (s : State) (p : Nat) (x : MacTx) : (setMac s p x).eg.qs = s.eg.qs := rfl
@[simp] theorem setMac_eg_qsTick (s : State) (p : Nat) (x : MacTx) : (setMac s p x).eg.qsTick = s.eg.qsTick := rfl
@[simp] theorem setMac_eg_qsOld (s : State) (p : Nat) (x : MacTx) : (setMac s p x).eg.qsOld = s.eg.qsOld := rfl
@[simp] theorem setMac_eg_pre (s : State) (p : Nat) (x : MacTx) : (setMac s p x).eg.pre = s.eg.pre := rfl
@[simp] theorem setMac_eg_pause (s : State) (p : Nat) (x : MacTx) : (setMac s p x).eg.pause = s.eg.pause := rfl

/-! ### setPause -/

@[simp] theorem setPause_pending (s : State) (p : Nat) (x : Pause) : (setPause s p x).pending = s.pending := rfl
@[simp] theorem setPause_trace (s : State) (p : Nat) (x : Pause) : (setPause s p x).trace = s.trace := rfl
@[simp] theorem setPause_free (s : State) (p : Nat) (x : Pause) : (setPause s p x).free = s.free := rfl
@[simp] theorem setPause_clk (s : State) (p : Nat) (x : Pause) : (setPause s p x).clk = s.clk := rfl
@[simp] theorem setPause_regs (s : State) (p : Nat) (x : Pause) : (setPause s p x).regs = s.regs := rfl
@[simp] theorem setPause_time (s : State) (p : Nat) (x : Pause) : (setPause s p x).time = s.time := rfl
@[simp] theorem setPause_cyc (s : State) (p : Nat) (x : Pause) : (setPause s p x).cyc = s.cyc := rfl
@[simp] theorem setPause_ring (s : State) (p : Nat) (x : Pause) : (setPause s p x).ring = s.ring := rfl
@[simp] theorem setPause_cls (s : State) (p : Nat) (x : Pause) : (setPause s p x).cls = s.cls := rfl
@[simp] theorem setPause_meters (s : State) (p : Nat) (x : Pause) : (setPause s p x).meters = s.meters := rfl
@[simp] theorem setPause_metersWas (s : State) (p : Nat) (x : Pause) : (setPause s p x).metersWas = s.metersWas := rfl
@[simp] theorem setPause_vat (s : State) (p : Nat) (x : Pause) : (setPause s p x).vat = s.vat := rfl
@[simp] theorem setPause_frer (s : State) (p : Nat) (x : Pause) : (setPause s p x).frer = s.frer := rfl
@[simp] theorem setPause_ports (s : State) (p : Nat) (x : Pause) : (setPause s p x).ports = s.ports := rfl
@[simp] theorem setPause_host (s : State) (p : Nat) (x : Pause) : (setPause s p x).host = s.host := rfl
@[simp] theorem setPause_dma (s : State) (p : Nat) (x : Pause) : (setPause s p x).dma = s.dma := rfl
@[simp] theorem setPause_geley (s : State) (p : Nat) (x : Pause) : (setPause s p x).geley = s.geley := rfl
@[simp] theorem setPause_kn (s : State) (p : Nat) (x : Pause) : (setPause s p x).kn = s.kn := rfl
@[simp] theorem setPause_flt (s : State) (p : Nat) (x : Pause) : (setPause s p x).flt = s.flt := rfl
@[simp] theorem setPause_ctr (s : State) (p : Nat) (x : Pause) : (setPause s p x).ctr = s.ctr := rfl
@[simp] theorem setPause_boot (s : State) (p : Nat) (x : Pause) : (setPause s p x).boot = s.boot := rfl
@[simp] theorem setPause_sched (s : State) (p : Nat) (x : Pause) : (setPause s p x).sched = s.sched := rfl
@[simp] theorem setPause_pins (s : State) (p : Nat) (x : Pause) : (setPause s p x).pins = s.pins := rfl
@[simp] theorem setPause_eg_queues (s : State) (p : Nat) (x : Pause) : (setPause s p x).eg.queues = s.eg.queues := rfl
@[simp] theorem setPause_eg_cfg (s : State) (p : Nat) (x : Pause) : (setPause s p x).eg.cfg = s.eg.cfg := rfl
@[simp] theorem setPause_eg_sched (s : State) (p : Nat) (x : Pause) : (setPause s p x).eg.sched = s.eg.sched := rfl
@[simp] theorem setPause_eg_drr (s : State) (p : Nat) (x : Pause) : (setPause s p x).eg.drr = s.eg.drr := rfl
@[simp] theorem setPause_eg_wfq (s : State) (p : Nat) (x : Pause) : (setPause s p x).eg.wfq = s.eg.wfq := rfl
@[simp] theorem setPause_eg_gates (s : State) (p : Nat) (x : Pause) : (setPause s p x).eg.gates = s.eg.gates := rfl
@[simp] theorem setPause_eg_shapers (s : State) (p : Nat) (x : Pause) : (setPause s p x).eg.shapers = s.eg.shapers := rfl
@[simp] theorem setPause_eg_binds (s : State) (p : Nat) (x : Pause) : (setPause s p x).eg.binds = s.eg.binds := rfl
@[simp] theorem setPause_eg_lastRefill (s : State) (p : Nat) (x : Pause) : (setPause s p x).eg.lastRefill = s.eg.lastRefill := rfl
@[simp] theorem setPause_eg_qsPeriod (s : State) (p : Nat) (x : Pause) : (setPause s p x).eg.qsPeriod = s.eg.qsPeriod := rfl
@[simp] theorem setPause_eg_qsE (s : State) (p : Nat) (x : Pause) : (setPause s p x).eg.qsE = s.eg.qsE := rfl
@[simp] theorem setPause_eg_qsNext (s : State) (p : Nat) (x : Pause) : (setPause s p x).eg.qsNext = s.eg.qsNext := rfl
@[simp] theorem setPause_eg_qs (s : State) (p : Nat) (x : Pause) : (setPause s p x).eg.qs = s.eg.qs := rfl
@[simp] theorem setPause_eg_qsTick (s : State) (p : Nat) (x : Pause) : (setPause s p x).eg.qsTick = s.eg.qsTick := rfl
@[simp] theorem setPause_eg_qsOld (s : State) (p : Nat) (x : Pause) : (setPause s p x).eg.qsOld = s.eg.qsOld := rfl
@[simp] theorem setPause_eg_mac (s : State) (p : Nat) (x : Pause) : (setPause s p x).eg.mac = s.eg.mac := rfl
@[simp] theorem setPause_eg_pre (s : State) (p : Nat) (x : Pause) : (setPause s p x).eg.pre = s.eg.pre := rfl

/-! ### setShaper -/

@[simp] theorem setShaper_pending (s : State) (p : Nat) (x : Shaper) : (setShaper s p x).pending = s.pending := rfl
@[simp] theorem setShaper_trace (s : State) (p : Nat) (x : Shaper) : (setShaper s p x).trace = s.trace := rfl
@[simp] theorem setShaper_free (s : State) (p : Nat) (x : Shaper) : (setShaper s p x).free = s.free := rfl
@[simp] theorem setShaper_clk (s : State) (p : Nat) (x : Shaper) : (setShaper s p x).clk = s.clk := rfl
@[simp] theorem setShaper_regs (s : State) (p : Nat) (x : Shaper) : (setShaper s p x).regs = s.regs := rfl
@[simp] theorem setShaper_time (s : State) (p : Nat) (x : Shaper) : (setShaper s p x).time = s.time := rfl
@[simp] theorem setShaper_cyc (s : State) (p : Nat) (x : Shaper) : (setShaper s p x).cyc = s.cyc := rfl
@[simp] theorem setShaper_ring (s : State) (p : Nat) (x : Shaper) : (setShaper s p x).ring = s.ring := rfl
@[simp] theorem setShaper_cls (s : State) (p : Nat) (x : Shaper) : (setShaper s p x).cls = s.cls := rfl
@[simp] theorem setShaper_meters (s : State) (p : Nat) (x : Shaper) : (setShaper s p x).meters = s.meters := rfl
@[simp] theorem setShaper_metersWas (s : State) (p : Nat) (x : Shaper) : (setShaper s p x).metersWas = s.metersWas := rfl
@[simp] theorem setShaper_vat (s : State) (p : Nat) (x : Shaper) : (setShaper s p x).vat = s.vat := rfl
@[simp] theorem setShaper_frer (s : State) (p : Nat) (x : Shaper) : (setShaper s p x).frer = s.frer := rfl
@[simp] theorem setShaper_ports (s : State) (p : Nat) (x : Shaper) : (setShaper s p x).ports = s.ports := rfl
@[simp] theorem setShaper_host (s : State) (p : Nat) (x : Shaper) : (setShaper s p x).host = s.host := rfl
@[simp] theorem setShaper_dma (s : State) (p : Nat) (x : Shaper) : (setShaper s p x).dma = s.dma := rfl
@[simp] theorem setShaper_geley (s : State) (p : Nat) (x : Shaper) : (setShaper s p x).geley = s.geley := rfl
@[simp] theorem setShaper_kn (s : State) (p : Nat) (x : Shaper) : (setShaper s p x).kn = s.kn := rfl
@[simp] theorem setShaper_flt (s : State) (p : Nat) (x : Shaper) : (setShaper s p x).flt = s.flt := rfl
@[simp] theorem setShaper_ctr (s : State) (p : Nat) (x : Shaper) : (setShaper s p x).ctr = s.ctr := rfl
@[simp] theorem setShaper_boot (s : State) (p : Nat) (x : Shaper) : (setShaper s p x).boot = s.boot := rfl
@[simp] theorem setShaper_sched (s : State) (p : Nat) (x : Shaper) : (setShaper s p x).sched = s.sched := rfl
@[simp] theorem setShaper_pins (s : State) (p : Nat) (x : Shaper) : (setShaper s p x).pins = s.pins := rfl
@[simp] theorem setShaper_eg_queues (s : State) (p : Nat) (x : Shaper) : (setShaper s p x).eg.queues = s.eg.queues := rfl
@[simp] theorem setShaper_eg_cfg (s : State) (p : Nat) (x : Shaper) : (setShaper s p x).eg.cfg = s.eg.cfg := rfl
@[simp] theorem setShaper_eg_sched (s : State) (p : Nat) (x : Shaper) : (setShaper s p x).eg.sched = s.eg.sched := rfl
@[simp] theorem setShaper_eg_drr (s : State) (p : Nat) (x : Shaper) : (setShaper s p x).eg.drr = s.eg.drr := rfl
@[simp] theorem setShaper_eg_wfq (s : State) (p : Nat) (x : Shaper) : (setShaper s p x).eg.wfq = s.eg.wfq := rfl
@[simp] theorem setShaper_eg_gates (s : State) (p : Nat) (x : Shaper) : (setShaper s p x).eg.gates = s.eg.gates := rfl
@[simp] theorem setShaper_eg_binds (s : State) (p : Nat) (x : Shaper) : (setShaper s p x).eg.binds = s.eg.binds := rfl
@[simp] theorem setShaper_eg_lastRefill (s : State) (p : Nat) (x : Shaper) : (setShaper s p x).eg.lastRefill = s.eg.lastRefill := rfl
@[simp] theorem setShaper_eg_qsPeriod (s : State) (p : Nat) (x : Shaper) : (setShaper s p x).eg.qsPeriod = s.eg.qsPeriod := rfl
@[simp] theorem setShaper_eg_qsE (s : State) (p : Nat) (x : Shaper) : (setShaper s p x).eg.qsE = s.eg.qsE := rfl
@[simp] theorem setShaper_eg_qsNext (s : State) (p : Nat) (x : Shaper) : (setShaper s p x).eg.qsNext = s.eg.qsNext := rfl
@[simp] theorem setShaper_eg_qs (s : State) (p : Nat) (x : Shaper) : (setShaper s p x).eg.qs = s.eg.qs := rfl
@[simp] theorem setShaper_eg_qsTick (s : State) (p : Nat) (x : Shaper) : (setShaper s p x).eg.qsTick = s.eg.qsTick := rfl
@[simp] theorem setShaper_eg_qsOld (s : State) (p : Nat) (x : Shaper) : (setShaper s p x).eg.qsOld = s.eg.qsOld := rfl
@[simp] theorem setShaper_eg_mac (s : State) (p : Nat) (x : Shaper) : (setShaper s p x).eg.mac = s.eg.mac := rfl
@[simp] theorem setShaper_eg_pre (s : State) (p : Nat) (x : Shaper) : (setShaper s p x).eg.pre = s.eg.pre := rfl
@[simp] theorem setShaper_eg_pause (s : State) (p : Nat) (x : Shaper) : (setShaper s p x).eg.pause = s.eg.pause := rfl

/-! ### setDrr -/

@[simp] theorem setDrr_pending (s : State) (p : Nat) (x : Drr) : (setDrr s p x).pending = s.pending := rfl
@[simp] theorem setDrr_trace (s : State) (p : Nat) (x : Drr) : (setDrr s p x).trace = s.trace := rfl
@[simp] theorem setDrr_free (s : State) (p : Nat) (x : Drr) : (setDrr s p x).free = s.free := rfl
@[simp] theorem setDrr_clk (s : State) (p : Nat) (x : Drr) : (setDrr s p x).clk = s.clk := rfl
@[simp] theorem setDrr_regs (s : State) (p : Nat) (x : Drr) : (setDrr s p x).regs = s.regs := rfl
@[simp] theorem setDrr_time (s : State) (p : Nat) (x : Drr) : (setDrr s p x).time = s.time := rfl
@[simp] theorem setDrr_cyc (s : State) (p : Nat) (x : Drr) : (setDrr s p x).cyc = s.cyc := rfl
@[simp] theorem setDrr_ring (s : State) (p : Nat) (x : Drr) : (setDrr s p x).ring = s.ring := rfl
@[simp] theorem setDrr_cls (s : State) (p : Nat) (x : Drr) : (setDrr s p x).cls = s.cls := rfl
@[simp] theorem setDrr_meters (s : State) (p : Nat) (x : Drr) : (setDrr s p x).meters = s.meters := rfl
@[simp] theorem setDrr_metersWas (s : State) (p : Nat) (x : Drr) : (setDrr s p x).metersWas = s.metersWas := rfl
@[simp] theorem setDrr_vat (s : State) (p : Nat) (x : Drr) : (setDrr s p x).vat = s.vat := rfl
@[simp] theorem setDrr_frer (s : State) (p : Nat) (x : Drr) : (setDrr s p x).frer = s.frer := rfl
@[simp] theorem setDrr_ports (s : State) (p : Nat) (x : Drr) : (setDrr s p x).ports = s.ports := rfl
@[simp] theorem setDrr_host (s : State) (p : Nat) (x : Drr) : (setDrr s p x).host = s.host := rfl
@[simp] theorem setDrr_dma (s : State) (p : Nat) (x : Drr) : (setDrr s p x).dma = s.dma := rfl
@[simp] theorem setDrr_geley (s : State) (p : Nat) (x : Drr) : (setDrr s p x).geley = s.geley := rfl
@[simp] theorem setDrr_kn (s : State) (p : Nat) (x : Drr) : (setDrr s p x).kn = s.kn := rfl
@[simp] theorem setDrr_flt (s : State) (p : Nat) (x : Drr) : (setDrr s p x).flt = s.flt := rfl
@[simp] theorem setDrr_ctr (s : State) (p : Nat) (x : Drr) : (setDrr s p x).ctr = s.ctr := rfl
@[simp] theorem setDrr_boot (s : State) (p : Nat) (x : Drr) : (setDrr s p x).boot = s.boot := rfl
@[simp] theorem setDrr_sched (s : State) (p : Nat) (x : Drr) : (setDrr s p x).sched = s.sched := rfl
@[simp] theorem setDrr_pins (s : State) (p : Nat) (x : Drr) : (setDrr s p x).pins = s.pins := rfl
@[simp] theorem setDrr_eg_queues (s : State) (p : Nat) (x : Drr) : (setDrr s p x).eg.queues = s.eg.queues := rfl
@[simp] theorem setDrr_eg_cfg (s : State) (p : Nat) (x : Drr) : (setDrr s p x).eg.cfg = s.eg.cfg := rfl
@[simp] theorem setDrr_eg_sched (s : State) (p : Nat) (x : Drr) : (setDrr s p x).eg.sched = s.eg.sched := rfl
@[simp] theorem setDrr_eg_wfq (s : State) (p : Nat) (x : Drr) : (setDrr s p x).eg.wfq = s.eg.wfq := rfl
@[simp] theorem setDrr_eg_gates (s : State) (p : Nat) (x : Drr) : (setDrr s p x).eg.gates = s.eg.gates := rfl
@[simp] theorem setDrr_eg_shapers (s : State) (p : Nat) (x : Drr) : (setDrr s p x).eg.shapers = s.eg.shapers := rfl
@[simp] theorem setDrr_eg_binds (s : State) (p : Nat) (x : Drr) : (setDrr s p x).eg.binds = s.eg.binds := rfl
@[simp] theorem setDrr_eg_lastRefill (s : State) (p : Nat) (x : Drr) : (setDrr s p x).eg.lastRefill = s.eg.lastRefill := rfl
@[simp] theorem setDrr_eg_qsPeriod (s : State) (p : Nat) (x : Drr) : (setDrr s p x).eg.qsPeriod = s.eg.qsPeriod := rfl
@[simp] theorem setDrr_eg_qsE (s : State) (p : Nat) (x : Drr) : (setDrr s p x).eg.qsE = s.eg.qsE := rfl
@[simp] theorem setDrr_eg_qsNext (s : State) (p : Nat) (x : Drr) : (setDrr s p x).eg.qsNext = s.eg.qsNext := rfl
@[simp] theorem setDrr_eg_qs (s : State) (p : Nat) (x : Drr) : (setDrr s p x).eg.qs = s.eg.qs := rfl
@[simp] theorem setDrr_eg_qsTick (s : State) (p : Nat) (x : Drr) : (setDrr s p x).eg.qsTick = s.eg.qsTick := rfl
@[simp] theorem setDrr_eg_qsOld (s : State) (p : Nat) (x : Drr) : (setDrr s p x).eg.qsOld = s.eg.qsOld := rfl
@[simp] theorem setDrr_eg_mac (s : State) (p : Nat) (x : Drr) : (setDrr s p x).eg.mac = s.eg.mac := rfl
@[simp] theorem setDrr_eg_pre (s : State) (p : Nat) (x : Drr) : (setDrr s p x).eg.pre = s.eg.pre := rfl
@[simp] theorem setDrr_eg_pause (s : State) (p : Nat) (x : Drr) : (setDrr s p x).eg.pause = s.eg.pause := rfl

/-! ### setWfq -/

@[simp] theorem setWfq_pending (s : State) (p : Nat) (x : Wfq) : (setWfq s p x).pending = s.pending := rfl
@[simp] theorem setWfq_trace (s : State) (p : Nat) (x : Wfq) : (setWfq s p x).trace = s.trace := rfl
@[simp] theorem setWfq_free (s : State) (p : Nat) (x : Wfq) : (setWfq s p x).free = s.free := rfl
@[simp] theorem setWfq_clk (s : State) (p : Nat) (x : Wfq) : (setWfq s p x).clk = s.clk := rfl
@[simp] theorem setWfq_regs (s : State) (p : Nat) (x : Wfq) : (setWfq s p x).regs = s.regs := rfl
@[simp] theorem setWfq_time (s : State) (p : Nat) (x : Wfq) : (setWfq s p x).time = s.time := rfl
@[simp] theorem setWfq_cyc (s : State) (p : Nat) (x : Wfq) : (setWfq s p x).cyc = s.cyc := rfl
@[simp] theorem setWfq_ring (s : State) (p : Nat) (x : Wfq) : (setWfq s p x).ring = s.ring := rfl
@[simp] theorem setWfq_cls (s : State) (p : Nat) (x : Wfq) : (setWfq s p x).cls = s.cls := rfl
@[simp] theorem setWfq_meters (s : State) (p : Nat) (x : Wfq) : (setWfq s p x).meters = s.meters := rfl
@[simp] theorem setWfq_metersWas (s : State) (p : Nat) (x : Wfq) : (setWfq s p x).metersWas = s.metersWas := rfl
@[simp] theorem setWfq_vat (s : State) (p : Nat) (x : Wfq) : (setWfq s p x).vat = s.vat := rfl
@[simp] theorem setWfq_frer (s : State) (p : Nat) (x : Wfq) : (setWfq s p x).frer = s.frer := rfl
@[simp] theorem setWfq_ports (s : State) (p : Nat) (x : Wfq) : (setWfq s p x).ports = s.ports := rfl
@[simp] theorem setWfq_host (s : State) (p : Nat) (x : Wfq) : (setWfq s p x).host = s.host := rfl
@[simp] theorem setWfq_dma (s : State) (p : Nat) (x : Wfq) : (setWfq s p x).dma = s.dma := rfl
@[simp] theorem setWfq_geley (s : State) (p : Nat) (x : Wfq) : (setWfq s p x).geley = s.geley := rfl
@[simp] theorem setWfq_kn (s : State) (p : Nat) (x : Wfq) : (setWfq s p x).kn = s.kn := rfl
@[simp] theorem setWfq_flt (s : State) (p : Nat) (x : Wfq) : (setWfq s p x).flt = s.flt := rfl
@[simp] theorem setWfq_ctr (s : State) (p : Nat) (x : Wfq) : (setWfq s p x).ctr = s.ctr := rfl
@[simp] theorem setWfq_boot (s : State) (p : Nat) (x : Wfq) : (setWfq s p x).boot = s.boot := rfl
@[simp] theorem setWfq_sched (s : State) (p : Nat) (x : Wfq) : (setWfq s p x).sched = s.sched := rfl
@[simp] theorem setWfq_pins (s : State) (p : Nat) (x : Wfq) : (setWfq s p x).pins = s.pins := rfl
@[simp] theorem setWfq_eg_queues (s : State) (p : Nat) (x : Wfq) : (setWfq s p x).eg.queues = s.eg.queues := rfl
@[simp] theorem setWfq_eg_cfg (s : State) (p : Nat) (x : Wfq) : (setWfq s p x).eg.cfg = s.eg.cfg := rfl
@[simp] theorem setWfq_eg_sched (s : State) (p : Nat) (x : Wfq) : (setWfq s p x).eg.sched = s.eg.sched := rfl
@[simp] theorem setWfq_eg_drr (s : State) (p : Nat) (x : Wfq) : (setWfq s p x).eg.drr = s.eg.drr := rfl
@[simp] theorem setWfq_eg_gates (s : State) (p : Nat) (x : Wfq) : (setWfq s p x).eg.gates = s.eg.gates := rfl
@[simp] theorem setWfq_eg_shapers (s : State) (p : Nat) (x : Wfq) : (setWfq s p x).eg.shapers = s.eg.shapers := rfl
@[simp] theorem setWfq_eg_binds (s : State) (p : Nat) (x : Wfq) : (setWfq s p x).eg.binds = s.eg.binds := rfl
@[simp] theorem setWfq_eg_lastRefill (s : State) (p : Nat) (x : Wfq) : (setWfq s p x).eg.lastRefill = s.eg.lastRefill := rfl
@[simp] theorem setWfq_eg_qsPeriod (s : State) (p : Nat) (x : Wfq) : (setWfq s p x).eg.qsPeriod = s.eg.qsPeriod := rfl
@[simp] theorem setWfq_eg_qsE (s : State) (p : Nat) (x : Wfq) : (setWfq s p x).eg.qsE = s.eg.qsE := rfl
@[simp] theorem setWfq_eg_qsNext (s : State) (p : Nat) (x : Wfq) : (setWfq s p x).eg.qsNext = s.eg.qsNext := rfl
@[simp] theorem setWfq_eg_qs (s : State) (p : Nat) (x : Wfq) : (setWfq s p x).eg.qs = s.eg.qs := rfl
@[simp] theorem setWfq_eg_qsTick (s : State) (p : Nat) (x : Wfq) : (setWfq s p x).eg.qsTick = s.eg.qsTick := rfl
@[simp] theorem setWfq_eg_qsOld (s : State) (p : Nat) (x : Wfq) : (setWfq s p x).eg.qsOld = s.eg.qsOld := rfl
@[simp] theorem setWfq_eg_mac (s : State) (p : Nat) (x : Wfq) : (setWfq s p x).eg.mac = s.eg.mac := rfl
@[simp] theorem setWfq_eg_pre (s : State) (p : Nat) (x : Wfq) : (setWfq s p x).eg.pre = s.eg.pre := rfl
@[simp] theorem setWfq_eg_pause (s : State) (p : Nat) (x : Wfq) : (setWfq s p x).eg.pause = s.eg.pause := rfl

/-! ### setQueue -/

@[simp] theorem setQueue_pending (s : State) (p : Nat) (x : List QEnt) : (setQueue s p x).pending = s.pending := rfl
@[simp] theorem setQueue_trace (s : State) (p : Nat) (x : List QEnt) : (setQueue s p x).trace = s.trace := rfl
@[simp] theorem setQueue_free (s : State) (p : Nat) (x : List QEnt) : (setQueue s p x).free = s.free := rfl
@[simp] theorem setQueue_clk (s : State) (p : Nat) (x : List QEnt) : (setQueue s p x).clk = s.clk := rfl
@[simp] theorem setQueue_regs (s : State) (p : Nat) (x : List QEnt) : (setQueue s p x).regs = s.regs := rfl
@[simp] theorem setQueue_time (s : State) (p : Nat) (x : List QEnt) : (setQueue s p x).time = s.time := rfl
@[simp] theorem setQueue_cyc (s : State) (p : Nat) (x : List QEnt) : (setQueue s p x).cyc = s.cyc := rfl
@[simp] theorem setQueue_ring (s : State) (p : Nat) (x : List QEnt) : (setQueue s p x).ring = s.ring := rfl
@[simp] theorem setQueue_cls (s : State) (p : Nat) (x : List QEnt) : (setQueue s p x).cls = s.cls := rfl
@[simp] theorem setQueue_meters (s : State) (p : Nat) (x : List QEnt) : (setQueue s p x).meters = s.meters := rfl
@[simp] theorem setQueue_metersWas (s : State) (p : Nat) (x : List QEnt) : (setQueue s p x).metersWas = s.metersWas := rfl
@[simp] theorem setQueue_vat (s : State) (p : Nat) (x : List QEnt) : (setQueue s p x).vat = s.vat := rfl
@[simp] theorem setQueue_frer (s : State) (p : Nat) (x : List QEnt) : (setQueue s p x).frer = s.frer := rfl
@[simp] theorem setQueue_ports (s : State) (p : Nat) (x : List QEnt) : (setQueue s p x).ports = s.ports := rfl
@[simp] theorem setQueue_host (s : State) (p : Nat) (x : List QEnt) : (setQueue s p x).host = s.host := rfl
@[simp] theorem setQueue_dma (s : State) (p : Nat) (x : List QEnt) : (setQueue s p x).dma = s.dma := rfl
@[simp] theorem setQueue_geley (s : State) (p : Nat) (x : List QEnt) : (setQueue s p x).geley = s.geley := rfl
@[simp] theorem setQueue_kn (s : State) (p : Nat) (x : List QEnt) : (setQueue s p x).kn = s.kn := rfl
@[simp] theorem setQueue_flt (s : State) (p : Nat) (x : List QEnt) : (setQueue s p x).flt = s.flt := rfl
@[simp] theorem setQueue_ctr (s : State) (p : Nat) (x : List QEnt) : (setQueue s p x).ctr = s.ctr := rfl
@[simp] theorem setQueue_boot (s : State) (p : Nat) (x : List QEnt) : (setQueue s p x).boot = s.boot := rfl
@[simp] theorem setQueue_sched (s : State) (p : Nat) (x : List QEnt) : (setQueue s p x).sched = s.sched := rfl
@[simp] theorem setQueue_pins (s : State) (p : Nat) (x : List QEnt) : (setQueue s p x).pins = s.pins := rfl
@[simp] theorem setQueue_eg_cfg (s : State) (p : Nat) (x : List QEnt) : (setQueue s p x).eg.cfg = s.eg.cfg := rfl
@[simp] theorem setQueue_eg_sched (s : State) (p : Nat) (x : List QEnt) : (setQueue s p x).eg.sched = s.eg.sched := rfl
@[simp] theorem setQueue_eg_drr (s : State) (p : Nat) (x : List QEnt) : (setQueue s p x).eg.drr = s.eg.drr := rfl
@[simp] theorem setQueue_eg_wfq (s : State) (p : Nat) (x : List QEnt) : (setQueue s p x).eg.wfq = s.eg.wfq := rfl
@[simp] theorem setQueue_eg_gates (s : State) (p : Nat) (x : List QEnt) : (setQueue s p x).eg.gates = s.eg.gates := rfl
@[simp] theorem setQueue_eg_shapers (s : State) (p : Nat) (x : List QEnt) : (setQueue s p x).eg.shapers = s.eg.shapers := rfl
@[simp] theorem setQueue_eg_binds (s : State) (p : Nat) (x : List QEnt) : (setQueue s p x).eg.binds = s.eg.binds := rfl
@[simp] theorem setQueue_eg_lastRefill (s : State) (p : Nat) (x : List QEnt) : (setQueue s p x).eg.lastRefill = s.eg.lastRefill := rfl
@[simp] theorem setQueue_eg_qsPeriod (s : State) (p : Nat) (x : List QEnt) : (setQueue s p x).eg.qsPeriod = s.eg.qsPeriod := rfl
@[simp] theorem setQueue_eg_qsE (s : State) (p : Nat) (x : List QEnt) : (setQueue s p x).eg.qsE = s.eg.qsE := rfl
@[simp] theorem setQueue_eg_qsNext (s : State) (p : Nat) (x : List QEnt) : (setQueue s p x).eg.qsNext = s.eg.qsNext := rfl
@[simp] theorem setQueue_eg_qs (s : State) (p : Nat) (x : List QEnt) : (setQueue s p x).eg.qs = s.eg.qs := rfl
@[simp] theorem setQueue_eg_qsTick (s : State) (p : Nat) (x : List QEnt) : (setQueue s p x).eg.qsTick = s.eg.qsTick := rfl
@[simp] theorem setQueue_eg_qsOld (s : State) (p : Nat) (x : List QEnt) : (setQueue s p x).eg.qsOld = s.eg.qsOld := rfl
@[simp] theorem setQueue_eg_mac (s : State) (p : Nat) (x : List QEnt) : (setQueue s p x).eg.mac = s.eg.mac := rfl
@[simp] theorem setQueue_eg_pre (s : State) (p : Nat) (x : List QEnt) : (setQueue s p x).eg.pre = s.eg.pre := rfl
@[simp] theorem setQueue_eg_pause (s : State) (p : Nat) (x : List QEnt) : (setQueue s p x).eg.pause = s.eg.pause := rfl

/-! ### setFsrc -/

@[simp] theorem setFsrc_pending (s : State) (p : Nat) (x : FSrc) : (setFsrc s p x).pending = s.pending := rfl
@[simp] theorem setFsrc_trace (s : State) (p : Nat) (x : FSrc) : (setFsrc s p x).trace = s.trace := rfl
@[simp] theorem setFsrc_free (s : State) (p : Nat) (x : FSrc) : (setFsrc s p x).free = s.free := rfl
@[simp] theorem setFsrc_clk (s : State) (p : Nat) (x : FSrc) : (setFsrc s p x).clk = s.clk := rfl
@[simp] theorem setFsrc_regs (s : State) (p : Nat) (x : FSrc) : (setFsrc s p x).regs = s.regs := rfl
@[simp] theorem setFsrc_time (s : State) (p : Nat) (x : FSrc) : (setFsrc s p x).time = s.time := rfl
@[simp] theorem setFsrc_cyc (s : State) (p : Nat) (x : FSrc) : (setFsrc s p x).cyc = s.cyc := rfl
@[simp] theorem setFsrc_ring (s : State) (p : Nat) (x : FSrc) : (setFsrc s p x).ring = s.ring := rfl
@[simp] theorem setFsrc_cls (s : State) (p : Nat) (x : FSrc) : (setFsrc s p x).cls = s.cls := rfl
@[simp] theorem setFsrc_meters (s : State) (p : Nat) (x : FSrc) : (setFsrc s p x).meters = s.meters := rfl
@[simp] theorem setFsrc_metersWas (s : State) (p : Nat) (x : FSrc) : (setFsrc s p x).metersWas = s.metersWas := rfl
@[simp] theorem setFsrc_vat (s : State) (p : Nat) (x : FSrc) : (setFsrc s p x).vat = s.vat := rfl
@[simp] theorem setFsrc_eg (s : State) (p : Nat) (x : FSrc) : (setFsrc s p x).eg = s.eg := rfl
@[simp] theorem setFsrc_frer (s : State) (p : Nat) (x : FSrc) : (setFsrc s p x).frer = s.frer := rfl
@[simp] theorem setFsrc_ports (s : State) (p : Nat) (x : FSrc) : (setFsrc s p x).ports = s.ports := rfl
@[simp] theorem setFsrc_host (s : State) (p : Nat) (x : FSrc) : (setFsrc s p x).host = s.host := rfl
@[simp] theorem setFsrc_dma (s : State) (p : Nat) (x : FSrc) : (setFsrc s p x).dma = s.dma := rfl
@[simp] theorem setFsrc_geley (s : State) (p : Nat) (x : FSrc) : (setFsrc s p x).geley = s.geley := rfl
@[simp] theorem setFsrc_kn (s : State) (p : Nat) (x : FSrc) : (setFsrc s p x).kn = s.kn := rfl
@[simp] theorem setFsrc_ctr (s : State) (p : Nat) (x : FSrc) : (setFsrc s p x).ctr = s.ctr := rfl
@[simp] theorem setFsrc_boot (s : State) (p : Nat) (x : FSrc) : (setFsrc s p x).boot = s.boot := rfl
@[simp] theorem setFsrc_sched (s : State) (p : Nat) (x : FSrc) : (setFsrc s p x).sched = s.sched := rfl
@[simp] theorem setFsrc_pins (s : State) (p : Nat) (x : FSrc) : (setFsrc s p x).pins = s.pins := rfl
@[simp] theorem setFsrc_flt_reacts (s : State) (p : Nat) (x : FSrc) : (setFsrc s p x).flt.reacts = s.flt.reacts := rfl
@[simp] theorem setFsrc_flt_nextId (s : State) (p : Nat) (x : FSrc) : (setFsrc s p x).flt.nextId = s.flt.nextId := rfl
@[simp] theorem setFsrc_flt_tests (s : State) (p : Nat) (x : FSrc) : (setFsrc s p x).flt.tests = s.flt.tests := rfl
@[simp] theorem setFsrc_flt_repairs (s : State) (p : Nat) (x : FSrc) : (setFsrc s p x).flt.repairs = s.flt.repairs := rfl
@[simp] theorem setFsrc_flt_repairsOwed (s : State) (p : Nat) (x : FSrc) : (setFsrc s p x).flt.repairsOwed = s.flt.repairsOwed := rfl
@[simp] theorem setFsrc_flt_disabled (s : State) (p : Nat) (x : FSrc) : (setFsrc s p x).flt.disabled = s.flt.disabled := rfl
@[simp] theorem setFsrc_flt_cellarLasting (s : State) (p : Nat) (x : FSrc) : (setFsrc s p x).flt.cellarLasting = s.flt.cellarLasting := rfl
@[simp] theorem setFsrc_flt_latches (s : State) (p : Nat) (x : FSrc) : (setFsrc s p x).flt.latches = s.flt.latches := rfl
@[simp] theorem setFsrc_flt_pendingArea (s : State) (p : Nat) (x : FSrc) : (setFsrc s p x).flt.pendingArea = s.flt.pendingArea := rfl
@[simp] theorem setFsrc_flt_log (s : State) (p : Nat) (x : FSrc) : (setFsrc s p x).flt.log = s.flt.log := rfl
@[simp] theorem setFsrc_flt_mirror (s : State) (p : Nat) (x : FSrc) : (setFsrc s p x).flt.mirror = s.flt.mirror := rfl
@[simp] theorem setFsrc_flt_logSeq (s : State) (p : Nat) (x : FSrc) : (setFsrc s p x).flt.logSeq = s.flt.logSeq := rfl
@[simp] theorem setFsrc_flt_overflowOwed (s : State) (p : Nat) (x : FSrc) : (setFsrc s p x).flt.overflowOwed = s.flt.overflowOwed := rfl

/-! ### setMbx -/

@[simp] theorem setMbx_pending (s : State) (p : Nat) (x : Mbx) : (setMbx s p x).pending = s.pending := rfl
@[simp] theorem setMbx_trace (s : State) (p : Nat) (x : Mbx) : (setMbx s p x).trace = s.trace := rfl
@[simp] theorem setMbx_free (s : State) (p : Nat) (x : Mbx) : (setMbx s p x).free = s.free := rfl
@[simp] theorem setMbx_clk (s : State) (p : Nat) (x : Mbx) : (setMbx s p x).clk = s.clk := rfl
@[simp] theorem setMbx_regs (s : State) (p : Nat) (x : Mbx) : (setMbx s p x).regs = s.regs := rfl
@[simp] theorem setMbx_time (s : State) (p : Nat) (x : Mbx) : (setMbx s p x).time = s.time := rfl
@[simp] theorem setMbx_cyc (s : State) (p : Nat) (x : Mbx) : (setMbx s p x).cyc = s.cyc := rfl
@[simp] theorem setMbx_ring (s : State) (p : Nat) (x : Mbx) : (setMbx s p x).ring = s.ring := rfl
@[simp] theorem setMbx_cls (s : State) (p : Nat) (x : Mbx) : (setMbx s p x).cls = s.cls := rfl
@[simp] theorem setMbx_meters (s : State) (p : Nat) (x : Mbx) : (setMbx s p x).meters = s.meters := rfl
@[simp] theorem setMbx_metersWas (s : State) (p : Nat) (x : Mbx) : (setMbx s p x).metersWas = s.metersWas := rfl
@[simp] theorem setMbx_vat (s : State) (p : Nat) (x : Mbx) : (setMbx s p x).vat = s.vat := rfl
@[simp] theorem setMbx_eg (s : State) (p : Nat) (x : Mbx) : (setMbx s p x).eg = s.eg := rfl
@[simp] theorem setMbx_frer (s : State) (p : Nat) (x : Mbx) : (setMbx s p x).frer = s.frer := rfl
@[simp] theorem setMbx_ports (s : State) (p : Nat) (x : Mbx) : (setMbx s p x).ports = s.ports := rfl
@[simp] theorem setMbx_host (s : State) (p : Nat) (x : Mbx) : (setMbx s p x).host = s.host := rfl
@[simp] theorem setMbx_dma (s : State) (p : Nat) (x : Mbx) : (setMbx s p x).dma = s.dma := rfl
@[simp] theorem setMbx_geley (s : State) (p : Nat) (x : Mbx) : (setMbx s p x).geley = s.geley := rfl
@[simp] theorem setMbx_flt (s : State) (p : Nat) (x : Mbx) : (setMbx s p x).flt = s.flt := rfl
@[simp] theorem setMbx_ctr (s : State) (p : Nat) (x : Mbx) : (setMbx s p x).ctr = s.ctr := rfl
@[simp] theorem setMbx_boot (s : State) (p : Nat) (x : Mbx) : (setMbx s p x).boot = s.boot := rfl
@[simp] theorem setMbx_sched (s : State) (p : Nat) (x : Mbx) : (setMbx s p x).sched = s.sched := rfl
@[simp] theorem setMbx_pins (s : State) (p : Nat) (x : Mbx) : (setMbx s p x).pins = s.pins := rfl
@[simp] theorem setMbx_kn_waiting (s : State) (p : Nat) (x : Mbx) : (setMbx s p x).kn.waiting = s.kn.waiting := rfl
@[simp] theorem setMbx_kn_owner (s : State) (p : Nat) (x : Mbx) : (setMbx s p x).kn.owner = s.kn.owner := rfl
@[simp] theorem setMbx_kn_ownerNode (s : State) (p : Nat) (x : Mbx) : (setMbx s p x).kn.ownerNode = s.kn.ownerNode := rfl
@[simp] theorem setMbx_kn_steward (s : State) (p : Nat) (x : Mbx) : (setMbx s p x).kn.steward = s.kn.steward := rfl
@[simp] theorem setMbx_kn_leaseMs (s : State) (p : Nat) (x : Mbx) : (setMbx s p x).kn.leaseMs = s.kn.leaseMs := rfl
@[simp] theorem setMbx_kn_leaseEnd (s : State) (p : Nat) (x : Mbx) : (setMbx s p x).kn.leaseEnd = s.kn.leaseEnd := rfl
@[simp] theorem setMbx_kn_target (s : State) (p : Nat) (x : Mbx) : (setMbx s p x).kn.target = s.kn.target := rfl
@[simp] theorem setMbx_kn_targetNode (s : State) (p : Nat) (x : Mbx) : (setMbx s p x).kn.targetNode = s.kn.targetNode := rfl
@[simp] theorem setMbx_kn_targetLease (s : State) (p : Nat) (x : Mbx) : (setMbx s p x).kn.targetLease = s.kn.targetLease := rfl
@[simp] theorem setMbx_kn_windowEnd (s : State) (p : Nat) (x : Mbx) : (setMbx s p x).kn.windowEnd = s.kn.windowEnd := rfl
@[simp] theorem setMbx_kn_stoodAt (s : State) (p : Nat) (x : Mbx) : (setMbx s p x).kn.stoodAt = s.kn.stoodAt := rfl
@[simp] theorem setMbx_kn_journal (s : State) (p : Nat) (x : Mbx) : (setMbx s p x).kn.journal = s.kn.journal := rfl
@[simp] theorem setMbx_kn_seq (s : State) (p : Nat) (x : Mbx) : (setMbx s p x).kn.seq = s.kn.seq := rfl
@[simp] theorem setMbx_kn_chain (s : State) (p : Nat) (x : Mbx) : (setMbx s p x).kn.chain = s.kn.chain := rfl
@[simp] theorem setMbx_kn_mirror (s : State) (p : Nat) (x : Mbx) : (setMbx s p x).kn.mirror = s.kn.mirror := rfl
@[simp] theorem setMbx_kn_tmpl (s : State) (p : Nat) (x : Mbx) : (setMbx s p x).kn.tmpl = s.kn.tmpl := rfl
@[simp] theorem setMbx_kn_acts (s : State) (p : Nat) (x : Mbx) : (setMbx s p x).kn.acts = s.kn.acts := rfl

/-! ### setRcvy -/

@[simp] theorem setRcvy_pending (s : State) (p : Nat) (x : Rcvy) : (setRcvy s p x).pending = s.pending := rfl
@[simp] theorem setRcvy_trace (s : State) (p : Nat) (x : Rcvy) : (setRcvy s p x).trace = s.trace := rfl
@[simp] theorem setRcvy_free (s : State) (p : Nat) (x : Rcvy) : (setRcvy s p x).free = s.free := rfl
@[simp] theorem setRcvy_clk (s : State) (p : Nat) (x : Rcvy) : (setRcvy s p x).clk = s.clk := rfl
@[simp] theorem setRcvy_regs (s : State) (p : Nat) (x : Rcvy) : (setRcvy s p x).regs = s.regs := rfl
@[simp] theorem setRcvy_time (s : State) (p : Nat) (x : Rcvy) : (setRcvy s p x).time = s.time := rfl
@[simp] theorem setRcvy_cyc (s : State) (p : Nat) (x : Rcvy) : (setRcvy s p x).cyc = s.cyc := rfl
@[simp] theorem setRcvy_ring (s : State) (p : Nat) (x : Rcvy) : (setRcvy s p x).ring = s.ring := rfl
@[simp] theorem setRcvy_cls (s : State) (p : Nat) (x : Rcvy) : (setRcvy s p x).cls = s.cls := rfl
@[simp] theorem setRcvy_meters (s : State) (p : Nat) (x : Rcvy) : (setRcvy s p x).meters = s.meters := rfl
@[simp] theorem setRcvy_metersWas (s : State) (p : Nat) (x : Rcvy) : (setRcvy s p x).metersWas = s.metersWas := rfl
@[simp] theorem setRcvy_vat (s : State) (p : Nat) (x : Rcvy) : (setRcvy s p x).vat = s.vat := rfl
@[simp] theorem setRcvy_eg (s : State) (p : Nat) (x : Rcvy) : (setRcvy s p x).eg = s.eg := rfl
@[simp] theorem setRcvy_ports (s : State) (p : Nat) (x : Rcvy) : (setRcvy s p x).ports = s.ports := rfl
@[simp] theorem setRcvy_host (s : State) (p : Nat) (x : Rcvy) : (setRcvy s p x).host = s.host := rfl
@[simp] theorem setRcvy_dma (s : State) (p : Nat) (x : Rcvy) : (setRcvy s p x).dma = s.dma := rfl
@[simp] theorem setRcvy_geley (s : State) (p : Nat) (x : Rcvy) : (setRcvy s p x).geley = s.geley := rfl
@[simp] theorem setRcvy_kn (s : State) (p : Nat) (x : Rcvy) : (setRcvy s p x).kn = s.kn := rfl
@[simp] theorem setRcvy_flt (s : State) (p : Nat) (x : Rcvy) : (setRcvy s p x).flt = s.flt := rfl
@[simp] theorem setRcvy_ctr (s : State) (p : Nat) (x : Rcvy) : (setRcvy s p x).ctr = s.ctr := rfl
@[simp] theorem setRcvy_boot (s : State) (p : Nat) (x : Rcvy) : (setRcvy s p x).boot = s.boot := rfl
@[simp] theorem setRcvy_sched (s : State) (p : Nat) (x : Rcvy) : (setRcvy s p x).sched = s.sched := rfl
@[simp] theorem setRcvy_pins (s : State) (p : Nat) (x : Rcvy) : (setRcvy s p x).pins = s.pins := rfl
@[simp] theorem setRcvy_frer_ids (s : State) (p : Nat) (x : Rcvy) : (setRcvy s p x).frer.ids = s.frer.ids := rfl
@[simp] theorem setRcvy_frer_gen (s : State) (p : Nat) (x : Rcvy) : (setRcvy s p x).frer.gen = s.frer.gen := rfl

/-! ### setFunc -/

@[simp] theorem setFunc_pending (s : State) (p : Nat) (x : Func) : (setFunc s p x).pending = s.pending := rfl
@[simp] theorem setFunc_trace (s : State) (p : Nat) (x : Func) : (setFunc s p x).trace = s.trace := rfl
@[simp] theorem setFunc_free (s : State) (p : Nat) (x : Func) : (setFunc s p x).free = s.free := rfl
@[simp] theorem setFunc_clk (s : State) (p : Nat) (x : Func) : (setFunc s p x).clk = s.clk := rfl
@[simp] theorem setFunc_regs (s : State) (p : Nat) (x : Func) : (setFunc s p x).regs = s.regs := rfl
@[simp] theorem setFunc_time (s : State) (p : Nat) (x : Func) : (setFunc s p x).time = s.time := rfl
@[simp] theorem setFunc_cyc (s : State) (p : Nat) (x : Func) : (setFunc s p x).cyc = s.cyc := rfl
@[simp] theorem setFunc_ring (s : State) (p : Nat) (x : Func) : (setFunc s p x).ring = s.ring := rfl
@[simp] theorem setFunc_cls (s : State) (p : Nat) (x : Func) : (setFunc s p x).cls = s.cls := rfl
@[simp] theorem setFunc_meters (s : State) (p : Nat) (x : Func) : (setFunc s p x).meters = s.meters := rfl
@[simp] theorem setFunc_metersWas (s : State) (p : Nat) (x : Func) : (setFunc s p x).metersWas = s.metersWas := rfl
@[simp] theorem setFunc_vat (s : State) (p : Nat) (x : Func) : (setFunc s p x).vat = s.vat := rfl
@[simp] theorem setFunc_eg (s : State) (p : Nat) (x : Func) : (setFunc s p x).eg = s.eg := rfl
@[simp] theorem setFunc_frer (s : State) (p : Nat) (x : Func) : (setFunc s p x).frer = s.frer := rfl
@[simp] theorem setFunc_ports (s : State) (p : Nat) (x : Func) : (setFunc s p x).ports = s.ports := rfl
@[simp] theorem setFunc_dma (s : State) (p : Nat) (x : Func) : (setFunc s p x).dma = s.dma := rfl
@[simp] theorem setFunc_geley (s : State) (p : Nat) (x : Func) : (setFunc s p x).geley = s.geley := rfl
@[simp] theorem setFunc_kn (s : State) (p : Nat) (x : Func) : (setFunc s p x).kn = s.kn := rfl
@[simp] theorem setFunc_flt (s : State) (p : Nat) (x : Func) : (setFunc s p x).flt = s.flt := rfl
@[simp] theorem setFunc_ctr (s : State) (p : Nat) (x : Func) : (setFunc s p x).ctr = s.ctr := rfl
@[simp] theorem setFunc_boot (s : State) (p : Nat) (x : Func) : (setFunc s p x).boot = s.boot := rfl
@[simp] theorem setFunc_sched (s : State) (p : Nat) (x : Func) : (setFunc s p x).sched = s.sched := rfl
@[simp] theorem setFunc_pins (s : State) (p : Nat) (x : Func) : (setFunc s p x).pins = s.pins := rfl
@[simp] theorem setFunc_host_bifurcated (s : State) (p : Nat) (x : Func) : (setFunc s p x).host.bifurcated = s.host.bifurcated := rfl
@[simp] theorem setFunc_host_sris (s : State) (p : Nat) (x : Func) : (setFunc s p x).host.sris = s.host.sris := rfl
@[simp] theorem setFunc_host_linkUp (s : State) (p : Nat) (x : Func) : (setFunc s p x).host.linkUp = s.host.linkUp := rfl
@[simp] theorem setFunc_host_widths (s : State) (p : Nat) (x : Func) : (setFunc s p x).host.widths = s.host.widths := rfl
@[simp] theorem setFunc_host_speeds (s : State) (p : Nat) (x : Func) : (setFunc s p x).host.speeds = s.host.speeds := rfl
@[simp] theorem setFunc_host_perst (s : State) (p : Nat) (x : Func) : (setFunc s p x).host.perst = s.host.perst := rfl
@[simp] theorem setFunc_host_numVfs (s : State) (p : Nat) (x : Func) : (setFunc s p x).host.numVfs = s.host.numVfs := rfl
@[simp] theorem setFunc_host_slots (s : State) (p : Nat) (x : Func) : (setFunc s p x).host.slots = s.host.slots := rfl
@[simp] theorem setFunc_host_evMap (s : State) (p : Nat) (x : Func) : (setFunc s p x).host.evMap = s.host.evMap := rfl
@[simp] theorem setFunc_host_pageWas (s : State) (p : Nat) (x : Func) : (setFunc s p x).host.pageWas = s.host.pageWas := rfl
@[simp] theorem setFunc_host_evWas (s : State) (p : Nat) (x : Func) : (setFunc s p x).host.evWas = s.host.evWas := rfl
@[simp] theorem setFunc_host_vecs (s : State) (p : Nat) (x : Func) : (setFunc s p x).host.vecs = s.host.vecs := rfl
@[simp] theorem setFunc_host_perfLatch (s : State) (p : Nat) (x : Func) : (setFunc s p x).host.perfLatch = s.host.perfLatch := rfl
@[simp] theorem setFunc_host_ntHeld (s : State) (p : Nat) (x : Func) : (setFunc s p x).host.ntHeld = s.host.ntHeld := rfl

/-! ### setVec -/

@[simp] theorem setVec_pending (s : State) (f v : Nat) (x : Vec) : (setVec s f v x).pending = s.pending := rfl
@[simp] theorem setVec_trace (s : State) (f v : Nat) (x : Vec) : (setVec s f v x).trace = s.trace := rfl
@[simp] theorem setVec_free (s : State) (f v : Nat) (x : Vec) : (setVec s f v x).free = s.free := rfl
@[simp] theorem setVec_clk (s : State) (f v : Nat) (x : Vec) : (setVec s f v x).clk = s.clk := rfl
@[simp] theorem setVec_regs (s : State) (f v : Nat) (x : Vec) : (setVec s f v x).regs = s.regs := rfl
@[simp] theorem setVec_time (s : State) (f v : Nat) (x : Vec) : (setVec s f v x).time = s.time := rfl
@[simp] theorem setVec_cyc (s : State) (f v : Nat) (x : Vec) : (setVec s f v x).cyc = s.cyc := rfl
@[simp] theorem setVec_ring (s : State) (f v : Nat) (x : Vec) : (setVec s f v x).ring = s.ring := rfl
@[simp] theorem setVec_cls (s : State) (f v : Nat) (x : Vec) : (setVec s f v x).cls = s.cls := rfl
@[simp] theorem setVec_meters (s : State) (f v : Nat) (x : Vec) : (setVec s f v x).meters = s.meters := rfl
@[simp] theorem setVec_metersWas (s : State) (f v : Nat) (x : Vec) : (setVec s f v x).metersWas = s.metersWas := rfl
@[simp] theorem setVec_vat (s : State) (f v : Nat) (x : Vec) : (setVec s f v x).vat = s.vat := rfl
@[simp] theorem setVec_eg (s : State) (f v : Nat) (x : Vec) : (setVec s f v x).eg = s.eg := rfl
@[simp] theorem setVec_frer (s : State) (f v : Nat) (x : Vec) : (setVec s f v x).frer = s.frer := rfl
@[simp] theorem setVec_ports (s : State) (f v : Nat) (x : Vec) : (setVec s f v x).ports = s.ports := rfl
@[simp] theorem setVec_dma (s : State) (f v : Nat) (x : Vec) : (setVec s f v x).dma = s.dma := rfl
@[simp] theorem setVec_geley (s : State) (f v : Nat) (x : Vec) : (setVec s f v x).geley = s.geley := rfl
@[simp] theorem setVec_kn (s : State) (f v : Nat) (x : Vec) : (setVec s f v x).kn = s.kn := rfl
@[simp] theorem setVec_flt (s : State) (f v : Nat) (x : Vec) : (setVec s f v x).flt = s.flt := rfl
@[simp] theorem setVec_ctr (s : State) (f v : Nat) (x : Vec) : (setVec s f v x).ctr = s.ctr := rfl
@[simp] theorem setVec_boot (s : State) (f v : Nat) (x : Vec) : (setVec s f v x).boot = s.boot := rfl
@[simp] theorem setVec_sched (s : State) (f v : Nat) (x : Vec) : (setVec s f v x).sched = s.sched := rfl
@[simp] theorem setVec_pins (s : State) (f v : Nat) (x : Vec) : (setVec s f v x).pins = s.pins := rfl
@[simp] theorem setVec_host_bifurcated (s : State) (f v : Nat) (x : Vec) : (setVec s f v x).host.bifurcated = s.host.bifurcated := rfl
@[simp] theorem setVec_host_sris (s : State) (f v : Nat) (x : Vec) : (setVec s f v x).host.sris = s.host.sris := rfl
@[simp] theorem setVec_host_linkUp (s : State) (f v : Nat) (x : Vec) : (setVec s f v x).host.linkUp = s.host.linkUp := rfl
@[simp] theorem setVec_host_widths (s : State) (f v : Nat) (x : Vec) : (setVec s f v x).host.widths = s.host.widths := rfl
@[simp] theorem setVec_host_speeds (s : State) (f v : Nat) (x : Vec) : (setVec s f v x).host.speeds = s.host.speeds := rfl
@[simp] theorem setVec_host_perst (s : State) (f v : Nat) (x : Vec) : (setVec s f v x).host.perst = s.host.perst := rfl
@[simp] theorem setVec_host_funcs (s : State) (f v : Nat) (x : Vec) : (setVec s f v x).host.funcs = s.host.funcs := rfl
@[simp] theorem setVec_host_numVfs (s : State) (f v : Nat) (x : Vec) : (setVec s f v x).host.numVfs = s.host.numVfs := rfl
@[simp] theorem setVec_host_slots (s : State) (f v : Nat) (x : Vec) : (setVec s f v x).host.slots = s.host.slots := rfl
@[simp] theorem setVec_host_evMap (s : State) (f v : Nat) (x : Vec) : (setVec s f v x).host.evMap = s.host.evMap := rfl
@[simp] theorem setVec_host_pageWas (s : State) (f v : Nat) (x : Vec) : (setVec s f v x).host.pageWas = s.host.pageWas := rfl
@[simp] theorem setVec_host_evWas (s : State) (f v : Nat) (x : Vec) : (setVec s f v x).host.evWas = s.host.evWas := rfl
@[simp] theorem setVec_host_perfLatch (s : State) (f v : Nat) (x : Vec) : (setVec s f v x).host.perfLatch = s.host.perfLatch := rfl
@[simp] theorem setVec_host_ntHeld (s : State) (f v : Nat) (x : Vec) : (setVec s f v x).host.ntHeld = s.host.ntHeld := rfl

/-! ### setPort -/

@[simp] theorem setPort_pending (s : State) (p : Nat) (x : PortSt) : (setPort s p x).pending = s.pending := rfl
@[simp] theorem setPort_trace (s : State) (p : Nat) (x : PortSt) : (setPort s p x).trace = s.trace := rfl
@[simp] theorem setPort_free (s : State) (p : Nat) (x : PortSt) : (setPort s p x).free = s.free := rfl
@[simp] theorem setPort_clk (s : State) (p : Nat) (x : PortSt) : (setPort s p x).clk = s.clk := rfl
@[simp] theorem setPort_regs (s : State) (p : Nat) (x : PortSt) : (setPort s p x).regs = s.regs := rfl
@[simp] theorem setPort_time (s : State) (p : Nat) (x : PortSt) : (setPort s p x).time = s.time := rfl
@[simp] theorem setPort_cyc (s : State) (p : Nat) (x : PortSt) : (setPort s p x).cyc = s.cyc := rfl
@[simp] theorem setPort_ring (s : State) (p : Nat) (x : PortSt) : (setPort s p x).ring = s.ring := rfl
@[simp] theorem setPort_cls (s : State) (p : Nat) (x : PortSt) : (setPort s p x).cls = s.cls := rfl
@[simp] theorem setPort_meters (s : State) (p : Nat) (x : PortSt) : (setPort s p x).meters = s.meters := rfl
@[simp] theorem setPort_metersWas (s : State) (p : Nat) (x : PortSt) : (setPort s p x).metersWas = s.metersWas := rfl
@[simp] theorem setPort_vat (s : State) (p : Nat) (x : PortSt) : (setPort s p x).vat = s.vat := rfl
@[simp] theorem setPort_eg (s : State) (p : Nat) (x : PortSt) : (setPort s p x).eg = s.eg := rfl
@[simp] theorem setPort_frer (s : State) (p : Nat) (x : PortSt) : (setPort s p x).frer = s.frer := rfl
@[simp] theorem setPort_host (s : State) (p : Nat) (x : PortSt) : (setPort s p x).host = s.host := rfl
@[simp] theorem setPort_dma (s : State) (p : Nat) (x : PortSt) : (setPort s p x).dma = s.dma := rfl
@[simp] theorem setPort_geley (s : State) (p : Nat) (x : PortSt) : (setPort s p x).geley = s.geley := rfl
@[simp] theorem setPort_kn (s : State) (p : Nat) (x : PortSt) : (setPort s p x).kn = s.kn := rfl
@[simp] theorem setPort_flt (s : State) (p : Nat) (x : PortSt) : (setPort s p x).flt = s.flt := rfl
@[simp] theorem setPort_ctr (s : State) (p : Nat) (x : PortSt) : (setPort s p x).ctr = s.ctr := rfl
@[simp] theorem setPort_boot (s : State) (p : Nat) (x : PortSt) : (setPort s p x).boot = s.boot := rfl
@[simp] theorem setPort_sched (s : State) (p : Nat) (x : PortSt) : (setPort s p x).sched = s.sched := rfl
@[simp] theorem setPort_pins (s : State) (p : Nat) (x : PortSt) : (setPort s p x).pins = s.pins := rfl
@[simp] theorem setPort_ports_podl (s : State) (p : Nat) (x : PortSt) : (setPort s p x).ports.podl = s.ports.podl := rfl
@[simp] theorem setPort_ports_budget (s : State) (p : Nat) (x : PortSt) : (setPort s p x).ports.budget = s.ports.budget := rfl
@[simp] theorem setPort_ports_modEast (s : State) (p : Nat) (x : PortSt) : (setPort s p x).ports.modEast = s.ports.modEast := rfl
@[simp] theorem setPort_ports_modWest (s : State) (p : Nat) (x : PortSt) : (setPort s p x).ports.modWest = s.ports.modWest := rfl
@[simp] theorem setPort_ports_modFaultE (s : State) (p : Nat) (x : PortSt) : (setPort s p x).ports.modFaultE = s.ports.modFaultE := rfl
@[simp] theorem setPort_ports_modFaultW (s : State) (p : Nat) (x : PortSt) : (setPort s p x).ports.modFaultW = s.ports.modFaultW := rfl

/-! ### setRport -/

@[simp] theorem setRport_pending (s : State) (e : RPort) (x : RingPort) : (setRport s e x).pending = s.pending := by cases e <;> rfl
@[simp] theorem setRport_trace (s : State) (e : RPort) (x : RingPort) : (setRport s e x).trace = s.trace := by cases e <;> rfl
@[simp] theorem setRport_free (s : State) (e : RPort) (x : RingPort) : (setRport s e x).free = s.free := by cases e <;> rfl
@[simp] theorem setRport_clk (s : State) (e : RPort) (x : RingPort) : (setRport s e x).clk = s.clk := by cases e <;> rfl
@[simp] theorem setRport_regs (s : State) (e : RPort) (x : RingPort) : (setRport s e x).regs = s.regs := by cases e <;> rfl
@[simp] theorem setRport_time (s : State) (e : RPort) (x : RingPort) : (setRport s e x).time = s.time := by cases e <;> rfl
@[simp] theorem setRport_cyc (s : State) (e : RPort) (x : RingPort) : (setRport s e x).cyc = s.cyc := by cases e <;> rfl
@[simp] theorem setRport_cls (s : State) (e : RPort) (x : RingPort) : (setRport s e x).cls = s.cls := by cases e <;> rfl
@[simp] theorem setRport_meters (s : State) (e : RPort) (x : RingPort) : (setRport s e x).meters = s.meters := by cases e <;> rfl
@[simp] theorem setRport_metersWas (s : State) (e : RPort) (x : RingPort) : (setRport s e x).metersWas = s.metersWas := by cases e <;> rfl
@[simp] theorem setRport_vat (s : State) (e : RPort) (x : RingPort) : (setRport s e x).vat = s.vat := by cases e <;> rfl
@[simp] theorem setRport_eg (s : State) (e : RPort) (x : RingPort) : (setRport s e x).eg = s.eg := by cases e <;> rfl
@[simp] theorem setRport_frer (s : State) (e : RPort) (x : RingPort) : (setRport s e x).frer = s.frer := by cases e <;> rfl
@[simp] theorem setRport_ports (s : State) (e : RPort) (x : RingPort) : (setRport s e x).ports = s.ports := by cases e <;> rfl
@[simp] theorem setRport_host (s : State) (e : RPort) (x : RingPort) : (setRport s e x).host = s.host := by cases e <;> rfl
@[simp] theorem setRport_dma (s : State) (e : RPort) (x : RingPort) : (setRport s e x).dma = s.dma := by cases e <;> rfl
@[simp] theorem setRport_geley (s : State) (e : RPort) (x : RingPort) : (setRport s e x).geley = s.geley := by cases e <;> rfl
@[simp] theorem setRport_kn (s : State) (e : RPort) (x : RingPort) : (setRport s e x).kn = s.kn := by cases e <;> rfl
@[simp] theorem setRport_flt (s : State) (e : RPort) (x : RingPort) : (setRport s e x).flt = s.flt := by cases e <;> rfl
@[simp] theorem setRport_ctr (s : State) (e : RPort) (x : RingPort) : (setRport s e x).ctr = s.ctr := by cases e <;> rfl
@[simp] theorem setRport_boot (s : State) (e : RPort) (x : RingPort) : (setRport s e x).boot = s.boot := by cases e <;> rfl
@[simp] theorem setRport_sched (s : State) (e : RPort) (x : RingPort) : (setRport s e x).sched = s.sched := by cases e <;> rfl
@[simp] theorem setRport_pins (s : State) (e : RPort) (x : RingPort) : (setRport s e x).pins = s.pins := by cases e <;> rfl
@[simp] theorem setRport_ring_state (s : State) (e : RPort) (x : RingPort) : (setRport s e x).ring.state = s.ring.state := by cases e <;> rfl
@[simp] theorem setRport_ring_eastTx (s : State) (e : RPort) (x : RingPort) : (setRport s e x).ring.eastTx = s.ring.eastTx := by cases e <;> rfl
@[simp] theorem setRport_ring_westTx (s : State) (e : RPort) (x : RingPort) : (setRport s e x).ring.westTx = s.ring.westTx := by cases e <;> rfl
@[simp] theorem setRport_ring_reasm (s : State) (e : RPort) (x : RingPort) : (setRport s e x).ring.reasm = s.ring.reasm := by cases e <;> rfl
@[simp] theorem setRport_ring_cwPort (s : State) (e : RPort) (x : RingPort) : (setRport s e x).ring.cwPort = s.ring.cwPort := by cases e <;> rfl
@[simp] theorem setRport_ring_cwLearnt (s : State) (e : RPort) (x : RingPort) : (setRport s e x).ring.cwLearnt = s.ring.cwLearnt := by cases e <;> rfl
@[simp] theorem setRport_ring_cwChange (s : State) (e : RPort) (x : RingPort) : (setRport s e x).ring.cwChange = s.ring.cwChange := by cases e <;> rfl
@[simp] theorem setRport_ring_reports (s : State) (e : RPort) (x : RingPort) : (setRport s e x).ring.reports = s.ring.reports := by cases e <;> rfl
@[simp] theorem setRport_ring_pendReps (s : State) (e : RPort) (x : RingPort) : (setRport s e x).ring.pendReps = s.ring.pendReps := by cases e <;> rfl
@[simp] theorem setRport_ring_pendEvs (s : State) (e : RPort) (x : RingPort) : (setRport s e x).ring.pendEvs = s.ring.pendEvs := by cases e <;> rfl
@[simp] theorem setRport_ring_recentEvs (s : State) (e : RPort) (x : RingPort) : (setRport s e x).ring.recentEvs = s.ring.recentEvs := by cases e <;> rfl
@[simp] theorem setRport_ring_folds (s : State) (e : RPort) (x : RingPort) : (setRport s e x).ring.folds = s.ring.folds := by cases e <;> rfl
@[simp] theorem setRport_ring_unfolded (s : State) (e : RPort) (x : RingPort) : (setRport s e x).ring.unfolded = s.ring.unfolded := by cases e <;> rfl
@[simp] theorem setRport_ring_repSeen (s : State) (e : RPort) (x : RingPort) : (setRport s e x).ring.repSeen = s.ring.repSeen := by cases e <;> rfl
@[simp] theorem setRport_ring_calSeq (s : State) (e : RPort) (x : RingPort) : (setRport s e x).ring.calSeq = s.ring.calSeq := by cases e <;> rfl
@[simp] theorem setRport_ring_reportDue (s : State) (e : RPort) (x : RingPort) : (setRport s e x).ring.reportDue = s.ring.reportDue := by cases e <;> rfl
@[simp] theorem setRport_ring_hopE2W (s : State) (e : RPort) (x : RingPort) : (setRport s e x).ring.hopE2W = s.ring.hopE2W := by cases e <;> rfl
@[simp] theorem setRport_ring_hopW2E (s : State) (e : RPort) (x : RingPort) : (setRport s e x).ring.hopW2E = s.ring.hopW2E := by cases e <;> rfl
@[simp] theorem setRport_ring_hopAccE2W (s : State) (e : RPort) (x : RingPort) : (setRport s e x).ring.hopAccE2W = s.ring.hopAccE2W := by cases e <;> rfl
@[simp] theorem setRport_ring_hopAccW2E (s : State) (e : RPort) (x : RingPort) : (setRport s e x).ring.hopAccW2E = s.ring.hopAccW2E := by cases e <;> rfl
@[simp] theorem setRport_ring_calDeadline (s : State) (e : RPort) (x : RingPort) : (setRport s e x).ring.calDeadline = s.ring.calDeadline := by cases e <;> rfl
@[simp] theorem setRport_ring_calEnded (s : State) (e : RPort) (x : RingPort) : (setRport s e x).ring.calEnded = s.ring.calEnded := by cases e <;> rfl
@[simp] theorem setRport_ring_keystone (s : State) (e : RPort) (x : RingPort) : (setRport s e x).ring.keystone = s.ring.keystone := by cases e <;> rfl
@[simp] theorem setRport_ring_listenEnd (s : State) (e : RPort) (x : RingPort) : (setRport s e x).ring.listenEnd = s.ring.listenEnd := by cases e <;> rfl
@[simp] theorem setRport_ring_annSeq (s : State) (e : RPort) (x : RingPort) : (setRport s e x).ring.annSeq = s.ring.annSeq := by cases e <;> rfl
@[simp] theorem setRport_ring_annC0 (s : State) (e : RPort) (x : RingPort) : (setRport s e x).ring.annC0 = s.ring.annC0 := by cases e <;> rfl
@[simp] theorem setRport_ring_annEnd (s : State) (e : RPort) (x : RingPort) : (setRport s e x).ring.annEnd = s.ring.annEnd := by cases e <;> rfl
@[simp] theorem setRport_ring_annNext (s : State) (e : RPort) (x : RingPort) : (setRport s e x).ring.annNext = s.ring.annNext := by cases e <;> rfl
@[simp] theorem setRport_ring_confirmed (s : State) (e : RPort) (x : RingPort) : (setRport s e x).ring.confirmed = s.ring.confirmed := by cases e <;> rfl
@[simp] theorem setRport_ring_annHeard (s : State) (e : RPort) (x : RingPort) : (setRport s e x).ring.annHeard = s.ring.annHeard := by cases e <;> rfl
@[simp] theorem setRport_ring_backoffEnd (s : State) (e : RPort) (x : RingPort) : (setRport s e x).ring.backoffEnd = s.ring.backoffEnd := by cases e <;> rfl
@[simp] theorem setRport_ring_evSeq (s : State) (e : RPort) (x : RingPort) : (setRport s e x).ring.evSeq = s.ring.evSeq := by cases e <;> rfl
@[simp] theorem setRport_ring_evOut (s : State) (e : RPort) (x : RingPort) : (setRport s e x).ring.evOut = s.ring.evOut := by cases e <;> rfl
@[simp] theorem setRport_ring_bypassOn (s : State) (e : RPort) (x : RingPort) : (setRport s e x).ring.bypassOn = s.ring.bypassOn := by cases e <;> rfl
@[simp] theorem setRport_ring_bypassBeats (s : State) (e : RPort) (x : RingPort) : (setRport s e x).ring.bypassBeats = s.ring.bypassBeats := by cases e <;> rfl
@[simp] theorem setRport_ring_bypassC0 (s : State) (e : RPort) (x : RingPort) : (setRport s e x).ring.bypassC0 = s.ring.bypassC0 := by cases e <;> rfl
@[simp] theorem setRport_ring_bypassSince (s : State) (e : RPort) (x : RingPort) : (setRport s e x).ring.bypassSince = s.ring.bypassSince := by cases e <;> rfl
@[simp] theorem setRport_ring_bypassEst (s : State) (e : RPort) (x : RingPort) : (setRport s e x).ring.bypassEst = s.ring.bypassEst := by cases e <;> rfl
@[simp] theorem setRport_ring_withdrawAt (s : State) (e : RPort) (x : RingPort) : (setRport s e x).ring.withdrawAt = s.ring.withdrawAt := by cases e <;> rfl
@[simp] theorem setRport_ring_withdrawFrom (s : State) (e : RPort) (x : RingPort) : (setRport s e x).ring.withdrawFrom = s.ring.withdrawFrom := by cases e <;> rfl
@[simp] theorem setRport_ring_withdrawByp (s : State) (e : RPort) (x : RingPort) : (setRport s e x).ring.withdrawByp = s.ring.withdrawByp := by cases e <;> rfl
@[simp] theorem setRport_ring_withdrawBypCycle (s : State) (e : RPort) (x : RingPort) : (setRport s e x).ring.withdrawBypCycle = s.ring.withdrawBypCycle := by cases e <;> rfl
@[simp] theorem setRport_ring_readmitted (s : State) (e : RPort) (x : RingPort) : (setRport s e x).ring.readmitted = s.ring.readmitted := by cases e <;> rfl
@[simp] theorem setRport_ring_cmdBypassByWithdraw (s : State) (e : RPort) (x : RingPort) : (setRport s e x).ring.cmdBypassByWithdraw = s.ring.cmdBypassByWithdraw := by cases e <;> rfl

/-! ### setRtx -/

@[simp] theorem setRtx_pending (s : State) (e : RPort) (x : RingTx) : (setRtx s e x).pending = s.pending := by cases e <;> rfl
@[simp] theorem setRtx_trace (s : State) (e : RPort) (x : RingTx) : (setRtx s e x).trace = s.trace := by cases e <;> rfl
@[simp] theorem setRtx_free (s : State) (e : RPort) (x : RingTx) : (setRtx s e x).free = s.free := by cases e <;> rfl
@[simp] theorem setRtx_clk (s : State) (e : RPort) (x : RingTx) : (setRtx s e x).clk = s.clk := by cases e <;> rfl
@[simp] theorem setRtx_regs (s : State) (e : RPort) (x : RingTx) : (setRtx s e x).regs = s.regs := by cases e <;> rfl
@[simp] theorem setRtx_time (s : State) (e : RPort) (x : RingTx) : (setRtx s e x).time = s.time := by cases e <;> rfl
@[simp] theorem setRtx_cyc (s : State) (e : RPort) (x : RingTx) : (setRtx s e x).cyc = s.cyc := by cases e <;> rfl
@[simp] theorem setRtx_cls (s : State) (e : RPort) (x : RingTx) : (setRtx s e x).cls = s.cls := by cases e <;> rfl
@[simp] theorem setRtx_meters (s : State) (e : RPort) (x : RingTx) : (setRtx s e x).meters = s.meters := by cases e <;> rfl
@[simp] theorem setRtx_metersWas (s : State) (e : RPort) (x : RingTx) : (setRtx s e x).metersWas = s.metersWas := by cases e <;> rfl
@[simp] theorem setRtx_vat (s : State) (e : RPort) (x : RingTx) : (setRtx s e x).vat = s.vat := by cases e <;> rfl
@[simp] theorem setRtx_eg (s : State) (e : RPort) (x : RingTx) : (setRtx s e x).eg = s.eg := by cases e <;> rfl
@[simp] theorem setRtx_frer (s : State) (e : RPort) (x : RingTx) : (setRtx s e x).frer = s.frer := by cases e <;> rfl
@[simp] theorem setRtx_ports (s : State) (e : RPort) (x : RingTx) : (setRtx s e x).ports = s.ports := by cases e <;> rfl
@[simp] theorem setRtx_host (s : State) (e : RPort) (x : RingTx) : (setRtx s e x).host = s.host := by cases e <;> rfl
@[simp] theorem setRtx_dma (s : State) (e : RPort) (x : RingTx) : (setRtx s e x).dma = s.dma := by cases e <;> rfl
@[simp] theorem setRtx_geley (s : State) (e : RPort) (x : RingTx) : (setRtx s e x).geley = s.geley := by cases e <;> rfl
@[simp] theorem setRtx_flt (s : State) (e : RPort) (x : RingTx) : (setRtx s e x).flt = s.flt := by cases e <;> rfl
@[simp] theorem setRtx_ctr (s : State) (e : RPort) (x : RingTx) : (setRtx s e x).ctr = s.ctr := by cases e <;> rfl
@[simp] theorem setRtx_boot (s : State) (e : RPort) (x : RingTx) : (setRtx s e x).boot = s.boot := by cases e <;> rfl
@[simp] theorem setRtx_sched (s : State) (e : RPort) (x : RingTx) : (setRtx s e x).sched = s.sched := by cases e <;> rfl
@[simp] theorem setRtx_pins (s : State) (e : RPort) (x : RingTx) : (setRtx s e x).pins = s.pins := by cases e <;> rfl
@[simp] theorem setRtx_ring_state (s : State) (e : RPort) (x : RingTx) : (setRtx s e x).ring.state = s.ring.state := by cases e <;> rfl
@[simp] theorem setRtx_ring_east (s : State) (e : RPort) (x : RingTx) : (setRtx s e x).ring.east = s.ring.east := by cases e <;> rfl
@[simp] theorem setRtx_ring_west (s : State) (e : RPort) (x : RingTx) : (setRtx s e x).ring.west = s.ring.west := by cases e <;> rfl
@[simp] theorem setRtx_ring_reasm (s : State) (e : RPort) (x : RingTx) : (setRtx s e x).ring.reasm = s.ring.reasm := by cases e <;> rfl
@[simp] theorem setRtx_ring_cwPort (s : State) (e : RPort) (x : RingTx) : (setRtx s e x).ring.cwPort = s.ring.cwPort := by cases e <;> rfl
@[simp] theorem setRtx_ring_cwLearnt (s : State) (e : RPort) (x : RingTx) : (setRtx s e x).ring.cwLearnt = s.ring.cwLearnt := by cases e <;> rfl
@[simp] theorem setRtx_ring_cwChange (s : State) (e : RPort) (x : RingTx) : (setRtx s e x).ring.cwChange = s.ring.cwChange := by cases e <;> rfl
@[simp] theorem setRtx_ring_reports (s : State) (e : RPort) (x : RingTx) : (setRtx s e x).ring.reports = s.ring.reports := by cases e <;> rfl
@[simp] theorem setRtx_ring_pendReps (s : State) (e : RPort) (x : RingTx) : (setRtx s e x).ring.pendReps = s.ring.pendReps := by cases e <;> rfl
@[simp] theorem setRtx_ring_pendEvs (s : State) (e : RPort) (x : RingTx) : (setRtx s e x).ring.pendEvs = s.ring.pendEvs := by cases e <;> rfl
@[simp] theorem setRtx_ring_recentEvs (s : State) (e : RPort) (x : RingTx) : (setRtx s e x).ring.recentEvs = s.ring.recentEvs := by cases e <;> rfl
@[simp] theorem setRtx_ring_folds (s : State) (e : RPort) (x : RingTx) : (setRtx s e x).ring.folds = s.ring.folds := by cases e <;> rfl
@[simp] theorem setRtx_ring_unfolded (s : State) (e : RPort) (x : RingTx) : (setRtx s e x).ring.unfolded = s.ring.unfolded := by cases e <;> rfl
@[simp] theorem setRtx_ring_repSeen (s : State) (e : RPort) (x : RingTx) : (setRtx s e x).ring.repSeen = s.ring.repSeen := by cases e <;> rfl
@[simp] theorem setRtx_ring_calSeq (s : State) (e : RPort) (x : RingTx) : (setRtx s e x).ring.calSeq = s.ring.calSeq := by cases e <;> rfl
@[simp] theorem setRtx_ring_reportDue (s : State) (e : RPort) (x : RingTx) : (setRtx s e x).ring.reportDue = s.ring.reportDue := by cases e <;> rfl
@[simp] theorem setRtx_ring_hopE2W (s : State) (e : RPort) (x : RingTx) : (setRtx s e x).ring.hopE2W = s.ring.hopE2W := by cases e <;> rfl
@[simp] theorem setRtx_ring_hopW2E (s : State) (e : RPort) (x : RingTx) : (setRtx s e x).ring.hopW2E = s.ring.hopW2E := by cases e <;> rfl
@[simp] theorem setRtx_ring_hopAccE2W (s : State) (e : RPort) (x : RingTx) : (setRtx s e x).ring.hopAccE2W = s.ring.hopAccE2W := by cases e <;> rfl
@[simp] theorem setRtx_ring_hopAccW2E (s : State) (e : RPort) (x : RingTx) : (setRtx s e x).ring.hopAccW2E = s.ring.hopAccW2E := by cases e <;> rfl
@[simp] theorem setRtx_ring_calDeadline (s : State) (e : RPort) (x : RingTx) : (setRtx s e x).ring.calDeadline = s.ring.calDeadline := by cases e <;> rfl
@[simp] theorem setRtx_ring_calEnded (s : State) (e : RPort) (x : RingTx) : (setRtx s e x).ring.calEnded = s.ring.calEnded := by cases e <;> rfl
@[simp] theorem setRtx_ring_keystone (s : State) (e : RPort) (x : RingTx) : (setRtx s e x).ring.keystone = s.ring.keystone := by cases e <;> rfl
@[simp] theorem setRtx_ring_listenEnd (s : State) (e : RPort) (x : RingTx) : (setRtx s e x).ring.listenEnd = s.ring.listenEnd := by cases e <;> rfl
@[simp] theorem setRtx_ring_annSeq (s : State) (e : RPort) (x : RingTx) : (setRtx s e x).ring.annSeq = s.ring.annSeq := by cases e <;> rfl
@[simp] theorem setRtx_ring_annC0 (s : State) (e : RPort) (x : RingTx) : (setRtx s e x).ring.annC0 = s.ring.annC0 := by cases e <;> rfl
@[simp] theorem setRtx_ring_annEnd (s : State) (e : RPort) (x : RingTx) : (setRtx s e x).ring.annEnd = s.ring.annEnd := by cases e <;> rfl
@[simp] theorem setRtx_ring_annNext (s : State) (e : RPort) (x : RingTx) : (setRtx s e x).ring.annNext = s.ring.annNext := by cases e <;> rfl
@[simp] theorem setRtx_ring_confirmed (s : State) (e : RPort) (x : RingTx) : (setRtx s e x).ring.confirmed = s.ring.confirmed := by cases e <;> rfl
@[simp] theorem setRtx_ring_annHeard (s : State) (e : RPort) (x : RingTx) : (setRtx s e x).ring.annHeard = s.ring.annHeard := by cases e <;> rfl
@[simp] theorem setRtx_ring_backoffEnd (s : State) (e : RPort) (x : RingTx) : (setRtx s e x).ring.backoffEnd = s.ring.backoffEnd := by cases e <;> rfl
@[simp] theorem setRtx_ring_evSeq (s : State) (e : RPort) (x : RingTx) : (setRtx s e x).ring.evSeq = s.ring.evSeq := by cases e <;> rfl
@[simp] theorem setRtx_ring_evOut (s : State) (e : RPort) (x : RingTx) : (setRtx s e x).ring.evOut = s.ring.evOut := by cases e <;> rfl
@[simp] theorem setRtx_ring_bypassOn (s : State) (e : RPort) (x : RingTx) : (setRtx s e x).ring.bypassOn = s.ring.bypassOn := by cases e <;> rfl
@[simp] theorem setRtx_ring_bypassBeats (s : State) (e : RPort) (x : RingTx) : (setRtx s e x).ring.bypassBeats = s.ring.bypassBeats := by cases e <;> rfl
@[simp] theorem setRtx_ring_bypassC0 (s : State) (e : RPort) (x : RingTx) : (setRtx s e x).ring.bypassC0 = s.ring.bypassC0 := by cases e <;> rfl
@[simp] theorem setRtx_ring_bypassSince (s : State) (e : RPort) (x : RingTx) : (setRtx s e x).ring.bypassSince = s.ring.bypassSince := by cases e <;> rfl
@[simp] theorem setRtx_ring_bypassEst (s : State) (e : RPort) (x : RingTx) : (setRtx s e x).ring.bypassEst = s.ring.bypassEst := by cases e <;> rfl
@[simp] theorem setRtx_ring_withdrawAt (s : State) (e : RPort) (x : RingTx) : (setRtx s e x).ring.withdrawAt = s.ring.withdrawAt := by cases e <;> rfl
@[simp] theorem setRtx_ring_withdrawFrom (s : State) (e : RPort) (x : RingTx) : (setRtx s e x).ring.withdrawFrom = s.ring.withdrawFrom := by cases e <;> rfl
@[simp] theorem setRtx_ring_withdrawByp (s : State) (e : RPort) (x : RingTx) : (setRtx s e x).ring.withdrawByp = s.ring.withdrawByp := by cases e <;> rfl
@[simp] theorem setRtx_ring_withdrawBypCycle (s : State) (e : RPort) (x : RingTx) : (setRtx s e x).ring.withdrawBypCycle = s.ring.withdrawBypCycle := by cases e <;> rfl
@[simp] theorem setRtx_ring_readmitted (s : State) (e : RPort) (x : RingTx) : (setRtx s e x).ring.readmitted = s.ring.readmitted := by cases e <;> rfl
@[simp] theorem setRtx_ring_cmdBypassByWithdraw (s : State) (e : RPort) (x : RingTx) : (setRtx s e x).ring.cmdBypassByWithdraw = s.ring.cmdBypassByWithdraw := by cases e <;> rfl

/-! ### setCtx -/

@[simp] theorem setCtx_pending (s : State) (e : RPort) (l : Level) (x : Reasm) : (setCtx s e l x).pending = s.pending := rfl
@[simp] theorem setCtx_trace (s : State) (e : RPort) (l : Level) (x : Reasm) : (setCtx s e l x).trace = s.trace := rfl
@[simp] theorem setCtx_free (s : State) (e : RPort) (l : Level) (x : Reasm) : (setCtx s e l x).free = s.free := rfl
@[simp] theorem setCtx_clk (s : State) (e : RPort) (l : Level) (x : Reasm) : (setCtx s e l x).clk = s.clk := rfl
@[simp] theorem setCtx_regs (s : State) (e : RPort) (l : Level) (x : Reasm) : (setCtx s e l x).regs = s.regs := rfl
@[simp] theorem setCtx_time (s : State) (e : RPort) (l : Level) (x : Reasm) : (setCtx s e l x).time = s.time := rfl
@[simp] theorem setCtx_cyc (s : State) (e : RPort) (l : Level) (x : Reasm) : (setCtx s e l x).cyc = s.cyc := rfl
@[simp] theorem setCtx_cls (s : State) (e : RPort) (l : Level) (x : Reasm) : (setCtx s e l x).cls = s.cls := rfl
@[simp] theorem setCtx_meters (s : State) (e : RPort) (l : Level) (x : Reasm) : (setCtx s e l x).meters = s.meters := rfl
@[simp] theorem setCtx_metersWas (s : State) (e : RPort) (l : Level) (x : Reasm) : (setCtx s e l x).metersWas = s.metersWas := rfl
@[simp] theorem setCtx_vat (s : State) (e : RPort) (l : Level) (x : Reasm) : (setCtx s e l x).vat = s.vat := rfl
@[simp] theorem setCtx_eg (s : State) (e : RPort) (l : Level) (x : Reasm) : (setCtx s e l x).eg = s.eg := rfl
@[simp] theorem setCtx_frer (s : State) (e : RPort) (l : Level) (x : Reasm) : (setCtx s e l x).frer = s.frer := rfl
@[simp] theorem setCtx_ports (s : State) (e : RPort) (l : Level) (x : Reasm) : (setCtx s e l x).ports = s.ports := rfl
@[simp] theorem setCtx_host (s : State) (e : RPort) (l : Level) (x : Reasm) : (setCtx s e l x).host = s.host := rfl
@[simp] theorem setCtx_dma (s : State) (e : RPort) (l : Level) (x : Reasm) : (setCtx s e l x).dma = s.dma := rfl
@[simp] theorem setCtx_geley (s : State) (e : RPort) (l : Level) (x : Reasm) : (setCtx s e l x).geley = s.geley := rfl
@[simp] theorem setCtx_kn (s : State) (e : RPort) (l : Level) (x : Reasm) : (setCtx s e l x).kn = s.kn := rfl
@[simp] theorem setCtx_flt (s : State) (e : RPort) (l : Level) (x : Reasm) : (setCtx s e l x).flt = s.flt := rfl
@[simp] theorem setCtx_ctr (s : State) (e : RPort) (l : Level) (x : Reasm) : (setCtx s e l x).ctr = s.ctr := rfl
@[simp] theorem setCtx_boot (s : State) (e : RPort) (l : Level) (x : Reasm) : (setCtx s e l x).boot = s.boot := rfl
@[simp] theorem setCtx_sched (s : State) (e : RPort) (l : Level) (x : Reasm) : (setCtx s e l x).sched = s.sched := rfl
@[simp] theorem setCtx_pins (s : State) (e : RPort) (l : Level) (x : Reasm) : (setCtx s e l x).pins = s.pins := rfl
@[simp] theorem setCtx_ring_state (s : State) (e : RPort) (l : Level) (x : Reasm) : (setCtx s e l x).ring.state = s.ring.state := rfl
@[simp] theorem setCtx_ring_east (s : State) (e : RPort) (l : Level) (x : Reasm) : (setCtx s e l x).ring.east = s.ring.east := rfl
@[simp] theorem setCtx_ring_west (s : State) (e : RPort) (l : Level) (x : Reasm) : (setCtx s e l x).ring.west = s.ring.west := rfl
@[simp] theorem setCtx_ring_eastTx (s : State) (e : RPort) (l : Level) (x : Reasm) : (setCtx s e l x).ring.eastTx = s.ring.eastTx := rfl
@[simp] theorem setCtx_ring_westTx (s : State) (e : RPort) (l : Level) (x : Reasm) : (setCtx s e l x).ring.westTx = s.ring.westTx := rfl
@[simp] theorem setCtx_ring_cwPort (s : State) (e : RPort) (l : Level) (x : Reasm) : (setCtx s e l x).ring.cwPort = s.ring.cwPort := rfl
@[simp] theorem setCtx_ring_cwLearnt (s : State) (e : RPort) (l : Level) (x : Reasm) : (setCtx s e l x).ring.cwLearnt = s.ring.cwLearnt := rfl
@[simp] theorem setCtx_ring_cwChange (s : State) (e : RPort) (l : Level) (x : Reasm) : (setCtx s e l x).ring.cwChange = s.ring.cwChange := rfl
@[simp] theorem setCtx_ring_reports (s : State) (e : RPort) (l : Level) (x : Reasm) : (setCtx s e l x).ring.reports = s.ring.reports := rfl
@[simp] theorem setCtx_ring_pendReps (s : State) (e : RPort) (l : Level) (x : Reasm) : (setCtx s e l x).ring.pendReps = s.ring.pendReps := rfl
@[simp] theorem setCtx_ring_pendEvs (s : State) (e : RPort) (l : Level) (x : Reasm) : (setCtx s e l x).ring.pendEvs = s.ring.pendEvs := rfl
@[simp] theorem setCtx_ring_recentEvs (s : State) (e : RPort) (l : Level) (x : Reasm) : (setCtx s e l x).ring.recentEvs = s.ring.recentEvs := rfl
@[simp] theorem setCtx_ring_folds (s : State) (e : RPort) (l : Level) (x : Reasm) : (setCtx s e l x).ring.folds = s.ring.folds := rfl
@[simp] theorem setCtx_ring_unfolded (s : State) (e : RPort) (l : Level) (x : Reasm) : (setCtx s e l x).ring.unfolded = s.ring.unfolded := rfl
@[simp] theorem setCtx_ring_repSeen (s : State) (e : RPort) (l : Level) (x : Reasm) : (setCtx s e l x).ring.repSeen = s.ring.repSeen := rfl
@[simp] theorem setCtx_ring_calSeq (s : State) (e : RPort) (l : Level) (x : Reasm) : (setCtx s e l x).ring.calSeq = s.ring.calSeq := rfl
@[simp] theorem setCtx_ring_reportDue (s : State) (e : RPort) (l : Level) (x : Reasm) : (setCtx s e l x).ring.reportDue = s.ring.reportDue := rfl
@[simp] theorem setCtx_ring_hopE2W (s : State) (e : RPort) (l : Level) (x : Reasm) : (setCtx s e l x).ring.hopE2W = s.ring.hopE2W := rfl
@[simp] theorem setCtx_ring_hopW2E (s : State) (e : RPort) (l : Level) (x : Reasm) : (setCtx s e l x).ring.hopW2E = s.ring.hopW2E := rfl
@[simp] theorem setCtx_ring_hopAccE2W (s : State) (e : RPort) (l : Level) (x : Reasm) : (setCtx s e l x).ring.hopAccE2W = s.ring.hopAccE2W := rfl
@[simp] theorem setCtx_ring_hopAccW2E (s : State) (e : RPort) (l : Level) (x : Reasm) : (setCtx s e l x).ring.hopAccW2E = s.ring.hopAccW2E := rfl
@[simp] theorem setCtx_ring_calDeadline (s : State) (e : RPort) (l : Level) (x : Reasm) : (setCtx s e l x).ring.calDeadline = s.ring.calDeadline := rfl
@[simp] theorem setCtx_ring_calEnded (s : State) (e : RPort) (l : Level) (x : Reasm) : (setCtx s e l x).ring.calEnded = s.ring.calEnded := rfl
@[simp] theorem setCtx_ring_keystone (s : State) (e : RPort) (l : Level) (x : Reasm) : (setCtx s e l x).ring.keystone = s.ring.keystone := rfl
@[simp] theorem setCtx_ring_listenEnd (s : State) (e : RPort) (l : Level) (x : Reasm) : (setCtx s e l x).ring.listenEnd = s.ring.listenEnd := rfl
@[simp] theorem setCtx_ring_annSeq (s : State) (e : RPort) (l : Level) (x : Reasm) : (setCtx s e l x).ring.annSeq = s.ring.annSeq := rfl
@[simp] theorem setCtx_ring_annC0 (s : State) (e : RPort) (l : Level) (x : Reasm) : (setCtx s e l x).ring.annC0 = s.ring.annC0 := rfl
@[simp] theorem setCtx_ring_annEnd (s : State) (e : RPort) (l : Level) (x : Reasm) : (setCtx s e l x).ring.annEnd = s.ring.annEnd := rfl
@[simp] theorem setCtx_ring_annNext (s : State) (e : RPort) (l : Level) (x : Reasm) : (setCtx s e l x).ring.annNext = s.ring.annNext := rfl
@[simp] theorem setCtx_ring_confirmed (s : State) (e : RPort) (l : Level) (x : Reasm) : (setCtx s e l x).ring.confirmed = s.ring.confirmed := rfl
@[simp] theorem setCtx_ring_annHeard (s : State) (e : RPort) (l : Level) (x : Reasm) : (setCtx s e l x).ring.annHeard = s.ring.annHeard := rfl
@[simp] theorem setCtx_ring_backoffEnd (s : State) (e : RPort) (l : Level) (x : Reasm) : (setCtx s e l x).ring.backoffEnd = s.ring.backoffEnd := rfl
@[simp] theorem setCtx_ring_evSeq (s : State) (e : RPort) (l : Level) (x : Reasm) : (setCtx s e l x).ring.evSeq = s.ring.evSeq := rfl
@[simp] theorem setCtx_ring_evOut (s : State) (e : RPort) (l : Level) (x : Reasm) : (setCtx s e l x).ring.evOut = s.ring.evOut := rfl
@[simp] theorem setCtx_ring_bypassOn (s : State) (e : RPort) (l : Level) (x : Reasm) : (setCtx s e l x).ring.bypassOn = s.ring.bypassOn := rfl
@[simp] theorem setCtx_ring_bypassBeats (s : State) (e : RPort) (l : Level) (x : Reasm) : (setCtx s e l x).ring.bypassBeats = s.ring.bypassBeats := rfl
@[simp] theorem setCtx_ring_bypassC0 (s : State) (e : RPort) (l : Level) (x : Reasm) : (setCtx s e l x).ring.bypassC0 = s.ring.bypassC0 := rfl
@[simp] theorem setCtx_ring_bypassSince (s : State) (e : RPort) (l : Level) (x : Reasm) : (setCtx s e l x).ring.bypassSince = s.ring.bypassSince := rfl
@[simp] theorem setCtx_ring_bypassEst (s : State) (e : RPort) (l : Level) (x : Reasm) : (setCtx s e l x).ring.bypassEst = s.ring.bypassEst := rfl
@[simp] theorem setCtx_ring_withdrawAt (s : State) (e : RPort) (l : Level) (x : Reasm) : (setCtx s e l x).ring.withdrawAt = s.ring.withdrawAt := rfl
@[simp] theorem setCtx_ring_withdrawFrom (s : State) (e : RPort) (l : Level) (x : Reasm) : (setCtx s e l x).ring.withdrawFrom = s.ring.withdrawFrom := rfl
@[simp] theorem setCtx_ring_withdrawByp (s : State) (e : RPort) (l : Level) (x : Reasm) : (setCtx s e l x).ring.withdrawByp = s.ring.withdrawByp := rfl
@[simp] theorem setCtx_ring_withdrawBypCycle (s : State) (e : RPort) (l : Level) (x : Reasm) : (setCtx s e l x).ring.withdrawBypCycle = s.ring.withdrawBypCycle := rfl
@[simp] theorem setCtx_ring_readmitted (s : State) (e : RPort) (l : Level) (x : Reasm) : (setCtx s e l x).ring.readmitted = s.ring.readmitted := rfl
@[simp] theorem setCtx_ring_cmdBypassByWithdraw (s : State) (e : RPort) (l : Level) (x : Reasm) : (setCtx s e l x).ring.cmdBypassByWithdraw = s.ring.cmdBypassByWithdraw := rfl

/-! ### setDrive -/

@[simp] theorem setDrive_pending (s : State) (d : Nat) (x : Drive) : (setDrive s d x).pending = s.pending := by unfold setDrive; split <;> rfl
@[simp] theorem setDrive_trace (s : State) (d : Nat) (x : Drive) : (setDrive s d x).trace = s.trace := by unfold setDrive; split <;> rfl
@[simp] theorem setDrive_free (s : State) (d : Nat) (x : Drive) : (setDrive s d x).free = s.free := by unfold setDrive; split <;> rfl
@[simp] theorem setDrive_clk (s : State) (d : Nat) (x : Drive) : (setDrive s d x).clk = s.clk := by unfold setDrive; split <;> rfl
@[simp] theorem setDrive_regs (s : State) (d : Nat) (x : Drive) : (setDrive s d x).regs = s.regs := by unfold setDrive; split <;> rfl
@[simp] theorem setDrive_time (s : State) (d : Nat) (x : Drive) : (setDrive s d x).time = s.time := by unfold setDrive; split <;> rfl
@[simp] theorem setDrive_cyc (s : State) (d : Nat) (x : Drive) : (setDrive s d x).cyc = s.cyc := by unfold setDrive; split <;> rfl
@[simp] theorem setDrive_ring (s : State) (d : Nat) (x : Drive) : (setDrive s d x).ring = s.ring := by unfold setDrive; split <;> rfl
@[simp] theorem setDrive_cls (s : State) (d : Nat) (x : Drive) : (setDrive s d x).cls = s.cls := by unfold setDrive; split <;> rfl
@[simp] theorem setDrive_meters (s : State) (d : Nat) (x : Drive) : (setDrive s d x).meters = s.meters := by unfold setDrive; split <;> rfl
@[simp] theorem setDrive_metersWas (s : State) (d : Nat) (x : Drive) : (setDrive s d x).metersWas = s.metersWas := by unfold setDrive; split <;> rfl
@[simp] theorem setDrive_vat (s : State) (d : Nat) (x : Drive) : (setDrive s d x).vat = s.vat := by unfold setDrive; split <;> rfl
@[simp] theorem setDrive_eg (s : State) (d : Nat) (x : Drive) : (setDrive s d x).eg = s.eg := by unfold setDrive; split <;> rfl
@[simp] theorem setDrive_frer (s : State) (d : Nat) (x : Drive) : (setDrive s d x).frer = s.frer := by unfold setDrive; split <;> rfl
@[simp] theorem setDrive_ports (s : State) (d : Nat) (x : Drive) : (setDrive s d x).ports = s.ports := by unfold setDrive; split <;> rfl
@[simp] theorem setDrive_host (s : State) (d : Nat) (x : Drive) : (setDrive s d x).host = s.host := by unfold setDrive; split <;> rfl
@[simp] theorem setDrive_dma (s : State) (d : Nat) (x : Drive) : (setDrive s d x).dma = s.dma := by unfold setDrive; split <;> rfl
@[simp] theorem setDrive_kn (s : State) (d : Nat) (x : Drive) : (setDrive s d x).kn = s.kn := by unfold setDrive; split <;> rfl
@[simp] theorem setDrive_flt (s : State) (d : Nat) (x : Drive) : (setDrive s d x).flt = s.flt := by unfold setDrive; split <;> rfl
@[simp] theorem setDrive_ctr (s : State) (d : Nat) (x : Drive) : (setDrive s d x).ctr = s.ctr := by unfold setDrive; split <;> rfl
@[simp] theorem setDrive_boot (s : State) (d : Nat) (x : Drive) : (setDrive s d x).boot = s.boot := by unfold setDrive; split <;> rfl
@[simp] theorem setDrive_sched (s : State) (d : Nat) (x : Drive) : (setDrive s d x).sched = s.sched := by unfold setDrive; split <;> rfl
@[simp] theorem setDrive_pins (s : State) (d : Nat) (x : Drive) : (setDrive s d x).pins = s.pins := by unfold setDrive; split <;> rfl
@[simp] theorem setDrive_geley_streams (s : State) (d : Nat) (x : Drive) : (setDrive s d x).geley.streams = s.geley.streams := by unfold setDrive; split <;> rfl
@[simp] theorem setDrive_geley_streamNext (s : State) (d : Nat) (x : Drive) : (setDrive s d x).geley.streamNext = s.geley.streamNext := by unfold setDrive; split <;> rfl
@[simp] theorem setDrive_geley_isOpen (s : State) (d : Nat) (x : Drive) : (setDrive s d x).geley.isOpen = s.geley.isOpen := by unfold setDrive; split <;> rfl
@[simp] theorem setDrive_geley_recSeq (s : State) (d : Nat) (x : Drive) : (setDrive s d x).geley.recSeq = s.geley.recSeq := by unfold setDrive; split <;> rfl
@[simp] theorem setDrive_geley_drops (s : State) (d : Nat) (x : Drive) : (setDrive s d x).geley.drops = s.geley.drops := by unfold setDrive; split <;> rfl
@[simp] theorem setDrive_geley_quota (s : State) (d : Nat) (x : Drive) : (setDrive s d x).geley.quota = s.geley.quota := by unfold setDrive; split <;> rfl
@[simp] theorem setDrive_geley_readLimit (s : State) (d : Nat) (x : Drive) : (setDrive s d x).geley.readLimit = s.geley.readLimit := by unfold setDrive; split <;> rfl

/-! ### setClaim -/

@[simp] theorem setClaim_pending (s : State) (p : Nat) (x : Claim) : (setClaim s p x).pending = s.pending := rfl
@[simp] theorem setClaim_trace (s : State) (p : Nat) (x : Claim) : (setClaim s p x).trace = s.trace := rfl
@[simp] theorem setClaim_free (s : State) (p : Nat) (x : Claim) : (setClaim s p x).free = s.free := rfl
@[simp] theorem setClaim_clk (s : State) (p : Nat) (x : Claim) : (setClaim s p x).clk = s.clk := rfl
@[simp] theorem setClaim_regs (s : State) (p : Nat) (x : Claim) : (setClaim s p x).regs = s.regs := rfl
@[simp] theorem setClaim_time (s : State) (p : Nat) (x : Claim) : (setClaim s p x).time = s.time := rfl
@[simp] theorem setClaim_ring (s : State) (p : Nat) (x : Claim) : (setClaim s p x).ring = s.ring := rfl
@[simp] theorem setClaim_cls (s : State) (p : Nat) (x : Claim) : (setClaim s p x).cls = s.cls := rfl
@[simp] theorem setClaim_meters (s : State) (p : Nat) (x : Claim) : (setClaim s p x).meters = s.meters := rfl
@[simp] theorem setClaim_metersWas (s : State) (p : Nat) (x : Claim) : (setClaim s p x).metersWas = s.metersWas := rfl
@[simp] theorem setClaim_vat (s : State) (p : Nat) (x : Claim) : (setClaim s p x).vat = s.vat := rfl
@[simp] theorem setClaim_eg (s : State) (p : Nat) (x : Claim) : (setClaim s p x).eg = s.eg := rfl
@[simp] theorem setClaim_frer (s : State) (p : Nat) (x : Claim) : (setClaim s p x).frer = s.frer := rfl
@[simp] theorem setClaim_ports (s : State) (p : Nat) (x : Claim) : (setClaim s p x).ports = s.ports := rfl
@[simp] theorem setClaim_host (s : State) (p : Nat) (x : Claim) : (setClaim s p x).host = s.host := rfl
@[simp] theorem setClaim_dma (s : State) (p : Nat) (x : Claim) : (setClaim s p x).dma = s.dma := rfl
@[simp] theorem setClaim_geley (s : State) (p : Nat) (x : Claim) : (setClaim s p x).geley = s.geley := rfl
@[simp] theorem setClaim_kn (s : State) (p : Nat) (x : Claim) : (setClaim s p x).kn = s.kn := rfl
@[simp] theorem setClaim_flt (s : State) (p : Nat) (x : Claim) : (setClaim s p x).flt = s.flt := rfl
@[simp] theorem setClaim_ctr (s : State) (p : Nat) (x : Claim) : (setClaim s p x).ctr = s.ctr := rfl
@[simp] theorem setClaim_boot (s : State) (p : Nat) (x : Claim) : (setClaim s p x).boot = s.boot := rfl
@[simp] theorem setClaim_sched (s : State) (p : Nat) (x : Claim) : (setClaim s p x).sched = s.sched := rfl
@[simp] theorem setClaim_pins (s : State) (p : Nat) (x : Claim) : (setClaim s p x).pins = s.pins := rfl
@[simp] theorem setClaim_cyc_image (s : State) (p : Nat) (x : Claim) : (setClaim s p x).cyc.image = s.cyc.image := rfl
@[simp] theorem setClaim_cyc_c0 (s : State) (p : Nat) (x : Claim) : (setClaim s p x).cyc.c0 = s.cyc.c0 := rfl
@[simp] theorem setClaim_cyc_n (s : State) (p : Nat) (x : Claim) : (setClaim s p x).cyc.n = s.cyc.n := rfl
@[simp] theorem setClaim_cyc_tx (s : State) (p : Nat) (x : Claim) : (setClaim s p x).cyc.tx = s.cyc.tx := rfl
@[simp] theorem setClaim_cyc_rx (s : State) (p : Nat) (x : Claim) : (setClaim s p x).cyc.rx = s.cyc.rx := rfl
@[simp] theorem setClaim_cyc_msCW (s : State) (p : Nat) (x : Claim) : (setClaim s p x).cyc.msCW = s.cyc.msCW := rfl
@[simp] theorem setClaim_cyc_msCCW (s : State) (p : Nat) (x : Claim) : (setClaim s p x).cyc.msCCW = s.cyc.msCCW := rfl
@[simp] theorem setClaim_cyc_msIdxCW (s : State) (p : Nat) (x : Claim) : (setClaim s p x).cyc.msIdxCW = s.cyc.msIdxCW := rfl
@[simp] theorem setClaim_cyc_msIdxCCW (s : State) (p : Nat) (x : Claim) : (setClaim s p x).cyc.msIdxCCW = s.cyc.msIdxCCW := rfl
@[simp] theorem setClaim_cyc_dynBusyCW (s : State) (p : Nat) (x : Claim) : (setClaim s p x).cyc.dynBusyCW = s.cyc.dynBusyCW := rfl
@[simp] theorem setClaim_cyc_dynBusyCCW (s : State) (p : Nat) (x : Claim) : (setClaim s p x).cyc.dynBusyCCW = s.cyc.dynBusyCCW := rfl
@[simp] theorem setClaim_cyc_armCW (s : State) (p : Nat) (x : Claim) : (setClaim s p x).cyc.armCW = s.cyc.armCW := rfl
@[simp] theorem setClaim_cyc_armCCW (s : State) (p : Nat) (x : Claim) : (setClaim s p x).cyc.armCCW = s.cyc.armCCW := rfl
@[simp] theorem setClaim_cyc_expects (s : State) (p : Nat) (x : Claim) : (setClaim s p x).cyc.expects = s.cyc.expects := rfl
@[simp] theorem setClaim_cyc_withdrawn (s : State) (p : Nat) (x : Claim) : (setClaim s p x).cyc.withdrawn = s.cyc.withdrawn := rfl
@[simp] theorem setClaim_cyc_seen (s : State) (p : Nat) (x : Claim) : (setClaim s p x).cyc.seen = s.cyc.seen := rfl
@[simp] theorem setClaim_cyc_binds (s : State) (p : Nat) (x : Claim) : (setClaim s p x).cyc.binds = s.cyc.binds := rfl
@[simp] theorem setClaim_cyc_bindWas (s : State) (p : Nat) (x : Claim) : (setClaim s p x).cyc.bindWas = s.cyc.bindWas := rfl

/-! ### setTx -/

@[simp] theorem setTx_pending (s : State) (p : Nat) (x : TxBuf) : (setTx s p x).pending = s.pending := rfl
@[simp] theorem setTx_trace (s : State) (p : Nat) (x : TxBuf) : (setTx s p x).trace = s.trace := rfl
@[simp] theorem setTx_free (s : State) (p : Nat) (x : TxBuf) : (setTx s p x).free = s.free := rfl
@[simp] theorem setTx_clk (s : State) (p : Nat) (x : TxBuf) : (setTx s p x).clk = s.clk := rfl
@[simp] theorem setTx_regs (s : State) (p : Nat) (x : TxBuf) : (setTx s p x).regs = s.regs := rfl
@[simp] theorem setTx_time (s : State) (p : Nat) (x : TxBuf) : (setTx s p x).time = s.time := rfl
@[simp] theorem setTx_ring (s : State) (p : Nat) (x : TxBuf) : (setTx s p x).ring = s.ring := rfl
@[simp] theorem setTx_cls (s : State) (p : Nat) (x : TxBuf) : (setTx s p x).cls = s.cls := rfl
@[simp] theorem setTx_meters (s : State) (p : Nat) (x : TxBuf) : (setTx s p x).meters = s.meters := rfl
@[simp] theorem setTx_metersWas (s : State) (p : Nat) (x : TxBuf) : (setTx s p x).metersWas = s.metersWas := rfl
@[simp] theorem setTx_vat (s : State) (p : Nat) (x : TxBuf) : (setTx s p x).vat = s.vat := rfl
@[simp] theorem setTx_eg (s : State) (p : Nat) (x : TxBuf) : (setTx s p x).eg = s.eg := rfl
@[simp] theorem setTx_frer (s : State) (p : Nat) (x : TxBuf) : (setTx s p x).frer = s.frer := rfl
@[simp] theorem setTx_ports (s : State) (p : Nat) (x : TxBuf) : (setTx s p x).ports = s.ports := rfl
@[simp] theorem setTx_host (s : State) (p : Nat) (x : TxBuf) : (setTx s p x).host = s.host := rfl
@[simp] theorem setTx_dma (s : State) (p : Nat) (x : TxBuf) : (setTx s p x).dma = s.dma := rfl
@[simp] theorem setTx_geley (s : State) (p : Nat) (x : TxBuf) : (setTx s p x).geley = s.geley := rfl
@[simp] theorem setTx_kn (s : State) (p : Nat) (x : TxBuf) : (setTx s p x).kn = s.kn := rfl
@[simp] theorem setTx_flt (s : State) (p : Nat) (x : TxBuf) : (setTx s p x).flt = s.flt := rfl
@[simp] theorem setTx_ctr (s : State) (p : Nat) (x : TxBuf) : (setTx s p x).ctr = s.ctr := rfl
@[simp] theorem setTx_boot (s : State) (p : Nat) (x : TxBuf) : (setTx s p x).boot = s.boot := rfl
@[simp] theorem setTx_sched (s : State) (p : Nat) (x : TxBuf) : (setTx s p x).sched = s.sched := rfl
@[simp] theorem setTx_pins (s : State) (p : Nat) (x : TxBuf) : (setTx s p x).pins = s.pins := rfl
@[simp] theorem setTx_cyc_image (s : State) (p : Nat) (x : TxBuf) : (setTx s p x).cyc.image = s.cyc.image := rfl
@[simp] theorem setTx_cyc_c0 (s : State) (p : Nat) (x : TxBuf) : (setTx s p x).cyc.c0 = s.cyc.c0 := rfl
@[simp] theorem setTx_cyc_n (s : State) (p : Nat) (x : TxBuf) : (setTx s p x).cyc.n = s.cyc.n := rfl
@[simp] theorem setTx_cyc_rx (s : State) (p : Nat) (x : TxBuf) : (setTx s p x).cyc.rx = s.cyc.rx := rfl
@[simp] theorem setTx_cyc_msCW (s : State) (p : Nat) (x : TxBuf) : (setTx s p x).cyc.msCW = s.cyc.msCW := rfl
@[simp] theorem setTx_cyc_msCCW (s : State) (p : Nat) (x : TxBuf) : (setTx s p x).cyc.msCCW = s.cyc.msCCW := rfl
@[simp] theorem setTx_cyc_msIdxCW (s : State) (p : Nat) (x : TxBuf) : (setTx s p x).cyc.msIdxCW = s.cyc.msIdxCW := rfl
@[simp] theorem setTx_cyc_msIdxCCW (s : State) (p : Nat) (x : TxBuf) : (setTx s p x).cyc.msIdxCCW = s.cyc.msIdxCCW := rfl
@[simp] theorem setTx_cyc_dynBusyCW (s : State) (p : Nat) (x : TxBuf) : (setTx s p x).cyc.dynBusyCW = s.cyc.dynBusyCW := rfl
@[simp] theorem setTx_cyc_dynBusyCCW (s : State) (p : Nat) (x : TxBuf) : (setTx s p x).cyc.dynBusyCCW = s.cyc.dynBusyCCW := rfl
@[simp] theorem setTx_cyc_armCW (s : State) (p : Nat) (x : TxBuf) : (setTx s p x).cyc.armCW = s.cyc.armCW := rfl
@[simp] theorem setTx_cyc_armCCW (s : State) (p : Nat) (x : TxBuf) : (setTx s p x).cyc.armCCW = s.cyc.armCCW := rfl
@[simp] theorem setTx_cyc_claims (s : State) (p : Nat) (x : TxBuf) : (setTx s p x).cyc.claims = s.cyc.claims := rfl
@[simp] theorem setTx_cyc_expects (s : State) (p : Nat) (x : TxBuf) : (setTx s p x).cyc.expects = s.cyc.expects := rfl
@[simp] theorem setTx_cyc_withdrawn (s : State) (p : Nat) (x : TxBuf) : (setTx s p x).cyc.withdrawn = s.cyc.withdrawn := rfl
@[simp] theorem setTx_cyc_seen (s : State) (p : Nat) (x : TxBuf) : (setTx s p x).cyc.seen = s.cyc.seen := rfl
@[simp] theorem setTx_cyc_binds (s : State) (p : Nat) (x : TxBuf) : (setTx s p x).cyc.binds = s.cyc.binds := rfl
@[simp] theorem setTx_cyc_bindWas (s : State) (p : Nat) (x : TxBuf) : (setTx s p x).cyc.bindWas = s.cyc.bindWas := rfl

/-! ### setRx -/

@[simp] theorem setRx_pending (s : State) (p : Nat) (x : RxBuf) : (setRx s p x).pending = s.pending := rfl
@[simp] theorem setRx_trace (s : State) (p : Nat) (x : RxBuf) : (setRx s p x).trace = s.trace := rfl
@[simp] theorem setRx_free (s : State) (p : Nat) (x : RxBuf) : (setRx s p x).free = s.free := rfl
@[simp] theorem setRx_clk (s : State) (p : Nat) (x : RxBuf) : (setRx s p x).clk = s.clk := rfl
@[simp] theorem setRx_regs (s : State) (p : Nat) (x : RxBuf) : (setRx s p x).regs = s.regs := rfl
@[simp] theorem setRx_time (s : State) (p : Nat) (x : RxBuf) : (setRx s p x).time = s.time := rfl
@[simp] theorem setRx_ring (s : State) (p : Nat) (x : RxBuf) : (setRx s p x).ring = s.ring := rfl
@[simp] theorem setRx_cls (s : State) (p : Nat) (x : RxBuf) : (setRx s p x).cls = s.cls := rfl
@[simp] theorem setRx_meters (s : State) (p : Nat) (x : RxBuf) : (setRx s p x).meters = s.meters := rfl
@[simp] theorem setRx_metersWas (s : State) (p : Nat) (x : RxBuf) : (setRx s p x).metersWas = s.metersWas := rfl
@[simp] theorem setRx_vat (s : State) (p : Nat) (x : RxBuf) : (setRx s p x).vat = s.vat := rfl
@[simp] theorem setRx_eg (s : State) (p : Nat) (x : RxBuf) : (setRx s p x).eg = s.eg := rfl
@[simp] theorem setRx_frer (s : State) (p : Nat) (x : RxBuf) : (setRx s p x).frer = s.frer := rfl
@[simp] theorem setRx_ports (s : State) (p : Nat) (x : RxBuf) : (setRx s p x).ports = s.ports := rfl
@[simp] theorem setRx_host (s : State) (p : Nat) (x : RxBuf) : (setRx s p x).host = s.host := rfl
@[simp] theorem setRx_dma (s : State) (p : Nat) (x : RxBuf) : (setRx s p x).dma = s.dma := rfl
@[simp] theorem setRx_geley (s : State) (p : Nat) (x : RxBuf) : (setRx s p x).geley = s.geley := rfl
@[simp] theorem setRx_kn (s : State) (p : Nat) (x : RxBuf) : (setRx s p x).kn = s.kn := rfl
@[simp] theorem setRx_flt (s : State) (p : Nat) (x : RxBuf) : (setRx s p x).flt = s.flt := rfl
@[simp] theorem setRx_ctr (s : State) (p : Nat) (x : RxBuf) : (setRx s p x).ctr = s.ctr := rfl
@[simp] theorem setRx_boot (s : State) (p : Nat) (x : RxBuf) : (setRx s p x).boot = s.boot := rfl
@[simp] theorem setRx_sched (s : State) (p : Nat) (x : RxBuf) : (setRx s p x).sched = s.sched := rfl
@[simp] theorem setRx_pins (s : State) (p : Nat) (x : RxBuf) : (setRx s p x).pins = s.pins := rfl
@[simp] theorem setRx_cyc_image (s : State) (p : Nat) (x : RxBuf) : (setRx s p x).cyc.image = s.cyc.image := rfl
@[simp] theorem setRx_cyc_c0 (s : State) (p : Nat) (x : RxBuf) : (setRx s p x).cyc.c0 = s.cyc.c0 := rfl
@[simp] theorem setRx_cyc_n (s : State) (p : Nat) (x : RxBuf) : (setRx s p x).cyc.n = s.cyc.n := rfl
@[simp] theorem setRx_cyc_tx (s : State) (p : Nat) (x : RxBuf) : (setRx s p x).cyc.tx = s.cyc.tx := rfl
@[simp] theorem setRx_cyc_msCW (s : State) (p : Nat) (x : RxBuf) : (setRx s p x).cyc.msCW = s.cyc.msCW := rfl
@[simp] theorem setRx_cyc_msCCW (s : State) (p : Nat) (x : RxBuf) : (setRx s p x).cyc.msCCW = s.cyc.msCCW := rfl
@[simp] theorem setRx_cyc_msIdxCW (s : State) (p : Nat) (x : RxBuf) : (setRx s p x).cyc.msIdxCW = s.cyc.msIdxCW := rfl
@[simp] theorem setRx_cyc_msIdxCCW (s : State) (p : Nat) (x : RxBuf) : (setRx s p x).cyc.msIdxCCW = s.cyc.msIdxCCW := rfl
@[simp] theorem setRx_cyc_dynBusyCW (s : State) (p : Nat) (x : RxBuf) : (setRx s p x).cyc.dynBusyCW = s.cyc.dynBusyCW := rfl
@[simp] theorem setRx_cyc_dynBusyCCW (s : State) (p : Nat) (x : RxBuf) : (setRx s p x).cyc.dynBusyCCW = s.cyc.dynBusyCCW := rfl
@[simp] theorem setRx_cyc_armCW (s : State) (p : Nat) (x : RxBuf) : (setRx s p x).cyc.armCW = s.cyc.armCW := rfl
@[simp] theorem setRx_cyc_armCCW (s : State) (p : Nat) (x : RxBuf) : (setRx s p x).cyc.armCCW = s.cyc.armCCW := rfl
@[simp] theorem setRx_cyc_claims (s : State) (p : Nat) (x : RxBuf) : (setRx s p x).cyc.claims = s.cyc.claims := rfl
@[simp] theorem setRx_cyc_expects (s : State) (p : Nat) (x : RxBuf) : (setRx s p x).cyc.expects = s.cyc.expects := rfl
@[simp] theorem setRx_cyc_withdrawn (s : State) (p : Nat) (x : RxBuf) : (setRx s p x).cyc.withdrawn = s.cyc.withdrawn := rfl
@[simp] theorem setRx_cyc_seen (s : State) (p : Nat) (x : RxBuf) : (setRx s p x).cyc.seen = s.cyc.seen := rfl
@[simp] theorem setRx_cyc_binds (s : State) (p : Nat) (x : RxBuf) : (setRx s p x).cyc.binds = s.cyc.binds := rfl
@[simp] theorem setRx_cyc_bindWas (s : State) (p : Nat) (x : RxBuf) : (setRx s p x).cyc.bindWas = s.cyc.bindWas := rfl

/-! ### setGptp -/

@[simp] theorem setGptp_pending (s : State) (p : Nat) (x : GptpPort) : (setGptp s p x).pending = s.pending := rfl
@[simp] theorem setGptp_trace (s : State) (p : Nat) (x : GptpPort) : (setGptp s p x).trace = s.trace := rfl
@[simp] theorem setGptp_free (s : State) (p : Nat) (x : GptpPort) : (setGptp s p x).free = s.free := rfl
@[simp] theorem setGptp_clk (s : State) (p : Nat) (x : GptpPort) : (setGptp s p x).clk = s.clk := rfl
@[simp] theorem setGptp_regs (s : State) (p : Nat) (x : GptpPort) : (setGptp s p x).regs = s.regs := rfl
@[simp] theorem setGptp_cyc (s : State) (p : Nat) (x : GptpPort) : (setGptp s p x).cyc = s.cyc := rfl
@[simp] theorem setGptp_ring (s : State) (p : Nat) (x : GptpPort) : (setGptp s p x).ring = s.ring := rfl
@[simp] theorem setGptp_cls (s : State) (p : Nat) (x : GptpPort) : (setGptp s p x).cls = s.cls := rfl
@[simp] theorem setGptp_meters (s : State) (p : Nat) (x : GptpPort) : (setGptp s p x).meters = s.meters := rfl
@[simp] theorem setGptp_metersWas (s : State) (p : Nat) (x : GptpPort) : (setGptp s p x).metersWas = s.metersWas := rfl
@[simp] theorem setGptp_vat (s : State) (p : Nat) (x : GptpPort) : (setGptp s p x).vat = s.vat := rfl
@[simp] theorem setGptp_eg (s : State) (p : Nat) (x : GptpPort) : (setGptp s p x).eg = s.eg := rfl
@[simp] theorem setGptp_frer (s : State) (p : Nat) (x : GptpPort) : (setGptp s p x).frer = s.frer := rfl
@[simp] theorem setGptp_ports (s : State) (p : Nat) (x : GptpPort) : (setGptp s p x).ports = s.ports := rfl
@[simp] theorem setGptp_host (s : State) (p : Nat) (x : GptpPort) : (setGptp s p x).host = s.host := rfl
@[simp] theorem setGptp_dma (s : State) (p : Nat) (x : GptpPort) : (setGptp s p x).dma = s.dma := rfl
@[simp] theorem setGptp_geley (s : State) (p : Nat) (x : GptpPort) : (setGptp s p x).geley = s.geley := rfl
@[simp] theorem setGptp_kn (s : State) (p : Nat) (x : GptpPort) : (setGptp s p x).kn = s.kn := rfl
@[simp] theorem setGptp_flt (s : State) (p : Nat) (x : GptpPort) : (setGptp s p x).flt = s.flt := rfl
@[simp] theorem setGptp_ctr (s : State) (p : Nat) (x : GptpPort) : (setGptp s p x).ctr = s.ctr := rfl
@[simp] theorem setGptp_boot (s : State) (p : Nat) (x : GptpPort) : (setGptp s p x).boot = s.boot := rfl
@[simp] theorem setGptp_sched (s : State) (p : Nat) (x : GptpPort) : (setGptp s p x).sched = s.sched := rfl
@[simp] theorem setGptp_pins (s : State) (p : Nat) (x : GptpPort) : (setGptp s p x).pins = s.pins := rfl
@[simp] theorem setGptp_time_nt (s : State) (p : Nat) (x : GptpPort) : (setGptp s p x).time.nt = s.time.nt := rfl
@[simp] theorem setGptp_time_coarse (s : State) (p : Nat) (x : GptpPort) : (setGptp s p x).time.coarse = s.time.coarse := rfl
@[simp] theorem setGptp_time_rho (s : State) (p : Nat) (x : GptpPort) : (setGptp s p x).time.rho = s.time.rho := rfl
@[simp] theorem setGptp_time_rhoNext (s : State) (p : Nat) (x : GptpPort) : (setGptp s p x).time.rhoNext = s.time.rhoNext := rfl
@[simp] theorem setGptp_time_phiNext (s : State) (p : Nat) (x : GptpPort) : (setGptp s p x).time.phiNext = s.time.phiNext := rfl
@[simp] theorem setGptp_time_slew (s : State) (p : Nat) (x : GptpPort) : (setGptp s p x).time.slew = s.time.slew := rfl
@[simp] theorem setGptp_time_phiPrev (s : State) (p : Nat) (x : GptpPort) : (setGptp s p x).time.phiPrev = s.time.phiPrev := rfl
@[simp] theorem setGptp_time_limitFail (s : State) (p : Nat) (x : GptpPort) : (setGptp s p x).time.limitFail = s.time.limitFail := rfl
@[simp] theorem setGptp_time_cur (s : State) (p : Nat) (x : GptpPort) : (setGptp s p x).time.cur = s.time.cur := rfl
@[simp] theorem setGptp_time_prev (s : State) (p : Nat) (x : GptpPort) : (setGptp s p x).time.prev = s.time.prev := rfl
@[simp] theorem setGptp_time_prevCycle (s : State) (p : Nat) (x : GptpPort) : (setGptp s p x).time.prevCycle = s.time.prevCycle := rfl
@[simp] theorem setGptp_time_outWin (s : State) (p : Nat) (x : GptpPort) : (setGptp s p x).time.outWin = s.time.outWin := rfl
@[simp] theorem setGptp_time_timeValid (s : State) (p : Nat) (x : GptpPort) : (setGptp s p x).time.timeValid = s.time.timeValid := rfl
@[simp] theorem setGptp_time_lossReason (s : State) (p : Nat) (x : GptpPort) : (setGptp s p x).time.lossReason = s.time.lossReason := rfl
@[simp] theorem setGptp_time_nval (s : State) (p : Nat) (x : GptpPort) : (setGptp s p x).time.nval = s.time.nval := rfl
@[simp] theorem setGptp_time_thin (s : State) (p : Nat) (x : GptpPort) : (setGptp s p x).time.thin = s.time.thin := rfl
@[simp] theorem setGptp_time_thinArmed (s : State) (p : Nat) (x : GptpPort) : (setGptp s p x).time.thinArmed = s.time.thinArmed := rfl
@[simp] theorem setGptp_time_syncCycles (s : State) (p : Nat) (x : GptpPort) : (setGptp s p x).time.syncCycles = s.time.syncCycles := rfl
@[simp] theorem setGptp_time_pairsInSync (s : State) (p : Nat) (x : GptpPort) : (setGptp s p x).time.pairsInSync = s.time.pairsInSync := rfl
@[simp] theorem setGptp_time_everSync (s : State) (p : Nat) (x : GptpPort) : (setGptp s p x).time.everSync = s.time.everSync := rfl
@[simp] theorem setGptp_time_consistent (s : State) (p : Nat) (x : GptpPort) : (setGptp s p x).time.consistent = s.time.consistent := rfl
@[simp] theorem setGptp_time_intCycles (s : State) (p : Nat) (x : GptpPort) : (setGptp s p x).time.intCycles = s.time.intCycles := rfl
@[simp] theorem setGptp_time_latches (s : State) (p : Nat) (x : GptpPort) : (setGptp s p x).time.latches = s.time.latches := rfl
@[simp] theorem setGptp_time_utcOffset (s : State) (p : Nat) (x : GptpPort) : (setGptp s p x).time.utcOffset = s.time.utcOffset := rfl
@[simp] theorem setGptp_time_cfg (s : State) (p : Nat) (x : GptpPort) : (setGptp s p x).time.cfg = s.time.cfg := rfl
@[simp] theorem setGptp_time_holdover (s : State) (p : Nat) (x : GptpPort) : (setGptp s p x).time.holdover = s.time.holdover := rfl
@[simp] theorem setGptp_time_holdoverEnd (s : State) (p : Nat) (x : GptpPort) : (setGptp s p x).time.holdoverEnd = s.time.holdoverEnd := rfl
@[simp] theorem setGptp_time_gptpStopped (s : State) (p : Nat) (x : GptpPort) : (setGptp s p x).time.gptpStopped = s.time.gptpStopped := rfl
@[simp] theorem setGptp_time_timeByOwner (s : State) (p : Nat) (x : GptpPort) : (setGptp s p x).time.timeByOwner = s.time.timeByOwner := rfl
@[simp] theorem setGptp_time_pps (s : State) (p : Nat) (x : GptpPort) : (setGptp s p x).time.pps = s.time.pps := rfl
@[simp] theorem setGptp_time_ref10m (s : State) (p : Nat) (x : GptpPort) : (setGptp s p x).time.ref10m = s.time.ref10m := rfl
@[simp] theorem setGptp_time_refPhase (s : State) (p : Nat) (x : GptpPort) : (setGptp s p x).time.refPhase = s.time.refPhase := rfl
@[simp] theorem setGptp_time_caps (s : State) (p : Nat) (x : GptpPort) : (setGptp s p x).time.caps = s.time.caps := rfl
@[simp] theorem setGptp_time_timers (s : State) (p : Nat) (x : GptpPort) : (setGptp s p x).time.timers = s.time.timers := rfl

/-! ### setCap -/

@[simp] theorem setCap_pending (s : State) (p : Nat) (x : CapIn) : (setCap s p x).pending = s.pending := rfl
@[simp] theorem setCap_trace (s : State) (p : Nat) (x : CapIn) : (setCap s p x).trace = s.trace := rfl
@[simp] theorem setCap_free (s : State) (p : Nat) (x : CapIn) : (setCap s p x).free = s.free := rfl
@[simp] theorem setCap_clk (s : State) (p : Nat) (x : CapIn) : (setCap s p x).clk = s.clk := rfl
@[simp] theorem setCap_regs (s : State) (p : Nat) (x : CapIn) : (setCap s p x).regs = s.regs := rfl
@[simp] theorem setCap_cyc (s : State) (p : Nat) (x : CapIn) : (setCap s p x).cyc = s.cyc := rfl
@[simp] theorem setCap_ring (s : State) (p : Nat) (x : CapIn) : (setCap s p x).ring = s.ring := rfl
@[simp] theorem setCap_cls (s : State) (p : Nat) (x : CapIn) : (setCap s p x).cls = s.cls := rfl
@[simp] theorem setCap_meters (s : State) (p : Nat) (x : CapIn) : (setCap s p x).meters = s.meters := rfl
@[simp] theorem setCap_metersWas (s : State) (p : Nat) (x : CapIn) : (setCap s p x).metersWas = s.metersWas := rfl
@[simp] theorem setCap_vat (s : State) (p : Nat) (x : CapIn) : (setCap s p x).vat = s.vat := rfl
@[simp] theorem setCap_eg (s : State) (p : Nat) (x : CapIn) : (setCap s p x).eg = s.eg := rfl
@[simp] theorem setCap_frer (s : State) (p : Nat) (x : CapIn) : (setCap s p x).frer = s.frer := rfl
@[simp] theorem setCap_ports (s : State) (p : Nat) (x : CapIn) : (setCap s p x).ports = s.ports := rfl
@[simp] theorem setCap_host (s : State) (p : Nat) (x : CapIn) : (setCap s p x).host = s.host := rfl
@[simp] theorem setCap_dma (s : State) (p : Nat) (x : CapIn) : (setCap s p x).dma = s.dma := rfl
@[simp] theorem setCap_geley (s : State) (p : Nat) (x : CapIn) : (setCap s p x).geley = s.geley := rfl
@[simp] theorem setCap_kn (s : State) (p : Nat) (x : CapIn) : (setCap s p x).kn = s.kn := rfl
@[simp] theorem setCap_flt (s : State) (p : Nat) (x : CapIn) : (setCap s p x).flt = s.flt := rfl
@[simp] theorem setCap_ctr (s : State) (p : Nat) (x : CapIn) : (setCap s p x).ctr = s.ctr := rfl
@[simp] theorem setCap_boot (s : State) (p : Nat) (x : CapIn) : (setCap s p x).boot = s.boot := rfl
@[simp] theorem setCap_sched (s : State) (p : Nat) (x : CapIn) : (setCap s p x).sched = s.sched := rfl
@[simp] theorem setCap_pins (s : State) (p : Nat) (x : CapIn) : (setCap s p x).pins = s.pins := rfl
@[simp] theorem setCap_time_nt (s : State) (p : Nat) (x : CapIn) : (setCap s p x).time.nt = s.time.nt := rfl
@[simp] theorem setCap_time_coarse (s : State) (p : Nat) (x : CapIn) : (setCap s p x).time.coarse = s.time.coarse := rfl
@[simp] theorem setCap_time_rho (s : State) (p : Nat) (x : CapIn) : (setCap s p x).time.rho = s.time.rho := rfl
@[simp] theorem setCap_time_rhoNext (s : State) (p : Nat) (x : CapIn) : (setCap s p x).time.rhoNext = s.time.rhoNext := rfl
@[simp] theorem setCap_time_phiNext (s : State) (p : Nat) (x : CapIn) : (setCap s p x).time.phiNext = s.time.phiNext := rfl
@[simp] theorem setCap_time_slew (s : State) (p : Nat) (x : CapIn) : (setCap s p x).time.slew = s.time.slew := rfl
@[simp] theorem setCap_time_phiPrev (s : State) (p : Nat) (x : CapIn) : (setCap s p x).time.phiPrev = s.time.phiPrev := rfl
@[simp] theorem setCap_time_limitFail (s : State) (p : Nat) (x : CapIn) : (setCap s p x).time.limitFail = s.time.limitFail := rfl
@[simp] theorem setCap_time_cur (s : State) (p : Nat) (x : CapIn) : (setCap s p x).time.cur = s.time.cur := rfl
@[simp] theorem setCap_time_prev (s : State) (p : Nat) (x : CapIn) : (setCap s p x).time.prev = s.time.prev := rfl
@[simp] theorem setCap_time_prevCycle (s : State) (p : Nat) (x : CapIn) : (setCap s p x).time.prevCycle = s.time.prevCycle := rfl
@[simp] theorem setCap_time_outWin (s : State) (p : Nat) (x : CapIn) : (setCap s p x).time.outWin = s.time.outWin := rfl
@[simp] theorem setCap_time_timeValid (s : State) (p : Nat) (x : CapIn) : (setCap s p x).time.timeValid = s.time.timeValid := rfl
@[simp] theorem setCap_time_lossReason (s : State) (p : Nat) (x : CapIn) : (setCap s p x).time.lossReason = s.time.lossReason := rfl
@[simp] theorem setCap_time_nval (s : State) (p : Nat) (x : CapIn) : (setCap s p x).time.nval = s.time.nval := rfl
@[simp] theorem setCap_time_thin (s : State) (p : Nat) (x : CapIn) : (setCap s p x).time.thin = s.time.thin := rfl
@[simp] theorem setCap_time_thinArmed (s : State) (p : Nat) (x : CapIn) : (setCap s p x).time.thinArmed = s.time.thinArmed := rfl
@[simp] theorem setCap_time_syncCycles (s : State) (p : Nat) (x : CapIn) : (setCap s p x).time.syncCycles = s.time.syncCycles := rfl
@[simp] theorem setCap_time_pairsInSync (s : State) (p : Nat) (x : CapIn) : (setCap s p x).time.pairsInSync = s.time.pairsInSync := rfl
@[simp] theorem setCap_time_everSync (s : State) (p : Nat) (x : CapIn) : (setCap s p x).time.everSync = s.time.everSync := rfl
@[simp] theorem setCap_time_consistent (s : State) (p : Nat) (x : CapIn) : (setCap s p x).time.consistent = s.time.consistent := rfl
@[simp] theorem setCap_time_intCycles (s : State) (p : Nat) (x : CapIn) : (setCap s p x).time.intCycles = s.time.intCycles := rfl
@[simp] theorem setCap_time_latches (s : State) (p : Nat) (x : CapIn) : (setCap s p x).time.latches = s.time.latches := rfl
@[simp] theorem setCap_time_utcOffset (s : State) (p : Nat) (x : CapIn) : (setCap s p x).time.utcOffset = s.time.utcOffset := rfl
@[simp] theorem setCap_time_cfg (s : State) (p : Nat) (x : CapIn) : (setCap s p x).time.cfg = s.time.cfg := rfl
@[simp] theorem setCap_time_holdover (s : State) (p : Nat) (x : CapIn) : (setCap s p x).time.holdover = s.time.holdover := rfl
@[simp] theorem setCap_time_holdoverEnd (s : State) (p : Nat) (x : CapIn) : (setCap s p x).time.holdoverEnd = s.time.holdoverEnd := rfl
@[simp] theorem setCap_time_gptpStopped (s : State) (p : Nat) (x : CapIn) : (setCap s p x).time.gptpStopped = s.time.gptpStopped := rfl
@[simp] theorem setCap_time_timeByOwner (s : State) (p : Nat) (x : CapIn) : (setCap s p x).time.timeByOwner = s.time.timeByOwner := rfl
@[simp] theorem setCap_time_pps (s : State) (p : Nat) (x : CapIn) : (setCap s p x).time.pps = s.time.pps := rfl
@[simp] theorem setCap_time_ref10m (s : State) (p : Nat) (x : CapIn) : (setCap s p x).time.ref10m = s.time.ref10m := rfl
@[simp] theorem setCap_time_refPhase (s : State) (p : Nat) (x : CapIn) : (setCap s p x).time.refPhase = s.time.refPhase := rfl
@[simp] theorem setCap_time_timers (s : State) (p : Nat) (x : CapIn) : (setCap s p x).time.timers = s.time.timers := rfl
@[simp] theorem setCap_time_gptp (s : State) (p : Nat) (x : CapIn) : (setCap s p x).time.gptp = s.time.gptp := rfl

/-! ### setTimer -/

@[simp] theorem setTimer_pending (s : State) (p : Nat) (x : Timer) : (setTimer s p x).pending = s.pending := rfl
@[simp] theorem setTimer_trace (s : State) (p : Nat) (x : Timer) : (setTimer s p x).trace = s.trace := rfl
@[simp] theorem setTimer_free (s : State) (p : Nat) (x : Timer) : (setTimer s p x).free = s.free := rfl
@[simp] theorem setTimer_clk (s : State) (p : Nat) (x : Timer) : (setTimer s p x).clk = s.clk := rfl
@[simp] theorem setTimer_regs (s : State) (p : Nat) (x : Timer) : (setTimer s p x).regs = s.regs := rfl
@[simp] theorem setTimer_cyc (s : State) (p : Nat) (x : Timer) : (setTimer s p x).cyc = s.cyc := rfl
@[simp] theorem setTimer_ring (s : State) (p : Nat) (x : Timer) : (setTimer s p x).ring = s.ring := rfl
@[simp] theorem setTimer_cls (s : State) (p : Nat) (x : Timer) : (setTimer s p x).cls = s.cls := rfl
@[simp] theorem setTimer_meters (s : State) (p : Nat) (x : Timer) : (setTimer s p x).meters = s.meters := rfl
@[simp] theorem setTimer_metersWas (s : State) (p : Nat) (x : Timer) : (setTimer s p x).metersWas = s.metersWas := rfl
@[simp] theorem setTimer_vat (s : State) (p : Nat) (x : Timer) : (setTimer s p x).vat = s.vat := rfl
@[simp] theorem setTimer_eg (s : State) (p : Nat) (x : Timer) : (setTimer s p x).eg = s.eg := rfl
@[simp] theorem setTimer_frer (s : State) (p : Nat) (x : Timer) : (setTimer s p x).frer = s.frer := rfl
@[simp] theorem setTimer_ports (s : State) (p : Nat) (x : Timer) : (setTimer s p x).ports = s.ports := rfl
@[simp] theorem setTimer_host (s : State) (p : Nat) (x : Timer) : (setTimer s p x).host = s.host := rfl
@[simp] theorem setTimer_dma (s : State) (p : Nat) (x : Timer) : (setTimer s p x).dma = s.dma := rfl
@[simp] theorem setTimer_geley (s : State) (p : Nat) (x : Timer) : (setTimer s p x).geley = s.geley := rfl
@[simp] theorem setTimer_kn (s : State) (p : Nat) (x : Timer) : (setTimer s p x).kn = s.kn := rfl
@[simp] theorem setTimer_flt (s : State) (p : Nat) (x : Timer) : (setTimer s p x).flt = s.flt := rfl
@[simp] theorem setTimer_ctr (s : State) (p : Nat) (x : Timer) : (setTimer s p x).ctr = s.ctr := rfl
@[simp] theorem setTimer_boot (s : State) (p : Nat) (x : Timer) : (setTimer s p x).boot = s.boot := rfl
@[simp] theorem setTimer_sched (s : State) (p : Nat) (x : Timer) : (setTimer s p x).sched = s.sched := rfl
@[simp] theorem setTimer_pins (s : State) (p : Nat) (x : Timer) : (setTimer s p x).pins = s.pins := rfl
@[simp] theorem setTimer_time_nt (s : State) (p : Nat) (x : Timer) : (setTimer s p x).time.nt = s.time.nt := rfl
@[simp] theorem setTimer_time_coarse (s : State) (p : Nat) (x : Timer) : (setTimer s p x).time.coarse = s.time.coarse := rfl
@[simp] theorem setTimer_time_rho (s : State) (p : Nat) (x : Timer) : (setTimer s p x).time.rho = s.time.rho := rfl
@[simp] theorem setTimer_time_rhoNext (s : State) (p : Nat) (x : Timer) : (setTimer s p x).time.rhoNext = s.time.rhoNext := rfl
@[simp] theorem setTimer_time_phiNext (s : State) (p : Nat) (x : Timer) : (setTimer s p x).time.phiNext = s.time.phiNext := rfl
@[simp] theorem setTimer_time_slew (s : State) (p : Nat) (x : Timer) : (setTimer s p x).time.slew = s.time.slew := rfl
@[simp] theorem setTimer_time_phiPrev (s : State) (p : Nat) (x : Timer) : (setTimer s p x).time.phiPrev = s.time.phiPrev := rfl
@[simp] theorem setTimer_time_limitFail (s : State) (p : Nat) (x : Timer) : (setTimer s p x).time.limitFail = s.time.limitFail := rfl
@[simp] theorem setTimer_time_cur (s : State) (p : Nat) (x : Timer) : (setTimer s p x).time.cur = s.time.cur := rfl
@[simp] theorem setTimer_time_prev (s : State) (p : Nat) (x : Timer) : (setTimer s p x).time.prev = s.time.prev := rfl
@[simp] theorem setTimer_time_prevCycle (s : State) (p : Nat) (x : Timer) : (setTimer s p x).time.prevCycle = s.time.prevCycle := rfl
@[simp] theorem setTimer_time_outWin (s : State) (p : Nat) (x : Timer) : (setTimer s p x).time.outWin = s.time.outWin := rfl
@[simp] theorem setTimer_time_timeValid (s : State) (p : Nat) (x : Timer) : (setTimer s p x).time.timeValid = s.time.timeValid := rfl
@[simp] theorem setTimer_time_lossReason (s : State) (p : Nat) (x : Timer) : (setTimer s p x).time.lossReason = s.time.lossReason := rfl
@[simp] theorem setTimer_time_nval (s : State) (p : Nat) (x : Timer) : (setTimer s p x).time.nval = s.time.nval := rfl
@[simp] theorem setTimer_time_thin (s : State) (p : Nat) (x : Timer) : (setTimer s p x).time.thin = s.time.thin := rfl
@[simp] theorem setTimer_time_thinArmed (s : State) (p : Nat) (x : Timer) : (setTimer s p x).time.thinArmed = s.time.thinArmed := rfl
@[simp] theorem setTimer_time_syncCycles (s : State) (p : Nat) (x : Timer) : (setTimer s p x).time.syncCycles = s.time.syncCycles := rfl
@[simp] theorem setTimer_time_pairsInSync (s : State) (p : Nat) (x : Timer) : (setTimer s p x).time.pairsInSync = s.time.pairsInSync := rfl
@[simp] theorem setTimer_time_everSync (s : State) (p : Nat) (x : Timer) : (setTimer s p x).time.everSync = s.time.everSync := rfl
@[simp] theorem setTimer_time_consistent (s : State) (p : Nat) (x : Timer) : (setTimer s p x).time.consistent = s.time.consistent := rfl
@[simp] theorem setTimer_time_intCycles (s : State) (p : Nat) (x : Timer) : (setTimer s p x).time.intCycles = s.time.intCycles := rfl
@[simp] theorem setTimer_time_latches (s : State) (p : Nat) (x : Timer) : (setTimer s p x).time.latches = s.time.latches := rfl
@[simp] theorem setTimer_time_utcOffset (s : State) (p : Nat) (x : Timer) : (setTimer s p x).time.utcOffset = s.time.utcOffset := rfl
@[simp] theorem setTimer_time_cfg (s : State) (p : Nat) (x : Timer) : (setTimer s p x).time.cfg = s.time.cfg := rfl
@[simp] theorem setTimer_time_holdover (s : State) (p : Nat) (x : Timer) : (setTimer s p x).time.holdover = s.time.holdover := rfl
@[simp] theorem setTimer_time_holdoverEnd (s : State) (p : Nat) (x : Timer) : (setTimer s p x).time.holdoverEnd = s.time.holdoverEnd := rfl
@[simp] theorem setTimer_time_gptpStopped (s : State) (p : Nat) (x : Timer) : (setTimer s p x).time.gptpStopped = s.time.gptpStopped := rfl
@[simp] theorem setTimer_time_timeByOwner (s : State) (p : Nat) (x : Timer) : (setTimer s p x).time.timeByOwner = s.time.timeByOwner := rfl
@[simp] theorem setTimer_time_pps (s : State) (p : Nat) (x : Timer) : (setTimer s p x).time.pps = s.time.pps := rfl
@[simp] theorem setTimer_time_ref10m (s : State) (p : Nat) (x : Timer) : (setTimer s p x).time.ref10m = s.time.ref10m := rfl
@[simp] theorem setTimer_time_refPhase (s : State) (p : Nat) (x : Timer) : (setTimer s p x).time.refPhase = s.time.refPhase := rfl
@[simp] theorem setTimer_time_caps (s : State) (p : Nat) (x : Timer) : (setTimer s p x).time.caps = s.time.caps := rfl
@[simp] theorem setTimer_time_gptp (s : State) (p : Nat) (x : Timer) : (setTimer s p x).time.gptp = s.time.gptp := rfl

/-! ### setFrame -/

@[simp] theorem setFrame_pending (s : State) (p : Nat) (x : VFrame) : (setFrame s p x).pending = s.pending := rfl
@[simp] theorem setFrame_trace (s : State) (p : Nat) (x : VFrame) : (setFrame s p x).trace = s.trace := rfl
@[simp] theorem setFrame_free (s : State) (p : Nat) (x : VFrame) : (setFrame s p x).free = s.free := rfl
@[simp] theorem setFrame_clk (s : State) (p : Nat) (x : VFrame) : (setFrame s p x).clk = s.clk := rfl
@[simp] theorem setFrame_regs (s : State) (p : Nat) (x : VFrame) : (setFrame s p x).regs = s.regs := rfl
@[simp] theorem setFrame_time (s : State) (p : Nat) (x : VFrame) : (setFrame s p x).time = s.time := rfl
@[simp] theorem setFrame_cyc (s : State) (p : Nat) (x : VFrame) : (setFrame s p x).cyc = s.cyc := rfl
@[simp] theorem setFrame_ring (s : State) (p : Nat) (x : VFrame) : (setFrame s p x).ring = s.ring := rfl
@[simp] theorem setFrame_cls (s : State) (p : Nat) (x : VFrame) : (setFrame s p x).cls = s.cls := rfl
@[simp] theorem setFrame_meters (s : State) (p : Nat) (x : VFrame) : (setFrame s p x).meters = s.meters := rfl
@[simp] theorem setFrame_metersWas (s : State) (p : Nat) (x : VFrame) : (setFrame s p x).metersWas = s.metersWas := rfl
@[simp] theorem setFrame_eg (s : State) (p : Nat) (x : VFrame) : (setFrame s p x).eg = s.eg := rfl
@[simp] theorem setFrame_frer (s : State) (p : Nat) (x : VFrame) : (setFrame s p x).frer = s.frer := rfl
@[simp] theorem setFrame_ports (s : State) (p : Nat) (x : VFrame) : (setFrame s p x).ports = s.ports := rfl
@[simp] theorem setFrame_host (s : State) (p : Nat) (x : VFrame) : (setFrame s p x).host = s.host := rfl
@[simp] theorem setFrame_dma (s : State) (p : Nat) (x : VFrame) : (setFrame s p x).dma = s.dma := rfl
@[simp] theorem setFrame_geley (s : State) (p : Nat) (x : VFrame) : (setFrame s p x).geley = s.geley := rfl
@[simp] theorem setFrame_kn (s : State) (p : Nat) (x : VFrame) : (setFrame s p x).kn = s.kn := rfl
@[simp] theorem setFrame_flt (s : State) (p : Nat) (x : VFrame) : (setFrame s p x).flt = s.flt := rfl
@[simp] theorem setFrame_ctr (s : State) (p : Nat) (x : VFrame) : (setFrame s p x).ctr = s.ctr := rfl
@[simp] theorem setFrame_boot (s : State) (p : Nat) (x : VFrame) : (setFrame s p x).boot = s.boot := rfl
@[simp] theorem setFrame_sched (s : State) (p : Nat) (x : VFrame) : (setFrame s p x).sched = s.sched := rfl
@[simp] theorem setFrame_pins (s : State) (p : Nat) (x : VFrame) : (setFrame s p x).pins = s.pins := rfl
@[simp] theorem setFrame_vat_waits (s : State) (p : Nat) (x : VFrame) : (setFrame s p x).vat.waits = s.vat.waits := rfl
@[simp] theorem setFrame_vat_acctQ (s : State) (p : Nat) (x : VFrame) : (setFrame s p x).vat.acctQ = s.vat.acctQ := rfl
@[simp] theorem setFrame_vat_destQ (s : State) (p : Nat) (x : VFrame) : (setFrame s p x).vat.destQ = s.vat.destQ := rfl
@[simp] theorem setFrame_vat_acctCells (s : State) (p : Nat) (x : VFrame) : (setFrame s p x).vat.acctCells = s.vat.acctCells := rfl
@[simp] theorem setFrame_vat_acctResv (s : State) (p : Nat) (x : VFrame) : (setFrame s p x).vat.acctResv = s.vat.acctResv := rfl
@[simp] theorem setFrame_vat_destCells (s : State) (p : Nat) (x : VFrame) : (setFrame s p x).vat.destCells = s.vat.destCells := rfl
@[simp] theorem setFrame_vat_poolUsed (s : State) (p : Nat) (x : VFrame) : (setFrame s p x).vat.poolUsed = s.vat.poolUsed := rfl
@[simp] theorem setFrame_vat_stagingUsed (s : State) (p : Nat) (x : VFrame) : (setFrame s p x).vat.stagingUsed = s.vat.stagingUsed := rfl
@[simp] theorem setFrame_vat_poolLost (s : State) (p : Nat) (x : VFrame) : (setFrame s p x).vat.poolLost = s.vat.poolLost := rfl
@[simp] theorem setFrame_vat_stagingLost (s : State) (p : Nat) (x : VFrame) : (setFrame s p x).vat.stagingLost = s.vat.stagingLost := rfl
@[simp] theorem setFrame_vat_resvLost (s : State) (p : Nat) (x : VFrame) : (setFrame s p x).vat.resvLost = s.vat.resvLost := rfl
@[simp] theorem setFrame_vat_banksClosing (s : State) (p : Nat) (x : VFrame) : (setFrame s p x).vat.banksClosing = s.vat.banksClosing := rfl
@[simp] theorem setFrame_vat_spill (s : State) (p : Nat) (x : VFrame) : (setFrame s p x).vat.spill = s.vat.spill := rfl
@[simp] theorem setFrame_vat_spillArea (s : State) (p : Nat) (x : VFrame) : (setFrame s p x).vat.spillArea = s.vat.spillArea := rfl
@[simp] theorem setFrame_vat_spillUsed (s : State) (p : Nat) (x : VFrame) : (setFrame s p x).vat.spillUsed = s.vat.spillUsed := rfl
@[simp] theorem setFrame_vat_spillBusy (s : State) (p : Nat) (x : VFrame) : (setFrame s p x).vat.spillBusy = s.vat.spillBusy := rfl
@[simp] theorem setFrame_vat_spillOff (s : State) (p : Nat) (x : VFrame) : (setFrame s p x).vat.spillOff = s.vat.spillOff := rfl
@[simp] theorem setFrame_vat_rotor (s : State) (p : Nat) (x : VFrame) : (setFrame s p x).vat.rotor = s.vat.rotor := rfl

/-! ### What an entry reads as after its update, and the others -/

@[simp] theorem qAt_setQ (s : State) (k : Nat) (x : QReg) : qAt (setQ s k x) k = x :=
  tblGet_tblSet_same _ _ _ _

theorem qAt_setQ_ne (s : State) (k j : Nat) (x : QReg) (h : j ≠ k) : qAt (setQ s k x) j = qAt s j :=
  tblGet_tblSet_ne _ _ _ _ _ h

@[simp] theorem gateAt_setGate (s : State) (k : Nat) (x : Gate) : gateAt (setGate s k x) k = x :=
  tblGet_tblSet_same _ _ _ _

theorem gateAt_setGate_ne (s : State) (k j : Nat) (x : Gate) (h : j ≠ k) : gateAt (setGate s k x) j = gateAt s j :=
  tblGet_tblSet_ne _ _ _ _ _ h

@[simp] theorem preAt_setPre (s : State) (k : Nat) (x : Preempt) : preAt (setPre s k x) k = x :=
  tblGet_tblSet_same _ _ _ _

theorem preAt_setPre_ne (s : State) (k j : Nat) (x : Preempt) (h : j ≠ k) : preAt (setPre s k x) j = preAt s j :=
  tblGet_tblSet_ne _ _ _ _ _ h

@[simp] theorem macAt_setMac (s : State) (k : Nat) (x : MacTx) : macAt (setMac s k x) k = x :=
  tblGet_tblSet_same _ _ _ _

theorem macAt_setMac_ne (s : State) (k j : Nat) (x : MacTx) (h : j ≠ k) : macAt (setMac s k x) j = macAt s j :=
  tblGet_tblSet_ne _ _ _ _ _ h

@[simp] theorem pauseAt_setPause (s : State) (k : Nat) (x : Pause) : pauseAt (setPause s k x) k = x :=
  tblGet_tblSet_same _ _ _ _

theorem pauseAt_setPause_ne (s : State) (k j : Nat) (x : Pause) (h : j ≠ k) : pauseAt (setPause s k x) j = pauseAt s j :=
  tblGet_tblSet_ne _ _ _ _ _ h

@[simp] theorem shaperAt_setShaper (s : State) (k : Nat) (x : Shaper) : shaperAt (setShaper s k x) k = x :=
  tblGet_tblSet_same _ _ _ _

theorem shaperAt_setShaper_ne (s : State) (k j : Nat) (x : Shaper) (h : j ≠ k) : shaperAt (setShaper s k x) j = shaperAt s j :=
  tblGet_tblSet_ne _ _ _ _ _ h

@[simp] theorem wfqAt_setWfq (s : State) (k : Nat) (x : Wfq) : wfqAt (setWfq s k x) k = x :=
  tblGet_tblSet_same _ _ _ _

theorem wfqAt_setWfq_ne (s : State) (k j : Nat) (x : Wfq) (h : j ≠ k) : wfqAt (setWfq s k x) j = wfqAt s j :=
  tblGet_tblSet_ne _ _ _ _ _ h

@[simp] theorem queueAt_setQueue (s : State) (k : Nat) (x : List QEnt) : queueAt (setQueue s k x) k = x :=
  tblGet_tblSet_same _ _ _ _

theorem queueAt_setQueue_ne (s : State) (k j : Nat) (x : List QEnt) (h : j ≠ k) : queueAt (setQueue s k x) j = queueAt s j :=
  tblGet_tblSet_ne _ _ _ _ _ h

@[simp] theorem fsrcAt_setFsrc (s : State) (k : Nat) (x : FSrc) : fsrcAt (setFsrc s k x) k = x :=
  tblGet_tblSet_same _ _ _ _

theorem fsrcAt_setFsrc_ne (s : State) (k j : Nat) (x : FSrc) (h : j ≠ k) : fsrcAt (setFsrc s k x) j = fsrcAt s j :=
  tblGet_tblSet_ne _ _ _ _ _ h

@[simp] theorem mbxAt_setMbx (s : State) (k : Nat) (x : Mbx) : mbxAt (setMbx s k x) k = x :=
  tblGet_tblSet_same _ _ _ _

theorem mbxAt_setMbx_ne (s : State) (k j : Nat) (x : Mbx) (h : j ≠ k) : mbxAt (setMbx s k x) j = mbxAt s j :=
  tblGet_tblSet_ne _ _ _ _ _ h

@[simp] theorem rcvyAt_setRcvy (s : State) (k : Nat) (x : Rcvy) : rcvyAt (setRcvy s k x) k = x :=
  tblGet_tblSet_same _ _ _ _

theorem rcvyAt_setRcvy_ne (s : State) (k j : Nat) (x : Rcvy) (h : j ≠ k) : rcvyAt (setRcvy s k x) j = rcvyAt s j :=
  tblGet_tblSet_ne _ _ _ _ _ h

@[simp] theorem funcAt_setFunc (s : State) (k : Nat) (x : Func) : funcAt (setFunc s k x) k = x :=
  tblGet_tblSet_same _ _ _ _

theorem funcAt_setFunc_ne (s : State) (k j : Nat) (x : Func) (h : j ≠ k) : funcAt (setFunc s k x) j = funcAt s j :=
  tblGet_tblSet_ne _ _ _ _ _ h

@[simp] theorem portAt_setPort (s : State) (k : Nat) (x : PortSt) : portAt (setPort s k x) k = x :=
  tblGet_tblSet_same _ _ _ _

theorem portAt_setPort_ne (s : State) (k j : Nat) (x : PortSt) (h : j ≠ k) : portAt (setPort s k x) j = portAt s j :=
  tblGet_tblSet_ne _ _ _ _ _ h

@[simp] theorem claimAt_setClaim (s : State) (k : Nat) (x : Claim) : claimAt (setClaim s k x) k = x :=
  tblGet_tblSet_same _ _ _ _

theorem claimAt_setClaim_ne (s : State) (k j : Nat) (x : Claim) (h : j ≠ k) : claimAt (setClaim s k x) j = claimAt s j :=
  tblGet_tblSet_ne _ _ _ _ _ h

@[simp] theorem txAt_setTx (s : State) (k : Nat) (x : TxBuf) : txAt (setTx s k x) k = x :=
  tblGet_tblSet_same _ _ _ _

theorem txAt_setTx_ne (s : State) (k j : Nat) (x : TxBuf) (h : j ≠ k) : txAt (setTx s k x) j = txAt s j :=
  tblGet_tblSet_ne _ _ _ _ _ h

@[simp] theorem rxAt_setRx (s : State) (k : Nat) (x : RxBuf) : rxAt (setRx s k x) k = x :=
  tblGet_tblSet_same _ _ _ _

theorem rxAt_setRx_ne (s : State) (k j : Nat) (x : RxBuf) (h : j ≠ k) : rxAt (setRx s k x) j = rxAt s j :=
  tblGet_tblSet_ne _ _ _ _ _ h

@[simp] theorem gptpAt_setGptp (s : State) (k : Nat) (x : GptpPort) : gptpAt (setGptp s k x) k = x :=
  tblGet_tblSet_same _ _ _ _

theorem gptpAt_setGptp_ne (s : State) (k j : Nat) (x : GptpPort) (h : j ≠ k) : gptpAt (setGptp s k x) j = gptpAt s j :=
  tblGet_tblSet_ne _ _ _ _ _ h

@[simp] theorem capAt_setCap (s : State) (k : Nat) (x : CapIn) : capAt (setCap s k x) k = x :=
  tblGet_tblSet_same _ _ _ _

theorem capAt_setCap_ne (s : State) (k j : Nat) (x : CapIn) (h : j ≠ k) : capAt (setCap s k x) j = capAt s j :=
  tblGet_tblSet_ne _ _ _ _ _ h

@[simp] theorem timerAt_setTimer (s : State) (k : Nat) (x : Timer) : timerAt (setTimer s k x) k = x :=
  tblGet_tblSet_same _ _ _ _

theorem timerAt_setTimer_ne (s : State) (k j : Nat) (x : Timer) (h : j ≠ k) : timerAt (setTimer s k x) j = timerAt s j :=
  tblGet_tblSet_ne _ _ _ _ _ h

@[simp] theorem frameAt_setFrame (s : State) (k : Nat) (x : VFrame) : frameAt (setFrame s k x) k = x :=
  tblGet_tblSet_same _ _ _ _

theorem frameAt_setFrame_ne (s : State) (k j : Nat) (x : VFrame) (h : j ≠ k) : frameAt (setFrame s k x) j = frameAt s j :=
  tblGet_tblSet_ne _ _ _ _ _ h

@[simp] theorem podlAt_setPodl (s : State) (k : Nat) (x : Podl) : podlAt (setPodl s k x) k = x :=
  tblGet_tblSet_same _ _ _ _

theorem podlAt_setPodl_ne (s : State) (k j : Nat) (x : Podl) (h : j ≠ k) : podlAt (setPodl s k x) j = podlAt s j :=
  tblGet_tblSet_ne _ _ _ _ _ h

@[simp] theorem vecAt_setVec (s : State) (f v : Nat) (x : Vec) : vecAt (setVec s f v x) f v = x :=
  tblGet_tblSet_same _ _ _ _

@[simp] theorem rport_setRport (s : State) (e : RPort) (x : RingPort) : rport (setRport s e x) e = x := by cases e <;> rfl

theorem rport_setRport_ne (s : State) (e d : RPort) (x : RingPort) (h : d ≠ e) : rport (setRport s e x) d = rport s d := by
  cases e <;> cases d <;> first | rfl | exact absurd rfl h

@[simp] theorem rtx_setRtx (s : State) (e : RPort) (x : RingTx) : rtx (setRtx s e x) e = x := by cases e <;> rfl

theorem rtx_setRtx_ne (s : State) (e d : RPort) (x : RingTx) (h : d ≠ e) : rtx (setRtx s e x) d = rtx s d := by
  cases e <;> cases d <;> first | rfl | exact absurd rfl h

@[simp] theorem ctxAt_setCtx (s : State) (e : RPort) (l : Level) (x : Reasm) : ctxAt (setCtx s e l x) e l = x :=
  tblGet_tblSet_same _ _ _ _

@[simp] theorem driveAt_setDrive (s : State) (d : Nat) (x : Drive) : driveAt (setDrive s d x) d = x := by
  unfold driveAt setDrive
  split <;> rfl

/-! ### Memory-like tables keep their canonical form -/

theorem countN_stat_wf (s : State) (f o e n : Nat) (h : tblWf ({} : Stat) s.ctr.stat = true) :
    tblWf ({} : Stat) (countN s f o e n).ctr.stat = true := tblWf_tblSet _ _ _ _ h

end Sys2Proof.Machine
end

