-- ==== Sys2Proof/Tests/Slice0.lean ====
section
/-! SUPPORT. Slice0.lean: the model's own tests: an ill-formed term that each check of WellFormed refuses, for every statement
concrete states and operands that meet the hypotheses of each of its clauses together, and small tests of single steps. -/

namespace Sys2Proof.Tests

/- The proofs below run one at a time: each evaluates whole states, and many at once need many threads. -/
set_option Elab.async false

open Sys2Proof Sys2Proof.Machine

/-! ### Small parts -/

/-- A part that runs: all regions in service, M0 its owner, network time 4 s. -/
def up : State :=
  { State.reset with
    clk := { tick := 5000000000 }
    regs := { out := [] }
    time := { nt := 4000000000 * 2 ^ 48 }
    ring := { bypassOn := false }
    host := { linkUp := [0], slots := [(5, 1)] }
    kn := { owner := some 0, leaseMs := 1000, leaseEnd := 6250000000 }
    boot := { inReset := false, por := false, corePowered := true, ready := true, running := true, cause := 0, stage := 8
              cfgApplied := true, wdtKicked := true, runSlot := 0, cfg := { node := 3, mac := 0x020000000003 } }
    pins := { resetN := true, corePwrEn := true, corePgood := true } }

/-- What the reads of a drive that passes every check of R373 show, with no label on it. -/
def mountGood : MountData :=
  { version := 0x00020000, lba := 512, metadata := 0, mdts := 0, depth := 256, units := 2600, label0 := [], label1 := [], index := []
    heads := [] }

/-- A request of a master. -/
def rqOf (m code flags : Nat) (params bulk : Octets) : Request :=
  { master := m, bulk := bulk
    image := leBytes 2 code ++ leBytes 1 3 ++ leBytes 1 flags ++ leBytes 2 7 ++ leBytes 2 params.length ++
      leBytes 4 bulk.length ++ leBytes 4 0 ++ params }

/-- A request of M0. -/
def rq (code : Nat) (params : Octets) : Request := rqOf 0 code 0 params []

/-- A set request of M0: the object, MASK, and the values from offset 16 on. -/
def rqSet (code cls idx mask : Nat) (v : Octets) : Request :=
  rq code (leBytes 8 (objId cls idx) ++ leBytes 4 mask ++ leBytes 4 0 ++ v)

/-- The part with a request whose turn it is. -/
def asks (s : State) (r : Request) : State := { s with kn := { s.kn with waiting := [r] } }

/-- The part with account 0 reserving what the pool does not hold. -/
def tight : State := { up with vat := { up.vat with acctQ := [(0, { reserve := 65536, limit := 65536 }), (1, { reserve := 65536, limit := 65536 })] } }

/-- A fault source whose parameters are fixed. -/
def fixedSrc : Nat := ((List.range 768).find? (fun f => (srcInfo f).fixed)).getD 0

/-- The part with the first completion queue in a slot of M0's function. -/
def mapped3 : State := { up with host := { up.host with slots := [(5, 0x3001)] } }

/-- A cycle of 1 ms. -/
def img : Image :=
  { id := 7, mt := 20, c := 50000, s := 4, lst := 100, lambda := 300, ndyn := 8, lms := 10, lopen := 20000, lnit := 1000, p := 4
    own := [{ slot := 1, owner := 1 }, { slot := 2, owner := 2 }, { slot := 3, owner := 3 }, { slot := 4, owner := 4 }]
    dyn := [(1, 1), (2, 3)], sync := [(1, 1), (2, 2), (3, 3)]
    tx := [{ node := 3, buf := 0, id := 3 }, { node := 3, buf := 1, isDyn := true, id := 2 }]
    rx := [{ node := 3, buf := 0, id := 1 }] }

/-- A member of a ring, synchronised, at the start of cycle 4 000. -/
def ringUp : State :=
  { up with
    cyc := { image := some img, c0 := some 0, n := 4000 }
    ring := { bypassOn := false, state := .synchronised, east := { link := true, state := .inRing }
              west := { link := true, state := .inRing } } }

/-- The part with a drive that records. -/
def drives : State := { up with geley := { up.geley with d0 := { state := .recording, link := true, units := 40 * 65 } } }

/-- A part of a KN_GATE_LOAD: one entry, all gates open for 1 ms. -/
def gatePart : Octets :=
  leBytes 4 1 ++ leBytes 4 0xFF ++ leBytes 4 1 ++ leBytes 4 0 ++ leBytes 8 0 ++ leBytes 4 1000000 ++ leBytes 4 0 ++ leBytes 8 0 ++
    leBytes 8 (0xFF * 2 ^ 32 + 1000000)

/-- A stored configuration with an empty script. -/
def storeImage : Octets := leBytes 4 0x47464353 ++ leBytes 4 1 ++ leBytes 8 1 ++ leBytes 4 448 ++ leBytes 428 0

/-- Octets with a good FCS. -/
def framed (o : Octets) : Octets := o ++ fcsOf o

/-- A frame of 60 octets and its FCS with an EtherType and what follows it. -/
def etherFrame (etype : Nat) (rest : Octets) : Octets := framed (padTo 60 (leBytes 12 0 ++ beBytes 2 etype ++ rest))

/-- The part with uplink port 1 up. -/
def linked17 : State := { up with ports := { up.ports with port := [(17, { link := true })] } }

/-- A gate list whose one entry is SetAndHoldMAC. -/
def holdList : GateList := { enabled := true, entries := [2 ^ 60 + 0xFF * 2 ^ 32 + 1000000] }

/-- A ring member half a millisecond into cycle 4 000, with a transmit slot buffer written. -/
def midCycle : State :=
  { ringUp with
    time := { ringUp.time with nt := 4000500000 * 2 ^ 48 }
    cyc := { ringUp.cyc with tx := [(0, { front := some [1, 2], latCW := some (9, [1, 2]), newCW := true })] } }

/-- A DELAY_REQ of node 2, with its header check and its FCS. -/
def reqFrame : Octets :=
  beBytes 32 0x03454800000202000000000288B51C0200102000000000008000695C00000000 ++
    beBytes 32 0x0000000000000000000000000000000000000000000000000000000050F0DBDB

/-- A DELAY_RESP of node 2 to node 3 with number 0xFFFF, with its header check and its FCS. -/
def respFrame : Octets :=
  beBytes 32 0x03454800000202000000000288B51C0200112000000000008000827FFFFF0300 ++
    beBytes 32 0x00000000000000000000000000000000000000000000000000000000252C9F16

/-- A DELAY_RESP of node 2 to node 0 with number 0, with its header check and its FCS. -/
def respOther : Octets :=
  beBytes 32 0x03454800000202000000000288B51C0200112000000000008000827F00000000 ++
    beBytes 32 0x00000000000000000000000000000000000000000000000000000000A354A816

/-- A DELAY_REPORT of node 2, with its header check and its FCS. -/
def reportFrame : Octets :=
  beBytes 32 0x03454800000202000000000288B51C0200122000000000008000AF3B00000000 ++
    beBytes 32 0x0000000000000000000000000000000000000000000000000000000071A71CD7

/-- A ring event of node 2, with its header check and its FCS. -/
def eventFrame : Octets :=
  beBytes 32 0x03454800000202000000000288B51C02002220000000000080005B3900000000 ++
    beBytes 32 0x0000000000000000000000000000000000000000000000000000000064CD6903

/-- A link beat of node 2 with the image 7, with its header check and its FCS. -/
def beatFrame : Octets :=
  beBytes 32 0x03454800000202000000000288B51C0200212000000000008000767D00000000 ++
    beBytes 32 0x000000070000000000000000000000000000000000000000000000001EC28D0C

/-- A link beat of node 2 with the image 0, with its header check and its FCS. -/
def beatOther : Octets :=
  beBytes 32 0x03454800000202000000000288B51C0200212000000000008000767D00000000 ++
    beBytes 32 0x00000000000000000000000000000000000000000000000000000000B63EDDC2

/-- A cold-start announce of node 2 with the image 7, with its header check and its FCS. -/
def announceFrame : Octets :=
  beBytes 32 0x03454800000202000000000288B51C02002020000000000080009D5E02000000 ++
    beBytes 32 0x00000007000000000000000000000000000000000000000000000000F86B3BF9

/-- A KN_HEARTBEAT of node 2 in a management frame to node 3, with its header check and its FCS. -/
def mgmtRequest : Octets :=
  beBytes 32 0x03454800000102000000000288B51802000020000000001003E0C7F003000300 ++
    beBytes 32 0x07000000000000000000000000000000000000000000000000000000D722FE8C

/-- A ring member with its east port changed. -/
def eastIs (x : RingPort) : State := { ringUp with ring := { ringUp.ring with east := x } }

/-- An express packet. -/
def packet (o : Octets) : Mpacket :=
  { smd := .express, frameCount := 0, fragCount := 0, data := o, last := true, crcOk := true, symErr := false, shortGap := false,
    fecFixed := 0, fecBad := 0 }

/-- A ring with a pier slot that this node may use. -/
def pierUp : State :=
  { ringUp with
    cyc := { ringUp.cyc with image := some { img with s := 5, piers := [{ slot := 5, key := 77, lo := 1, hi := 4 }] } }
    boot := { ringUp.boot with cfg := { ringUp.boot.cfg with keys := [77] } } }

/-- The part with a transmit queue and its completion queue running in slots of a function with Bus Master Enable. -/
def dmaOn : State :=
  { up with
    host := { up.host with funcs := [(0, { bme := true })], slots := [(5, 1), (6, 0x3001), (7, 0x1001)] }
    dma := { q := [(0, { state := .running, prod := 1 }), (0x3000, { state := .running })] } }

/-- The same with a receive queue that holds a frame. -/
def rxOn : State := { dmaOn with dma := { q := [(0x1000, { state := .running, rxq := [{ h := 9 }] }), (0x3000, { state := .running })] } }

/-- The same with a descriptor read outstanding. -/
def reading : State := { dmaOn with dma := { dmaOn.dma with reads := [(1, { len := 16 })] } }


/-- A state at a network time in nanoseconds. -/
def atNs (s : State) (ns : Nat) : State := { s with time := { s.time with nt := ns * 2 ^ 48 } }

/-- A member of a ring at a network time, with its first transmit buffer. -/
def bufAt (ns : Nat) (x : TxBuf) : State := { atNs ringUp ns with cyc := { ringUp.cyc with tx := [(0, x)] } }

/-- A member of a ring at a network time in its dynamic segment, with its second transmit buffer. -/
def dynAt (ns : Nat) (counter : Option Nat) (j : Nat) (x : TxBuf) : State :=
  { atNs ringUp ns with cyc := { ringUp.cyc with tx := [(1, x)], msCW := counter, msIdxCW := j, armCW := some (1, ns16 4000014200) } }
/-! ### Ill-formed commands: one for each check of WellFormed, its operand just beyond the range -/

def illFormedA : List Instr :=
  [.mbxGo 3, .dmaCmdIndex 128 0 0, .dmaCmdIndex 0 4096 0, .dmaCmdIndex 0 0 65536, .dmaCmdEnable 128 0, .dmaCmdEnable 0 4096,
   .dmaCmdDisable 128 0, .dmaCmdDisable 0 4096, .dmaCmdResume 128 0, .dmaCmdResume 0 4096, .dmaCmdSkip 128 0,
   .dmaCmdSkip 0 4096, .dmaCmdReset 128 0, .dmaCmdReset 0 4096, .cqCmdIndex 128 0 0 true, .cqCmdIndex 0 4096 0 true,
   .cqCmdIndex 0 0 65536 true, .cqCmdEnable 128 0, .cqCmdEnable 0 4096, .cqCmdDisable 128 0, .cqCmdDisable 0 4096,
   .cqCmdResume 128 0, .cqCmdResume 0 4096, .cqCmdReset 128 0, .cqCmdReset 0 4096, .dmaG1Doorbell 128 0,
   .dmaG1Doorbell 0 4096, .hostNtimeLoRead 128, .perfCntLoRead 128 0, .perfCntLoRead 0 1792, .hostSyncRead 128,
   .chipReset (2 ^ 32), .bypassOn (2 ^ 32), .bypassRelease (2 ^ 32), .forceFallback (2 ^ 32), .perstAssert 4, .dlDown 4,
   .pcieLinkTrained 4 0 0, .pcieLinkTrained 0 32 0, .pcieLinkTrained 0 0 8, .functionLevelReset 128, .flrComplete 128,
   .busMasterEnableClear 128, .busMasterEnableSet 128, .vfEnableClear 2, .msixUnmask 128 none, .msixModerationEnd 128 0,
   .msixModerationEnd 0 256, .descriptorFetch 0x6000]

def illFormedB : List Instr :=
  [.hostReadCompletion 2048 [], .hostBusError 2048 .poisoned, .completionTimeout 2048, .txJobStart 0x6000,
   .rxFrameDeliver 0x6000, .rxWaitLimitExpiry 0x6000, .slotFetchPoint 4096 .cw, .slotSend 4096 .cw,
   .ringFrameRx .east (packet []) (2 ^ 80), .delayReqRx .east [] (2 ^ 80), .delayRespRx .east [] (2 ^ 80),
   .calBurstStart .east (2 ^ 80), .delayReportRx .east [] (2 ^ 80), .linkBeatSend .east (2 ^ 80),
   .linkBeatRx .east [] (2 ^ 80), .announceRx .east [] (2 ^ 80), .ringEventRx .east [] (2 ^ 80), .pierOccurrenceEnd 4096,
   .pierBackoffEnd 4096, .timerEdge 4, .evcapEdge 5 true 0, .evcapEdge 0 true (2 ^ 80), .gptpSend 18 .sync 0,
   .gptpSend 0 .sync (2 ^ 80), .gptpRx 18 [] 0, .gptpRx 0 [] (2 ^ 80), .macFrameRx 18 (packet []) 0,
   .macFrameRx 0 (packet []) (2 ^ 80), .spillReturn 160, .spillReturnDone 160, .pauseFrameRx 18 [], .pauseExpiry 18 0,
   .pauseExpiry 0 8, .pauseWatchdogBreak 18 0, .pauseWatchdogBreak 0 8, .transmissionOpportunity 20 .express 0,
   .transmissionOpportunity 0 .express (2 ^ 80), .frameTxEnd 20 .express, .gateEntryBoundary 18, .holdAdvance 18,
   .verifyTimeExpiry 18, .recoveryResetTimeout 16384, .latentPeriodEnd 16384, .edgeLinkUp 16 0 true true,
   .edgeLinkUp 0 5 true true, .edgeLinkDown 16, .recoveredClockLoss 20, 
   .cableTestDone 16 ⟨false, [], false⟩, .cableTestDone 0 ⟨false, [⟨0, false, 65537⟩], false⟩]

def illFormedC : List Instr :=
  [.podlDetectProbe 16 .valid, .podlClassResult 16 none, .podlInrushEnd 16 true, .podlOverload 16, .podlShort 16,
   .podlSupplyShort 16, .podlMpsLost 16, .podlRetryDelayEnd 16, .podlBudgetWaitEnd 16, .podlPowered10s 16,
   .segmentCloseTime 2 0, .segmentCloseTime 0 256, .nvmeWriteDone 2 true, .nvmeFlushTimer 2, .nvmeFlushDone 2 true,
   .driveLinkLoss 2, .driveReady 2, .driveMountDone 2 mountGood, .driveStall 2, .controllerReset 2,
   .controllerResetEnd 2 true, .healthPoll 2 [], .formatDone 2 true, .recordReadDone 2 0 [], .recordReadDone 0 (2 ^ 15) [],
   .faultEvent 768 0 0, .faultEvent 0 65536 0, .faultEvent 0 0 (2 ^ 32), .faultWindowEnd 768, .reactionEnd 65536,
   .shadowEnd 65536, .selftestStart 768, .selftestDone 768 .passed, .forcedEvent 768, .boundaryDetect 768 0,
   .boundaryDetect 0 768, .supplyExcursion 32, .d2dLinkDown 5, .unitClockGate 768, .slotMissed 4096 .east,
   .smdVerifyRx 20 .verifyP, .uplinkLinkDown 2, .recoveredClockReturn 20, .vfEnableSet 2 0, .vfEnableSet 0 64,
   .podlClassResult 0 (some 10)]

theorem test_illFormed_refused : ∀ c ∈ illFormedA ++ illFormedB ++ illFormedC, Instr.wf c = false := by decide +kernel

theorem test_illFormed_faults : ∀ c ∈ illFormedA ++ illFormedB ++ illFormedC, ∃ s, exec c s = .fault .illFormed := fun c hc =>
  ⟨up, by
    obtain ⟨t, ht⟩ := exec_checked c up
    rw [ht, checked_bad up t (test_illFormed_refused c hc)]⟩

/-! ### Every statement's hypotheses are met -/

theorem meets_HostReadsThatChangeState :
    (∃ (s : State), ∃ f, Instr.wf (.hostNtimeLoRead f) = true ∧ funcExists s f = true ∧ Reads s f) ∧
    (∃ (s : State), ∃ f, ∃ i, Instr.wf (.perfCntLoRead f i) = true ∧ funcExists s f = true ∧ Reads s f ∧ pageSeen s f = true) ∧
    (∃ (s : State), ∃ f, ∃ i, Instr.wf (.perfCntLoRead f i) = true ∧ funcExists s f = true ∧ Reads s f ∧ pageSeen s f = false) ∧
    (∃ (s : State), ∃ f, Instr.wf (.hostSyncRead f) = true ∧ funcExists s f = true ∧ Reads s f) ∧
    (∃ (s : State), ∃ f, Instr.wf (.badAccess (.host f) false) = true ∧ funcExists s f = true ∧ barLive s f = true) ∧
    (∃ (s : State), ∃ f, Instr.wf (.hostNtimeLoRead f) = true ∧ funcExists s f = true ∧ (¬Reads s f)) :=
  ⟨⟨up, 0, by decide +kernel⟩,
   ⟨{ up with host := { up.host with funcs := [(0, { page := true })] } }, 0, 1791, by decide +kernel⟩,
   ⟨up, 64, 0, by decide +kernel⟩,
   ⟨up, 64, by decide +kernel⟩,
   ⟨up, 0, by decide +kernel⟩,
   ⟨{ up with host := { up.host with funcs := [(0, { flr := true })] } }, 0, by decide +kernel⟩⟩

theorem meets_FunctionResetsAndEnables :
    (∃ (s : State), ∃ f, Instr.wf (.functionLevelReset f) = true ∧ funcExists s f = true ∧ (funcAt s f).flr = false) ∧
    (∃ (s : State), ∃ f, Instr.wf (.flrComplete f) = true ∧ (funcAt s f).flr = true) ∧
    (∃ (s : State), ∃ pf, ∃ n, Instr.wf (.vfEnableSet pf n) = true ∧ funcExists s (pf * 64) = true ∧ s.boot.fallback = false ∧
      (funcAt s (pf * 64)).flr = false ∧ tblGet 0 s.host.numVfs pf = 0) ∧
    (∃ (s : State), ∃ pf, Instr.wf (.vfEnableClear pf) = true ∧ funcExists s (pf * 64) = true) ∧
    (∃ (s : State), ∃ f, Instr.wf (.busMasterEnableClear f) = true ∧ funcExists s f = true ∧ (funcAt s f).flr = false) ∧
    (∃ (s : State), ∃ f, Instr.wf (.busMasterEnableSet f) = true ∧ funcExists s f = true ∧ (funcAt s f).flr = false ∧
      liveQueues s f = [] ∧ (∀ v < numVecs f, (vecAt s f v).pend = false)) :=
  ⟨⟨up, 64, by decide +kernel⟩,
   ⟨{ up with host := { up.host with funcs := [(0, { flr := true })] } }, 0, by decide +kernel⟩,
   ⟨up, 1, 63, by decide +kernel⟩,
   ⟨up, 0, by decide +kernel⟩,
   ⟨up, 64, by decide +kernel⟩,
   ⟨up, 64, by decide +kernel⟩⟩

theorem meets_HostLinksAndVectors :
    (∃ (s : State), ∃ k, Instr.wf (.perstAssert k) = true ∧ linkExists s k = true) ∧
    (∃ (s : State), ∃ k, Instr.wf (.dlDown k) = true ∧ linkExists s k = true) ∧
    (∃ (s : State), ∃ k, ∃ w, ∃ v, Instr.wf (.pcieLinkTrained k w v) = true ∧ linkExists s k = true ∧ trainOk s w v = true ∧
      s.boot.inReset = false) ∧
    (∃ (s : State), ∃ f, ∃ v, Instr.wf (.msixUnmask f (some v)) = true ∧ barLive s f = true ∧ v < numVecs f) ∧
    (∃ (s : State), ∃ f, Instr.wf (.msixUnmask f none) = true ∧ funcExists s f = true ∧ (∀ v < numVecs f,
      (vecAt s f v).pend = false)) ∧
    (∃ (s : State), ∃ f, ∃ v, Instr.wf (.msixModerationEnd f v) = true ∧ vecMaySend s f v = true) ∧
    (∃ (s : State), ∃ f, ∃ v, Instr.wf (.msixModerationEnd f v) = true ∧ (vecAt s f v).pend = false) :=
  ⟨⟨up, 0, by decide +kernel⟩,
   ⟨up, 0, by decide +kernel⟩,
   ⟨up, 0, 8, 5, by decide +kernel⟩,
   ⟨up, 64, 255, by decide +kernel⟩,
   ⟨up, 64, by decide +kernel⟩,
   ⟨{ up with host := { up.host with funcs := [(64, { bme := true, msixEn := true })], vecs := [(64 * 256 + 255, { pend := true, masked := false })] } }, 64, 255, by decide +kernel⟩,
   ⟨up, 0, 0, by decide +kernel⟩⟩

theorem meets_DmaIndexWrites :
    (∃ (s : State), ∃ f, ∃ slot, ∃ prod, ∃ q, Instr.wf (.dmaCmdIndex f slot prod) = true ∧ SlotOn s f slot q ∧ qKind q < 3) ∧
    (∃ (s : State), ∃ f, ∃ slot, ∃ head, ∃ arm, ∃ q, Instr.wf (.cqCmdIndex f slot head arm) = true ∧ SlotOn s f slot q ∧
      qKind q = 3) ∧
    (∃ (s : State), ∃ f, ∃ slot, ∃ q, Instr.wf (.dmaG1Doorbell f slot) = true ∧ SlotOn s f slot q ∧ qKind q = 4) ∧
    (∃ (s : State), ∃ f, ∃ slot, ∃ prod, Instr.wf (.dmaCmdIndex f slot prod) = true ∧ barLive s f = true ∧ slot < slotCount f ∧
      tblGet 0 s.host.slots (f * 4096 + slot) = 0) :=
  ⟨⟨up, 0, 5, 65535, 0, by decide +kernel⟩,
   ⟨{ up with host := { up.host with slots := [(3967, 0x3002)] } }, 0, 3967, 65535, true, 0x3001, by decide +kernel⟩,
   ⟨{ up with host := { up.host with slots := [(0, 0x4001)] } }, 0, 0, 0x4000, by decide +kernel⟩,
   ⟨up, 0, 3967, 0, by decide +kernel⟩⟩

theorem meets_DmaQueueCommands :
    (∃ (s : State), ∃ f, ∃ slot, ∃ q, SlotOn s f slot q ∧ qKind q ≠ 4) ∧
    (∃ (s : State), ∃ f, ∃ slot, ∃ q, SlotOn s f slot q ∧ qKind q < 3 ∧ Instr.wf (.dmaCmdSkip f slot) = true) ∧
    (∃ (s : State), ∃ q, Instr.wf (.drainTimeout (.queue q)) = true ∧ (qAt s q).state = .draining ∧
      (qAt s q).drainEnd ≤ now s) ∧
    (∃ (s : State), ∃ q, Instr.wf (.drainTimeout (.queue q)) = true ∧ (qAt s q).state ≠ .draining) ∧
    (∃ (s : State), ∃ p, Instr.wf (.drainTimeout (.port p)) = true ∧ (portAt s p).draining = true ∧
      (portAt s p).drainEnd ≤ now s) :=
  ⟨⟨up, 0, 5, 0, by decide +kernel⟩,
   ⟨up, 0, 5, 0, by decide +kernel⟩,
   ⟨{ up with dma := { up.dma with q := [(0, { state := .draining, drainEnd := up.clk.tick })] } }, 0, by decide +kernel⟩,
   ⟨up, 0, by decide +kernel⟩,
   ⟨{ up with ports := { up.ports with port := [(17, { draining := true, drainEnd := up.clk.tick })] } }, 17,
     by decide +kernel⟩⟩

theorem meets_GatesSamplesAndStrainerTimers :
    (∃ (s : State), ∃ p, Instr.wf (.gateEntryBoundary p) = true ∧ (gateAt s p).next ≠ 0 ∧ (gateAt s p).next ≤ nt16 s ∧
      (macAt s p).pm = none) ∧
    (∃ (s : State), ∃ p, Instr.wf (.gateEntryBoundary p) = true ∧ nt16 s < (gateAt s p).next) ∧
    (∃ (s : State), ∃ p, Instr.wf (.holdAdvance p) = true ∧ preemptActive s p = true ∧ (gateAt s p).next ≠ 0 ∧
      nextOp (gateAt s p) = 1 ∧ (gateAt s p).next ≤ nt16 s + holdAdvance s p ∧ (macAt s p).hold = false) ∧
    (∃ (s : State), ∃ p, Instr.wf (.holdAdvance p) = true ∧ preemptActive s p = false) ∧
    (∃ (s : State), s.eg.lastRefill + 125 ≤ now s) ∧
    (∃ (x : Shaper), x.enable = true ∧ x.pend = none ∧ x.rate * 2 ^ 25 % 625 = 0) ∧
    (∃ (s : State), s.eg.qsPeriod ≠ 0 ∧ s.eg.qsNext ≤ ntNs s) ∧
    (∃ (s : State), ∃ i, Instr.wf (.recoveryResetTimeout i) = true ∧ i < 8192 ∧ (rcvyAt s i).enable = true ∧
      (rcvyAt s i).takeAny = false ∧ (rcvyAt s i).lastPass + msTicks (rcvyAt s i).timeout ≤ now s) ∧
    (∃ (s : State), ∃ i, Instr.wf (.recoveryResetTimeout i) = true ∧
      ((rcvyAt s i).enable = false ∨ (rcvyAt s i).takeAny = true)) ∧
    (∃ (s : State), ∃ i, Instr.wf (.latentPeriodEnd i) = true ∧ i < 8192 ∧ (rcvyAt s i).enable = true ∧
      (rcvyAt s i).latent = true ∧ (rcvyAt s i).perEnd ≤ now s) ∧
    (∃ (s : State), ∃ i, Instr.wf (.latentPeriodEnd i) = true ∧ i < 8192 ∧ now s < (rcvyAt s i).perEnd) :=
  ⟨⟨{ up with eg := { up.eg with gates := [(17, { next := ns16 4000000000 })] } }, 17, by decide +kernel⟩,
   ⟨{ up with eg := { up.eg with gates := [(17, { next := ns16 4000000000 + 1 })] } }, 17, by decide +kernel⟩,
   ⟨{ linked17 with eg := { linked17.eg with gates := [(17, { oper := holdList, next := ns16 4000000000 })], pre := [(17, { enable := true, verDis := true })] } }, 17, by decide +kernel⟩,
   ⟨up, 17, by decide +kernel⟩,
   ⟨up, by decide +kernel⟩,
   ⟨{ enable := true, rate := 625 }, by decide +kernel⟩,
   ⟨{ up with eg := { up.eg with qsPeriod := 1, qsNext := 4000000000 } }, by decide +kernel⟩,
   ⟨{ up with frer := { up.frer with rcvy := [(8191, { enable := true, takeAny := false, lastPass := 5000000000 - 125000000 })] } }, 8191, by decide +kernel⟩,
   ⟨up, 8191, by decide +kernel⟩,
   ⟨{ up with frer := { up.frer with rcvy := [(8191, { enable := true, latent := true, perEnd := 5000000000 })] } }, 8191,
     by decide +kernel⟩,
   ⟨{ up with frer := { up.frer with rcvy := [(8191, { perEnd := 5000000001 })] } }, 8191, by decide +kernel⟩⟩

theorem meets_PausesAndVerification :
    (∃ (s : State), ∃ p, ∃ o, Instr.wf (.pauseFrameRx p o) = true ∧ (portAt s p).link = true ∧ fcsGood o = true ∧
      etypeAt o 12 = 0x8808 ∧ etypeAt o 14 = 1) ∧
    (∃ (s : State), ∃ p, ∃ o, Instr.wf (.pauseFrameRx p o) = true ∧ ((portAt s p).link = false ∨ etypeAt o 12 ≠ 0x8808)) ∧
    (∃ (s : State), ∃ p, ∃ o, Instr.wf (.pauseFrameRx p o) = true ∧ (portAt s p).link = true ∧ etypeAt o 12 = 0x8808) ∧
    (∃ (s : State), ∃ p, ∃ c, Instr.wf (.pauseExpiry p c) = true ∧ tblGet 0 (pauseAt s p).upto c ≠ 0 ∧
      tblGet 0 (pauseAt s p).upto c ≤ now s) ∧
    (∃ (s : State), ∃ p, ∃ c, Instr.wf (.pauseWatchdogBreak p c) = true ∧ watchdogArmed s p = true ∧ paused s p c = true ∧
      tblGet 0 (pauseAt s p).since c + msTicks (pauseAt s p).wdTime ≤ now s) ∧
    (∃ (s : State), ∃ p, ∃ c, Instr.wf (.pauseWatchdogBreak p c) = true ∧ watchdogArmed s p = false) ∧
    (∃ (s : State), ∃ p, Instr.wf (.verifyTimeExpiry p) = true ∧ (preAt s p).ver = .verifying ∧ (preAt s p).next ≤ now s) ∧
    (∃ p, Instr.wf (.smdVerifyRx p .verifyP) = true) ∧
    (∃ (s : State), ∃ p, Instr.wf (.smdVerifyRx p .responseP) = true ∧ p < 18 ∧ (preAt s p).ver = .verifying) :=
  ⟨⟨linked17, 17, etherFrame 0x8808 (beBytes 2 1 ++ beBytes 2 0xFFFF), by decide +kernel⟩,
   ⟨up, 17, [], by decide +kernel⟩,
   ⟨linked17, 17, etherFrame 0x8808 (beBytes 2 3), by decide +kernel⟩,
   ⟨{ up with eg := { up.eg with pause := [(17, { upto := [(7, 5000000000)] })] } }, 17, 7, by decide +kernel⟩,
   ⟨{ up with eg := { up.eg with pause := [(17, { upto := [(7, 5000000001)], since := [(7, 5000000000 - 62500000)] })] } }, 17,
     7, by decide +kernel⟩,
   ⟨{ up with eg := { up.eg with pause := [(17, { started := true })] } }, 17, 7, by decide +kernel⟩,
   ⟨{ up with eg := { up.eg with pre := [(17, { ver := .verifying, next := 5000000000 })] } }, 17, by decide +kernel⟩,
   ⟨17, by decide +kernel⟩,
   ⟨{ up with eg := { up.eg with pre := [(17, { ver := .verifying })] } }, 17, by decide +kernel⟩⟩

theorem meets_TimingPins :
    (∃ (s : State), s.clk.pllLocked = true ∧ s.time.pps = false ∧ ppsRuns s = true ∧ ppsPhase s < ns16 16) ∧
    (∃ (s : State), s.clk.pllLocked = true ∧ s.time.pps = true ∧
      (ppsRuns s = false ∨ s.time.cfg.ppsHigh * 1000 * 65536 ≤ ppsPhase s)) ∧
    (∃ (s : State), s.time.pps = false ∧ (ppsRuns s = false ∨ ns16 16 ≤ ppsPhase s)) ∧
    (∃ (s : State), ∃ i, ∃ rising, ∃ ts, Instr.wf (.evcapEdge i rising ts) = true ∧ s.clk.pllLocked = true ∧
      capSelected s i rising = true ∧ (∀ t, (capAt s i).lastEdge = some t → t + 16 * 65536 ≤ ts)) ∧
    (∃ (s : State), ∃ i, ∃ rising, ∃ ts, ∃ t, Instr.wf (.evcapEdge i rising ts) = true ∧ s.clk.pllLocked = true ∧
      capSelected s i rising = true ∧ (capAt s i).lastEdge = some t ∧ ts < t + 16 * 65536) ∧
    (∃ (s : State), ∃ i, ∃ rising, ∃ ts, Instr.wf (.evcapEdge i rising ts) = true ∧ capSelected s i rising = false) ∧
    (∃ (s : State), ∃ i, Instr.wf (.timerEdge i) = true ∧ s.clk.pllLocked = true ∧ (timerAt s i).running = true ∧
      (timerAt s i).nextEdge + (timerAt s i).delay * 16384 ≤ (nt16 s : Int)) ∧
    (∃ (s : State), ∃ i, Instr.wf (.timerEdge i) = true ∧ ((timerAt s i).running = false ∨
    (nt16 s : Int) < (timerAt s i).nextEdge + (timerAt s i).delay * 16384)) ∧
    (∃ (s : State), s.time.holdover = true ∧ s.time.holdoverEnd ≤ now s) :=
  ⟨⟨{ up with time := { up.time with cfg := { ppsFreeRun := true } } }, by decide +kernel⟩,
   ⟨{ up with time := { up.time with pps := true } }, by decide +kernel⟩,
   ⟨up, by decide +kernel⟩,
   ⟨{ up with time := { up.time with caps := [(4, { lastEdge := some 5 })] } }, 4, true, 5 + 16 * 65536, by decide +kernel,
     by decide +kernel, by decide +kernel,
     fun t (h : some 5 = some t) => by cases h; decide +kernel⟩,
   ⟨{ up with time := { up.time with caps := [(0, { lastEdge := some 100 })] } }, 0, true, 100, 100, by decide +kernel⟩,
   ⟨up, 0, false, 3, by decide +kernel⟩,
   ⟨{ up with time := { up.time with timers := [(1, { running := true, nextEdge := 7 })] } }, 1, by decide +kernel⟩,
   ⟨up, 1, by decide +kernel⟩,
   ⟨{ up with time := { up.time with holdover := true, holdoverEnd := 5000000000 } }, by decide +kernel⟩⟩

theorem meets_GptpMessages :
    (∃ (s : State), ∃ p, ∃ ts, Instr.wf (.gptpSend p .pdelayReq ts) = true ∧ portLive s p = true) ∧
    (∃ (s : State), ∃ p, ∃ ts, Instr.wf (.gptpSend p .sync ts) = true ∧ portLive s p = true ∧ (gptpAt s p).asCapable = true ∧
      (gptpClock s).isSome = true) ∧
    (∃ (s : State), ∃ p, ∃ ts, ∃ c, Instr.wf (.gptpSend p .announce ts) = true ∧ portLive s p = true ∧
      (gptpAt s p).asCapable = true ∧ gptpClock s = some c) ∧
    (∃ (s : State), ∃ p, ∃ ts, ∃ m, m ∈ [GptpMsg.sync, .announce] ∧ Instr.wf (.gptpSend p m ts) = true ∧ (gptpClock s = none ∨
    (gptpAt s p).asCapable = false)) ∧
    (∃ (s : State), ∃ p, ∃ o, ∃ ts, Instr.wf (.gptpRx p o ts) = true ∧ portLive s p = true ∧ fcsGood o = true ∧
      etypeAt o 12 = 0x88F7) ∧
    (∃ (x : GptpPort), x.prev = none) :=
  ⟨⟨linked17, 17, 5, by decide +kernel⟩,
   ⟨{ linked17 with time := { linked17.time with gptpStopped := false, holdover := true, gptp := [(17, { asCapable := true })] } }, 17, 5, by decide +kernel⟩,
   ⟨{ linked17 with time := { linked17.time with gptpStopped := false, holdover := true, gptp := [(17, { asCapable := true })] } }, 17, 5, (7, 0xFE, 0xA0), by decide +kernel⟩,
   ⟨up, 17, 5, .announce, by decide +kernel⟩,
   ⟨linked17, 17, etherFrame 0x88F7 [], 5, by decide +kernel⟩,
   ⟨{}, by decide +kernel⟩⟩

theorem meets_CycleBoundaries :
    (∃ (s : State), ∃ i, ∃ c, s.cyc.image = some i ∧ boundary s (s.cyc.n + 1) = some c ∧ nt16 s < c) ∧
    (∃ (s : State), ∃ i, ∃ c, s.cyc.image = some i ∧ boundary s (s.cyc.n + 1) = some c ∧ c ≤ nt16 s ∧ s.cyc.n % 2 = 1 ∧
      synced s = true ∧ s.time.limitFail = 0 ∧ s.time.thin < i.nStarve) ∧
    (∃ (s : State), ∃ i, ∃ c, ∃ phi, s.cyc.image = some i ∧ boundary s (s.cyc.n + 1) = some c ∧ c ≤ nt16 s ∧ s.cyc.n % 2 = 0 ∧
      synced s = true ∧ s.ring.pendReps = [] ∧ s.ring.pendEvs = [] ∧
    let vals := valuesOf s i s.cyc.n s.time.cur
    let rho := rateOf s i false (driftsOf s i vals)
    3 ≤ vals.length ∧ ftm false (vals.map (·.2)) = some (-phi) ∧ phi.natAbs ≤ i.phiLim * 65536 ∧ rho.natAbs ≤ i.rhoLim) ∧
    (∃ (s : State), ∃ i, ∃ c, ∃ phi, s.cyc.image = some i ∧ boundary s (s.cyc.n + 1) = some c ∧ s.time.phiNext = some phi ∧
      s.cyc.n % 2 = 1 ∧ c ≤ nt16 s + mts i i.lnit) ∧
    (∃ (s : State), s.time.phiNext = none) :=
  ⟨⟨ringUp, img, ns16 4001000000, by decide +kernel⟩,
   ⟨{ ringUp with cyc := { ringUp.cyc with n := 3999 } }, img, ns16 4000000000, by decide +kernel⟩,
   ⟨{ ringUp with cyc := { ringUp.cyc with n := 3998 }, time := { ringUp.time with cur := [{ node := 1, arrCW := some (tExp ringUp img 3998 .cw 1 1).toNat }, { node := 2, arrCW := some (tExp ringUp img 3998 .cw 2 2).toNat }] } }, img, ns16 3999000000, 0, by decide +kernel⟩,
   ⟨{ ringUp with cyc := { ringUp.cyc with n := 3999 }, time := { ringUp.time with phiNext := some 1 } }, img, ns16 4000000000,
     1, by decide +kernel⟩,
   ⟨up, by decide +kernel⟩⟩

theorem meets_SlotTransmission :
    (∃ (s : State), ∃ i, ∃ e, ∃ b, ∃ rot, ∃ n, Instr.wf (.slotFetchPoint b rot) = true ∧ s.cyc.image = some i ∧
      txEnt s b = some e ∧ e.isDyn = false ∧ occCycle s i rot e.id (nt16 s + ns16 104) = some n ∧ txActive s e n = true ∧
      nt16 s < tSend s i n rot e.id + ns16 1 ∧ tSend s i n rot e.id ≤ nt16 s + ns16 104 ∧
      ((txAt s b).fet rot).map (·.1) ≠ some n) ∧
    (∃ (s : State), ∃ i, ∃ e, ∃ b, ∃ rot, ∃ bnd, Instr.wf (.slotFetchPoint b rot) = true ∧ s.cyc.image = some i ∧
      txEnt s b = some e ∧ e.isDyn = true ∧ dynBoundOf s i rot e.id = some bnd ∧ txActive s e s.cyc.n = true ∧
      nt16 s < bnd + mts i i.apo + ns16 1 ∧ bnd + mts i i.apo ≤ nt16 s + ns16 104 ∧ (rtx s (portOfRot s rot)).exBuf ≠ some b) ∧
    (∃ (s : State), ∃ b, ∃ rot, Instr.wf (.slotFetchPoint b rot) = true ∧ txEnt s b = none) ∧
    (∃ (s : State), ∃ i, ∃ e, ∃ b, ∃ rot, ∃ q, ∃ d, ∃ n, ∃ k, Instr.wf (.slotSend b rot) = true ∧ s.cyc.image = some i ∧
      txEnt s b = some e ∧ e.isDyn = false ∧ (txAt s b).lat rot = some (q, d) ∧ (txAt s b).fet rot = some (n, k) ∧
    let port := portOfRot s rot
    let open_ := tSend s i n rot e.id
    (rtx s port).exBuf ≠ some b ∧ txActive s e n = true ∧ open_ < nt16 s + ns16 8) ∧
    (∃ (s : State), ∃ i, ∃ e, ∃ b, ∃ rot, ∃ q, ∃ d, ∃ n, ∃ k, ∃ bnd, Instr.wf (.slotSend b rot) = true ∧ s.cyc.image = some i ∧
      txEnt s b = some e ∧ e.isDyn = true ∧ (txAt s b).lat rot = some (q, d) ∧ (txAt s b).fet rot = some (n, k) ∧
      armOf s rot = some (b, bnd) ∧
    let port := portOfRot s rot
    let open_ := bnd + mts i i.apo
    (rtx s port).exBuf ≠ some b ∧ open_ < nt16 s + ns16 8 ∧ nt16 s ≤ open_ + ns16 1 ∧ inRing s port = true ∧
      egressFree s port = true) ∧
    (∃ (s : State), ∃ e, ∃ b, Instr.wf (.guardianCut e) = true ∧ (rtx s e).express.isSome = true ∧ (rtx s e).exOwn = true ∧
      (synced s = false ∨ (rtx s e).exClose ≤ nt16 s) ∧ (rtx s e).exBuf = some b) ∧
    (∃ (s : State), ∃ e, Instr.wf (.guardianCut e) = true ∧ (rtx s e).express = none) ∧
    (∃ (s : State), ∃ e, Instr.wf (.forwardWindowCut e) = true ∧ (rtx s e).express.isSome = true ∧ (rtx s e).exOwn = false ∧
      (rtx s e).exClose ≤ nt16 s) ∧
    (∃ (s : State), ∃ e, ∃ o, ∃ c, ∃ g, Instr.wf (.forwardWindowCut e) = true ∧ (rtx s e).express = none ∧
      (rtx s e).exNext = some (o, c, g) ∧ c ≤ nt16 s) :=
  ⟨⟨bufAt 4000003930 { front := some [1, 2] }, img, { node := 3, buf := 0, id := 3 }, 0, .cw, 4000, by decide +kernel⟩,
   ⟨dynAt 4000014140 (some 1) 1 { front := some [1, 2], pendCW := true }, img, { node := 3, buf := 1, isDyn := true, id := 2 },
     1, .cw, ns16 4000014200, by decide +kernel⟩,
   ⟨up, 0, .cw, by decide +kernel⟩,
   ⟨bufAt 4000004020 { front := some [1, 2], latCW := some (9, [1, 2]), fetCW := some (4000, 5) }, img,
     { node := 3, buf := 0, id := 3 }, 0, .cw, 9, [1, 2], 4000, 5, by decide +kernel⟩,
   ⟨dynAt 4000014220 (some 2) 2 { front := some [1, 2], pendCW := true, latCW := some (9, [1, 2]), fetCW := some (4000, 5) },
     img, { node := 3, buf := 1, isDyn := true, id := 2 }, 1, .cw, 9, [1, 2], 4000, 5, ns16 4000014200, by decide +kernel⟩,
   ⟨{ ringUp with ring := { ringUp.ring with eastTx := { express := some [1], exOwn := true, exBuf := some 0, exClose := ns16 4000000000 } } }, .east, 0, by decide +kernel⟩,
   ⟨up, .east, by decide +kernel⟩,
   ⟨{ ringUp with ring := { ringUp.ring with eastTx := { express := some [1], exClose := ns16 4000000000 } } }, .east,
     by decide +kernel⟩,
   ⟨{ ringUp with ring := { ringUp.ring with eastTx := { exNext := some ([1], 5, false) } } }, .east, [1], 5, false,
     by decide +kernel⟩⟩

theorem meets_MiniSlotsHoldsAndPiers :
    (∃ (s : State), ∃ i, ∃ rot, Instr.wf (.miniSlotBoundary rot) = true ∧ s.cyc.image = some i ∧ synced s = true ∧
      (msOf s rot).2.1 < i.ndyn) ∧
    (∃ (s : State), ∃ rot, (msOf s rot).2.1 = 0) ∧
    (∃ (s : State), ∃ c, (msOf s .cw).1 = some c ∧ 0 < (msOf s .cw).2.1) ∧
    (∃ (s : State), ∃ i, ∃ c, ∃ e, Instr.wf (.holdRaise e) = true ∧ s.cyc.image = some i ∧ boundary s s.cyc.n = some c ∧
      synced s = true ∧ hasExpress i = true ∧ (rtx s e).hold = false) ∧
    (∃ (s : State), ∃ i, ∃ e, Instr.wf (.holdRelease e) = true ∧ s.cyc.image = some i ∧ (rtx s e).hold = true ∧
      expressEnd s i (rtx s e).holdCyc (rotOfPort s e) + piT i ≤ nt16 s) ∧
    (∃ (s : State), ∃ i, ∃ k, ∃ e, ∃ o, Instr.wf (.slotMissed k e) = true ∧ s.cyc.image = some i ∧
      expectedOrigin s i k = some o ∧ synced s = true ∧ holdsSlot s i k s.cyc.n = false ∧ slotSeen s k e = false) ∧
    (∃ (s : State), ∃ i, ∃ k, ∃ p, ∃ c, Instr.wf (.pierOccurrenceEnd k) = true ∧ s.cyc.image = some i ∧
      pierOf i k s.cyc.n = some p ∧ boundary s (s.cyc.n + 1) = some c) ∧
    (∃ (s : State), ∃ (p : Pier), synced s = true ∧ (claimAt s p.idx).state = .observing ∧ s.cyc.n % 64 % p.m = p.b) ∧
    (∃ (s : State), ∃ k, ∃ (p : Pier), Instr.wf (.pierBackoffEnd k) = true ∧ p ∈ ownPiers s ∧ p.slot = k ∧
      (claimAt s p.idx).state = .backoff ∧ (claimAt s p.idx).backoff = 0) ∧
    (∃ (s : State), ∃ k, Instr.wf (.pierBackoffEnd k) = true ∧ (∀ p ∈ ownPiers s,
      p.slot = k → (claimAt s p.idx).state = .backoff → 0 < (claimAt s p.idx).backoff)) :=
  ⟨⟨ringUp, img, .cw, by decide +kernel⟩,
   ⟨ringUp, .cw, by decide +kernel⟩,
   ⟨dynAt 4000014140 (some 1) 1 {}, 1, by decide +kernel⟩,
   ⟨ringUp, img, ns16 4000000000, .east, by decide +kernel⟩,
   ⟨{ midCycle with ring := { midCycle.ring with eastTx := { hold := true, holdCyc := 4000 } } }, img, .east,
     by decide +kernel⟩,
   ⟨midCycle, img, 1, .east, 1, by decide +kernel⟩,
   ⟨pierUp, { img with s := 5, piers := [{ slot := 5, key := 77, lo := 1, hi := 4 }] }, 5,
     { slot := 5, key := 77, lo := 1, hi := 4 }, ns16 4001000000, by decide +kernel⟩,
   ⟨{ pierUp with cyc := { pierUp.cyc with claims := [(40961, { state := .observing, count := 8 })] } },
     { slot := 5, key := 77, lo := 1, hi := 4 }, by decide +kernel⟩,
   ⟨{ pierUp with cyc := { pierUp.cyc with claims := [(40961, { state := .backoff })] } }, 5,
     { slot := 5, key := 77, lo := 1, hi := 4 }, by decide +kernel⟩,
   ⟨up, 4, by decide +kernel⟩⟩

theorem meets_CalibrationAndSpanDelay :
    (∃ (s : State), ∃ e, ∃ ts, ∃ k, Instr.wf (.calBurstStart e ts) = true ∧ ctlRuns s = true ∧ (rport s e).state ≠ .down ∧
      (rport s e).burstNo = some k ∧ (rport s e).outT1 = none ∧ (rtx s e).ctl = [] ∧ exchangeMayGo s e = true) ∧
    (∃ (s : State), ∃ e, ∃ ts, Instr.wf (.calBurstStart e ts) = true ∧
      ((rport s e).burstNo = none ∨ (rport s e).outT1.isSome = true ∨
      (s.cyc.c0 ≠ none ∧ (rport s e).burstCycle = some s.cyc.n) ∨ (s.cyc.c0 = none ∧ due s (rport s e).burstNext = false))) ∧
    (∃ (s : State), ∃ e, ∃ o, ∃ ts, Instr.wf (.delayReqRx e o ts) = true ∧ CtlGood s e o 0x10 ts) ∧
    (∃ (s : State), ∃ e, ∃ o, ∃ ts, ∃ k, ∃ t1, Instr.wf (.delayRespRx e o ts) = true ∧ CtlGood s e o 0x11 ts ∧
      (rport s e).outT1 = some t1 ∧ (rport s e).burstNo = some k ∧ k < 3 ∧ beAt (ctlPayload o) 0 2 = (rport s e).reqSeq ∧
      beAt (ctlPayload o) 2 1 = me s) ∧
    (∃ (s : State), ∃ e, ∃ o, ∃ ts, Instr.wf (.delayRespRx e o ts) = true ∧ CtlGood s e o 0x11 ts ∧ ((rport s e).outT1 = none ∨
    beAt (ctlPayload o) 0 2 ≠ (rport s e).reqSeq ∨ beAt (ctlPayload o) 2 1 ≠ me s)) ∧
    (∃ (s : State), ∃ e, ∃ t1, ∃ k, Instr.wf (.calTimeout e) = true ∧ (rport s e).outT1 = some t1 ∧
      (rport s e).burstNo = some k ∧ k < 3 ∧ t1 + ns16 10000 ≤ nt16 s) ∧
    (∃ (s : State), ∃ e, ∃ t1, Instr.wf (.calTimeout e) = true ∧ (rport s e).outT1 = some t1 ∧ nt16 s < t1 + ns16 10000) ∧
    (∃ (s : State), ∃ e, ∃ k, Instr.wf (.calTimeout e) = true ∧ (rport s e).outT1 = some k ∧ k + ns16 10000 ≤ nt16 s ∧
      (rport s e).burstNo = some 3 ∧ (rport s e).exch = [] ∧ (burstOver s (otherPort e) = false)) ∧
    (∃ (s : State), ∃ e, ((rport s e).d = none ∨ (rport s e).firstBurst = true)) ∧
    (∃ (s : State), ∃ e, ∃ (dn : Int), ∃ d, (rport s e).d = some d ∧ (rport s e).firstBurst = false ∧
      8 * 65536 < (dn - (d : Int)).natAbs) ∧
    (∃ (s : State), ∃ e, ∃ (dn : Int), ∃ d, (rport s e).d = some d ∧ (rport s e).firstBurst = false ∧
      (dn - (d : Int)).natAbs ≤ 8 * 65536) :=
  ⟨⟨eastIs { link := true, state := .inRing, burstNo := some 2 }, .east, 5, 2, by decide +kernel⟩,
   ⟨up, .east, 5, by decide +kernel⟩,
   ⟨ringUp, .east, reqFrame, 5, by decide +kernel⟩,
   ⟨eastIs { link := true, state := .inRing, burstNo := some 2, outT1 := some 5, reqSeq := 0xFFFF }, .east, respFrame, 9, 2, 5,
     by decide +kernel⟩,
   ⟨ringUp, .east, respOther, 9, by decide +kernel⟩,
   ⟨eastIs { link := true, state := .inRing, burstNo := some 2, outT1 := some (ns16 3999990000) }, .east, ns16 3999990000, 2,
     by decide +kernel⟩,
   ⟨eastIs { link := true, state := .inRing, burstNo := some 2, outT1 := some (ns16 3999990000 + 1) }, .east,
     ns16 3999990000 + 1, by decide +kernel⟩,
   ⟨{ ringUp with ring := { ringUp.ring with east := { link := true, state := .inRing, burstNo := some 3, outT1 := some (ns16 3999990000) }, west := { link := true, state := .inRing, burstNo := some 0 } } }, .east, ns16 3999990000, by decide +kernel⟩,
   ⟨up, .east, by decide +kernel⟩,
   ⟨eastIs { link := true, state := .inRing, d := some 7, firstBurst := false }, .east, 7 + 8 * 65536 + 1, 7,
     by decide +kernel⟩,
   ⟨eastIs { link := true, state := .inRing, d := some 7, firstBurst := false }, .east, 7 + 8 * 65536, 7, by decide +kernel⟩⟩

theorem meets_ReportsAndRingEvents :
    (∃ (s : State), ∃ c, s.ring.reportDue = some c ∧ ctlRuns s = true ∧ s.cyc.c0 ≠ none ∧ c ≤ s.cyc.n ∧
      (synced s = true → viewAhead s .east = true ∧ viewAhead s .west = true)) ∧
    (∃ (s : State), ∃ c, s.ring.reportDue = some c ∧ ctlRuns s = true ∧ s.cyc.c0 = none ∧ synced s = false) ∧
    (∃ (s : State), ∃ c, s.ring.reportDue = some c ∧ (ctlRuns s = false ∨ (s.cyc.c0 ≠ none ∧ s.cyc.n < c) ∨
    (synced s = true ∧ (viewAhead s .east = false ∨ viewAhead s .west = false)))) ∧
    (∃ (s : State), s.ring.reportDue = none) ∧
    (∃ (s : State), ∃ e, ∃ o, ∃ ts, Instr.wf (.delayReportRx e o ts) = true ∧ CtlGood s e o 0x12 ts) ∧
    (∃ (s : State), ctlRuns s = true ∧ s.ring.evOut = []) ∧
    (∃ (s : State), (ctlRuns s = false ∨ (synced s = true ∧ (viewAhead s .east = false ∨ viewAhead s .west = false)))) ∧
    (∃ (s : State), ∃ ev, ∃ e, ∃ sub, ∃ c, ctlRuns s = true ∧ (synced s = true → viewAhead s .east = true ∧
      viewAhead s .west = true) ∧ s.ring.evOut = [(ev, e, sub, c)]) ∧
    (∃ (s : State), ∃ ev, s.cyc.c0 ≠ none ∧ (ev = 3 ∨ ev = 4)) ∧
    (∃ (s : State), ∃ e, ∃ o, ∃ ts, Instr.wf (.ringEventRx e o ts) = true ∧ CtlGood s e o 0x22 ts) ∧
    (∃ (s : State), s.ring.state = .calibrating ∧ s.ring.calEnded = true ∧ due s s.ring.calDeadline = true ∧
      ((rport s .east).state = .down ∨ (rport s .east).burstOk = true) ∧
      ((rport s .west).state = .down ∨ (rport s .west).burstOk = true) ∧ chainComplete s = false) ∧
    (∃ (s : State), s.ring.state ≠ .calibrating) :=
  ⟨⟨{ ringUp with ring := { ringUp.ring with reportDue := some 4000 } }, 4000, by decide +kernel⟩,
   ⟨{ up with ring := { up.ring with reportDue := some 0 } }, 0, by decide +kernel⟩,
   ⟨{ ringUp with ring := { ringUp.ring with reportDue := some 4001 } }, 4001, by decide +kernel⟩,
   ⟨up, by decide +kernel⟩,
   ⟨ringUp, .east, reportFrame, 5, by decide +kernel⟩,
   ⟨ringUp, by decide +kernel⟩,
   ⟨midCycle, by decide +kernel⟩,
   ⟨{ ringUp with ring := { ringUp.ring with evOut := [(1, 0, 3, 4001)] } }, 1, 0, 3, 4001, by decide +kernel⟩,
   ⟨ringUp, 3, by decide +kernel⟩,
   ⟨ringUp, .east, eventFrame, 5, by decide +kernel⟩,
   ⟨{ up with ring := { up.ring with state := .calibrating, calEnded := true, calDeadline := 5000000000, east := { state := .linked, burstOk := true } } }, by decide +kernel⟩,
   ⟨up, by decide +kernel⟩⟩

theorem meets_BeatsAndPortStates :
    (∃ (s : State), ∃ e, ∃ ts, Instr.wf (.linkBeatSend e ts) = true ∧ ctlRuns s = true ∧ (rport s e).state ≠ .down ∧
      beatDue s e = true) ∧
    (∃ (s : State), ∃ e, ∃ ts, Instr.wf (.linkBeatSend e ts) = true ∧ ((rport s e).state = .down ∨ beatDue s e = false)) ∧
    (∃ (s : State) (e : RPort), s.cyc.c0 ≠ none ∧ (rport s e).beatSent = boundary s s.cyc.n) ∧
    (∃ (s : State), ∃ e, ∃ o, ∃ ts, Instr.wf (.linkBeatRx e o ts) = true ∧ CtlGood s e o 0x21 ts ∧
      s.ring.state = .synchronised ∧ s.cyc.c0 ≠ none ∧
      imageKnown s (beAt (ctlPayload o) 4 4) (some (beAt (ctlPayload o) 28 8)) = true ∧ (rport s e).state = .inRing ∧
      ((rport s e).beatFrom = 0xFF ∨ (rport s e).beatFrom = beAt (ctlPayload o) 0 1) ∧
      bitOf (beAt (ctlPayload o) 1 1) 3 = false) ∧
    (∃ (s : State), ∃ e, ∃ o, ∃ ts, Instr.wf (.linkBeatRx e o ts) = true ∧ CtlGood s e o 0x21 ts ∧ s.cyc.c0 ≠ none ∧
      imageKnown s (beAt (ctlPayload o) 4 4) (some (beAt (ctlPayload o) 28 8)) = false ∧ (rport s e).state ≠ .inRing ∧
      s.ring.state = .synchronised) ∧
    (∃ (s : State), ∃ e, Instr.wf (.missingBeats e) = true ∧ inRing s e = true ∧ 8 ≤ (rport s e).beatMiss) ∧
    (∃ (s : State), ∃ e, Instr.wf (.missingBeats e) = true ∧ ((rport s e).state ≠ .inRing ∨ (rport s e).beatMiss < 8)) ∧
    (∃ (s : State), ∃ e, Instr.wf (.lossOfSignal e) = true ∧ (rport s e).link = true) ∧
    (∃ (s : State), ∃ e, ∃ b, Instr.wf (.restoreCycleReached e) = true ∧ s.cyc.c0 ≠ none ∧
      boundary s (rport s e).restore = some b ∧ b ≤ nt16 s ∧ (rport s e).state = .linked ∧ (rport s e).restore ≠ 0 ∧
      (rport s e).beatRestore = (rport s e).restore % 2 ^ 32) ∧
    (∃ (s : State), ∃ e, Instr.wf (.restoreCycleReached e) = true ∧ (rport s e).state ≠ .linked) :=
  ⟨⟨ringUp, .east, 5, by decide +kernel⟩,
   ⟨up, .east, 5, by decide +kernel⟩,
   ⟨eastIs { link := true, beatSent := some (ns16 4000000000) }, .east, by decide +kernel⟩,
   ⟨ringUp, .east, beatFrame, 5, by decide +kernel⟩,
   ⟨eastIs { link := true, state := .linked }, .east, beatOther, 5, by decide +kernel⟩,
   ⟨eastIs { link := true, state := .inRing, beatMiss := 8 }, .east, by decide +kernel⟩,
   ⟨up, .east, by decide +kernel⟩,
   ⟨ringUp, .east, by decide +kernel⟩,
   ⟨eastIs { link := true, state := .linked, restore := 4000, beatRestore := 4000 }, .east, ns16 4000000000, by decide +kernel⟩,
   ⟨up, .east, by decide +kernel⟩⟩

theorem meets_ColdStart :
    (∃ (s : State), ∃ i, ∃ d, s.ring.state = .listen ∧ s.ring.listenEnd = some d ∧ d ≤ now s ∧ s.cyc.image = some i) ∧
    (∃ (s : State), s.ring.state ≠ .listen) ∧
    (∃ (s : State), s.ring.state = .announce ∧ s.ring.confirmed = false ∧ due s s.ring.annNext = true ∧
      due s s.ring.annEnd = false) ∧
    (∃ (s : State), s.ring.state = .announce ∧ s.ring.confirmed = false ∧ due s s.ring.annEnd = true) ∧
    (∃ (s : State), s.ring.state = .announce ∧ s.ring.confirmed = true ∧ s.ring.annC0 ≤ nt16 s) ∧
    (∃ (s : State), s.ring.state = .rankBackoff ∧ due s s.ring.backoffEnd = true) ∧
    (∃ (s : State), ∃ e, ∃ o, ∃ ts, Instr.wf (.announceRx e o ts) = true ∧ CtlGood s e o 0x20 ts ∧
      imageKnown s (beAt (ctlPayload o) 4 4) none = true ∧ beAt (ctlPayload o) 0 1 ≠ me s) :=
  ⟨⟨{ ringUp with ring := { ringUp.ring with state := .listen, listenEnd := some 5000000000 } }, img, 5000000000,
    by decide +kernel⟩,
   ⟨up, by decide +kernel⟩,
   ⟨{ ringUp with ring := { ringUp.ring with state := .announce, annNext := 5000000000, annEnd := 5000000001 } },
     by decide +kernel⟩,
   ⟨{ ringUp with ring := { ringUp.ring with state := .announce, annEnd := 5000000000 } }, by decide +kernel⟩,
   ⟨{ ringUp with ring := { ringUp.ring with state := .announce, confirmed := true, annC0 := ns16 4000000000 } },
     by decide +kernel⟩,
   ⟨{ ringUp with ring := { ringUp.ring with state := .rankBackoff, backoffEnd := 5000000000 } }, by decide +kernel⟩,
   ⟨ringUp, .east, announceFrame, 5, by decide +kernel⟩⟩

theorem meets_BypassAndWithdrawal :
    (∃ (s : State), s.boot.cause ≠ 0 ∧ s.ring.bypassOn = false) ∧
    (∃ (s : State), (s.boot.cause = 0 ∨ s.ring.bypassOn = true)) ∧
    (∃ (s : State), ∃ i, s.cyc.image = some i ∧ s.ring.bypassOn = true ∧ s.boot.cause = 0 ∧ inService s .ring = true ∧
      (s.ring.bypassSince + msTicks 1 ≤ now s ∨ ∃ c, s.ring.bypassC0 = some c ∧ 2 ≤ s.ring.bypassBeats ∧
      bypassIdle s i c = true) ∧ s.ring.state = .offline ∧ s.ring.east.state = .linked ∧ s.ring.west.state = .linked) ∧
    (∃ (s : State), s.ring.bypassOn = true ∧ s.ring.bypassC0 = none ∧ now s < s.ring.bypassSince + msTicks 1) ∧
    (∃ (s : State), (s.ring.bypassOn = false ∨ s.boot.cause ≠ 0)) ∧
    (∃ (s : State), ∃ n, ∃ b, s.ring.withdrawAt = some n ∧ boundary s n = some b ∧ b ≤ nt16 s ∧ s.sched.actCycle ≠ some n) ∧
    (∃ (s : State), ∃ n, ∃ b, s.ring.withdrawAt = some n ∧ boundary s n = some b ∧ nt16 s < b) ∧
    (∃ (s : State), ∃ n, ∃ b, ∃ i, s.ring.withdrawAt = some n ∧ boundary s n = some b ∧ b ≤ nt16 s ∧ s.sched.actCycle = some n ∧
      s.sched.pending = some i) ∧
    (∃ (s : State), ∃ n, ∃ b, s.ring.withdrawBypCycle = some n ∧ boundary s n = some b ∧ b ≤ nt16 s) ∧
    (∃ (s : State), s.ring.withdrawBypCycle = none) :=
  ⟨⟨{ up with boot := { up.boot with cause := 1 } }, by decide +kernel⟩,
   ⟨up, by decide +kernel⟩,
   ⟨{ ringUp with ring := { ringUp.ring with state := .offline, bypassOn := true, bypassSince := 5000000000 - 1250000, east := { state := .linked }, west := { state := .linked } } }, img, by decide +kernel⟩,
   ⟨{ up with ring := { up.ring with bypassOn := true, bypassSince := 5000000000 } }, by decide +kernel⟩,
   ⟨up, by decide +kernel⟩,
   ⟨{ ringUp with ring := { ringUp.ring with withdrawAt := some 4000 } }, 4000, ns16 4000000000, by decide +kernel⟩,
   ⟨{ ringUp with ring := { ringUp.ring with withdrawAt := some 4001 } }, 4001, ns16 4001000000, by decide +kernel⟩,
   ⟨{ ringUp with ring := { ringUp.ring with withdrawAt := some 4000 }, sched := { actCycle := some 4000, pending := some img } }, 4000, ns16 4000000000, img, by decide +kernel⟩,
   ⟨{ ringUp with ring := { ringUp.ring with withdrawBypCycle := some 4000 } }, 4000, ns16 4000000000, by decide +kernel⟩,
   ⟨up, by decide +kernel⟩⟩

theorem meets_RequestsReachKeanak :
    (∃ (s : State), ∃ m, Instr.wf (.mbxGo m) = true ∧ doorbellReaches s m = true ∧ (mbxAt s m).state = .busy) ∧
    (∃ (s : State), ∃ m, Instr.wf (.mbxGo m) = true ∧ doorbellReaches s m = false) ∧
    (∃ (s : State), ∃ m, Instr.wf (.mbxGo m) = true ∧ doorbellReaches s m = true ∧ (mbxAt s m).state ≠ .busy ∧
      s.kn.waiting = []) ∧
    (∃ (s : State), ∃ e, ∃ o, Instr.wf (.mgmtFrameRx e o) = true ∧ ctlRuns s = true ∧ hdrCheck s e o (nt16 s) = none ∧
      (parseHdr o).seg = 2 ∧ (parseHdr o).mgmt = true ∧ (parseHdr o).destAll = false ∧ (parseHdr o).dest = me s ∧
      (parseHdr o).origin ≠ me s ∧ fcsGood o = true ∧ inRing s e = true) ∧
    (∃ l, Instr.wf (.consoleLine l) = true) :=
  ⟨⟨{ up with kn := { up.kn with mbx := [(1, { state := .busy })] } }, 1, by decide +kernel⟩,
   ⟨{ up with regs := { out := [.host] } }, 1, by decide +kernel⟩,
   ⟨up, 2, by decide +kernel⟩,
   ⟨ringUp, .east, mgmtRequest, by decide +kernel⟩,
   ⟨[], by decide +kernel⟩⟩

theorem meets_EdgeFramesReceived :
    (∃ (s : State), ∃ p, ∃ mp, ∃ ts, Instr.wf (.macFrameRx p mp ts) = true ∧ portReceives s p = false) ∧
    (∃ (s : State), ∃ p, ∃ mp, ∃ ts, Instr.wf (.macFrameRx p mp ts) = true ∧ portReceives s p = true) :=
  ⟨⟨up, 17, packet [], 5, by decide +kernel⟩,
   ⟨linked17, 17, packet (etherFrame 0x0800 []), 5, by decide +kernel⟩⟩

theorem meets_CellRequestsAndReturns :
    (∃ (s : State), ∃ i, ∃ a, Instr.wf (.cellRequestTimeout i) = true ∧ s.vat.waits[i]? = some a ∧ a.since + 32 ≤ now s) ∧
    (∃ (s : State), ∃ i, Instr.wf (.cellRequestTimeout i) = true ∧ (s.vat.waits[i]? = none ∨ ∃ a, s.vat.waits[i]? = some a ∧
      now s < a.since + 32)) ∧
    (∃ (s : State), ∃ k, ∃ e, Instr.wf (.spillReturn k) = true ∧ (queueAt s k).find? (fun x => x.state == .inCellar) = some e ∧
      (frameAt s e.h).inCellar = true ∧ 2 * destCells s (destOfQueue k) < (destQuota s (destOfQueue k)).limit ∧
      cellsOf (frameAt s e.h).data.length ≤ poolFree s ∧ cellarUp s = true ∧ (∀ x ∈ queueAt s k, x.state ≠ .returning)) ∧
    (∃ (s : State), ∃ k, ∃ e, Instr.wf (.spillReturn k) = true ∧ (queueAt s k).find? (fun x => x.state == .inCellar) = some e ∧
      (frameAt s e.h).inCellar = true ∧ poolFree s < cellsOf (frameAt s e.h).data.length) ∧
    (∃ (s : State), ∃ k, ∃ e, Instr.wf (.spillReturnDone k) = true ∧
      (queueAt s k).find? (fun x => x.state == .returning) = some e) ∧
    (∃ (s : State), ∃ k, Instr.wf (.spillReturnDone k) = true ∧ (∀ x ∈ queueAt s k, x.state ≠ .returning)) :=
  ⟨⟨{ up with vat := { up.vat with waits := [{ since := 4999999968 }] } }, 0, { since := 4999999968 }, by decide +kernel⟩,
   ⟨up, 0, by decide +kernel, .inl rfl⟩,
   ⟨{ up with vat := { up.vat with frames := [(9, { inCellar := true, data := leBytes 64 0 })] }, eg := { up.eg with queues := [(159, [{ h := 9, state := .inCellar }])] } }, 159, { h := 9, state := .inCellar }, by decide +kernel⟩,
   ⟨{ up with vat := { up.vat with poolUsed := 1000000, frames := [(9, { inCellar := true, data := leBytes 64 0 })] }, eg := { up.eg with queues := [(159, [{ h := 9, state := .inCellar }])] } }, 159, { h := 9, state := .inCellar }, by decide +kernel⟩,
   ⟨{ up with eg := { up.eg with queues := [(159, [{ h := 9, state := .returning }])] } }, 159,
     { h := 9, state := .returning }, by decide +kernel⟩,
   ⟨up, 159, by decide +kernel⟩⟩

theorem meets_RingFramesReceived :
    (∃ (s : State), ∃ e, ∃ mp, ∃ ts, Instr.wf (.ringFrameRx e mp ts) = true ∧
      (inService s .ring = false ∨ (rport s e).link = false)) ∧
    (∃ (s : State), s.ring.bypassOn = true) ∧
    (∃ (s : State), ∃ e, ∃ mp, ∃ ts, Instr.wf (.ringFrameRx e mp ts) = true ∧ inService s .ring = true ∧
      (rport s e).link = true) ∧
    (∃ (s : State), ∃ e, ∃ l, Instr.wf (.reassemblyTimeout e l) = true ∧ (ctxAt s e l).isOpen = true ∧
      (ctxAt s e l).since + 2 * tcycTicks s ≤ now s) ∧
    (∃ (s : State), ∃ e, ∃ l, Instr.wf (.reassemblyTimeout e l) = true ∧
      ((ctxAt s e l).isOpen = false ∨ now s < (ctxAt s e l).since + 2 * tcycTicks s)) :=
  ⟨⟨up, .east, packet [], 5, by decide +kernel⟩,
   ⟨{ up with ring := { up.ring with bypassOn := true } }, by decide +kernel⟩,
   ⟨ringUp, .east, packet (beatOther), 5, by decide +kernel⟩,
   ⟨{ ringUp with ring := { ringUp.ring with reasm := [(3, { isOpen := true, since := 5000000000 - 2500000 })] } }, .west,
     .low, by decide +kernel⟩,
   ⟨up, .east, .low, by decide +kernel⟩⟩

theorem meets_FramesSent :
    (∃ (s : State), ∃ p, ∃ mac, ∃ ts, Instr.wf (.transmissionOpportunity p mac ts) = true ∧ p < 18 ∧ portLive s p = false) ∧
    (∃ (s : State), now s < s.eg.lastRefill + 125) ∧
    (∃ (s : State), ∃ p, ∃ ts, Instr.wf (.transmissionOpportunity p .express ts) = true ∧ p < 18 ∧ portLive s p = true ∧
      (portAt s p).disabled = false ∧ unitBusy s (portUnit p) = false ∧ unitBusy s (176 + p) = false) ∧
    (∃ e ts, Instr.wf (.transmissionOpportunity (rpIdx e) .express ts) = true) ∧
    (∃ (s : State), ∃ p, ∃ h, Instr.wf (.frameTxEnd p .express) = true ∧ p < 18 ∧ (macAt s p).ex = some h ∧
      loopedBack s p = false ∧ (portAt s p).draining = false) ∧
    (∃ (s : State), ∃ e, ∃ f, Instr.wf (.frameTxEnd (rpIdx e) .preemptable) = true ∧ (rtx s e).curL = some f ∧
      (rtx s e).suspL = false ∧ f.ctx = none ∧
      (rtx s e).startL + octetTicks (ringMbps s) (8 + (f.data.length - 4 - (rtx s e).sentL) + 4 + 12) ≤ now s) :=
  ⟨⟨up, 17, .express, 5, by decide +kernel⟩,
   ⟨{ up with eg := { up.eg with lastRefill := 5000000000 } }, by decide +kernel⟩,
   ⟨linked17, 17, 5, by decide +kernel⟩,
   ⟨.east, 5, by decide +kernel⟩,
   ⟨{ up with eg := { up.eg with mac := [(17, { ex := some 5 })] } }, 17, 5, by decide +kernel⟩,
   ⟨{ ringUp with ring := { ringUp.ring with eastTx := { curL := some { data := beatOther } } } }, .east,
     { data := beatOther }, by decide +kernel⟩⟩

theorem meets_EdgeLinks :
    (∃ (s : State), ∃ p, ∃ rate, ∃ m, ∃ inv, Instr.wf (.edgeLinkUp p rate m inv) = true ∧ mayLink s p = true) ∧
    (∃ (s : State), ∃ p, ∃ rate, ∃ m, ∃ inv, Instr.wf (.edgeLinkUp p rate m inv) = true ∧ mayLink s p = false) ∧
    (∃ (s : State), ∃ p, Instr.wf (.edgeLinkDown p) = true ∧ (portAt s p).link = true) ∧
    (∃ (s : State), ∃ p, Instr.wf (.edgeLinkDown p) = true ∧ (portAt s p).link = false) ∧
    (∃ (s : State), ∃ u, Instr.wf (.uplinkLinkDown u) = true ∧ (portAt s (16 + u)).link = true) ∧
    (∃ (s : State), ∃ u, Instr.wf (.uplinkLinkDown u) = true ∧ (portAt s (16 + u)).link = false) :=
  ⟨⟨{ up with ports := { up.ports with port := [(15, { cfg := { adminUp := true } })] } }, 15, 4, true, false,
    by decide +kernel⟩,
   ⟨up, 15, 4, true, false, by decide +kernel⟩,
   ⟨{ up with ports := { up.ports with port := [(15, { link := true })] } }, 15, by decide +kernel⟩,
   ⟨up, 15, by decide +kernel⟩,
   ⟨linked17, 1, by decide +kernel⟩,
   ⟨up, 1, by decide +kernel⟩⟩

theorem meets_ReactionsAndForcedEvents :
    (∃ (s : State), ∃ f, Instr.wf (.faultWindowEnd f) = true ∧ (fsrcAt s f).count ≠ 0 ∧ (fsrcAt s f).winEnd ≤ nt16 s) ∧
    (∃ (s : State), ∃ f, Instr.wf (.faultWindowEnd f) = true ∧ nt16 s < (fsrcAt s f).winEnd) ∧
    (∃ (s : State), ∃ id, ∃ r, Instr.wf (.reactionEnd id) = true ∧ reactOf s id = some r ∧ r.done = false ∧ r.code < 6 ∧
      r.resetEnd ≤ now s) ∧
    (∃ (s : State), ∃ id, ∃ r, Instr.wf (.reactionEnd id) = true ∧ reactOf s id = some r ∧
      (r.done = true ∨ now s < r.resetEnd)) ∧
    (∃ (s : State), ∃ id, ∃ r, Instr.wf (.shadowEnd id) = true ∧ reactOf s id = some r ∧ r.done = true ∧ r.test = false ∧
      r.shadowEnd ≤ now s) ∧
    (∃ (s : State), ∃ id, ∃ r, Instr.wf (.shadowEnd id) = true ∧ reactOf s id = some r ∧
      (r.done = false ∨ r.test = true ∨ now s < r.shadowEnd)) ∧
    (∃ (s : State), ∃ f, Instr.wf (.forcedEvent f) = true ∧ forceDue s f = true) ∧
    (∃ (s : State), ∃ f, Instr.wf (.forcedEvent f) = true ∧ (fsrcAt s f).force = false) ∧
    (∃ (s : State), ∃ f, ∃ nb, Instr.wf (.boundaryDetect f nb) = true ∧ (fsrcAt s f).boundary = some nb ∧
      unitBusy s nb = true) ∧
    (∃ (s : State), ∃ f, ∃ nb, Instr.wf (.boundaryDetect f nb) = true ∧ (fsrcAt s f).boundary ≠ some nb ∧ s.flt.reacts = [] ∧
      s.flt.tests = []) ∧
    (∃ (s : State), ∃ f, ∃ nb, ∃ r, Instr.wf (.boundaryDetect f nb) = true ∧ (fsrcAt s f).boundary ≠ some nb ∧
      s.flt.reacts = [r] ∧ r.done = false ∧ inScope r nb = true ∧ inScope r f = false ∧ (fsrcCfg s f).enable = true) :=
  ⟨⟨{ up with flt := { up.flt with src := [(112, { count := 1, winEnd := ns16 4000000000 })] } }, 112, by decide +kernel⟩,
   ⟨{ up with flt := { up.flt with src := [(112, { count := 1, winEnd := ns16 4000000000 + 1 })] } }, 112, by decide +kernel⟩,
   ⟨{ up with flt := { up.flt with reacts := [{ id := 65535, code := 3, resetEnd := 5000000000 }] } }, 65535,
     { id := 65535, code := 3, resetEnd := 5000000000 }, by decide +kernel⟩,
   ⟨{ up with flt := { up.flt with reacts := [{ id := 65535, code := 3, done := true }] } }, 65535,
     { id := 65535, code := 3, done := true }, by decide +kernel⟩,
   ⟨{ up with flt := { up.flt with reacts := [{ id := 65535, code := 3, done := true, shadowEnd := 5000000000 }] } }, 65535,
     { id := 65535, code := 3, done := true, shadowEnd := 5000000000 }, by decide +kernel⟩,
   ⟨{ up with flt := { up.flt with reacts := [{ id := 65535, code := 3 }] } }, 65535, { id := 65535, code := 3 },
     by decide +kernel⟩,
   ⟨{ up with flt := { up.flt with src := [(112, { force := true, fLeft := 1, fNext := 5000000000 })] } }, 112,
     by decide +kernel⟩,
   ⟨up, 112, by decide +kernel⟩,
   ⟨{ up with flt := { up.flt with src := [(112, { boundary := some 116 })], tests := [{ src := 117, running := true }] } },
     112, 116, by decide +kernel⟩,
   ⟨up, 112, 116, by decide +kernel⟩,
   ⟨{ up with flt := { up.flt with reacts := [{ code := 3, unit := 116 }] } }, 112, 116, { code := 3, unit := 116 },
     by decide +kernel⟩⟩

theorem meets_SelfTestsLogAndRegions :
    (∃ (s : State), ∃ f, ∃ t, Instr.wf (.selftestStart f) = true ∧ testRuns s (unitOf f) = false ∧
      s.flt.reacts.any (fun r => !r.done && inScope r f) = false ∧ s.flt.tests = [t] ∧ t.src = f ∧ t.running = false) ∧
    (∃ (s : State), ∃ f, Instr.wf (.selftestStart f) = true ∧ testRuns s (unitOf f) = true) ∧
    (∃ (s : State), ∃ f, ∃ t, Instr.wf (.selftestDone f .passed) = true ∧ s.flt.tests = [t] ∧ t.src = f ∧ t.running = true ∧
      t.byCmd = false ∧ s.flt.reacts = [] ∧ testOf f ≠ .d2dLink) ∧
    (∃ (s : State), ∃ f, ∃ v, Instr.wf (.selftestDone f v) = true ∧ s.flt.tests = []) ∧
    (∃ (s : State), ∃ f, ∃ t, Instr.wf (.selftestDone f .lasting) = true ∧ s.flt.tests = [t] ∧ t.src = f ∧ t.running = true ∧
      t.repair = true ∧ s.flt.reacts = [] ∧ testOf f ≠ .none) ∧
    (∃ (s : State), ∃ r, s.flt.latches = [r] ∧ mramUp s = true ∧ r.tick + usTicks 20 ≤ now s ∧ s.flt.overflowOwed = 0) ∧
    (∃ (s : State), mramUp s = false) ∧
    (∃ (s : State), ∃ r, Instr.wf (.regionRestartDone r) = true ∧ s.regs.restarting.contains r = false) ∧
    (∃ (s : State), Instr.wf (.regionRestartDone .host) = true ∧ s.regs.restarting.contains .host = true ∧
      s.boot.fallback = false ∧ s.kn.waiting = []) ∧
    (∃ (s : State), ∃ r, Instr.wf (.regionRestartDone r) = true ∧ s.regs.restarting.contains r = true ∧ s.boot.fallback = true ∧
      fallbackOut r = true ∧ (r ≠ .record ∨ s.clk.d2dDown.contains 3 = false) ∧ s.kn.waiting = []) :=
  ⟨⟨{ up with flt := { up.flt with tests := [{ src := 112 }] } }, 112, { src := 112 }, by decide +kernel⟩,
   ⟨{ up with flt := { up.flt with tests := [{ src := 112, running := true }] } }, 112, by decide +kernel⟩,
   ⟨{ up with flt := { up.flt with tests := [{ src := 112, running := true }] } }, 112, { src := 112, running := true },
     by decide +kernel⟩,
   ⟨up, 112, .passed, by decide +kernel⟩,
   ⟨{ up with flt := { up.flt with tests := [{ src := 112, running := true }] } }, 112, { src := 112, running := true },
     by decide +kernel⟩,
   ⟨{ up with flt := { up.flt with latches := [{ tick := 5000000000 - 25000 }] } }, { tick := 5000000000 - 25000 },
     by decide +kernel⟩,
   ⟨{ up with regs := { out := [.control] } }, by decide +kernel⟩,
   ⟨up, .edge, by decide +kernel⟩,
   ⟨{ up with regs := { up.regs with restarting := [.host] } }, by decide +kernel⟩,
   ⟨{ up with regs := { out := [.ring], restarting := [.ring] }, boot := { up.boot with fallback := true } }, .ring,
     by decide +kernel⟩⟩

theorem meets_ClocksModulesAndSerdes :
    (∃ p, Instr.wf (.recoveredClockLoss p) = true) ∧
    (∃ p, Instr.wf (.recoveredClockReturn p) = true) ∧
    (∃ (s : State), Instr.wf (.serdesLinkUp .up1) = true ∧ (portAt s 17).modReady = true ∧ mayLink s 17 = true) ∧
    (∃ (s : State), ∃ w, Instr.wf (.serdesLinkUp w) = true ∧ moduleOk s w = false) ∧
    (Instr.wf (.serdesLinkUp .east) = true ∧ ∃ s : State, s.ports.modEast = true ∧ s.clk.rxClockLost.contains 18 = false ∧
      inService s .ring = true ∧ s.ring.east.link = false ∧ s.flt.disabled.contains 262 = false ∧ s.ring.east.state = .down) ∧
    (∃ w id, Instr.wf (.moduleInsert w id) = true) ∧
    (∃ (s : State), ∃ w, ∃ t0, Instr.wf (.moduleTxfault w) = true ∧ lastPulse s w = some t0 ∧ now s < t0 + msTicks 1000) ∧
    (∃ (s : State), ∃ w, Instr.wf (.moduleTxfault w) = true ∧ lastPulse s w = none) ∧
    (∃ (s : State), ∃ e, Instr.wf (.ringPreemptVerify e) = true ∧ inService s .ring = true ∧ (rport s e).state = .linked ∧
      ((rport s e).verL = false ∨ (rport s e).verH = false) ∧ (rport s e).verNext ≤ now s) ∧
    (∃ (s : State), ∃ e, Instr.wf (.ringPreemptVerify e) = true ∧ (rport s e).state ≠ .linked) :=
  ⟨⟨19, by decide +kernel⟩,
   ⟨17, by decide +kernel⟩,
   ⟨{ up with ports := { up.ports with port := [(17, { modReady := true, cfg := { adminUp := true } })] } }, by decide +kernel⟩,
   ⟨up, .east, by decide +kernel⟩,
   ⟨rfl, { up with ports := { up.ports with modEast := true } }, by decide +kernel⟩,
   ⟨.east, [], by decide +kernel⟩,
   ⟨{ up with ports := { up.ports with modFaultE := some (5000000000 - 1249999999) } }, .east, 5000000000 - 1249999999,
     by decide +kernel⟩,
   ⟨up, .east, by decide +kernel⟩,
   ⟨eastIs { link := true, state := .linked, verNext := 5000000000 }, .east, by decide +kernel⟩,
   ⟨up, .east, by decide +kernel⟩⟩

theorem meets_PowerOverThePair :
    (∃ (s : State), ∃ p, ∃ x, Instr.wf (.podlDetectProbe p .valid) = true ∧ podlRuns s p = true ∧ podlAt s p = x ∧
      x.state = .detecting) ∧
    (∃ (s : State), ∃ p, ∃ c, ∃ x, Instr.wf (.podlClassResult p (some c)) = true ∧ podlRuns s p = true ∧ podlAt s p = x ∧
      x.state = .classifying ∧ x.budgetWait = false) ∧
    (∃ (s : State), ∃ p, ∃ x, Instr.wf (.podlInrushEnd p true) = true ∧ podlRuns s p = true ∧ podlAt s p = x ∧
      x.state = .inrush) ∧
    (∃ (s : State), ∃ p, Instr.wf (.podlOverload p) = true ∧ podlRuns s p = true ∧ (podlAt s p).state = .powered) ∧
    (∃ (s : State), ∃ p, Instr.wf (.podlShort p) = true ∧ podlRuns s p = true ∧
      ((podlAt s p).state = .inrush ∨ (podlAt s p).state = .powered) ∧ podlRuns s p = true) ∧
    (∃ (s : State), ∃ p, Instr.wf (.podlShort p) = true ∧ podlRuns s p = true ∧ (podlAt s p).state = .disabled ∧
      (podlAt s p).offAt = some (now s)) ∧
    (∃ (s : State), ∃ p, Instr.wf (.podlSupplyShort p) = true ∧ podlRuns s p = true ∧ (podlAt s p).state ≠ .inrush ∧
      (podlAt s p).state ≠ .powered) ∧
    (∃ (s : State), ∃ p, ∃ x, Instr.wf (.podlMpsLost p) = true ∧ podlRuns s p = true ∧ podlAt s p = x ∧ x.state = .powered) ∧
    (∃ (s : State), ∃ p, ∃ x, Instr.wf (.podlRetryDelayEnd p) = true ∧ podlRuns s p = true ∧ podlAt s p = x ∧
      x.state = .backoff ∧ x.waitEnd ≤ now s) ∧
    (∃ (s : State), ∃ p, ∃ x, Instr.wf (.podlBudgetWaitEnd p) = true ∧ podlRuns s p = true ∧ podlAt s p = x ∧
      x.state = .classifying ∧ x.budgetWait = true ∧ x.waitEnd ≤ now s) ∧
    (∃ (s : State), ∃ p, ∃ x, Instr.wf (.podlPowered10s p) = true ∧ podlRuns s p = true ∧ podlAt s p = x ∧ x.state = .powered ∧
      x.waitEnd ≤ now s) :=
  ⟨⟨{ up with ports := { up.ports with podl := [(15, { state := .detecting })] } }, 15, { state := .detecting },
    by decide +kernel⟩,
   ⟨{ up with ports := { up.ports with podl := [(15, { state := .classifying })] } }, 15, 9, { state := .classifying },
     by decide +kernel⟩,
   ⟨{ up with ports := { up.ports with podl := [(15, { state := .inrush })] } }, 15, { state := .inrush }, by decide +kernel⟩,
   ⟨{ up with ports := { up.ports with podl := [(15, { state := .powered })] } }, 15, by decide +kernel⟩,
   ⟨{ up with ports := { up.ports with podl := [(15, { state := .powered })] } }, 15, by decide +kernel⟩,
   ⟨{ up with ports := { up.ports with podl := [(15, { state := .disabled, offAt := some 5000000000 })] } }, 15,
     by decide +kernel⟩,
   ⟨{ up with ports := { up.ports with podl := [(15, { state := .detecting })] } }, 15, by decide +kernel⟩,
   ⟨{ up with ports := { up.ports with podl := [(15, { state := .powered })] } }, 15, { state := .powered }, by decide +kernel⟩,
   ⟨{ up with ports := { up.ports with podl := [(15, { state := .backoff, waitEnd := 5000000000 })] } }, 15,
     { state := .backoff, waitEnd := 5000000000 }, by decide +kernel⟩,
   ⟨{ up with ports := { up.ports with podl := [(15, { state := .classifying, budgetWait := true, waitEnd := 5000000000 })] } }, 15, { state := .classifying, budgetWait := true, waitEnd := 5000000000 }, by decide +kernel⟩,
   ⟨{ up with ports := { up.ports with podl := [(15, { state := .powered, waitEnd := 5000000000 })] } }, 15,
     { state := .powered, waitEnd := 5000000000 }, by decide +kernel⟩⟩

theorem meets_GatingAndLinksBetweenDies :
    (∃ (s : State), ∃ u, Instr.wf (.unitClockGate u) = true ∧ listed u = true ∧ unitOf u = u ∧ (srcInfo u).level = 0 ∧
      (srcRegion u = .edge ∨ (srcRegion u = .ring ∧ ringMember s = false)) ∧
      max s.clk.bootTick (tblGet 0 s.clk.lastUse u) + 32 * unitPeriod u ≤ now s) ∧
    (∃ (s : State), ∃ u, Instr.wf (.unitClockGate u) = true ∧ (srcRegion u = .control ∨ (srcRegion u = .ring ∧
      ringMember s = true) ∨
      now s < tblGet 0 s.clk.lastUse u + 32 * unitPeriod u)) ∧
    (∃ (s : State), (∀ e ∈ s.eg.queues, ∀ x ∈ e.2, x.state ≠ .returning) ∧ s.geley.d0.writing = none ∧
      s.geley.d1.writing = none ∧ max s.clk.bootTick s.clk.cellarUse + msTicks 1 ≤ now s) ∧
    (∃ (s : State), ∃ k, Instr.wf (.d2dLinkDown k) = true ∧ (fsrcCfg s (97 + 2 * k)).enable = false) ∧
    (∃ (s : State), ∃ k, Instr.wf (.d2dLinkDown k) = true ∧ s.clk.d2dDown.contains k = true) ∧
    (∃ (s : State), ∃ p, ∃ m, Instr.wf (.cableTestDone p m) = true ∧ (portAt s p).cableTest = true) ∧
    (∃ (s : State), ∃ p, ∃ m, Instr.wf (.cableTestDone p m) = true ∧ (portAt s p).cableTest = false) ∧
    (∃ v, ∃ (x : Reflection), v * 299792458 * x.delay ≤ 254 * 10 ^ 12 * 65536) :=
  ⟨⟨up, 112, by decide +kernel⟩,
   ⟨ringUp, 448, by decide +kernel⟩,
   ⟨up, by decide +kernel⟩,
   ⟨{ up with flt := { up.flt with src := [(105, { set := true, enable := false })] } }, 4, by decide +kernel⟩,
   ⟨{ up with clk := { up.clk with d2dDown := [3] } }, 3, by decide +kernel⟩,
   ⟨{ up with ports := { up.ports with port := [(15, { cableTest := true })] } }, 15,
     { overlapped := false, echoes := [], reversed := false }, by decide +kernel⟩,
   ⟨up, 15, { overlapped := false, echoes := [], reversed := false }, by decide +kernel⟩,
   ⟨65, { delay := 65536000, short := true, size := 65536 }, by decide +kernel⟩⟩

theorem meets_DescriptorFetches :
    (∃ (s : State), ∃ q, Instr.wf (.descriptorFetch q) = true ∧ qKind q = 0 ∧ (qAt s q).state = .running ∧
      (qAt s q).fetching = false ∧ mayRead s q = true ∧ cqWait s q = false ∧ headHeld s q = false ∧ fetchCount s q ≠ 0) ∧
    (∃ (s : State), ∃ q, Instr.wf (.descriptorFetch q) = true ∧ qKind q < 3 ∧
      ((qAt s q).state ≠ .running ∨ (qAt s q).fetching = true ∨
    mayIssue s q = false ∨ mayRead s q = false)) ∧
    (∃ (s : State), ∃ tag, ∃ r, ∃ o, Instr.wf (.hostReadCompletion tag o) = true ∧
      s.dma.reads.find? (fun e => e.1 == tag) = some (tag, r) ∧ r.kind = .desc ∧ o.length = r.len ∧
      (qAt s r.q).state = .running) ∧
    (∃ (s : State), ∃ tag, ∃ o, Instr.wf (.hostReadCompletion tag o) = true ∧ (∀ e ∈ s.dma.reads,
      e.1 = tag → e.2.len ≠ o.length)) ∧
    (∃ (s : State), ∃ tag, ∃ r, ∃ k, Instr.wf (.hostBusError tag k) = true ∧
      s.dma.reads.find? (fun e => e.1 == tag) = some (tag, r) ∧ r.kind = .desc) ∧
    (∃ (s : State), ∃ tag, ∃ k, Instr.wf (.hostBusError tag k) = true ∧ (∀ e ∈ s.dma.reads, e.1 ≠ tag)) ∧
    (∃ (s : State), ∃ tag, ∃ r, Instr.wf (.completionTimeout tag) = true ∧ s.dma.reads.find? (fun e => e.1 == tag) = some (tag,
      r)) :=
  ⟨⟨dmaOn, 0, by decide +kernel⟩,
   ⟨up, 0, by decide +kernel⟩,
   ⟨reading, 1, { len := 16 }, leBytes 16 0, by decide +kernel⟩,
   ⟨up, 1, [], by decide +kernel⟩,
   ⟨reading, 1, { len := 16 }, .poisoned, by decide +kernel⟩,
   ⟨up, 1, .poisoned, by decide +kernel⟩,
   ⟨reading, 1, { len := 16 }, by decide +kernel⟩⟩

theorem meets_JobsAndDeliveries :
    (∃ (s : State), ∃ q, ∃ idx, ∃ d, ∃ rest, Instr.wf (.txJobStart q) = true ∧ qKind q = 0 ∧ mayIssue s q = true ∧
      (qAt s q).state = .running ∧ channelFree s q = true ∧ cqWait s q = false ∧ jobsOf s q = [] ∧ (qAt s q).cache = (idx,
      d) :: rest ∧ headHeld s q = false) ∧
    (∃ (s : State), ∃ q, Instr.wf (.txJobStart q) = true ∧ mayIssue s q = false) ∧
    (∃ (s : State), ∃ q, ∃ e, ∃ rest, Instr.wf (.rxFrameDeliver q) = true ∧ qKind q = 1 ∧ rxReady s q = true ∧
      (qAt s q).state = .running ∧ (qAt s q).rxq = e :: rest) ∧
    (∃ (s : State), ∃ q, Instr.wf (.rxFrameDeliver q) = true ∧ rxReady s q = false) ∧
    (∃ (s : State), ∃ q, ∃ e, ∃ rest, Instr.wf (.rxWaitLimitExpiry q) = true ∧ qKind q = 1 ∧ (qAt s q).state = .running ∧
      (qAt s q).rxq = e :: rest ∧ jobsOf s q = []) ∧
    (∃ f v, Instr.wf (.creditTimeout (.msix f v)) = true) ∧
    (∃ (s : State), ∃ q, ∃ r, Instr.wf (.creditTimeout (.completion q)) = true ∧ qKind q = 3 ∧ (qAt s q).state = .running ∧
      (qAt s q).lastRec = some r) ∧
    (∃ (s : State), ∃ q, ∃ j, Instr.wf (.creditTimeout (.queue q)) = true ∧
      (jobsOf s q).find? (fun j => j.state == .writing) = some j) ∧
    (∃ (s : State), ∃ q, Instr.wf (.creditTimeout (.queue q)) = true ∧ (∀ j ∈ jobsOf s q, j.state ≠ .writing)) ∧
    (∃ (s : State), ∃ j, nextBeat s = some j ∧ (j ∈ s.dma.jobs ∧ beatReady s j = true ∧ ∀ i ∈ s.dma.jobs,
      beatReady s i = true)) :=
  ⟨⟨{ dmaOn with dma := { dmaOn.dma with q := [(0, { state := .running, cache := [(0, 0)] }), (0x3000, { state := .running })] } }, 0, 0, 0, [], by decide +kernel⟩,
   ⟨up, 0, by decide +kernel⟩,
   ⟨rxOn, 0x1000, { h := 9 }, [], by decide +kernel⟩,
   ⟨up, 0x1000, by decide +kernel⟩,
   ⟨rxOn, 0x1000, { h := 9 }, [], by decide +kernel⟩,
   ⟨64, 255, by decide +kernel⟩,
   ⟨{ dmaOn with dma := { dmaOn.dma with q := [(0x3000, { state := .running, lastRec := some 5 })] } }, 0x3000, 5,
     by decide +kernel⟩,
   ⟨{ dmaOn with dma := { dmaOn.dma with jobs := [{ q := 0x1000, state := .writing }] } }, 0x1000,
     { q := 0x1000, state := .writing }, by decide +kernel⟩,
   ⟨up, 0x1000, by decide +kernel⟩,
   ⟨{ dmaOn with dma := { dmaOn.dma with jobs := [{ state := .writing }] } }, { state := .writing }, by decide +kernel⟩⟩

theorem meets_DriveEvents :
    (∃ (s : State), ∃ d, ∃ stream, ∃ g, Instr.wf (.segmentCloseTime d stream) = true ∧ inService s .record = true ∧
      s.geley.isOpen.find? (fun e => e.1 == d * 256 + stream) = some (d * 256 + stream, g)) ∧
    (∃ (s : State), ∃ d, Instr.wf (.nvmeWriteDone d true) = true ∧ (driveAt s d).writing = none) ∧
    (∃ (s : State), ∃ d, ∃ n, Instr.wf (.nvmeWriteDone d false) = true ∧ (driveAt s d).writing = some n ∧
      driveLive s d = true) ∧
    (∃ (s : State), ∃ d, ∃ n, ∃ u, Instr.wf (.nvmeWriteDone d true) = true ∧ (driveAt s d).writing = some n ∧
      driveLive s d = true ∧ (driveAt s d).staged = [u] ∧ u.kind = .segment ∧ u.unit = n ∧ u.unit ≠ 0 ∧ u.written = false ∧
      (driveAt s d).ptr % 65 ≠ 1) ∧
    (∃ (s : State), ∃ d, ∃ t0, Instr.wf (.nvmeFlushTimer d) = true ∧ (driveAt s d).unflushed = some t0 ∧ driveLive s d = true) ∧
    (∃ (s : State), ∃ d, Instr.wf (.nvmeFlushDone d false) = true ∧ (driveAt s d).flushing = true ∧ driveLive s d = true) ∧
    (∃ (s : State), ∃ d, ∃ ok, Instr.wf (.nvmeFlushDone d ok) = true ∧ (driveAt s d).flushing = false) ∧
    (∃ d, Instr.wf (.driveLinkLoss d) = true) ∧
    (∃ (s : State), ∃ d, Instr.wf (.driveReady d) = true ∧ (driveAt s d).state = .absent ∧ inService s .record = true) ∧
    (∃ (s : State), ∃ d, Instr.wf (.driveReady d) = true ∧ (driveAt s d).state ≠ .absent) ∧
    (∃ (s : State), ∃ d, Instr.wf (.driveStall d) = true ∧ (driveAt s d).state = .recording ∧ inService s .record = true) ∧
    (∃ (s : State), ∃ d, Instr.wf (.controllerReset d) = true ∧ (driveAt s d).state = .stalled ∧ (driveAt s d).resetOn = false ∧
      inService s .record = true ∧ (driveAt s d).resetAt ≤ now s) ∧
    (∃ (s : State), ∃ d, Instr.wf (.controllerResetEnd d false) = true ∧ (driveAt s d).state = .stalled ∧
      (driveAt s d).resetOn = true ∧ inService s .record = true) ∧
    (∃ (s : State), ∃ d, ∃ l, Instr.wf (.healthPoll d l) = true ∧ (driveAt s d).state ≠ .absent ∧ inService s .record = true) :=
  ⟨⟨{ up with geley := { up.geley with isOpen := [(511, { recs := [[1]] })] } }, 1, 255, { recs := [[1]] }, by decide +kernel⟩,
   ⟨up, 1, by decide +kernel⟩,
   ⟨{ up with geley := { up.geley with d0 := { state := .recording, writing := some 5 } } }, 0, 5, by decide +kernel⟩,
   ⟨{ up with geley := { up.geley with d0 := { state := .recording, writing := some 5, staged := [{ unit := 5 }], ptr := 6 } } }, 0, 5, { unit := 5 }, by decide +kernel⟩,
   ⟨{ up with geley := { up.geley with d0 := { state := .disabled, unflushed := some 5 } } }, 0, 5, by decide +kernel⟩,
   ⟨{ up with geley := { up.geley with d0 := { state := .recording, flushing := true } } }, 0, by decide +kernel⟩,
   ⟨up, 1, true, by decide +kernel⟩,
   ⟨0, by decide +kernel⟩,
   ⟨up, 1, by decide +kernel⟩,
   ⟨drives, 0, by decide +kernel⟩,
   ⟨drives, 0, by decide +kernel⟩,
   ⟨{ up with geley := { up.geley with d0 := { state := .stalled, resetAt := 5000000000 } } }, 0, by decide +kernel⟩,
   ⟨{ up with geley := { up.geley with d0 := { state := .stalled, resetOn := true } } }, 0, by decide +kernel⟩,
   ⟨drives, 0, [], by decide +kernel⟩⟩

theorem meets_MountsFormatsAndRecordReads :
    (∃ (s : State), ∃ d, ∃ m, Instr.wf (.driveMountDone d m) = true ∧ (driveAt s d).state = .init ∧
      inService s .record = true) ∧
    (∃ (s : State), ∃ d, ∃ m, Instr.wf (.driveMountDone d m) = true ∧ (driveAt s d).state = .init ∧ inService s .record = true ∧
      0x00010400 ≤ m.version ∧ (m.lba = 512 ∨ m.lba = 4096) ∧ m.metadata = 0 ∧ (m.mdts = 0 ∨ 131072 ≤ m.mdts) ∧ 256 ≤ m.depth ∧
      (driveAt s d).readsHeld = [] ∧ (driveAt s d).readIssued = []) ∧
    (∃ (s : State), ∃ d, ∃ r, Instr.wf (.driveMountDone d r) = true ∧ (driveAt s d).state ≠ .init) ∧
    (∃ (s : State), ∃ d, Instr.wf (.formatDone d true) = true ∧ (driveAt s d).state = .formatting ∧ inService s .record = true ∧
      (driveAt s d).readsHeld = [] ∧ (driveAt s d).readIssued = []) ∧
    (∃ d, Instr.wf (.formatDone d false) = true) ∧
    (∃ (s : State), ∃ d, ∃ st, ∃ o, ∃ k, ∃ rest, Instr.wf (.recordReadDone d st o) = true ∧
      (driveAt s d).readIssued = k :: rest ∧ driveLive s d = true) ∧
    (∃ (s : State), ∃ d, ∃ st, ∃ o, Instr.wf (.recordReadDone d st o) = true ∧ (driveAt s d).readIssued = []) :=
  ⟨⟨{ up with geley := { up.geley with d0 := { state := .init } } }, 0, mountGood, by decide +kernel⟩,
   ⟨{ up with geley := { up.geley with d0 := { state := .init } } }, 0, mountGood, by decide +kernel⟩,
   ⟨up, 1, mountGood, by decide +kernel⟩,
   ⟨{ up with geley := { up.geley with d0 := { state := .formatting } } }, 0, by decide +kernel⟩,
   ⟨1, by decide +kernel⟩,
   ⟨{ up with geley := { up.geley with d0 := { state := .recording, readIssued := [5, 6] } } }, 0, 0, [], 5, [6],
     by decide +kernel⟩,
   ⟨up, 1, 0, [], by decide +kernel⟩⟩

theorem meets_ResetPinsAndStarts :
    (∃ (s : State), s.boot.por = false) ∧
    (∃ (s : State), s.boot.por = true) ∧
    (∃ (s : State), s.boot.por = false ∧ s.boot.inReset = true ∧ s.pins.testEn = false ∧ s.boot.startMark = false ∧
      s.boot.failCount < 3 ∧ s.boot.committed < 2 ∧ slotValid s.boot s.boot.committed = true ∧ s.boot.trialPending = false ∧
      s.boot.trialRunning = false) ∧
    (∃ (s : State), s.boot.por = true) ∧
    (∃ (s : State), s.boot.por = true ∧ s.pins.resetN = false) ∧
    (∃ (s : State), s.boot.por = true ∧ s.pins.resetN = true ∧ s.pins.testEn = false) ∧
    (∃ g, Instr.wf (.supplyExcursion g) = true ∧ g < 8) ∧
    (∃ (s : State), s.boot.stage = 2 ∧ s.boot.inReset = false) ∧
    (∃ (s : State), s.boot.stage = 4 ∧ s.boot.corePowered = false ∧ s.pins.corePwrEn = true ∧ s.clk.pllLocked = true) ∧
    (∃ (s : State), s.boot.stage ≠ 4) ∧
    (∃ (s : State), s.boot.fallback = true ∧ s.boot.running = false ∧ s.boot.recoveryTried = false ∧ s.pins.corePwrEn = true) :=
  ⟨⟨up, by decide +kernel⟩,
   ⟨State.reset, by decide +kernel⟩,
   ⟨{ State.reset with boot := { State.reset.boot with por := false, failCount := 2, committed := 1, slotB := { state := 2 } } }, by decide +kernel⟩,
   ⟨State.reset, by decide +kernel⟩,
   ⟨State.reset, by decide +kernel⟩,
   ⟨{ State.reset with pins := { State.reset.pins with resetN := true } }, by decide +kernel⟩,
   ⟨7, by decide +kernel⟩,
   ⟨{ up with boot := { up.boot with stage := 2 } }, by decide +kernel⟩,
   ⟨{ up with boot := { up.boot with stage := 4, corePowered := false } }, by decide +kernel⟩,
   ⟨up, by decide +kernel⟩,
   ⟨{ up with boot := { up.boot with fallback := true, running := false } }, by decide +kernel⟩⟩

theorem meets_RunningAndTrestleOperations :
    (∃ (s : State), mayRun s = true ∧ s.boot.fallback = true) ∧
    (∃ (s : State), mayRun s = true ∧ s.boot.fallback = false ∧ validStore s.boot = none) ∧
    (∃ (s : State), mayRun s = false) ∧
    (∃ (s : State), s.boot.inReset = false ∧ s.boot.running = false ∧ s.boot.startMark = true ∧ s.boot.fallback = false) ∧
    (∃ (s : State), s.boot.running = true) ∧
    (∃ (s : State), ∃ r, s.boot.fbPending = some r) ∧
    (∃ (s : State), s.boot.fbPending = none) ∧
    (∃ k c, c ∈ [Instr.chipReset k, .bypassOn k, .bypassRelease k, .forceFallback k] ∧ Instr.wf c = true) ∧
    (∃ (s : State), s.boot.ready = true ∧ s.clk.pllLocked = true ∧ s.boot.tempShut = false ∧ s.boot.pendingReset = none) ∧
    (∃ (s : State), s.boot.ready = true ∧ s.ring.bypassOn = false) ∧
    (∃ (s : State), s.boot.ready = true ∧ s.ring.bypassOn = true) ∧
    (∃ (s : State), s.boot.ready = true) ∧
    (∃ (s : State), s.boot.stage = 6 ∧ s.boot.corePowered = true ∧ s.boot.cfgApplied = false ∧ inService s .control = true ∧
      validStore s.boot = none ∧ s.regs.gated = [.edge, .ring, .record]) ∧
    (∃ (s : State), ∃ x, s.boot.stage = 6 ∧ s.boot.corePowered = true ∧ s.boot.cfgApplied = false ∧
      inService s .control = true ∧ validStore s.boot = some x ∧ s.regs.gated = [.edge, .ring, .record] ∧
      scriptOf x.bytes = []) ∧
    (∃ (s : State), s.boot.cfgApplied = true) :=
  ⟨⟨{ up with boot := { up.boot with running := false, fallback := true } }, by decide +kernel⟩,
   ⟨{ up with boot := { up.boot with running := false } }, by decide +kernel⟩,
   ⟨up, by decide +kernel⟩,
   ⟨{ up with boot := { up.boot with running := false, startMark := true } }, by decide +kernel⟩,
   ⟨up, by decide +kernel⟩,
   ⟨{ up with boot := { up.boot with fbPending := some 3 } }, 3, by decide +kernel⟩,
   ⟨up, by decide +kernel⟩,
   ⟨5, .chipReset 5, by decide +kernel⟩,
   ⟨up, by decide +kernel⟩,
   ⟨up, by decide +kernel⟩,
   ⟨{ up with ring := { up.ring with bypassOn := true } }, by decide +kernel⟩,
   ⟨up, by decide +kernel⟩,
   ⟨{ up with boot := { up.boot with stage := 6, cfgApplied := false }, regs := { out := [.edge, .ring, .record], gated := [.edge, .ring, .record] } }, by decide +kernel⟩,
   ⟨{ up with boot := { up.boot with stage := 6, cfgApplied := false, store1 := { bytes := storeImage, valid := true } }, regs := { out := [.edge, .ring, .record], gated := [.edge, .ring, .record] } }, { bytes := storeImage, valid := true }, by decide +kernel⟩,
   ⟨up, by decide +kernel⟩⟩

theorem meets_TemperaturesClocksAndEvents :
    (∃ (s : State), ∃ (a : Int), ∃ (b : Int), ∃ (c : Int), ∃ (d : Int), Instr.wf (.tempSample a b c d) = true ∧
      s.boot.ready = true ∧ s.boot.tempShut = false ∧ (∀ t ∈ [a, b, c, d], t ≤ (s.boot.cfg.tempWarn : Int)) ∧
      s.boot.cfg.tempWarn ≤ s.boot.cfg.tempTrip) ∧
    (∃ (s : State), ∃ (a : Int), ∃ (b : Int), ∃ (c : Int), ∃ (d : Int), Instr.wf (.tempSample a b c d) = true ∧
      s.boot.ready = false) ∧
    (∃ (s : State), s.boot.tempShut = false) ∧
    (∃ (s : State), ∃ n, s.boot.coolSince = some n ∧ s.boot.tempShut = true ∧ 4000 ≤ n) ∧
    (∃ (s : State), ∃ n, s.boot.coolSince = some n ∧ n < 4000) ∧
    (∃ (s : State), s.boot.corePowered = true ∧ inService s .control = true) ∧
    (∃ (s : State), s.boot.corePowered = true ∧ s.boot.wdtPaused = false ∧ s.boot.running = true) ∧
    (∃ (s : State), s.boot.wdtPaused = true) ∧
    (∃ (s : State), s.clk.pllLocked = true) ∧
    (∃ (s : State), s.clk.refPresent = true) ∧
    (∃ (s : State), s.clk.pllLocked = true) ∧
    (∃ (s : State), s.clk.pllLocked = false ∧ s.boot.inReset = false) ∧
    (∃ (s : State), ∃ f, ∃ l, ∃ d, Instr.wf (.faultEvent f l d) = true ∧ (listed f = false ∨ s.boot.inReset = true)) ∧
    (∃ (s : State), ∃ f, ∃ l, ∃ d, Instr.wf (.faultEvent f l d) = true ∧ listed f = true ∧ s.boot.inReset = false ∧ 106 ≤ f ∧
      f < 512) :=
  ⟨⟨up, 135, 134, -40, 0, by decide +kernel⟩,
   ⟨State.reset, 0, 0, 0, 0, by decide +kernel⟩,
   ⟨up, by decide +kernel⟩,
   ⟨{ up with boot := { up.boot with coolSince := some 4000, tempShut := true } }, 4000, by decide +kernel⟩,
   ⟨{ up with boot := { up.boot with coolSince := some 3999, tempShut := true } }, 3999, by decide +kernel⟩,
   ⟨up, by decide +kernel⟩,
   ⟨up, by decide +kernel⟩,
   ⟨{ up with boot := { up.boot with wdtPaused := true } }, by decide +kernel⟩,
   ⟨up, by decide +kernel⟩,
   ⟨up, by decide +kernel⟩,
   ⟨up, by decide +kernel⟩,
   ⟨{ up with clk := { up.clk with pllLocked := false } }, by decide +kernel⟩,
   ⟨State.reset, 112, 0, 0, by decide +kernel⟩,
   ⟨up, 112, 65535, 0xFFFFFFFF, by decide +kernel⟩⟩

theorem meets_ImagesAndStores :
    (∃ (s : State), ∃ n, ∃ r, ∃ o, s.sched.staging = some (n, r) ∧ s.sched.loading = some o) ∧
    (∃ (s : State), s.sched.staging = none) ∧
    (∃ (s : State), s.sched.pending = none) ∧
    (∃ (s : State), ∃ i, ∃ n, s.sched.pending = some i ∧ s.sched.actCycle = some n ∧ nt16 s < actInstant s) ∧
    (∃ (s : State), ∃ i, ∃ n, s.sched.pending = some i ∧ s.sched.actCycle = some n ∧ actInstant s ≤ nt16 s ∧ s.cyc.c0 ≠ none ∧
      namedCycle s s.sched.actTime = some n ∧ s.cyc.n = n) ∧
    (∃ (s : State), ∃ i, s.sched.pending = some i ∧ s.sched.actCycle = none ∧ s.ring.state = .offline ∧
      s.ring.bypassOn = true) ∧
    (∃ (s : State), ∃ k, ∃ off, ∃ d, s.boot.fwBusy = some (k, off, d, false) ∧ k < 2) ∧
    (∃ (s : State), ∃ k, ∃ off, ∃ d, s.boot.fwBusy = some (k, off, d, true) ∧ k < 2) ∧
    (∃ (s : State), s.boot.fwBusy = none) ∧
    (∃ (s : State), s.boot.storeBusy = some 0) ∧
    (∃ (s : State), s.boot.storeBusy = some 1) ∧
    (∃ (s : State), s.boot.storeBusy = none) :=
  ⟨⟨{ up with sched := { staging := some (none, {}), loading := some [1] } }, none, {}, [1], by decide +kernel⟩,
   ⟨up, by decide +kernel⟩,
   ⟨up, by decide +kernel⟩,
   ⟨{ ringUp with sched := { pending := some img, actCycle := some 4001, actTime := 4001000000 } }, img, 4001,
     by decide +kernel⟩,
   ⟨{ ringUp with sched := { pending := some img, actCycle := some 4000, actTime := 4000000000 } }, img, 4000,
     by decide +kernel⟩,
   ⟨{ up with sched := { pending := some img }, ring := { up.ring with bypassOn := true } }, img, by decide +kernel⟩,
   ⟨{ up with boot := { up.boot with fwBusy := some (1, 0, [1], false) } }, 1, 0, [1], by decide +kernel⟩,
   ⟨{ up with boot := { up.boot with fwBusy := some (1, 0, [1], true) } }, 1, 0, [1], by decide +kernel⟩,
   ⟨up, by decide +kernel⟩,
   ⟨{ up with boot := { up.boot with storeBusy := some 0 } }, by decide +kernel⟩,
   ⟨{ up with boot := { up.boot with storeBusy := some 1 } }, by decide +kernel⟩,
   ⟨up, by decide +kernel⟩⟩

theorem meets_RegisterWrites :
    (∃ (s : State), ∃ m, ∃ off, ∃ d, Instr.wf (.registerWrite (.mailbox m) off d) = true ∧ m < 2 ∧ barLive s (m * 64) = true ∧
      off < 0x100 ∧ d.length = 4 ∧ off % 4 = 0) ∧
    (∃ (s : State), ∃ f, ∃ off, ∃ d, Instr.wf (.registerWrite (.host f) off d) = true ∧ barLive s f = true ∧ d.length ≠ 4 ∧
      d.length ≠ 8) ∧
    (∃ (s : State), ∃ f, ∃ off, ∃ d, Instr.wf (.registerWrite (.host f) off d) = true ∧ barLive s f = true ∧ off % 4 ≠ 0) ∧
    (∃ (s : State), ∃ f, ∃ off, ∃ d, Instr.wf (.registerWrite (.host f) off d) = true ∧ barLive s f = false) ∧
    (∃ (s : State), ∃ f, ∃ n, ∃ v, Instr.wf (.registerWrite (.msix f) (16 * n + 8) (leBytes 4 v)) = true ∧ barLive s f = true ∧
      s.boot.fallback = false ∧ n < numVecs f ∧ v < 2 ^ 32) ∧
    (∃ (s : State), ∃ v, Instr.wf (.registerWrite .trestle 0x50008 (leBytes 4 v)) = true ∧ v < 2 ^ 32 ∧ s.boot.ready = true) ∧
    (∃ (s : State), ∃ o, ∃ d, Instr.wf (.registerWrite .trestle o d) = true ∧ s.boot.ready = false) :=
  ⟨⟨up, 1, 0xFC, leBytes 4 0, by decide +kernel⟩,
   ⟨up, 64, 0, [1], by decide +kernel⟩,
   ⟨up, 64, 2, leBytes 4 0, by decide +kernel⟩,
   ⟨{ up with host := { up.host with funcs := [(0, { flr := true })] } }, 0, 0, [], by decide +kernel⟩,
   ⟨up, 64, 255, 3, by decide +kernel⟩,
   ⟨up, 2 ^ 32 - 1, by decide +kernel⟩,
   ⟨State.reset, 0, [], by decide +kernel⟩⟩

theorem meets_StepTakesTheFront :
    (∃ (s : State), ∃ c, ∃ rest, s.pending = c :: rest) ∧
    (∃ (s : State), s.pending = []) :=
  ⟨⟨{ up with pending := [.knClaim] }, .knClaim, [], by decide +kernel⟩,
   ⟨up, by decide +kernel⟩⟩

theorem meets_EveryStepKeepsTheQueue :
    (∃ i, Instr.wf i = true) ∧
    (∃ i, Instr.wf i = false) ∧
    (∃ (s : State), s.Inv) :=
  ⟨⟨.mbxGo 2, by decide +kernel⟩,
   ⟨.mbxGo 3, by decide +kernel⟩,
   ⟨{ up with pending := [.mbxGo 2, .knClaim] }, by decide +kernel⟩⟩

theorem meets_RequestsRefused :
    (∃ x ∈ knRows none, ∃ s r c st, nextRequest s = some r ∧ r.cmd = x.2.1 ∧ badHeader r = none ∧ cmdOf x.2.1 = some c ∧
      preCheck s x.2.2 c r = some st) ∧
    (∃ x ∈ knRows none, ∃ s, (∀ r, nextRequest s = some r → r.cmd ≠ x.2.1 ∨ (badHeader r).isSome = true)) :=
  ⟨⟨(.knMeterReset, 0x0206, meterResetExe), by simp [knRows, knRowsTime], asks up (rqOf 1 0x0206 0 (leBytes 8 (objId 4 0)) []),
    rqOf 1 0x0206 0 (leBytes 8 (objId 4 0)) [], ⟨0x0206, 1, .w, false⟩, 7, by decide +kernel⟩,
   ⟨(.knMeterReset, 0x0206, meterResetExe), by simp [knRows, knRowsTime], up, fun r (h : none = some r) => by cases h⟩⟩

theorem meets_OnlyTheOwnerChanges :
    ∃ x ∈ knRows none, ∃ s r c, cmdOf x.2.1 = some c ∧ (c.cls = .w ∨ c.cls = .o) ∧ nextRequest s = some r ∧
      isOwner s r = false :=
  ⟨(.knMeterReset, 0x0206, meterResetExe), by simp [knRows, knRowsTime], asks up (rqOf 1 0x0206 0 [] []),
    rqOf 1 0x0206 0 [] [], ⟨0x0206, 1, .w, false⟩, by decide +kernel⟩

theorem meets_CountersSaturate :
    (∃ (s : State), ∃ fam, ∃ obj, ∃ ev, ∃ n, (tblGet ({} : Stat) s.ctr.stat (statIdx fam obj ev)).v + n < 2 ^ 40 - 1) ∧
    (∃ (s : State), ∃ fam, ∃ obj, ∃ ev, ∃ n, 0 < n ∧ 2 ^ 40 - 1 ≤ (tblGet ({} : Stat) s.ctr.stat (statIdx fam obj ev)).v + n) ∧
    (∃ fam obj ev i, i ≠ statIdx fam obj ev) :=
  ⟨⟨{ up with ctr := { stat := [(statIdx 1 17 5, { v := 2 ^ 40 - 3 })] } }, 1, 17, 5, 1, by decide +kernel⟩,
   ⟨{ up with ctr := { stat := [(statIdx 1 17 5, { v := 2 ^ 40 - 2 })] } }, 1, 17, 5, 1, by decide +kernel⟩,
   ⟨1, 17, 5, 0, by decide +kernel⟩⟩

theorem meets_WindowPositions :
    ∃ (i : Image), ∃ k, 1 ≤ k ∧ k ≤ i.s :=
  ⟨img, 4, by decide +kernel⟩

theorem meets_HeaderChecks :
    ∃ o : Octets, 32 ≤ o.length :=
  ⟨leBytes 32 0, by decide +kernel⟩

theorem meets_KnTimeSets :
    (∃ (s : State), ∃ r, SetAccepted s 0x0102 timeSetCmd r ∧
      ((bitOf r.mask 0 || bitOf r.mask 1) = true → ringMember s = false)) ∧
    (∃ (s : State), ∃ r, SetAccepted s 0x0103 timeConfigCmd r) ∧
    (∃ (s : State), ∃ r, SetAccepted s 0x0104 timerSetCmd r ∧
    let v := timerSetCmd.vals s r
    val v 2 < val v 1 ∧ (bitOf r.mask 0 = true → nt16 s + ns16 1000 ≤ ns16 (val v 0))) ∧
    (∃ (s : State), ∃ r, SetAccepted s 0x0105 evcapSetCmd r) :=
  ⟨⟨asks up (rqSet 0x0102 0x1B 0 3 (leBytes 8 7000000000 ++ leBytes 4 0xFFFF)), (rqSet 0x0102 0x1B 0 3 (leBytes 8 7000000000 ++
    leBytes 4 0xFFFF)), by decide +kernel⟩,
   ⟨asks up (rqSet 0x0103 0x11 16 0x300 (leBytes 32 0 ++ leBytes 4 900000 ++ leBytes 4 0xFFFFFFFF)),
     (rqSet 0x0103 0x11 16 0x300 (leBytes 32 0 ++ leBytes 4 900000 ++ leBytes 4 0xFFFFFFFF)), by decide +kernel⟩,
   ⟨asks up (rqSet 0x0104 0x11 3 7 (leBytes 8 4000001000 ++ leBytes 8 64 ++ leBytes 8 63)),
     (rqSet 0x0104 0x11 3 7 (leBytes 8 4000001000 ++ leBytes 8 64 ++ leBytes 8 63)), by decide +kernel⟩,
   ⟨asks up (rqSet 0x0105 0x11 12 3 (leBytes 4 2 ++ leBytes 4 5)), (rqSet 0x0105 0x11 12 3 (leBytes 4 2 ++ leBytes 4 5)),
     by decide +kernel⟩⟩

theorem meets_KnClassSets :
    (∃ (s : State), ∃ r, SetAccepted s 0x0202 hashProfileCmd r) ∧
    (∃ (s : State), ∃ r, SetAccepted s 0x0203 portDefaultsCmd r ∧
    let v := portDefaultsCmd.vals s r
    (bitOf r.mask 2 = true → targetMeets s (val v 2) = true)) ∧
    (∃ (s : State), ∃ r, SetAccepted s 0x0205 meterSetCmd r ∧
    let v := meterSetCmd.vals s r
    val v 0 ≤ val v 1) ∧
    (∃ (s : State), ∃ r, SetAccepted s 0x0207 vatQuotaCmd r ∧
    let v := vatQuotaCmd.vals s r
    let i := objIdx r.obj
    let acct := fun (a : State) =>
      let q : Quota := { acctQuota a i with reserve := val v 0, limit := val v 1 }
      { a with vat := { a.vat with acctQ := tblSet (acctDefault i) a.vat.acctQ i q } }
    (objCls r.obj = 0x09 → val v 0 ≤ val v 1 ∧ 16384 ≤ poolSize (acct s)) ∧ (objCls r.obj ≠ 0x09 → val v 3 ≤ val v 2)) ∧
    (∃ (s : State), ∃ r, SetAccepted s 0x0207 vatQuotaCmd r ∧
    let v := vatQuotaCmd.vals s r
    let i := objIdx r.obj
    let q : Quota := { acctQuota s i with reserve := val v 0, limit := val v 1 }
    let u := { s with vat := { s.vat with acctQ := tblSet (acctDefault i) s.vat.acctQ i q } }
    objCls r.obj = 0x09 ∧ val v 0 ≤ val v 1 ∧ poolSize u < 16384) ∧
    (∃ (s : State), ∃ r, SetAccepted s 0x0208 spillCmd r ∧
    let v := spillCmd.vals s r
    (r.obj = objId 0x1B 0 → val v 2 + s.geley.quota + 256 ≤ 4096) ∧
      (r.obj ≠ objId 0x1B 0 → (valB v 0 = true → maySpill s (objIdx r.obj) = true) ∧
      (bitOf r.mask 1 = true → val v 1 ≤ s.vat.spillArea))) :=
  ⟨⟨asks up (rqSet 0x0202 0x18 3 1 (leBytes 12 0xFF)), (rqSet 0x0202 0x18 3 1 (leBytes 12 0xFF)), by decide +kernel⟩,
   ⟨asks up (rqSet 0x0203 0x1D 18 3 (leBytes 4 4094 ++ leBytes 4 7)), (rqSet 0x0203 0x1D 18 3 (leBytes 4 4094 ++ leBytes 4 7)),
     by decide +kernel⟩,
   ⟨asks up (rqSet 0x0205 0x04 8191 3 (leBytes 4 100000000 ++ leBytes 4 100000000)),
     (rqSet 0x0205 0x04 8191 3 (leBytes 4 100000000 ++ leBytes 4 100000000)), by decide +kernel⟩,
   ⟨asks up (rqSet 0x0207 0x09 22 3 (leBytes 4 0 ++ leBytes 4 196608)), (rqSet 0x0207 0x09 22 3 (leBytes 4 0 ++
     leBytes 4 196608)), by decide +kernel⟩,
   ⟨asks tight (rqSet 0x0207 0x09 22 3 (leBytes 4 65536 ++ leBytes 4 65536)), (rqSet 0x0207 0x09 22 3 (leBytes 4 65536 ++
     leBytes 4 65536)), by decide +kernel⟩,
   ⟨asks up (rqSet 0x0208 0x1B 0 4 (leBytes 4 0 ++ leBytes 4 0 ++ leBytes 4 768)), (rqSet 0x0208 0x1B 0 4 (leBytes 4 0 ++
     leBytes 4 0 ++ leBytes 4 768)), by decide +kernel⟩⟩

theorem meets_KnEgressSets :
    (∃ (s : State), ∃ r, SetAccepted s 0x0301 queueSetCmd r) ∧
    (∃ (s : State), ∃ r, SetAccepted s 0x0305 shaperCmd r) ∧
    (∃ (s : State), ∃ r, SetAccepted s 0x0306 streamBindCmd r) ∧
    (∃ (s : State), ∃ r, SetAccepted s 0x0307 qsampleCmd r) ∧
    (∃ (s : State), ∃ r, SetAccepted s 0x0309 slotBindCmd r) :=
  ⟨⟨asks up (rqSet 0x0301 0x02 159 3 (leBytes 4 1 ++ leBytes 4 65535)), (rqSet 0x0301 0x02 159 3 (leBytes 4 1 ++
    leBytes 4 65535)), by decide +kernel⟩,
   ⟨asks up (rqSet 0x0305 0x05 1023 1 (leBytes 4 1)), (rqSet 0x0305 0x05 1023 1 (leBytes 4 1)), by decide +kernel⟩,
   ⟨asks up (rqSet 0x0306 0x1C 8191 1 (leBytes 4 1023)), (rqSet 0x0306 0x1C 8191 1 (leBytes 4 1023)), by decide +kernel⟩,
   ⟨asks up (rqSet 0x0307 0x1B 0 3 (leBytes 4 1000000 ++ leBytes 4 16)), (rqSet 0x0307 0x1B 0 3 (leBytes 4 1000000 ++
     leBytes 4 16)), by decide +kernel⟩,
   ⟨asks up (rqSet 0x0309 0x1A 0x9FFF 7 (leBytes 4 1 ++ leBytes 4 15 ++ leBytes 4 7)),
     (rqSet 0x0309 0x1A 0x9FFF 7 (leBytes 4 1 ++ leBytes 4 15 ++ leBytes 4 7)), by decide +kernel⟩⟩

theorem meets_KnPortSets :
    (∃ (s : State), ∃ r, SetAccepted s 0x0401 preemptCmd r) ∧
    (∃ (s : State), ∃ r, SetAccepted s 0x0403 pauseCmd r) ∧
    (∃ (s : State), ∃ r, SetAccepted s 0x0501 portSetCmd r ∧
    let v := portSetCmd.vals s r
    let p := objIdx r.obj
    let c : PortCfg :=
      { adminUp := valB v 0, maxFrame := val v 1, loopback := val v 2, an := valB v 3, adv := val v 4, forced := val v 5
        role := val v 6, nvp := val v 7, upRate := val v 8, upFec := val v 9 }
    (16 ≤ p → p < 18 → fecOk c.upRate c.upFec = true)) ∧
    (∃ (s : State), ∃ r, SetAccepted s 0x0504 podlSetCmd r) :=
  ⟨⟨asks up (rqSet 0x0401 0x01 17 1 (leBytes 4 1)), (rqSet 0x0401 0x01 17 1 (leBytes 4 1)), by decide +kernel⟩,
   ⟨asks up (rqSet 0x0403 0x01 17 1 (leBytes 4 255)), (rqSet 0x0403 0x01 17 1 (leBytes 4 255)), by decide +kernel⟩,
   ⟨asks up (rqSet 0x0501 0x01 17 3 (leBytes 4 1 ++ leBytes 4 16000)), (rqSet 0x0501 0x01 17 3 (leBytes 4 1 ++
     leBytes 4 16000)), by decide +kernel⟩,
   ⟨asks up (rqSet 0x0504 0x01 15 3 (leBytes 4 1 ++ leBytes 4 9)), (rqSet 0x0504 0x01 15 3 (leBytes 4 1 ++ leBytes 4 9)),
     by decide +kernel⟩⟩

theorem meets_KnStreamAndFaultSets :
    (∃ (s : State), ∃ r, SetAccepted s 0x0404 streamIdCmd r ∧
    let v := streamIdCmd.vals s r
    (bitOf (val v 3) 18 = true → (rcvyAt s (val v 4)).isMatch = false)) ∧
    (∃ (s : State), ∃ r, SetAccepted s 0x0405 frerGenCmd r) ∧
    (∃ (s : State), ∃ r, SetAccepted s 0x0406 frerRcvyCmd r ∧
    let v := frerRcvyCmd.vals s r
    let i := objIdx r.obj
    (i < 8192 → valB v 1 = true → ringIdentified s i = false)) ∧
    (∃ (s : State), ∃ r, SetAccepted s 0x0801 faultSetCmd r ∧
    let v := faultSetCmd.vals s r
    let f := objIdx r.obj
    let a := val v 5 + 1
    (srcInfo f).fixed = false ∧ (a < 3 ∨ (a ≤ widestReset f ∧ (a = 4 → (clusterOf f).isSome = true) ∧
      (a = 5 → (phyDieOf f).isSome = true) ∧
      (a = 6 → restartRegion f ≠ .trestle) ∧ (a = 3 → (srcInfo f).level = 0))) ∧ (valB v 6 = true → testOf f ≠ .none)) ∧
    (∃ (s : State), ∃ r, SetAccepted s 0x0801 faultSetCmd r ∧ (srcInfo (objIdx r.obj)).fixed = true) ∧
    (∃ (s : State), ∃ r, SetAccepted s 0x0802 faultForceCmd r ∧
    let v := faultForceCmd.vals s r
    let f := objIdx r.obj
    ((srcInfo f).fixed = true → valB v 0 = true)) :=
  ⟨⟨asks up (rqSet 0x0404 0x06 16383 0x1C (leBytes 16 0 ++ leBytes 4 4095 ++ leBytes 4 0x7FFFF ++ leBytes 4 8191)),
    (rqSet 0x0404 0x06 16383 0x1C (leBytes 16 0 ++ leBytes 4 4095 ++ leBytes 4 0x7FFFF ++ leBytes 4 8191)), by decide +kernel⟩,
   ⟨asks up (rqSet 0x0405 0x07 8191 7 (leBytes 4 1 ++ leBytes 4 2 ++ leBytes 4 65535)),
     (rqSet 0x0405 0x07 8191 7 (leBytes 4 1 ++ leBytes 4 2 ++ leBytes 4 65535)), by decide +kernel⟩,
   ⟨asks up (rqSet 0x0406 0x08 8191 3 (leBytes 4 1 ++ leBytes 4 1)), (rqSet 0x0406 0x08 8191 3 (leBytes 4 1 ++ leBytes 4 1)),
     by decide +kernel⟩,
   ⟨asks up (rqSet 0x0801 0x12 112 1 (leBytes 4 0)), (rqSet 0x0801 0x12 112 1 (leBytes 4 0)), by decide +kernel⟩,
   ⟨asks up (rqSet 0x0801 0x12 fixedSrc 1 (leBytes 4 0)), (rqSet 0x0801 0x12 fixedSrc 1 (leBytes 4 0)), by decide +kernel⟩,
   ⟨asks up (rqSet 0x0802 0x12 112 3 (leBytes 4 1 ++ leBytes 4 255)), (rqSet 0x0802 0x12 112 3 (leBytes 4 1 ++ leBytes 4 255)),
     by decide +kernel⟩⟩

theorem meets_KnHostAndRecordSets :
    (∃ (s : State), ∃ r, SetAccepted s 0x0601 queueMapCmd r ∧
    let v := queueMapCmd.vals s r
    let q := objIdx r.obj
    let k := val v 0 * 4096 + val v 1
    (∀ x ∈ ringsOf q, (qAt s x).state = .disabled) ∧ (val v 0 ≠ 0xFFFF → val v 1 < slotCount (val v 0) ∧
      (tblGet 0 s.host.slots k = 0 ∨ tblGet 0 s.host.slots k = q + 1))) ∧
    (∃ (s : State), ∃ r, SetAccepted s 0x0602 eventMapCmd r ∧
    let v := eventMapCmd.vals s r
    let f := val v 0
    (f ≠ 0xFFFF → val v 1 < numVecs f) ∧ bitOf r.mask 2 = false) ∧
    (∃ (s : State), ∃ r, SetAccepted s 0x0602 eventMapCmd r ∧
    let v := eventMapCmd.vals s r
    let f := val v 0
    f ≠ 0xFFFF ∧ val v 1 < numVecs f ∧ bitOf r.mask 2 = true) ∧
    (∃ (s : State), ∃ r, SetAccepted s 0x0603 dmaqCmd r ∧
    let v := dmaqCmd.vals s r
    let q := objIdx r.obj
    bitOf r.mask 12 = false ∧ ((dmaqGet s r.obj).take 3 = v.take 3 ∨ ∀ x ∈ ringsOf q, (qAt s x).state = .disabled)) ∧
    (∃ (s : State), ∃ r, SetAccepted s 0x0603 dmaqCmd r ∧
    let v := dmaqCmd.vals s r
    let q := objIdx r.obj
    bitOf r.mask 12 = true ∧ valB v 12 = true ∧ (∀ x ∈ ringsOf q, (qAt s x).state = .disabled) ∧
      mayEnable (dmaqPut s q v) q = true) ∧
    (∃ (s : State), ∃ r, SetAccepted s 0x0701 recStreamCmd r) ∧
    (∃ (s : State), ∃ r, SetAccepted s 0x0706 recQuotaCmd r ∧
    let v := recQuotaCmd.vals s r
    s.vat.spillArea + val v 0 + 256 ≤ 4096) ∧
    (∃ (s : State), ∃ r, SetAccepted s 0x090B drainCmd r) ∧
    (∃ (s : State), ∃ k, ∃ x, s.geley.streamNext = [(k, x)]) :=
  ⟨⟨asks up (rqSet 0x0601 0x0C 1 3 (leBytes 4 0 ++ leBytes 4 3967)), (rqSet 0x0601 0x0C 1 3 (leBytes 4 0 ++ leBytes 4 3967)),
    by decide +kernel⟩,
   ⟨asks up (rqSet 0x0602 0x0E 2047 3 (leBytes 4 0 ++ leBytes 4 255)), (rqSet 0x0602 0x0E 2047 3 (leBytes 4 0 ++
     leBytes 4 255)), by decide +kernel⟩,
   ⟨asks up (rqSet 0x0602 0x0E 2047 7 (leBytes 4 0 ++ leBytes 4 255 ++ leBytes 4 1000)),
     (rqSet 0x0602 0x0E 2047 7 (leBytes 4 0 ++ leBytes 4 255 ++ leBytes 4 1000)), by decide +kernel⟩,
   ⟨asks up (rqSet 0x0603 0x0C 0 1 (leBytes 8 0x10000)), (rqSet 0x0603 0x0C 0 1 (leBytes 8 0x10000)), by decide +kernel⟩,
   ⟨asks mapped3 (rqSet 0x0603 0x0C 0x3000 0x1000 (leBytes 52 0 ++ leBytes 4 1)),
     (rqSet 0x0603 0x0C 0x3000 0x1000 (leBytes 52 0 ++ leBytes 4 1)), by decide +kernel⟩,
   ⟨asks up (rqSet 0x0701 0x0F 255 3 (leBytes 4 1 ++ leBytes 4 2)), (rqSet 0x0701 0x0F 255 3 (leBytes 4 1 ++ leBytes 4 2)),
     by decide +kernel⟩,
   ⟨asks up (rqSet 0x0706 0x1B 0 1 (leBytes 4 3328)), (rqSet 0x0706 0x1B 0 1 (leBytes 4 3328)), by decide +kernel⟩,
   ⟨asks up (rqSet 0x090B 0x1B 0 1 (leBytes 4 1000)), (rqSet 0x090B 0x1B 0 1 (leBytes 4 1000)), by decide +kernel⟩,
   ⟨{ up with geley := { up.geley with streamNext := [(3, { snap := 100 })] } }, 3, { snap := 100 }, by decide +kernel⟩⟩

theorem meets_KnOwnershipChanges :
    (∃ (s : State), ∃ r, Accepted s 0x0001 claimExe r ∧ leaseOk (leAt r.params 0 4) = true ∧ s.kn.owner = none) ∧
    (∃ (s : State), ∃ r, Accepted s 0x0006 takeoverExe r ∧ leaseOk (leAt r.params 0 4) = true ∧ r.master = 2 ∧
      s.pins.stewardN = false) ∧
    (∃ (s : State), ∃ r, Accepted s 0x0005 acceptExe r ∧ s.kn.target = some r.master ∧
      (r.master = 3 → s.kn.targetNode = r.node) ∧ r.arr < s.kn.windowEnd) ∧
    (∃ (s : State), ∃ r, Accepted s 0x0002 releaseExe r) ∧
    (∃ (s : State), ∃ r, Accepted s 0x0004 handoverExe r ∧
    let m := leAt r.params 0 1
    let node := leAt r.params 1 1
    let l := leAt r.params 4 4
    leAt r.params 2 2 = 0 ∧ m ≤ 4 ∧ (if m = 3 then node ≤ 63 else node = 0xFF) ∧ leaseOk l = true ∧ (¬(s.kn.owner = some m ∧
      (m = 3 → s.kn.ownerNode = node))) ∧ masterUp s m = true) :=
  ⟨⟨asks { up with kn := {} } (rqOf 0 0x0001 0 (leBytes 4 100) []), (rqOf 0 0x0001 0 (leBytes 4 100) []), by decide +kernel⟩,
   ⟨asks { up with pins := { up.pins with stewardN := false } } (rqOf 2 0x0006 0 (leBytes 4 60000) []),
     (rqOf 2 0x0006 0 (leBytes 4 60000) []), by decide +kernel⟩,
   ⟨asks { up with kn := { up.kn with target := some 1, windowEnd := 1 } } (rqOf 1 0x0005 0 ([]) []),
     (rqOf 1 0x0005 0 ([]) []), by decide +kernel⟩,
   ⟨asks up (rqOf 0 0x0002 0 ([]) []), (rqOf 0 0x0002 0 ([]) []), by decide +kernel⟩,
   ⟨asks up (rqOf 0 0x0004 0 (leBytes 1 4 ++ leBytes 1 0xFF ++ leBytes 2 0 ++ leBytes 4 0) []), (rqOf 0 0x0004 0 (leBytes 1 4 ++
     leBytes 1 0xFF ++ leBytes 2 0 ++ leBytes 4 0) []), by decide +kernel⟩⟩

theorem meets_OwnershipRefusalsAndEnds :
    (∃ (s : State), ∃ r, Accepted s 0x0001 claimExe r ∧ leaseOk (leAt r.params 0 4) = true ∧ s.kn.owner.isSome = true) ∧
    (∃ (s : State), ∃ r, Accepted s 0x0006 takeoverExe r ∧ leaseOk (leAt r.params 0 4) = true ∧
      (r.master ≠ 2 ∨ s.pins.stewardN = true)) ∧
    (∃ (s : State), ∃ r, Accepted s 0x0005 acceptExe r ∧ (s.kn.target ≠ some r.master ∨ s.kn.windowEnd ≤ r.arr)) ∧
    (∃ (s : State), s.kn.owner.isSome = true ∧ mramUp s = true ∧ s.kn.leaseEnd ≤ now s ∧ (∀ r ∈ s.kn.waiting,
      isOwner s r = true → s.kn.leaseEnd ≤ r.arr)) ∧
    (∃ (s : State), now s < s.kn.leaseEnd) ∧
    (∃ (s : State), ∃ m, s.kn.target = some m ∧ mramUp s = true ∧ s.kn.windowEnd ≤ now s ∧ (∀ r ∈ s.kn.waiting,
      r.master = m → r.cmd = 5 → s.kn.windowEnd ≤ r.arr)) ∧
    (∃ (s : State), now s < s.kn.windowEnd) :=
  ⟨⟨asks up (rqOf 1 0x0001 0 (leBytes 4 0) []), (rqOf 1 0x0001 0 (leBytes 4 0) []), by decide +kernel⟩,
   ⟨asks up (rqOf 2 0x0006 0 (leBytes 4 100) []), (rqOf 2 0x0006 0 (leBytes 4 100) []), by decide +kernel⟩,
   ⟨asks up (rqOf 1 0x0005 0 ([]) []), (rqOf 1 0x0005 0 ([]) []), by decide +kernel⟩,
   ⟨{ up with kn := { up.kn with leaseEnd := up.clk.tick } }, by decide +kernel⟩,
   ⟨up, by decide +kernel⟩,
   ⟨{ up with kn := { up.kn with target := some 1, windowEnd := up.clk.tick } }, 1, by decide +kernel⟩,
   ⟨{ up with kn := { up.kn with target := some 1, windowEnd := up.clk.tick + 1 } }, by decide +kernel⟩⟩

theorem meets_KnTrafficChanges :
    (∃ (s : State), ∃ rq, ∃ k, Accepted s 0x0201 ruleWriteExe rq ∧
    let r := ruleKept (leAt rq.params 8 40)
    let i := objIdx rq.obj
    objCls rq.obj = 0x03 ∧ (i < 4096 ∨ i = 0xFFFFFF) ∧ wordReserved (ruleWord r) = false ∧ targetMeets s (ruleWord r) = true ∧
      rulePlace s r i = .ok k ∧ isAbsent s (objId 0x03 k) = false) ∧
    (∃ (s : State), ∃ r, Accepted s 0x0204 rrSetDefineExe r ∧
    let l := (List.range (leAt r.params 8 1)).map (fun i => leAt r.params (16 + 2 * i) 2)
    objIn 0x19 16 r.obj = true ∧ leAt r.params 9 7 = 0 ∧ leAt r.params 8 1 ≤ 32 ∧ (∀ q ∈ l, q < 1024)) ∧
    (∃ (s : State), ∃ r, Accepted s 0x0206 meterResetExe r ∧ objIn 0x04 8192 r.obj = true ∧ isAbsent s r.obj = false) ∧
    (∃ (s : State), ∃ r, ∃ l, ∃ act, Accepted s 0x0302 gateLoadExe r ∧
    let ports := maskList 18 (leAt r.params 8 4)
    gateParts ports r.bulk = some l ∧ 0 < leAt r.params 8 4 ∧ leAt r.params 8 4 < 2 ^ 18 ∧ (∀ e ∈ l,
      entriesNamed (gateParsed e.2) = true ∧ leAt e.2 0 4 < 2 ∧ gateListOk (gateParsed e.2) = true) ∧ (∀ p ∈ ports,
      isAbsent s (gateObj p) = false ∧ gateNear s p = false) ∧ gateInstant s (leAt r.params 0 8) = some act) ∧
    (∃ (s : State), ∃ r, ∃ n, ∃ act, Accepted s 0x0303 gateCancelExe r ∧ objIn 0x0B 18 r.obj = true ∧ isAbsent s r.obj = false ∧
    let p := objIdx r.obj
    (gateAt s p).pend = some (n, act) ∧ gateNear s p = false) :=
  ⟨⟨asks up (rqOf 0 0x0201 0 (leBytes 8 (objId 0x03 511) ++ leBytes 40 (2 ^ 319)) []),
    (rqOf 0 0x0201 0 (leBytes 8 (objId 0x03 511) ++ leBytes 40 (2 ^ 319)) []), 511, by decide +kernel⟩,
   ⟨asks up (rqOf 0 0x0204 0 (leBytes 8 (objId 0x19 15) ++ leBytes 1 2 ++ leBytes 7 0 ++ leBytes 2 1023 ++ leBytes 2 0) []),
     (rqOf 0 0x0204 0 (leBytes 8 (objId 0x19 15) ++ leBytes 1 2 ++ leBytes 7 0 ++ leBytes 2 1023 ++ leBytes 2 0) []),
     by decide +kernel⟩,
   ⟨asks up (rqOf 0 0x0206 0 (leBytes 8 (objId 0x04 8191)) []), (rqOf 0 0x0206 0 (leBytes 8 (objId 0x04 8191)) []),
     by decide +kernel⟩,
   ⟨asks up (rqOf 0 0x0302 1 (leBytes 8 4001000000 ++ leBytes 4 0x20000) gatePart), (rqOf 0 0x0302 1 (leBytes 8 4001000000 ++
     leBytes 4 0x20000) gatePart), [(17, gatePart)], ns16 4001000000, by decide +kernel⟩,
   ⟨asks { up with eg := { up.eg with gates := [(17, { pend := some ({}, ns16 4001000000) })] } } (rqOf 0 0x0303 0 (leBytes 8 (objId 0x0B 17)) []), (rqOf 0 0x0303 0 (leBytes 8 (objId 0x0B 17)) []), {}, ns16 4001000000, by decide +kernel⟩⟩

theorem meets_KnHostChanges :
    (∃ (s : State), ∃ r, Accepted s 0x0009 counterPageGrantExe r ∧ objIn 0x0D 128 r.obj = true ∧ isAbsent s r.obj = false ∧
    let f := objIdx r.obj
    funcExists s f = true) ∧
    (∃ (s : State), ∃ r, Accepted s 0x000A counterPageWithdrawExe r ∧ objIn 0x0D 128 r.obj = true ∧ isAbsent s r.obj = false) ∧
    (∃ (s : State), ∃ r, ∃ u, Accepted s 0x0604 dmaqRecoverExe r ∧ dmaObj s r.obj = true ∧ isAbsent s r.obj = false ∧
    let act := leAt r.params 8 1
    let ring := leAt r.params 9 1
    let x := objIdx r.obj + 0x1000 * ring
    act ≤ 2 ∧ leAt r.params 10 6 = 0 ∧ (ring = 0 ∨ (ring = 1 ∧ qKind (objIdx r.obj) = 4)) ∧ recoverQueue s x act = some u) ∧
    (∃ (s : State), ∃ r, Accepted s 0x0606 regionPowerExe r ∧ objIn 0x13 6 r.obj = true ∧
    let g := regionOf (objIdx r.obj)
    let act := leAt r.params 8 1
    act ≤ 1 ∧ leAt r.params 9 7 = 0 ∧ (g = .host ∨ g = .record)) ∧
    (∃ (s : State), ∃ r, Accepted s 0x0606 regionPowerExe r ∧ objIn 0x13 6 r.obj = true ∧
    let g := regionOf (objIdx r.obj)
    leAt r.params 8 1 ≤ 1 ∧ leAt r.params 9 7 = 0 ∧ g ≠ .host ∧ g ≠ .record) :=
  ⟨⟨asks up (rqOf 0 0x0009 0 (leBytes 8 (objId 0x0D 0)) []), (rqOf 0 0x0009 0 (leBytes 8 (objId 0x0D 0)) []),
    by decide +kernel⟩,
   ⟨asks up (rqOf 0 0x000A 0 (leBytes 8 (objId 0x0D 127)) []), (rqOf 0 0x000A 0 (leBytes 8 (objId 0x0D 127)) []),
     by decide +kernel⟩,
   ⟨asks { up with dma := { up.dma with q := [(0, { state := .halted })] } } (rqOf 0 0x0604 0 (leBytes 8 (objId 0x0C 0) ++
     leBytes 1 2 ++ leBytes 1 0 ++ leBytes 6 0) []), (rqOf 0 0x0604 0 (leBytes 8 (objId 0x0C 0) ++ leBytes 1 2 ++ leBytes 1 0 ++
     leBytes 6 0) []),
     disableQueue (asks { up with dma := { up.dma with q := [(0, { state := .halted })] } } (rqOf 0 0x0604 0 (leBytes 8 (objId 0x0C 0) ++ leBytes 1 2 ++ leBytes 1 0 ++ leBytes 6 0) [])) 0 true, by decide +kernel, by decide +kernel, by decide +kernel, by decide +kernel, by decide +kernel, by decide +kernel, rfl⟩,
   ⟨asks up (rqOf 0 0x0606 0 (leBytes 8 (objId 0x13 3) ++ leBytes 1 1 ++ leBytes 7 0) []),
     (rqOf 0 0x0606 0 (leBytes 8 (objId 0x13 3) ++ leBytes 1 1 ++ leBytes 7 0) []), by decide +kernel⟩,
   ⟨asks up (rqOf 0 0x0606 0 (leBytes 8 (objId 0x13 0) ++ leBytes 1 1 ++ leBytes 7 0) []),
     (rqOf 0 0x0606 0 (leBytes 8 (objId 0x13 0) ++ leBytes 1 1 ++ leBytes 7 0) []), by decide +kernel⟩⟩

theorem meets_KnDeviceChanges :
    (∃ (s : State), ∃ r, Accepted s 0x0503 cableTestExe r ∧ objIn 0x01 16 r.obj = true ∧ isAbsent s r.obj = false ∧
    let p := objIdx r.obj
    (¬((podlAt s p).state = .lockout ∧ (podlAt s p).fault = 9)) ∧ (portAt s p).cableTest = false) ∧
    (∃ (s : State), ∃ r, ∃ d, Accepted s 0x0703 recSealExe r ∧
    let t0 := leAt r.params 8 8
    let t1 := leAt r.params 16 8
    leAt r.params 0 1 = 2 ^ d ∧ d < 2 ∧ leAt r.params 1 7 = 0 ∧ t0 ≤ t1 ∧ isMounted (driveAt s d) = true ∧
      sealsFit (sealDrive (driveAt s d) t0 t1 0 0 0) = true) ∧
    (∃ (s : State), ∃ r, ∃ e, Accepted s 0x0704 recUnsealExe r ∧ objIn 0x10 2 r.obj = true ∧
    let d := objIdx r.obj
    let x := driveAt s d
    leAt r.params 9 7 = 0 ∧ isMounted x = true ∧ x.seals[leAt r.params 8 1]? = some e) ∧
    (∃ (s : State), ∃ r, ∃ u, Accepted s 0x0705 recDriveExe r ∧ objIn 0x10 2 r.obj = true ∧
    let d := objIdx r.obj
    let act := leAt r.params 8 1
    act < 5 ∧ leAt r.params 9 7 = 0 ∧ ((driveAt s d).state = .absent → act = 4) ∧ driveAction s d act = .ok u) ∧
    (∃ (s : State), ∃ r, ∃ st, Accepted s 0x0705 recDriveExe r ∧ objIn 0x10 2 r.obj = true ∧
    let act := leAt r.params 8 1
    act < 5 ∧ leAt r.params 9 7 = 0 ∧ (driveAt s (objIdx r.obj)).state ≠ .absent ∧
      driveAction s (objIdx r.obj) act = .error st) ∧
    (∃ (s : State), ∃ r, Accepted s 0x0804 selftestRunExe r ∧ objIn 0x12 768 r.obj = true ∧
    let f := objIdx r.obj
    let loc := leAt r.params 8 4
    leAt r.params 13 3 = 0 ∧ loc ≤ 65535 ∧ leAt r.params 12 1 ≤ 1 ∧ testOf f ≠ .none ∧
      s.flt.disabled.contains (unitOf f) = false ∧ (∀ t ∈ s.flt.tests, ¬(t.src = f ∧ t.loc = loc))) :=
  ⟨⟨asks up (rqOf 0 0x0503 0 (leBytes 8 (objId 0x01 15)) []), (rqOf 0 0x0503 0 (leBytes 8 (objId 0x01 15)) []),
    by decide +kernel⟩,
   ⟨asks drives (rqOf 0 0x0703 0 (leBytes 1 1 ++ leBytes 7 0 ++ leBytes 8 1 ++ leBytes 8 1 ++ leBytes 4 0) []),
     (rqOf 0 0x0703 0 (leBytes 1 1 ++ leBytes 7 0 ++ leBytes 8 1 ++ leBytes 8 1 ++ leBytes 4 0) []), 0, by decide +kernel⟩,
   ⟨asks { drives with geley := { drives.geley with d0 := { drives.geley.d0 with seals := [{}] } } } (rqOf 0 0x0704 0 (leBytes 8 (objId 0x10 0) ++ leBytes 1 0 ++ leBytes 7 0) []), (rqOf 0 0x0704 0 (leBytes 8 (objId 0x10 0) ++ leBytes 1 0 ++ leBytes 7 0) []), {}, by decide +kernel⟩,
   ⟨asks drives (rqOf 0 0x0705 0 (leBytes 8 (objId 0x10 0) ++ leBytes 1 1 ++ leBytes 7 0) []),
     (rqOf 0 0x0705 0 (leBytes 8 (objId 0x10 0) ++ leBytes 1 1 ++ leBytes 7 0) []),
     (match driveAction (asks drives (rqOf 0 0x0705 0 (leBytes 8 (objId 0x10 0) ++ leBytes 1 1 ++
     leBytes 7 0) [])) 0 1 with | .ok u => u | .error _ => up), by decide +kernel, by decide +kernel, by decide +kernel,
     by decide +kernel, by decide +kernel, rfl⟩,
   ⟨asks drives (rqOf 0 0x0705 0 (leBytes 8 (objId 0x10 0) ++ leBytes 1 0 ++ leBytes 7 0) []),
     (rqOf 0 0x0705 0 (leBytes 8 (objId 0x10 0) ++ leBytes 1 0 ++ leBytes 7 0) []), 9, by decide +kernel⟩,
   ⟨asks up (rqOf 0 0x0804 0 (leBytes 8 (objId 0x12 112) ++ leBytes 4 65535 ++ leBytes 1 1 ++ leBytes 3 0) []),
     (rqOf 0 0x0804 0 (leBytes 8 (objId 0x12 112) ++ leBytes 4 65535 ++ leBytes 1 1 ++ leBytes 3 0) []), by decide +kernel⟩⟩

theorem meets_KnFirmwareChanges :
    (∃ (s : State), ∃ r, Accepted s 0x0907 fwWriteExe r ∧ objIn 0x15 2 r.obj = true ∧
    let k := objIdx r.obj
    let off := leAt r.params 8 4
    let fl := leAt r.params 12 1
    fl < 4 ∧ off % 4096 = 0 ∧ off + r.bulk.length ≤ 3145728 ∧ s.boot.fwBusy = none ∧ s.boot.runSlot ≠ k ∧
      (¬(s.boot.trialRunning = true ∧ s.boot.committed = k))) ∧
    (∃ (s : State), ∃ r, Accepted s 0x0908 fwActivateExe r ∧ objIn 0x15 2 r.obj = true) ∧
    (∃ (s : State), ∃ r, Accepted s 0x0909 configStoreExe r ∧ storeFormed r.bulk = true ∧ s.boot.storeBusy = none) ∧
    (∃ (s : State), ∃ r, Accepted s 0x0906 resetExe r ∧ r.obj = packageObj ∧ leAt r.params 8 1 = 1 ∧ s.clk.pllLocked = true ∧
      s.boot.tempShut = false ∧ s.boot.pendingReset = none) ∧
    (∃ (s : State), ∃ r, Accepted s 0x0906 resetExe r ∧ objIn 0x13 5 r.obj = true ∧ leAt r.params 8 1 = 0) :=
  ⟨⟨asks up (rqOf 0 0x0907 1 (leBytes 8 (objId 0x15 1) ++ leBytes 4 3141632 ++ leBytes 1 3 ++ leBytes 3 0) (leBytes 16 0)),
    (rqOf 0 0x0907 1 (leBytes 8 (objId 0x15 1) ++ leBytes 4 3141632 ++ leBytes 1 3 ++ leBytes 3 0) (leBytes 16 0)),
    by decide +kernel⟩,
   ⟨asks up (rqOf 0 0x0908 0 (leBytes 8 (objId 0x15 1) ++ leBytes 1 0 ++ leBytes 7 0) []),
     (rqOf 0 0x0908 0 (leBytes 8 (objId 0x15 1) ++ leBytes 1 0 ++ leBytes 7 0) []), by decide +kernel⟩,
   ⟨asks up (rqOf 0 0x0909 1 ([]) storeImage), (rqOf 0 0x0909 1 ([]) storeImage), by decide +kernel⟩,
   ⟨asks up (rqOf 0 0x0906 0 (leBytes 8 (objId 0x1B 0) ++ leBytes 1 1 ++ leBytes 7 0) []),
     (rqOf 0 0x0906 0 (leBytes 8 (objId 0x1B 0) ++ leBytes 1 1 ++ leBytes 7 0) []), by decide +kernel⟩,
   ⟨asks up (rqOf 0 0x0906 0 (leBytes 8 (objId 0x13 4) ++ leBytes 1 0 ++ leBytes 7 0) []),
     (rqOf 0 0x0906 0 (leBytes 8 (objId 0x13 4) ++ leBytes 1 0 ++ leBytes 7 0) []), by decide +kernel⟩⟩

theorem meets_KnScheduleChanges :
    (∃ (s : State), ∃ r, Accepted s 0x0901 schedLoadExe r ∧
    let off := leAt r.params 8 4
    leAt r.params 12 1 < 2 ∧ off + r.bulk.length ≤ 4194304 ∧ isAbsent s imageObj = false ∧ activationNear s = false ∧
      s.sched.staging = none) ∧
    (∃ (s : State), ∃ r, ∃ i, Accepted s 0x0901 schedLoadExe r ∧ leAt r.params 12 1 = 2 ∧ r.bulk = [] ∧ leAt r.params 8 4 = 0 ∧
      isAbsent s imageObj = false ∧ activationNear s = false ∧ s.sched.pending = some i) ∧
    (∃ (s : State), ∃ r, ∃ n, ∃ b, Accepted s 0x0903 ringWithdrawExe r ∧
    let w := withdrawCycles s
    leAt r.params 8 1 < 2 ∧ namedCycle s (leAt r.params 0 8) = some n ∧ boundary s n = some b ∧
      nt16 s + w * tcyc (s.cyc.image.getD {}) ≤ b ∧ nt16 s + ns16 1000000 ≤ b ∧ s.ring.state ≠ .withdrawn) ∧
    (∃ (s : State), ∃ r, Accepted s 0x0904 ringReadmitExe r ∧ s.ring.state = .withdrawn ∧ s.ring.cmdBypassByWithdraw = false) ∧
    (∃ (s : State), ∃ r, Accepted s 0x0904 ringReadmitExe r ∧ s.ring.state ≠ .withdrawn ∧ s.ring.cmdBypassByWithdraw = false) ∧
    (∃ (s : State), ∃ r, Accepted s 0x0905 bypassExe r ∧ r.obj = packageObj ∧ leAt r.params 9 7 = 0 ∧
    let act := leAt r.params 8 1
    act ≤ 1) :=
  ⟨⟨asks up (rqOf 0 0x0901 1 (leBytes 8 (objId 0x14 0) ++ leBytes 4 4194303 ++ leBytes 1 1 ++ leBytes 3 0) [0]),
    (rqOf 0 0x0901 1 (leBytes 8 (objId 0x14 0) ++ leBytes 4 4194303 ++ leBytes 1 1 ++ leBytes 3 0) [0]), by decide +kernel⟩,
   ⟨asks { ringUp with sched := { pending := some img, actTime := 4021000000, actCycle := some 4021 } } (rqOf 0 0x0901 0 (leBytes 8 (objId 0x14 0) ++ leBytes 4 0 ++ leBytes 1 2 ++ leBytes 3 0) []), (rqOf 0 0x0901 0 (leBytes 8 (objId 0x14 0) ++ leBytes 4 0 ++ leBytes 1 2 ++ leBytes 3 0) []), img, by decide +kernel⟩,
   ⟨asks ringUp (rqOf 0 0x0903 0 (leBytes 8 4003000000 ++ leBytes 1 1 ++ leBytes 7 0) []),
     (rqOf 0 0x0903 0 (leBytes 8 4003000000 ++ leBytes 1 1 ++ leBytes 7 0) []), 4003, ns16 4003000000, by decide +kernel⟩,
   ⟨asks { ringUp with ring := { ringUp.ring with state := .withdrawn } } (rqOf 0 0x0904 0 ([]) []), (rqOf 0 0x0904 0 ([]) []),
     by decide +kernel⟩,
   ⟨asks ringUp (rqOf 0 0x0904 0 ([]) []), (rqOf 0 0x0904 0 ([]) []), by decide +kernel⟩,
   ⟨asks up (rqOf 0 0x0905 0 (leBytes 8 (objId 0x1B 0) ++ leBytes 1 1 ++ leBytes 7 0) []),
     (rqOf 0 0x0905 0 (leBytes 8 (objId 0x1B 0) ++ leBytes 1 1 ++ leBytes 7 0) []), by decide +kernel⟩⟩

theorem meets_KnReadAnswers :
    (∃ (s : State), ∃ r, Accepted s 0x000C objReadExe r ∧ objStructs s r.obj ≠ [] ∧ isAbsent s r.obj = false ∧
      objCls r.obj ≠ 0x12) ∧
    (∃ (s : State), ∃ r, Accepted s 0x0101 ringStatusExe r ∧ r.isBulk = false) ∧
    (∃ (s : State), ∃ r, Accepted s 0x0304 gateReadExe r ∧ objIn 0x0B 18 r.obj = true ∧ isAbsent s r.obj = false ∧
      r.isBulk = false ∧ (gateAt s (objIdx r.obj)).pend = none) ∧
    (∃ (s : State), ∃ r, Accepted s 0x0402 preemptReadExe r ∧ objIn 0x01 18 r.obj = true ∧ isAbsent s r.obj = false) ∧
    (∃ (s : State), ∃ r, Accepted s 0x0502 portStatusExe r ∧ objIn 0x01 20 r.obj = true ∧ isAbsent s r.obj = false) ∧
    (∃ (s : State), ∃ r, ∃ o, Accepted s 0x0505 (moduleReadExe (some o)) r ∧
    let p := leAt r.params 0 1
    let n := leAt r.params 3 1
    leAt r.params 4 4 = 0 ∧ 16 ≤ p ∧ p < 20 ∧ 0 < n ∧ n ≤ 240 ∧ leAt r.params 2 1 + n ≤ 256 ∧ o.length = n ∧
      (inService s (if p < 18 then .edge else .ring) = true) ∧ Instr.wf (.knModuleRead (some o)) = true) ∧
    (∃ (s : State), ∃ r, Accepted s 0x0605 dmaqStatusExe r ∧ dmaObj s r.obj = true ∧ isAbsent s r.obj = false) ∧
    (∃ (s : State), ∃ r, Accepted s 0x0707 recStatusExe r) ∧
    (∃ (s : State), ∃ r, Accepted s 0x0803 faultLogReadExe r ∧ leAt r.params 12 1 = 0 ∧ r.isBulk = false ∧
    let n := leAt r.params 8 4
    1 ≤ n ∧ n ≤ 16384) ∧
    (∃ (s : State), ∃ r, Accepted s 0x0902 schedStatusExe r) :=
  ⟨⟨asks up (rqOf 0 0x000C 0 (leBytes 8 (objId 0x01 17)) []), (rqOf 0 0x000C 0 (leBytes 8 (objId 0x01 17)) []),
    by decide +kernel⟩,
   ⟨asks up (rqOf 0 0x0101 0 ([]) []), (rqOf 0 0x0101 0 ([]) []), by decide +kernel⟩,
   ⟨asks up (rqOf 0 0x0304 0 (leBytes 8 (objId 0x0B 17)) []), (rqOf 0 0x0304 0 (leBytes 8 (objId 0x0B 17)) []),
     by decide +kernel⟩,
   ⟨asks up (rqOf 0 0x0402 0 (leBytes 8 (objId 0x01 17)) []), (rqOf 0 0x0402 0 (leBytes 8 (objId 0x01 17)) []),
     by decide +kernel⟩,
   ⟨asks up (rqOf 0 0x0502 0 (leBytes 8 (objId 0x01 19)) []), (rqOf 0 0x0502 0 (leBytes 8 (objId 0x01 19)) []),
     by decide +kernel⟩,
   ⟨asks up (rqOf 0 0x0505 0 (leBytes 1 19 ++ leBytes 1 0 ++ leBytes 1 16 ++ leBytes 1 240 ++ leBytes 4 0) []),
     (rqOf 0 0x0505 0 (leBytes 1 19 ++ leBytes 1 0 ++ leBytes 1 16 ++ leBytes 1 240 ++ leBytes 4 0) []), leBytes 240 0,
     by decide +kernel⟩,
   ⟨asks up (rqOf 0 0x0605 0 (leBytes 8 (objId 0x0C 0)) []), (rqOf 0 0x0605 0 (leBytes 8 (objId 0x0C 0)) []),
     by decide +kernel⟩,
   ⟨asks up (rqOf 0 0x0707 0 ([]) []), (rqOf 0 0x0707 0 ([]) []), by decide +kernel⟩,
   ⟨asks up (rqOf 0 0x0803 0 (leBytes 8 0 ++ leBytes 4 16384 ++ leBytes 1 0 ++ leBytes 3 0) []),
     (rqOf 0 0x0803 0 (leBytes 8 0 ++ leBytes 4 16384 ++ leBytes 1 0 ++ leBytes 3 0) []), by decide +kernel⟩,
   ⟨asks up (rqOf 0 0x0902 0 ([]) []), (rqOf 0 0x0902 0 ([]) []), by decide +kernel⟩⟩

theorem meets_KnReadsOfPart :
    (∃ (s : State), ∃ r, Accepted s 0x0003 heartbeatExe r) ∧
    (∃ (s : State), ∃ r, Accepted s 0x0007 ownerStatusExe r ∧ s.kn.journal ≠ []) ∧
    (∃ (s : State), ∃ r, Accepted s 0x0008 auditReadExe r ∧ s.kn.journal ≠ [] ∧ r.isBulk = true ∧
    let n := leAt r.params 8 4
    1 ≤ n ∧ n ≤ 8192) ∧
    (∃ (s : State), ∃ r, Accepted s 0x000B versionExe r ∧ s.boot.runSlot < 2) ∧
    (∃ (s : State), ∃ r, Accepted s 0x0106 evcapReadExe r ∧ evcapSetCmd.objOk s r.obj = true) ∧
    (∃ (s : State), ∃ r, Accepted s 0x0308 qsampleReadExe r ∧ objIn 0x02 160 r.obj = true ∧ isAbsent s r.obj = false) ∧
    (∃ (s : State), ∃ r, Accepted s 0x0702 recFlushExe r ∧ objIn 0x0F 256 r.obj = true) ∧
    (∃ (s : State), ∃ r, Accepted s 0x0805 counterReadExe r ∧ leAt r.params 8 1 = 1 ∧ leAt r.params 9 7 = 0 ∧ r.isBulk = false ∧
    let n := leAt r.params 4 4
    1 ≤ n ∧ n ≤ 8192) ∧
    (∃ (s : State), ∃ r, ∃ x, Accepted s 0x090A configReadExe r ∧ r.isBulk = false ∧ validStore s.boot = some x) :=
  ⟨⟨asks up (rqOf 0 0x0003 0 ([]) []), (rqOf 0 0x0003 0 ([]) []), by decide +kernel⟩,
   ⟨asks { up with kn := { up.kn with journal := [leBytes 128 0], seq := 1 } } (rqOf 0 0x0007 0 ([]) []),
     (rqOf 0 0x0007 0 ([]) []), by decide +kernel⟩,
   ⟨asks { up with kn := { up.kn with journal := [leBytes 128 0], seq := 1 } } (rqOf 0 0x0008 1 (leBytes 8 0 ++
     leBytes 4 8192) []), (rqOf 0 0x0008 1 (leBytes 8 0 ++ leBytes 4 8192) []), by decide +kernel⟩,
   ⟨asks up (rqOf 0 0x000B 0 ([]) []), (rqOf 0 0x000B 0 ([]) []), by decide +kernel⟩,
   ⟨asks up (rqOf 0 0x0106 0 (leBytes 8 (objId 0x11 8) ++ leBytes 4 15) []), (rqOf 0 0x0106 0 (leBytes 8 (objId 0x11 8) ++
     leBytes 4 15) []), by decide +kernel⟩,
   ⟨asks up (rqOf 0 0x0308 0 (leBytes 8 (objId 0x02 159)) []), (rqOf 0 0x0308 0 (leBytes 8 (objId 0x02 159)) []),
     by decide +kernel⟩,
   ⟨asks up (rqOf 0 0x0702 0 (leBytes 8 (objId 0x0F 255)) []), (rqOf 0 0x0702 0 (leBytes 8 (objId 0x0F 255)) []),
     by decide +kernel⟩,
   ⟨asks up (rqOf 0 0x0805 0 (leBytes 4 0 ++ leBytes 4 8192 ++ leBytes 1 1 ++ leBytes 7 0) []), (rqOf 0 0x0805 0 (leBytes 4 0 ++
     leBytes 4 8192 ++ leBytes 1 1 ++ leBytes 7 0) []), by decide +kernel⟩,
   ⟨asks { up with boot := { up.boot with store0 := { bytes := storeImage, valid := true } } } (rqOf 0 0x090A 0 ([]) []),
     (rqOf 0 0x090A 0 ([]) []), { bytes := storeImage, valid := true }, by decide +kernel⟩⟩

/-! ### Small tests: the spec's check values, and single steps whose results its rules give -/

/-- What a command leaves; the reset state where it stops. -/
def left (o : Host.Outcome State Fault Refusal) : State :=
  match o with
  | .next t => t
  | _ => State.reset

/-- R58. -/
theorem test_hcrc_check_value : crc16 (ascii "123456789") = 0x29B1 := by decide +kernel

/-- R333. -/
theorem test_crc32c_check_value : crc32c (ascii "123456789") = 0xE3069283 := by decide +kernel

/-- R397: a claim of the unowned part makes its master the owner. -/
theorem test_claim_owner :
    (left (exec .knClaim (asks { up with kn := {} } (rqOf 1 0x0001 0 (leBytes 4 0) [])))).kn.owner = some 1 := by decide +kernel

/-- R397: a claim of an owned part leaves its owner. -/
theorem test_claim_owned :
    (left (exec .knClaim (asks up (rqOf 1 0x0001 0 (leBytes 4 0) [])))).kn.owner = some 0 := by decide +kernel

/-- R398: a set command of a master that does not own the part is answered NOT_OWNER, status 7 in byte 3. -/
theorem test_not_owner :
    leAt (mbxAt (left (exec .knQsampleSet (asks up (rqOf 1 0x0307 0 (leBytes 8 (objId 0x1B 0) ++
      leBytes 8 0) [])))) 1).resp 3 1 =
      7 := by decide +kernel

/-- R212, R409: the owner sets the sampling period, and the parameter its MASK leaves out stays. -/
theorem test_qsample_period :
    let t := left (exec .knQsampleSet (asks up (rqSet 0x0307 0x1B 0 1 (leBytes 4 1000))))
    t.eg.qsPeriod = 1000 ∧ t.eg.qsE = 7 := by decide +kernel

/-- R409: a value out of range is BAD_VALUE, status 6, and DETAIL counts its position from 1. -/
theorem test_qsample_range :
    let o := (mbxAt (left (exec .knQsampleSet (asks up (rqSet 0x0307 0x1B 0 2 (leBytes 8 (17 * 2 ^ 32)))))) 0).resp
    leAt o 3 1 = 6 ∧ leAt o 15 1 = 2 := by decide +kernel

/-- R399: a heartbeat restarts the lease from the present tick. -/
theorem test_heartbeat_lease :
    (left (exec .knHeartbeat (asks up (rq 0x0003 [])))).kn.leaseEnd = 5000000000 + 1000 * 1250000 := by decide +kernel

/-- R399: at its deadline the lease lapses and the part is unowned. -/
theorem test_lease_lapses :
    (left (exec .leaseLapse { up with kn := { up.kn with leaseEnd := 5000000000 } })).kn.owner = none := by decide +kernel

/-- R454: a counter one below its limit counts the event and saturates. -/
theorem test_counter_saturates :
    let c := tblGet ({} : Stat) (count { up with ctr := { stat := [(5, { v := 2 ^ 40 - 2 })] } } 0 0 5).ctr.stat 5
    c.v = 2 ^ 40 - 1 ∧ c.sat = true := by decide +kernel

/-- R450: a performance counter that passes 2⁵⁶ − 1 wraps to 0 and counts the wrap. -/
theorem test_perf_wraps :
    tblGet ({} : Perf) (perf { up with ctr := { perf := [(5, { v := 2 ^ 56 - 1 })] } } 5).ctr.perf 5 = { v := 0, wrap := 1 } := by
  decide +kernel

/-- R50: the mirrored position of slot 1 of 4 on CCW is the last. -/
theorem test_window_mirror : winPos img .ccw 1 = 4 ∧ winPos img .cw 1 = 1 := by decide

/-- R239: a PAUSE frame of a longest quanta pauses a class of the port's mask for 65 535 × 512 bit times at 25 Gb/s. -/
theorem test_pause_quanta :
    tblGet 0 (pauseAt (left (exec (.pauseFrameRx 17 (etherFrame 0x8808 (beBytes 2 1 ++
      beBytes 2 0xFFFF))) linked17)) 17).upto 7 =
      5000000000 + octetTicks 25000 (64 * 65535) := by decide +kernel

/-- R307: a read of BAR0 while FLR runs answers all ones. -/
theorem test_read_during_flr :
    (left (exec (.hostSyncRead 0) { up with host := { up.host with funcs := [(0, { flr := true })] } })).trace =
      [.readData 0 0xFFFFFFFF] := by decide +kernel

end Sys2Proof.Tests
end

section
/-! PROOFS. The answers of BAR0 to reads and writes, of the SPI address space to writes, and what the part holds at reset: the rules
of these accesses, and with them the statements O1, O37 and O39. -/

namespace Sys2Proof.Machine

open Sys2Proof

/-! ### A row's outcome -/

/-- An effect that leaves the queue of waiting commands alone is kept whole. -/
theorem keeping_eq {s t : State} (h : t.pending = s.pending) : keeping s t = t := by
  rw [keeping, ← h]

/-- A row with its operands in range takes its effect, where the effect leaves the queue alone. -/
theorem exec_eq_next {i : Instr} {s t u : State} (hx : exec i s = checked (Instr.wf i) s t) (hw : Instr.wf i = true) (ht : t = u)
    (hp : u.pending = s.pending) : exec i s = .next u := by
  rw [hx, checked_good s t hw, ht, keeping_eq hp]

/-! ### Octets of a word -/

@[simp] theorem length_leBytes (n v : Nat) : (leBytes n v).length = n := by
  induction n generalizing v with
  | zero => rfl
  | succ n ih => simp [leBytes, ih]

/-- The octets of a number spell it, modulo what they have room for. -/
theorem leNat_leBytes (n v : Nat) : leNat (leBytes n v) = v % 256 ^ n := by
  induction n generalizing v with
  | zero => simp [leBytes, leNat, Nat.mod_one]
  | succ n ih => simp [leBytes, leNat, ih, Nat.pow_succ', Nat.mod_mul]

/-- A 32-bit word reads as it was spelt. -/
theorem leAt_leBytes_word {v : Nat} (h : v < 2 ^ 32) : leAt (leBytes 4 v) 0 4 = v := by
  have hs : slice (leBytes 4 v) 0 4 = leBytes 4 v := by simp [slice]
  rw [leAt, hs, leNat_leBytes, Nat.mod_eq_of_lt (by omega)]

/-! ### Reads of BAR0 (R10, R88, R298, R301, R452) -/

theorem barRead_of_reads {s : State} {f : Nat} (he : funcExists s f = true) (h : Reads s f) (live : State × Nat) :
    barRead s f live = emit live.1 (.readData f live.2) := by
  simp [barRead, he, h.1, h.2]

theorem barRead_of_not_reads {s : State} {f : Nat} (he : funcExists s f = true) (h : ¬Reads s f) (live : State × Nat) :
    barRead s f live = emit s (.readData f 0xFFFFFFFF) := by
  have hdead : (!barLive s f || s.boot.fallback) = true := by
    cases hl : barLive s f
    · rfl
    · cases hb : s.boot.fallback
      · exact absurd ⟨hl, hb⟩ h
      · rfl
  simp only [barRead, he, hdead, if_true, Bool.not_true, Bool.false_eq_true, if_false]

/-- A counter page that is granted is read with the latch of the high word. -/
theorem perfCntLoRead_of_page {s : State} {f : Nat} (h : pageSeen s f = true) (i : Nat) :
    perfCntLoRead s f i =
      barRead s f ({ s with host := { s.host with perfLatch := tblSet (0, 0) s.host.perfLatch f (i + 1, perfHigh s i) } },
        (tblGet {} s.ctr.perf i).v % 2 ^ 32) :=
  if_pos h

/-- A counter page that is not granted reads 0 (R297). -/
theorem perfCntLoRead_of_no_page {s : State} {f : Nat} (h : pageSeen s f = false) (i : Nat) :
    perfCntLoRead s f i = barRead s f (s, 0) :=
  if_neg (by simp [h])

/-- Granted or not, a counter page answers all ones where BAR0 answers no read (R298). -/
theorem perfCntLoRead_of_not_reads {s : State} {f : Nat} (he : funcExists s f = true) (h : ¬Reads s f) (i : Nat) :
    perfCntLoRead s f i = emit s (.readData f 0xFFFFFFFF) := by
  cases hp : pageSeen s f
  · rw [perfCntLoRead_of_no_page hp, barRead_of_not_reads he h]
  · rw [perfCntLoRead_of_page hp, barRead_of_not_reads he h]

theorem badBar_read {s : State} {f : Nat} (he : funcExists s f = true) (hl : barLive s f = true) :
    badBar s f false = emit (count s 0x09 0 0) (.readData f 0xFFFFFFFF) := by
  simp [badBar, he, hl]

theorem badBar_write {s : State} {f : Nat} (hl : barLive s f = true) : badBar s f true = count s 0x09 0 0 := by
  simp [badBar, hl]

/-- Settles O1: each row is one read of BAR0, which is answered where it reads and else by all ones; an access that is not allowed is
counted. -/
theorem hostReadsThatChangeState : Obligations.HostReadsThatChangeState := by
  unfold Obligations.HostReadsThatChangeState
  refine ⟨?_, ?_, ?_, ?_, ?_, ?_⟩
  · intro s f hw he hr
    exact exec_eq_next rfl hw (barRead_of_reads he hr _) rfl
  · intro s f i hw he hr hp
    exact exec_eq_next rfl hw ((perfCntLoRead_of_page hp i).trans (barRead_of_reads he hr _)) rfl
  · intro s f i hw he hr hp
    exact exec_eq_next rfl hw ((perfCntLoRead_of_no_page hp i).trans (barRead_of_reads he hr _)) rfl
  · intro s f hw he hr
    exact exec_eq_next rfl hw (barRead_of_reads he hr _) rfl
  · intro s f hw he hl
    exact ⟨exec_eq_next rfl hw (badBar_read he hl) rfl, exec_eq_next rfl rfl (badBar_write hl) rfl⟩
  · intro s f i _ he hr c hc hw
    simp only [List.mem_cons, List.not_mem_nil, or_false] at hc
    obtain rfl | rfl | rfl := hc
    · exact exec_eq_next rfl hw (barRead_of_not_reads he hr _) rfl
    · exact exec_eq_next rfl hw (perfCntLoRead_of_not_reads he hr i) rfl
    · exact exec_eq_next rfl hw (barRead_of_not_reads he hr _) rfl

/-! ### Writes of BAR0 (R10, R293, R299, R386) -/

theorem barWrite_of_not_live {s : State} {f : Nat} (h : barLive s f = false) (off : Nat) (d : Octets) : barWrite s f off d = s := by
  simp [barWrite, h]

theorem barWrite_word {s : State} {f off : Nat} {d : Octets} (hl : barLive s f = true) (hd : d.length = 4) (ho : off % 4 = 0) :
    barWrite s f off d = barWriteWord s f off (leAt d 0 4) := by
  simp [barWrite, hl, hd, ho]

/-- A write that is neither an aligned word nor an aligned pair of words is discarded and counted. -/
theorem barWrite_refused {s : State} {f off : Nat} {d : Octets} (hl : barLive s f = true) (h4 : ¬(d.length = 4 ∧ off % 4 = 0))
    (h8 : ¬(d.length = 8 ∧ off % 8 = 0)) : barWrite s f off d = count s 0x09 0 0 := by
  rw [barWrite, if_neg (by simp [hl]), if_neg h4, if_neg h8]

/-- Below 0x240 the space of a PF's mailbox is its BAR0. -/
theorem registerWrite_mailbox {s : State} {m off : Nat} (hm : m < 2) (ho : off < 0x240) (d : Octets) :
    registerWrite s (.mailbox m) off d = barWrite s (m * 64) off d := by
  simp only [registerWrite]
  rw [if_neg (by omega), if_neg (by omega), if_pos (by omega), if_pos ho]

/-- The words of a PF's BAR0 below 0x100 are its MBX_REQ. -/
theorem barWriteWord_mailbox {off : Nat} (ho : off < 0x100) (s : State) (m v : Nat) :
    barWriteWord s (m * 64) off v = mbxWrite s m off (leBytes 4 v) := by
  simp [barWriteWord, ho]

theorem mbxWrite_busy {s : State} {m : Nat} (h : (mbxAt s m).state = .busy) (off : Nat) (d : Octets) :
    mbxWrite s m off d = count s 0x09 m 9 :=
  if_pos h

theorem mbxWrite_of_not_busy {s : State} {m : Nat} (h : (mbxAt s m).state ≠ .busy) (off : Nat) (d : Octets) :
    mbxWrite s m off d = setMbx s m { mbxAt s m with req := overwrite (padTo 256 (mbxAt s m).req) off d } :=
  if_neg h

/-- An aligned word in MBX_REQ is written to the mailbox. -/
theorem registerWrite_request {s : State} {m off : Nat} {d : Octets} (hm : m < 2) (hl : barLive s (m * 64) = true) (ho : off < 0x100)
    (hd : d.length = 4) (ha : off % 4 = 0) :
    registerWrite s (.mailbox m) off d = mbxWrite s m off (leBytes 4 (leAt d 0 4)) := by
  rw [registerWrite_mailbox hm (by omega), barWrite_word hl hd ha, barWriteWord_mailbox ho]

/-- The MSI-X table stands on a 4-octet boundary, above the mailbox of a PF. -/
theorem msixBase_aligned (f : Nat) : msixBase f % 4 = 0 ∧ 0x2000 ≤ msixBase f := by
  unfold msixBase
  split <;> decide

theorem barWriteWord_msix {s : State} {f o : Nat} (hb : s.boot.fallback = false) (ho : o < 16 * numVecs f) (v : Nat) :
    barWriteWord s f (msixBase f + o) v = msixWrite s f o v := by
  obtain ⟨-, hbase⟩ := msixBase_aligned f
  have hreq : ¬msixBase f + o < 0x100 := by omega
  have hgo : msixBase f + o ≠ 0x200 := by omega
  simp [barWriteWord, hreq, hgo, hb, ho]

/-- The third word of a vector's entry is its message data (R299). -/
theorem msixWrite_data (s : State) (f n v : Nat) :
    msixWrite s f (16 * n + 8) v = setVec s f n { vecAt s f n with data := v % 2 ^ 32 } := by
  have hn : (16 * n + 8) / 16 = n := by omega
  have hword : (16 * n + 8) / 4 % 4 = 2 := by omega
  simp only [msixWrite, hn, hword]

theorem registerWrite_msix_data {s : State} {f n v : Nat} (hl : barLive s f = true) (hb : s.boot.fallback = false)
    (hn : n < numVecs f) (hv : v < 2 ^ 32) :
    registerWrite s (.msix f) (16 * n + 8) (leBytes 4 v) = setVec s f n { vecAt s f n with data := v } := by
  obtain ⟨hbase, -⟩ := msixBase_aligned f
  calc registerWrite s (.msix f) (16 * n + 8) (leBytes 4 v)
      = barWriteWord s f (msixBase f + (16 * n + 8)) (leAt (leBytes 4 v) 0 4) :=
        barWrite_word hl (length_leBytes 4 v) (by omega)
    _ = msixWrite s f (16 * n + 8) v := by rw [leAt_leBytes_word hv, barWriteWord_msix hb (by omega)]
    _ = setVec s f n { vecAt s f n with data := v } := by rw [msixWrite_data, Nat.mod_eq_of_lt hv]

/-! ### Writes of the SPI address space (R442, R468, R507) -/

theorem spiWrite_of_not_ready {s : State} (h : s.boot.ready = false) (a : Nat) (d : Octets) : spiWrite s a d = s := by
  simp [spiWrite, h]

/-- A frame that holds one aligned word writes that word and no other. -/
theorem spiWrite_word {s : State} {a v : Nat} (h : s.boot.ready = true) (ha : a % 4 = 0) (hv : v < 2 ^ 32) :
    spiWrite s a (leBytes 4 v) = spiWriteWord s a v := by
  simp [spiWrite, h, ha, spiWords, leAt_leBytes_word hv]

theorem spiWriteWord_status (s : State) (v : Nat) : spiWriteWord s 0x50008 v = w1c s v 0 := rfl

/-- A write of TRS_STATUS clears its own flags by ones, and leaves those of TRS_BOOT (R12, R468). -/
theorem w1c_status (s : State) (v : Nat) :
    w1c s v 0 = { s with boot := { s.boot with
      pllLost := s.boot.pllLost && !bitOf v 11, refLost := s.boot.refLost && !bitOf v 10
      tempTripped := s.boot.tempTripped && !bitOf v 9, wdtExpired := s.boot.wdtExpired && !bitOf v 8 } } := by
  have hboot : (s.boot.rolledBack && !bitOf 0 7) = s.boot.rolledBack := Bool.and_true _
  rw [w1c, hboot]

/-- Settles O37: a write reaches the register that its space and offset name, or is refused before it by BAR0 or the SPI target. -/
theorem registerWrites : Obligations.RegisterWrites := by
  unfold Obligations.RegisterWrites
  refine ⟨?_, ?_, ?_, ?_, ?_, ?_, ?_⟩
  · intro s m off d hw hm hl ho hd ha
    have hreq := registerWrite_request hm hl ho hd ha
    refine ⟨fun hst => ?_, fun hst => exec_eq_next rfl hw (hreq.trans (mbxWrite_busy hst _ _)) rfl⟩
    exact ⟨_, exec_eq_next rfl hw (hreq.trans (mbxWrite_of_not_busy hst _ _)) rfl, mbxAt_setMbx _ _ _,
      fun k hk => mbxAt_setMbx_ne _ _ _ _ hk⟩
  · intro s f off d hw hl h4 h8
    exact exec_eq_next rfl hw (barWrite_refused hl (fun h => h4 h.1) (fun h => h8 h.1)) rfl
  · intro s f off d hw hl ha
    exact exec_eq_next rfl hw (barWrite_refused hl (fun h => ha h.2) (by omega)) rfl
  · intro s f off d hw hl
    exact exec_eq_next rfl hw (barWrite_of_not_live hl off d) rfl
  · intro s f n v hw hl hb hn hv
    exact exec_eq_next rfl hw (registerWrite_msix_data hl hb hn hv) rfl
  · intro s v hw hv hr
    have hword := spiWrite_word (a := 0x50008) hr (by decide) hv
    exact exec_eq_next rfl hw ((hword.trans (spiWriteWord_status s v)).trans (w1c_status s v)) rfl
  · intro s o d hw hr
    exact exec_eq_next rfl hw (spiWrite_of_not_ready hr o d) rfl

/-! ### The part at reset -/

/-- An object that a table does not list stands at its default (log entry 7). -/
@[simp] theorem tblGet_nil {α : Type} (d : α) (k : Nat) : tblGet d [] k = d := rfl

theorem mbxAt_reset (m : Nat) : mbxAt State.reset m = {} := tblGet_nil _ m

theorem gateAt_reset (p : Nat) : gateAt State.reset p = {} := tblGet_nil _ p

theorem qAt_reset (q : Nat) : qAt State.reset q = {} := tblGet_nil _ q

/-- No slot of a function holds a queue at reset. -/
theorem not_slotOn_reset (f slot q : Nat) : ¬SlotOn State.reset f slot q := by
  rintro ⟨-, -, hslot⟩
  have hempty : tblGet 0 State.reset.host.slots (f * 4096 + slot) = 0 := tblGet_nil 0 _
  omega

/-- Where no command waits, every waiting command has its operands in range. -/
theorem inv_of_pending_nil {s : State} (h : s.pending = []) : s.Inv := by
  intro c hc
  rw [h] at hc
  exact absurd hc List.not_mem_nil

/-- Settles O39: the registers of the reset state hold their defaults, every table is empty, so each of its objects stands at its
default, and no command waits. -/
theorem resetValues : Obligations.ResetValues := by
  unfold Obligations.ResetValues
  refine ⟨rfl, rfl, rfl, rfl, rfl, fun m => ?mailbox, fun p => ?portDef, fun k => ?meter, fun p => ?gate, fun q => ?queue,
    not_slotOn_reset, tblGet_nil _, tblGet_nil _, rfl, rfl, rfl, inv_of_pending_nil rfl⟩
  case mailbox => rw [mbxAt_reset]
  case portDef => exact ⟨rfl, rfl, rfl⟩
  case meter => exact ⟨rfl, rfl, rfl, rfl, rfl⟩
  case gate => rw [gateAt_reset]; exact ⟨rfl, rfl, rfl, rfl, rfl, rfl⟩
  case queue => rw [qAt_reset]; exact ⟨rfl, rfl, rfl⟩

end Sys2Proof.Machine
end

section
/-! PROOFS. What recoveries of queues and the loss of the Host and Record regions read and keep: none of it depends on the counters, on
what goes out, on the vectors or on Keanak, and the requests that wait, the journal's SEQ and the commands that wait stay. With it what
an accepted command of Keanak does that records a change of an object, and the statement O55. -/

namespace Sys2Proof.Machine

/- The proofs below run one at a time: each waits for those it cites, and many that wait need many threads. -/
set_option Elab.async false

open Sys2Proof

/-! ### What the operations of queues neither read nor answer with -/

/-- A state without what goes out, the counters, the vectors, Keanak and the commands that wait: of these the operations of this part
read nothing that decides what else they do. -/
def shown (s : State) : State :=
  { s with trace := [], ctr := {}, kn := {}, pending := [], host := { s.host with vecs := [] } }

/-- What those operations keep of the rest: the masters whose requests wait, the SEQ of the next record, and the commands that wait. -/
def kept (s : State) : List Nat × Nat × List Instr := (s.kn.waiting.map (·.master), s.kn.seq, s.pending)

/-- Nothing that a state shows is changed, and nothing that it keeps. -/
def Unseen (s t : State) : Prop := shown t = shown s ∧ kept t = kept s

theorem Unseen.refl (s : State) : Unseen s s := ⟨rfl, rfl⟩

theorem Unseen.trans {s t u : State} (h : Unseen s t) (g : Unseen t u) : Unseen s u := ⟨g.1.trans h.1, g.2.trans h.2⟩

theorem Unseen.foldl {β : Type} {f : State → β → State} (hf : ∀ s b, Unseen s (f s b)) (l : List β) (s : State) :
    Unseen s (l.foldl f s) := by
  induction l generalizing s with
  | nil => exact .refl s
  | cons b l ih => exact (hf s b).trans (ih _)

theorem emit_unseen (s : State) (o : Output) : Unseen s (emit s o) := ⟨rfl, rfl⟩

theorem countN_unseen (s : State) (f o e n : Nat) : Unseen s (countN s f o e n) := ⟨rfl, rfl⟩

theorem setVec_unseen (s : State) (f v : Nat) (z : Vec) : Unseen s (setVec s f v z) := ⟨rfl, rfl⟩

theorem markVec_unseen (s : State) (f v : Nat) : Unseen s (markVec s f v) := by
  unfold markVec trySend
  split
  · exact ((setVec_unseen s f v _).trans (setVec_unseen _ f v _)).trans (emit_unseen _ _)
  · exact setVec_unseen s f v _

theorem signal_unseen (s : State) (n : Nat) : Unseen s (signal s n) := by
  unfold signal
  split
  · exact .refl s
  · split
    · exact markVec_unseen s _ _
    · exact .refl s

theorem perfN_unseen (s : State) (i n : Nat) : Unseen s (perfN s i n) := by
  unfold perfN
  dsimp only
  split
  · exact ⟨rfl, rfl⟩
  · exact signal_unseen _ _

theorem perf_unseen (s : State) (i : Nat) : Unseen s (perf s i) := perfN_unseen s i 1

theorem fireCq_unseen (s : State) (cq ev : Nat) : Unseen s (fireCq s cq ev) := by
  unfold fireCq
  dsimp only
  split
  · exact signal_unseen s _
  · exact (signal_unseen s _).trans (perf_unseen _ _)

theorem hostWr_unseen (s : State) (q addr : Nat) (o : Octets) (n r : Bool) : Unseen s (hostWr s q addr o n r) := by
  unfold hostWr
  split
  · exact .refl s
  · exact ((emit_unseen s _).trans (perfN_unseen _ _ _)).trans (perf_unseen _ _)

theorem broadcast_unseen (s : State) (fs : List Nat) : Unseen s (broadcast s fs) := by
  refine Unseen.foldl (fun s f => ?_) fs s
  split
  · exact .refl s
  · split
    · exact markVec_unseen s f _
    · exact .refl s

theorem boundaryDrop_unseen (s : State) (r : Region) : Unseen s (boundaryDrop s r) := (countN_unseen s _ _ _ 1).trans (perf_unseen _ _)

theorem fireError_unseen (s : State) (q : Nat) : Unseen s (fireError s q) := by
  unfold fireError
  split
  · exact fireCq_unseen s _ _
  · split
    · exact fireCq_unseen s _ _
    · exact signal_unseen s _

/-- Requests that are held or released wait under the same masters. -/
theorem updateHeld_unseen (s : State) : Unseen s (updateHeld s) := by
  unfold updateHeld
  extract_lets one s1
  have hone : ∀ t r, Unseen t (one t r) := by
    intro t r
    simp only [one]
    split <;> split <;> exact ⟨rfl, rfl⟩
  have hmasters : (s1.kn.waiting.map fun r => { r with held := heldNow s r }).map (·.master) = s1.kn.waiting.map (·.master) := by
    simp [Function.comp_def]
  exact (Unseen.foldl hone s.kn.waiting s).trans ⟨rfl, congrArg (·, s1.kn.seq, s1.pending) hmasters⟩

/-! ### Twins -/

/-- Two states that show the same; the first keeps `x` and the second `y`. An operation that takes twins to twins keeps what a state
keeps, and what it shows depends only on what the state before it shows. -/
structure Twins (x y : List Nat × Nat × List Instr) (s t : State) : Prop where
  shown_eq : shown s = shown t
  left : kept s = x
  right : kept t = y

namespace Twins

variable {x y : List Nat × Nat × List Instr} {s t : State}

theorem refl (s : State) : Twins (kept s) (kept s) s s := ⟨rfl, rfl, rfl⟩

/-- A reading of what a state shows agrees on twins. -/
theorem read {α : Type} (h : Twins x y s t) (r : State → α) (hr : ∀ a, r (shown a) = r a := by exact fun _ => rfl) : r s = r t := by
  rw [← hr s, ← hr t, h.shown_eq]

/-- An update of what a state shows, by what it shows, takes twins to twins. -/
theorem update (h : Twins x y s t) (f : State → State) (hf : ∀ a, shown (f a) = f (shown a) := by exact fun _ => rfl)
    (hk : ∀ a, kept (f a) = kept a := by exact fun _ => rfl) : Twins x y (f s) (f t) :=
  ⟨by rw [hf, hf, h.shown_eq], (hk s).trans h.left, (hk t).trans h.right⟩

theorem unseen (h : Twins x y s t) {u v : State} (hs : Unseen s u) (ht : Unseen t v) : Twins x y u v :=
  ⟨by rw [hs.1, ht.1, h.shown_eq], hs.2.trans h.left, ht.2.trans h.right⟩

theorem foldl {β : Type} {f g : State → β → State} {l : List β} (h : Twins x y s t)
    (hf : ∀ b ∈ l, ∀ {u v : State}, Twins x y u v → Twins x y (f u b) (g v b)) : Twins x y (l.foldl f s) (l.foldl g t) := by
  induction l generalizing s t with
  | nil => exact h
  | cons b l ih => exact ih (hf b (by simp) h) (fun c hc => hf c (by simp [hc]))

theorem ite {c : Prop} [Decidable c] {s' t' : State} (h : Twins x y s t) (h' : Twins x y s' t') :
    Twins x y (if c then s else s') (if c then t else t') := by
  split
  · exact h
  · exact h'

theorem count (h : Twins x y s t) (f o e : Nat) : Twins x y (count s f o e) (count t f o e) :=
  h.unseen (countN_unseen s f o e 1) (countN_unseen t f o e 1)

theorem signal (h : Twins x y s t) (n : Nat) : Twins x y (signal s n) (signal t n) := h.unseen (signal_unseen s n) (signal_unseen t n)

theorem perfN (h : Twins x y s t) (i n : Nat) : Twins x y (perfN s i n) (perfN t i n) :=
  h.unseen (perfN_unseen s i n) (perfN_unseen t i n)

theorem perf (h : Twins x y s t) (i : Nat) : Twins x y (perf s i) (perf t i) := h.perfN i 1

theorem fireCq (h : Twins x y s t) (cq ev : Nat) : Twins x y (fireCq s cq ev) (fireCq t cq ev) :=
  h.unseen (fireCq_unseen s cq ev) (fireCq_unseen t cq ev)

theorem hostWr (h : Twins x y s t) (q addr : Nat) (o : Octets) (n r : Bool) : Twins x y (hostWr s q addr o n r) (hostWr t q addr o n r) :=
  h.unseen (hostWr_unseen s q addr o n r) (hostWr_unseen t q addr o n r)

theorem updateHeld (h : Twins x y s t) : Twins x y (updateHeld s) (updateHeld t) := h.unseen (updateHeld_unseen s) (updateHeld_unseen t)

theorem setQ (h : Twins x y s t) (q : Nat) (z : QReg) : Twins x y (setQ s q z) (setQ t q z) := h.update (Machine.setQ · q z)

theorem setJob (h : Twins x y s t) (j : Job) : Twins x y (setJob s j) (setJob t j) := h.update (Machine.setJob · j)

theorem dropJob (h : Twins x y s t) (q idx : Nat) : Twins x y (dropJob s q idx) (dropJob t q idx) := h.update (Machine.dropJob · q idx)

theorem qAt (h : Twins x y s t) (q : Nat) : qAt s q = qAt t q := h.read (Machine.qAt · q)

theorem ringSize (h : Twins x y s t) (q : Nat) : ringSize s q = ringSize t q := h.read (Machine.ringSize · q)

theorem cqOf (h : Twins x y s t) (q : Nat) : cqOf s q = cqOf t q := h.read (Machine.cqOf · q)

theorem cqFull (h : Twins x y s t) (q : Nat) : cqFull s q = cqFull t q := h.read (Machine.cqFull · q)

theorem mayIssue (h : Twins x y s t) (q : Nat) : mayIssue s q = mayIssue t q := h.read (Machine.mayIssue · q)

theorem jobsOf (h : Twins x y s t) (q : Nat) : jobsOf s q = jobsOf t q := h.read (Machine.jobsOf · q)

/-! ### Frames leave the vat -/

theorem toCellar (h : Twins x y s t) (n : Nat) : Twins x y (toCellar s n) (toCellar t n) := by
  unfold Machine.toCellar
  simp only [h.read (frameAt · n)]
  refine .ite (.perfN (.perf ?_ _) _ _) h
  exact h.update fun a => useCellar (setFrame (freeCells a (frameAt t n)) n
    { frameAt t n with resv := 0, pool := 0, staging := 0, charged := [], inCellar := true })

theorem freeFrame (h : Twins x y s t) (n : Nat) : Twins x y (freeFrame s n) (freeFrame t n) := h.update (Machine.freeFrame · n)

theorem finishDest (h : Twins x y s t) (n d : Nat) : Twins x y (finishDest s n d) (finishDest t n d) := by
  unfold Machine.finishDest
  simp only [h.read (frameAt · n)]
  generalize frameAt t n = v
  refine .ite (.ite (.freeFrame ?_ n) (.toCellar ?_ n)) h <;>
  · refine .update ?_ (setFrame · n _)
    refine .ite (.update ?_ fun a => { a with vat := { a.vat with spillUsed := tblAdd a.vat.spillUsed d (-(v.data.length : Int)) } }) ?_ <;>
    exact .ite (h.update fun a => { a with vat := { a.vat with destCells := tblAdd a.vat.destCells d (-(v.cells : Int)) } }) h

theorem dropDest (h : Twins x y s t) (n d ev : Nat) : Twins x y (dropDest s n d ev) (dropDest t n d ev) :=
  (h.count 0x03 d ev).finishDest n d

theorem dropArrivals (h : Twins x y s t) (gone : Arrival → Bool) : Twins x y (dropArrivals s gone) (dropArrivals t gone) := by
  unfold Machine.dropArrivals
  rw [h.read (·.vat.waits)]
  refine .foldl ?_ fun a _ _ _ g => g.update (discardArrival · a)
  exact h.update fun a => { a with vat := { a.vat with waits := t.vat.waits.filter (fun a => !gone a) } }

/-! ### Completion queues -/

theorem fireFull (h : Twins x y s t) (cq : Nat) : Twins x y (fireFull s cq) (fireFull t cq) := by
  unfold Machine.fireFull
  simp only [h.qAt, h.cqFull]
  exact .ite ((h.setQ cq _).fireCq cq 1) h

theorem cqHalt (h : Twins x y s t) (cq idx cqe reason : Nat) : Twins x y (cqHalt s cq idx cqe reason) (cqHalt t cq idx cqe reason) := by
  unfold Machine.cqHalt
  simp only [h.qAt, h.ringSize]
  refine .fireCq ?_ cq 2
  exact ((h.setQ cq _).perf _).update fun a => { a with dma := { a.dma with owed := a.dma.owed ++ [(325 + 8 * qCluster cq, reason)] } }

theorem cqWrite (h : Twins x y s t) (cq cqe : Nat) : Twins x y (cqWrite s cq cqe) (cqWrite t cq cqe) := by
  unfold Machine.cqWrite
  simp only [h.qAt, h.ringSize]
  refine .ite (h.cqHalt cq _ cqe 0x13) (.ite (.fireCq ?_ cq 0) ?_) <;> exact ((h.hostWr cq _ _ _ _).setQ cq _).perf _

theorem cqPost (h : Twins x y s t) (cq cqe chan : Nat) : Twins x y (cqPost s cq cqe chan) (cqPost t cq cqe chan) := by
  unfold Machine.cqPost
  simp only [h.qAt, h.cqFull, h.mayIssue]
  exact .ite (h.setQ cq _) (.ite ((h.setQ cq _).fireFull cq) ((h.setQ cq _).cqWrite cq cqe))

theorem cqDrain (n : Nat) (h : Twins x y s t) (cq : Nat) : Twins x y (cqDrain n s cq) (cqDrain n t cq) := by
  induction n generalizing s t with
  | zero => exact h
  | succ n ih =>
    unfold Machine.cqDrain
    simp only [h.qAt, h.cqFull, h.mayIssue]
    cases hheld : (Machine.qAt t cq).held with
    | none => exact h
    | some r =>
      have hw := (h.setQ cq { Machine.qAt t cq with held := none }).cqWrite cq r
      refine .ite (h.fireFull cq) ?_
      simp only [hw.qAt]
      split
      · exact ih (hw.setQ cq _)
      · exact hw

/-! ### Jobs -/

theorem drainCheck (h : Twins x y s t) (q : Nat) : Twins x y (drainCheck s q) (drainCheck t q) := by
  unfold Machine.drainCheck
  simp only [h.qAt, h.jobsOf]
  exact .ite ((h.update (deadReads · q)).setQ q _) h

theorem postErr (h : Twins x y s t) (q : Nat) : Twins x y (postErr s q) (postErr t q) := by
  unfold Machine.postErr
  simp only [h.qAt, h.cqOf]
  cases (Machine.qAt t q).errPend with
  | none => exact h
  | some r => exact (h.setQ q _).cqPost _ r 0

theorem g1WriteBack (h : Twins x y s t) (q : Nat) (j : Job) (status : Nat) :
    Twins x y (g1WriteBack s q j status) (g1WriteBack t q j status) := by
  unfold Machine.g1WriteBack
  simp only [h.qAt, h.ringSize]
  refine update (.foldl h fun e _ _ _ g => ?_) fun a => Machine.setQ a q { Machine.qAt a q with wb := (j.idx + j.entries.length) % 65536 }
  exact .ite ((g.hostWr q _ _ _ _).signal _) (g.hostWr q _ _ _ _)

theorem settle (n : Nat) (h : Twins x y s t) (q : Nat) : Twins x y (settle n s q) (settle n t q) := by
  induction n generalizing s t with
  | zero => exact h
  | succ n ih =>
    unfold Machine.settle
    simp only [h.jobsOf, h.qAt, h.cqOf]
    cases Machine.jobsOf t q with
    | nil => exact (h.postErr q).drainCheck q
    | cons j l =>
      have h0 : Twins x y (if idxDiff (Machine.qAt t q).errIdx j.idx < if qKind q = 1 then max 1 (Machine.qAt t q).rsv.length else 1
            then Machine.postErr s q else s)
          (if idxDiff (Machine.qAt t q).errIdx j.idx < if qKind q = 1 then max 1 (Machine.qAt t q).rsv.length else 1
            then Machine.postErr t q else t) := .ite (h.postErr q) h
      simp only [h0.mayIssue]
      refine .ite (ih ?_) h0
      cases j.cqe with
      | none => exact h0.dropJob q j.idx
      | some r => exact .ite ((h0.dropJob q j.idx).g1WriteBack q j r) ((h0.dropJob q j.idx).cqPost _ r _)

theorem finishJob (h : Twins x y s t) (j : Job) (cqe : Option Nat) : Twins x y (finishJob s j cqe) (finishJob t j cqe) :=
  (h.setJob _).settle 64 j.q

theorem jobDone (h : Twins x y s t) (j : Job) (status : Nat) : Twins x y (jobDone s j status) (jobDone t j status) :=
  .ite (h.finishJob j _) (h.finishJob j _)

theorem setDrive (h : Twins x y s t) (d : Nat) (z : Drive) : Twins x y (setDrive s d z) (setDrive t d z) := by
  refine h.update (Machine.setDrive · d z) (fun a => ?_) (fun a => ?_) <;>
  · unfold Machine.setDrive
    split <;> rfl

theorem abandonJob (h : Twins x y s t) (j : Job) (status : Nat) : Twins x y (abandonJob s j status) (abandonJob t j status) := by
  unfold Machine.abandonJob
  extract_lets s1 s2 t1 t2
  have h1 : Twins x y s1 t1 := by
    simp only [s1, t1]
    cases j.h with
    | none => exact h
    | some n => exact h.freeFrame n
  have h2 : Twins x y s2 t2 := by
    simp only [s2, t2, h1.read (driveAt · (rrDrive j.desc))]
    exact .ite (h1.setDrive _ _) h1
  exact h2.jobDone j status

theorem disableQueue (h : Twins x y s t) (q : Nat) (cnt : Bool) : Twins x y (disableQueue s q cnt) (disableQueue t q cnt) := by
  unfold Machine.disableQueue
  simp only [h.jobsOf, h.qAt]
  refine .update (.update (.foldl (.foldl h fun j _ _ _ g => ?_) fun e _ _ _ g => ?_) fun a =>
    { a with dma := { a.dma with jobs := a.dma.jobs.filter (fun j => decide (j.q ≠ q)) } })
    fun a => Machine.setQ (deadReads a q) q (Machine.qAt a q).cleared
  · cases j.h with
    | none => exact g
    | some n => exact g.freeFrame n
  · exact .ite (g.dropDest _ _ 1) (g.finishDest _ _)

/-! ### Reactions of a DMA cluster -/

theorem discardQueues (h : Twins x y s t) {gone gone' : Nat → QReg → Bool} (hg : gone = gone') :
    Twins x y (discardQueues s gone) (discardQueues t gone') := by
  subst hg
  unfold Machine.discardQueues
  simp only [h.read (·.dma.q)]
  refine .unseen (.foldl h fun e _ _ _ g => ?_) (broadcast_unseen _ _) (broadcast_unseen _ _)
  exact g.disableQueue e.1 true

theorem hostDown (h : Twins x y s t) : Twins x y (hostDown s) (hostDown t) := by
  have hd := h.dropArrivals fun a => a.kind == .host
  unfold Machine.hostDown
  simp only [hd.read (·.dma.q)]
  refine .foldl hd fun e _ _ _ g => ?_
  simp only [g.qAt]
  refine .foldl (g.disableQueue e.1 false) fun _ _ _ _ k => ?_
  exact k.unseen (boundaryDrop_unseen _ _) (boundaryDrop_unseen _ _)

theorem recUnitReset (h : Twins x y s t) : Twins x y (recUnitReset s 390) (recUnitReset t 390) := by
  have h0 := h.setDrive 0 (rewriteAll (driveAt t 0))
  simp only [Machine.recUnitReset, h.read (driveAt · 0), h.read (driveAt · 1)]
  exact h0.setDrive 1 _

/-- The Host or the Record region leaves service. -/
theorem regionDown (h : Twins x y s t) {g : Region} (hg : g = .host ∨ g = .record) (restart : Bool) :
    Twins x y (regionDown s g restart) (regionDown t g restart) := by
  have hout := h.update fun a => { a with regs := { a.regs with
    out := setInsert a.regs.out g
    restarting := if restart then setInsert a.regs.restarting g else a.regs.restarting
    gated := if restart then setErase a.regs.gated g else setInsert a.regs.gated g } }
  have hcounted := Twins.ite (c := restart) (hout.perf (pRegion (regionIdx g) 2)) hout
  unfold Machine.regionDown
  simp only [h.read (inService · g)]
  rcases hg with rfl | rfl
  · exact .ite h (.ite hcounted.updateHeld hcounted.hostDown.updateHeld)
  · refine .ite h (.ite hcounted.updateHeld (.updateHeld ?_))
    exact (hcounted.update fun a => { a with clk := { a.clk with cellarSelfRefresh := true } }).recUnitReset

theorem setFlt (h : Twins x y s t) (z : Faults) : Twins x y { s with flt := z } { t with flt := z } := h.update fun a => { a with flt := z }

theorem latchRec (h : Twins x y s t) (f : Nat) (r : RecInfo) : Twins x y (latchRec s f r) (latchRec t f r) := by
  unfold Machine.latchRec
  simp only [h.read (faultWord · f r), h.read (·.flt), h.read now]
  exact .ite (h.setFlt _) (.ite (h.setFlt _) ((h.setFlt _).count 0x0C 768 4))

theorem requestFallback (h : Twins x y s t) (reason : Nat) : Twins x y (requestFallback s reason) (requestFallback t reason) := by
  have hfail : Twins x y (failedStart s) (failedStart t) := by
    unfold failedStart
    simp only [h.read (drawVal · 768)]
    refine .latchRec ?_ 526 _
    exact h.update fun a => { drawn a with boot := { a.boot with failCount := min 3 (a.boot.failCount + 1) } }
  unfold Machine.requestFallback
  simp only [h.read (fun a => a.boot.startMark && !a.boot.running && a.boot.fbPending.isNone)]
  exact (Twins.ite hfail h).update fun a => { a with boot := { a.boot with fbPending := some (a.boot.fbPending.getD reason) } }

/-- The reset of a reaction to a bus error: it stays in the DMA cluster, or takes the Host region or the part with it. -/
theorem reactReset (h : Twins x y s t) {k : Nat} (hk : k < 4) (code : Nat) :
    Twins x y (reactReset s code (325 + 8 * k)) (reactReset t code (325 + 8 * k)) := by
  have hunit : Twins x y (unitReset s (unitOf (325 + 8 * k))) (unitReset t (unitOf (325 + 8 * k))) := by
    have hu : unitOf (325 + 8 * k) = 325 + 8 * k := by unfold unitOf; split_ifs <;> omega
    have hin : ∀ a, unitReset a (325 + 8 * k) = Machine.discardQueues a (unitHolds a k 5) := by
      intro a
      unfold unitReset
      have hk' : (325 + 8 * k - 320) / 8 = k ∧ (325 + 8 * k - 320) % 8 = 5 := by omega
      rw [if_neg (by omega), if_neg (by omega), if_neg (by omega), if_neg (by omega), if_pos (by omega), hk'.1, hk'.2]
    rw [hu, hin, hin]
    exact h.discardQueues (h.read (unitHolds · k 5))
  have hcl : clusterOf (325 + 8 * k) = some (4 + k) := by
    unfold clusterOf
    rw [if_neg (by omega), if_neg (by omega), if_neg (by omega), if_neg (by omega), if_pos (by omega)]
    congr 1
    omega
  have hdie : phyDieOf (325 + 8 * k) = none := by
    unfold phyDieOf
    rw [if_neg (by omega), if_neg (by omega), hcl]
    simp
  have hreg : restartRegion (325 + 8 * k) = .host := by
    unfold restartRegion srcRegion
    rw [if_neg (by omega), if_neg (by omega), if_neg (by omega), if_neg (by omega), if_pos (by omega)]
  have hcluster : Twins x y (clusterReset s (4 + k)) (clusterReset t (4 + k)) := by
    unfold clusterReset
    rw [if_pos (by omega), if_pos (by omega)]
    exact h.discardQueues rfl
  unfold Machine.reactReset
  rw [hcl, hdie, hreg]
  split
  · exact hunit.perf _
  · exact hcluster.perf _
  · exact h
  · exact h.regionDown (.inl rfl) true
  · exact h.requestFallback _
  · exact h

theorem startReact (h : Twins x y s t) {rst : State → Nat → Nat → State} {f code : Nat} (test : Bool)
    (hr : ∀ {u v : State}, Twins x y u v → Twins x y (rst u code f) (rst v code f)) :
    (startReact rst s f code test).1 = (startReact rst t f code test).1 ∧
      Twins x y (startReact rst s f code test).2 (startReact rst t f code test).2 := by
  unfold Machine.startReact
  simp only [h.read (·.flt), h.read now]
  split
  · exact ⟨rfl, h⟩
  · exact ⟨rfl, hr ((h.setFlt _).perf _)⟩

/-- What an event counts for, and the state that has counted it. -/
theorem classify (h : Twins x y s t) (f : Nat) :
    (classify s f).1 = (classify t f).1 ∧ (classify s f).2.1 = (classify t f).2.1 ∧ (classify s f).2.2.1 = (classify t f).2.2.1 ∧
      Twins x y (classify s f).2.2.2 (classify t f).2.2.2 := by
  unfold Machine.classify
  simp only [h.read (windowClosed · f), h.read (fsrcCfg · f), h.read nt16]
  generalize hz : (if (windowClosed t f).count = 0 then
    ({ windowClosed t f with winEnd := nt16 t + (fsrcCfg t f).window * 1000 * 65536 } : FSrc) else windowClosed t f) = z
  have hset : Twins x y (setFsrc s f { z with count := min 255 (z.count + 1) }) (setFsrc t f { z with count := min 255 (z.count + 1) }) :=
    h.update (setFsrc · f _)
  split
  · exact ⟨rfl, rfl, rfl, hset⟩
  · split
    · exact ⟨rfl, rfl, rfl, hset⟩
    · exact ⟨rfl, rfl, rfl, hset⟩

theorem requestTest (h : Twins x y s t) (z : SelfTest) : Twins x y (requestTest s z) (requestTest t z) := by
  unfold Machine.requestTest
  simp only [h.read (·.flt)]
  exact .ite (h.count 0x0C 768 3) (h.setFlt _)

theorem faultSignal (h : Twins x y s t) (sev : Nat) : Twins x y (faultSignal s sev) (faultSignal t sev) := h.signal _

/-- The record of an event under the ID of its reaction, its signal, and the self-test it asks for. -/
theorem eventRecord {p q : Nat × State} (h : p.1 = q.1 ∧ Twins x y p.2 q.2) (f sev : Nat) (line want : Prop) [Decidable line]
    [Decidable want] (r : Nat → RecInfo) (z : Nat → SelfTest) :
    Twins x y
      (if want then Machine.requestTest (if line then Machine.faultSignal (Machine.latchRec p.2 f (r p.1)) sev
        else Machine.latchRec p.2 f (r p.1)) (z p.1)
       else if line then Machine.faultSignal (Machine.latchRec p.2 f (r p.1)) sev else Machine.latchRec p.2 f (r p.1))
      (if want then Machine.requestTest (if line then Machine.faultSignal (Machine.latchRec q.2 f (r q.1)) sev
        else Machine.latchRec q.2 f (r q.1)) (z q.1)
       else if line then Machine.faultSignal (Machine.latchRec q.2 f (r q.1)) sev else Machine.latchRec q.2 f (r q.1)) := by
  obtain ⟨hid, ht⟩ := h
  rw [hid]
  have hrec := ht.latchRec f (r q.1)
  have hline := Twins.ite (c := line) (hrec.faultSignal sev) hrec
  exact .ite (hline.requestTest _) hline

/-- A native event, with whatever reset its reaction takes. -/
theorem feedWith (h : Twins x y s t) {rst : State → Nat → Nat → State} {f : Nat} (loc detail : Nat)
    (hr : ∀ code, ∀ {u v : State}, Twins x y u v → Twins x y (rst u code f) (rst v code f)) :
    Twins x y (feedWith rst s f loc detail true false false) (feedWith rst t f loc detail true false false) := by
  have hn := h.count 0x0C f 0
  obtain ⟨hsev, hcode, hcount, hclassed⟩ := hn.classify f
  unfold Machine.feedWith
  simp only [h.read (fsrcCfg · f), h.read (shadowOf · f), if_true, Bool.false_eq_true, if_false, Bool.not_true, Bool.false_and]
  refine .ite hn ?_
  cases shadowOf t f with
  | some r =>
    simp only [(h.count 0x0C f 1).read (·.flt)]
    exact (h.count 0x0C f 1).setFlt _
  | none =>
    dsimp only
    refine .ite ?_ ?_
    · rw [hn.read (drawVal · 768)]
      exact (hn.update drawn).latchRec f _
    · simp only [hsev, hcode, hcount, hn.read (mayTest · f loc), hn.read (·.flt)]
      refine eventRecord ?_ f _ _ _
        (fun id => { detail := detail, loc := loc, id := id, count := _, reaction := _, severity := _, isNative := true })
        (fun id => { src := f, loc := loc, id := id })
      split
      · exact hclassed.startReact _ (hr _)
      · exact ⟨rfl, hclassed⟩

/-- A bus error of a queue of a cluster is an event of the cluster's host interface. -/
theorem feed (h : Twins x y s t) {k : Nat} (hk : k < 4) (loc detail : Nat) :
    Twins x y (feed s (325 + 8 * k) loc detail) (feed t (325 + 8 * k) loc detail) :=
  h.feedWith loc detail fun code _ _ g => g.reactReset hk code

/-! ### Queues halt, and read -/

theorem fireError (h : Twins x y s t) (q : Nat) : Twins x y (fireError s q) (fireError t q) :=
  h.unseen (fireError_unseen s q) (fireError_unseen t q)

theorem haltQueue (h : Twins x y s t) {q : Nat} (hq : qCluster q < 4) (reason addr idx : Nat) (dir fetch : Bool) :
    Twins x y (haltQueue s q reason addr idx dir fetch) (haltQueue t q reason addr idx dir fetch) := by
  have hfed := (h.perf (pCluster (qCluster q) 11)).feed hq 0 reason
  unfold Machine.haltQueue
  simp only [h.qAt, hfed.qAt]
  refine .ite (.ite ?_ ((hfed.setQ q _).fireError q)) hfed
  have hset := hfed.setQ q { Machine.qAt (Machine.feed (Machine.perf t (pCluster (qCluster q) 11)) (325 + 8 * qCluster q) 0 reason) q with
    state := if (Machine.qAt t q).state = .draining then .draining else .halted, reason := reason, errAddr := addr, errDir := dir
    errFetch := fetch, errIdx := idx % 65536, drainErr := (Machine.qAt t q).state = .draining }
  simp only [hset.qAt]
  exact (hset.setQ q _).settle 64 q

theorem haltJob (h : Twins x y s t) {j : Job} (hq : qCluster j.q < 4) (reason addr : Nat) (fetch : Bool) :
    Twins x y (haltJob s j reason addr fetch) (haltJob t j reason addr fetch) :=
  (h.setJob _).haltQueue hq reason addr j.idx false fetch

theorem issueRead (h : Twins x y s t) (q addr len : Nat) (kind : ReadKind) (noSnoop : Bool) :
    Twins x y (issueRead s q addr len kind noSnoop) (issueRead t q addr len kind noSnoop) := by
  unfold Machine.issueRead
  simp only [h.read (funcOfQueue · q)]
  cases funcOfQueue t q with
  | none => exact h
  | some f =>
    simp only [h.read (nextTag · q), h.read now, h.read (funcAt · f)]
    refine .perf (.perfN ?_ _ _) _
    refine (h.unseen (emit_unseen s _) (emit_unseen t _)).update fun a => { a with dma := { a.dma with
      reads := tblSet {} a.dma.reads (nextTag t q) { q := q, addr := addr, len := len, kind := kind, since := now t, func := f } } }

theorem readMore (h : Twins x y s t) {j : Job} (hq : qCluster j.q < 4) : Twins x y (readMore s j) (readMore t j) := by
  unfold Machine.readMore
  simp only [h.read (maxRead · j.q)]
  split
  · exact h
  · exact .ite (h.haltJob hq _ _ _) (h.setJob _)

theorem readTable (h : Twins x y s t) {j : Job} (hq : qCluster j.q < 4) : Twins x y (readTable s j) (readTable t j) := by
  unfold Machine.readTable
  simp only [h.read (maxRead · j.q), h.read (nextTag · j.q), h.read (mayRead · j.q)]
  exact .ite (h.haltJob hq _ _ _) (.ite ((h.setJob _).issueRead _ _ _ _ _) (h.setJob _))

theorem scanFetch (h : Twins x y s t) {q : Nat} (hq : qCluster q < 4) : Twins x y (scanFetch s q) (scanFetch t q) := by
  unfold Machine.scanFetch
  simp only [h.qAt, h.ringSize, h.read (scanCount · q), h.read (mayRead · q), fun w => h.read (targetHeld · w)]
  exact .ite h (.ite (h.setQ q _) (.ite ((h.setQ q _).haltQueue hq _ _ _ _ _) ((h.setQ q _).issueRead _ _ _ _ _)))

theorem descriptorFetch (h : Twins x y s t) {q : Nat} (hq : qCluster q < 4) : Twins x y (descriptorFetch s q) (descriptorFetch t q) := by
  unfold Machine.descriptorFetch
  simp only [h.qAt, h.ringSize, h.read (fetchCount · q), h.read (mayRead · q), h.read (cqWait · q), h.read (headHeld · q)]
  refine .ite (h.scanFetch hq) (.ite h (.ite h (.ite h (.ite ((h.setQ q _).haltQueue hq _ _ _ _ _) ?_))))
  exact ((h.update (wake · [320 + 8 * qCluster q])).setQ q _).issueRead _ _ _ _ _

/-! ### Recovery -/

theorem passDesc (h : Twins x y s t) (q idx d status : Nat) (entries : List Nat) :
    Twins x y (passDesc s q idx d status entries) (passDesc t q idx d status entries) :=
  (h.update (addJob · _)).settle 64 q

theorem g1RxBack (h : Twins x y s t) (q : Nat) (l : List (Nat × Nat)) (len status mac : Nat) :
    Twins x y (g1RxBack s q l len status mac) (g1RxBack t q l len status mac) := by
  unfold Machine.g1RxBack
  simp only [h.qAt, h.ringSize]
  refine .signal (update ?_ fun a => Machine.setQ a q { Machine.qAt a q with wb := ((l.headD (0, 0)).1 + l.length) % 65536 }) _
  exact .foldl h fun i _ _ _ g => g.hostWr q _ _ _ _

theorem rxRecord (h : Twins x y s t) (q : Nat) (l : List (Nat × Nat)) (status : Nat) :
    Twins x y (rxRecord s q l status) (rxRecord t q l status) := by
  unfold Machine.rxRecord
  rw [h.cqOf, h.read (rxCqe · q l {} status)]
  exact .ite (h.g1RxBack q l 0 status 0) (h.cqPost _ _ 0)

theorem rxLeave (h : Twins x y s t) (q n : Nat) : Twins x y (rxLeave s q n) (rxLeave t q n) :=
  ((h.finishDest n (destOfRx q)).update (rxDequeue · q)).drainCheck q

theorem skipFetch (h : Twins x y s t) (q n : Nat) : Twins x y (skipFetch s q n) (skipFetch t q n) := by
  unfold Machine.skipFetch
  simp only [h.qAt]
  split
  · exact (h.setQ q _).passDesc _ _ _ _ _
  · exact (h.setQ q _).rxRecord _ _ _
  · exact .foldl (h.setQ q _) fun i _ _ _ g => .ite (g.rxRecord _ _ _) (g.passDesc _ _ _ _ _)

theorem resumeQueue (h : Twins x y s t) {q : Nat} (hq : qCluster q < 4) : Twins x y (resumeQueue s q) (resumeQueue t q) := by
  have hrun := h.setQ q (Machine.qAt t q).running
  unfold Machine.resumeQueue
  simp only [h.qAt, h.jobsOf]
  refine .ite (hrun.cqDrain 600 q) ?_
  have hjobs : Twins x y
    (((Machine.jobsOf t q).filter (fun j => j.state == .halted)).foldl (fun t j =>
      if !j.out.isEmpty then Machine.setJob t { j with state := .writing }
      else if j.frags.isEmpty then Machine.readTable t j else Machine.readMore t j) (Machine.setQ s q (Machine.qAt t q).running))
    (((Machine.jobsOf t q).filter (fun j => j.state == .halted)).foldl (fun t j =>
      if !j.out.isEmpty then Machine.setJob t { j with state := .writing }
      else if j.frags.isEmpty then Machine.readTable t j else Machine.readMore t j) (Machine.setQ t q (Machine.qAt t q).running)) := by
    refine .foldl hrun fun j hj _ _ g => ?_
    have hjq : j.q = q := by
      have := List.of_mem_filter (List.mem_of_mem_filter hj)
      simpa using this
    rw [← hjq] at hq
    exact .ite (g.setJob _) (.ite (g.readTable hq) (g.readMore hq))
  exact .ite (hjobs.descriptorFetch hq) hjobs

theorem skipError (h : Twins x y s t) (q : Nat) : Twins x y (skipError s q) (skipError t q) := by
  have hrun := h.setQ q (Machine.qAt t q).running
  unfold Machine.skipError
  simp only [h.qAt, h.jobsOf, hrun.qAt, h.read (malformedEntries · q)]
  refine .ite hrun ?_
  split
  · exact hrun.abandonJob _ 5
  · split
    · exact hrun.setQ q _
    · exact .ite ((hrun.setQ q _).rxRecord _ _ _) ((hrun.setQ q _).passDesc _ _ _ _ _)

theorem skipHalted (h : Twins x y s t) (q : Nat) : Twins x y (skipHalted s q) (skipHalted t q) := by
  unfold Machine.skipHalted
  simp -zeta only [h.qAt, h.jobsOf]
  extract_lets z s1 gone rx s2 s3 e4 s4 t1 t2 t3 f4 t4
  have h2 : Twins x y s2 t2 := .foldl (h.setQ q z.running) fun j _ _ _ g => .ite (g.dropJob q j.idx) (g.abandonJob j 6)
  have h3 : Twins x y s3 t3 := .ite (h2.skipFetch q z.haltN) h2
  have h4 : Twins x y s4 t4 := by
    have he : e4 = f4 := h3.qAt q
    simp only [s4, t4, he]
    exact (h3.setQ q _).count 0x08 (qObject q) 6
  refine .ite ?_ h3
  split
  · exact h3
  · exact (h4.rxRecord q z.rsv 6).rxLeave q _

/-- A recovery that is valid in one of two twins is valid in the other. -/
theorem recoverQueue (h : Twins x y s t) {q : Nat} (hq : qCluster q < 4) (act : Nat) :
    Option.Rel (Twins x y) (recoverQueue s q act) (recoverQueue t q act) := by
  unfold Machine.recoverQueue
  simp only [h.qAt]
  split
  · split
    · exact .some (h.resumeQueue hq)
    · exact .none
  · split
    · exact .none
    · split
      · exact .some (h.skipError q)
      · split
        · exact .some (h.skipHalted q)
        · exact .none
  · refine .some (.ite (h.update (resetCq · q)) (h.disableQueue q true))
  · exact .none

end Twins

/-! ### What an accepted command does -/

theorem Twins.of_shown {s t : State} (h : shown s = shown t) : Twins (kept s) (kept t) s t := ⟨h, rfl, rfl⟩

theorem shown_setKn (s : State) (z : Keanak) : shown { s with kn := z } = shown s := rfl

theorem shown_begun (s : State) (c : Cmd) (r : Request) : shown (begun s c r) = shown s := by
  have hdrop : shown (perf (dropRequest s r.master) (pPkg 5)) = shown s := (perf_unseen (dropRequest s r.master) (pPkg 5)).1.trans rfl
  have hlease : ∀ a, shown (restartLease a) = shown a := fun a => shown_setKn a _
  unfold begun
  dsimp only
  split
  · exact (hlease _).trans hdrop
  · exact hdrop

theorem shown_auditChange {s : State} (hm : mramUp s = true) (r : Request) (obj : Nat) (old new : Option Octets) :
    shown (auditChange s r obj old new) = shown s := by
  unfold auditChange writeAudit
  rw [if_pos hm]
  exact (perf_unseen _ _).1

/-- The checks that an accepted request has passed. -/
theorem Accepted.checks {s : State} {code : Nat} {x : Exe} {r : Request} {c : Cmd} (h : Accepted s code x r) (hc : cmdOf code = some c) :
    nextRequest s = some r ∧ r.cmd = code ∧ badHeader r = none ∧ preCheck s x c r = none := by
  obtain ⟨hn, hcode, hb, hpre⟩ := h
  rw [hc] at hpre
  exact ⟨hn, hcode, hb, Option.some.inj hpre⟩

theorem Accepted.mramUp_begun {s : State} {code : Nat} {x : Exe} {r : Request} {c : Cmd} (h : Accepted s code x r)
    (hc : cmdOf code = some c) (hw : c.cls = .w) : mramUp (begun s c r) = true := by
  obtain ⟨hn, hcode, -, -⟩ := h
  exact ((Twins.of_shown (shown_begun s c r)).read mramUp).trans (mramUp_of_next hn (hcode ▸ hc) hw)

/-- The record of a change of request `r`, made where its execution has begun, is that of the state before it. -/
theorem recorded_auditChange {s : State} {c : Cmd} {r : Request} (hm : mramUp (begun s c r) = true) (obj : Nat) (old new : Option Octets) :
    Recorded s (auditChange (begun s c r) r obj old new) (changeBody s r obj old new) := by
  have hfr := begun_frame s c r
  have hrec := recorded_of (b := changeBody s r obj old new) hfr (by rw [begun_kn]; rfl) (by rw [begun_kn]; rfl) (by rw [begun_kn]; rfl)
  unfold Recorded at hrec ⊢
  rw [auditChange_kn _ _ _ _ _ hm, changeBody_congr hfr]
  exact hrec

theorem auditChange_leaseEnd {s : State} (hm : mramUp s = true) (r : Request) (obj : Nat) (old new : Option Octets) :
    (auditChange s r obj old new).kn.leaseEnd = s.kn.leaseEnd ∧ (auditChange s r obj old new).kn.waiting = s.kn.waiting := by
  rw [auditChange_kn _ _ _ _ _ hm, writeRecord, perf_kn]
  exact ⟨rfl, rfl⟩

theorem KnFrame.pending_eq {s t : State} (h : KnFrame s t) : t.pending = s.pending := by
  unfold KnFrame at h
  tauto

/-- An accepted change that writes its record and then takes the effect `f`, which keeps the requests that wait and the journal's SEQ. -/
theorem knWrites_of {i : Instr} {s : State} {r : Request} {code : Nat} {x : Exe} {c : Cmd} {f : State → State} {obj : Nat}
    {old new : Option Octets} {res : Octets} (h : Accepted s code x r) (hc : cmdOf code = some c) (hw : c.cls = .w)
    (hrow : exec i s = .next (keeping s (runKn s code x)))
    (hrun : x.run (begun s c r) r = .ok (f (auditChange (begun s c r) r obj old new)) res []) (hf : ∀ a, kept (f a) = kept a) :
    KnWrites i s r (changeBody s r obj old new) res f := by
  obtain ⟨hn, hcode, hb, hpre⟩ := h.checks hc
  have hm := h.mramUp_begun hc hw
  have hrec := recorded_auditChange hm obj old new
  obtain ⟨hlease, hwaiting⟩ := auditChange_leaseEnd hm r obj old new
  have hfa : KnFrame s (auditChange (begun s c r) r obj old new) := (begun_frame s c r).trans (auditChange_frame _ _ _ _ _ hm)
  generalize auditChange (begun s c r) r obj old new = a at hrun hrec hlease hwaiting hfa
  have hkept := hf a
  simp only [kept, Prod.mk.injEq] at hkept
  obtain ⟨hmasters, hseq, hpend⟩ := hkept
  have hwait : ∀ z ∈ (f a).kn.waiting, z.master ≠ r.master := by
    intro z hz
    have hz' : z.master ∈ a.kn.waiting.map (·.master) := hmasters ▸ List.mem_map_of_mem hz
    obtain ⟨w, hw, hzw⟩ := List.mem_map.mp hz'
    rw [← hzw]
    exact begun_waiting s c r w (hwaiting ▸ hw)
  obtain ⟨h1, h2, h3, h4, -, h6⟩ := runKn_ok hn hcode hb hc hpre hrun hwait
  have hsame : keeping s (runKn s code x) = runKn s code x :=
    keeping_eq (h1.pending_eq.trans (hpend.trans hfa.pending_eq))
  rw [hsame] at hrow
  refine ⟨a, runKn s code x, hfa, hlease.trans (begun_lease_w s r hw), hrec, hrow, h1, h2, h3, h4, ?_⟩
  rw [if_pos ⟨hw, by rw [hseq, hrec.2]; omega⟩] at h6
  exact h6

/-- An answer, and those to the requests whose header fails, keep the frame of answers; the answered request's image stands in its
mailbox, and the request waits no more. -/
theorem answered_round {s a : State} {r : Request} (hfr : KnFrame s a) (hmbx : mbxAt a r.master = mbxAt s r.master)
    (hwait : ∀ z ∈ a.kn.waiting, z.master ≠ r.master) (n st d : Nat) (res b : Octets) :
    KnFrame s (answerBad n (answer a r st d res b)) ∧ Answered s (answerBad n (answer a r st d res b)) r st d res b := by
  have hkn := answer_kn a r st d res b
  obtain ⟨hm, hw⟩ := answerBad_mbx n (answer a r st d res b) r.master (by rw [hkn]; exact hwait)
  have hx : mbxAt (answer a r st d res b) r.master =
      { mbxAt s r.master with resp := respImage s r st d res b.length, respBulk := b, state := .done, held := false } := by
    rw [← hmbx, ← respImage_congr hfr]
    unfold mbxAt
    rw [hkn]
    exact tblGet_tblSet_same ({} : Mbx) _ _ _
  refine ⟨(hfr.trans (answer_frame a r st d res b)).trans (answerBad_frame n _), ?_⟩
  rw [Answered, hm, hx]
  exact ⟨rfl, rfl, rfl, rfl, hw⟩

/-- An accepted request that fails is answered with its status, and nothing is recorded. -/
theorem knFails_of {s : State} {r : Request} {code st d : Nat} {x : Exe} {c : Cmd} (h : Accepted s code x r)
    (hc : cmdOf code = some c) (hrun : x.run (begun s c r) r = .fail st d) :
    KnFrame s (runKn s code x) ∧ Unrecorded s (runKn s code x) ∧ Answered s (runKn s code x) r st d [] [] := by
  obtain ⟨hn, hcode, hb, hpre⟩ := h.checks hc
  have hdrop : KnFrame s (perf (dropRequest s r.master) (pPkg 5)) :=
    KnFrame.trans (t := dropRequest s r.master) (by simp [KnFrame, dropRequest]) (perf_frame _ _)
  have hex : execRequest s x c r = answer (begun s c r) r st d [] [] := by
    unfold execRequest
    dsimp only
    rw [preCheck_congr x c r (s := s) hdrop.boot_eq hdrop.owner_eq hdrop.ownerNode_eq, hpre]
    exact congrArg (finish (begun s c r) c r s.kn.seq) hrun
  have hrow : runKn s code x =
      answerBad (answer (begun s c r) r st d [] []).kn.waiting.length (answer (begun s c r) r st d [] []) := by
    unfold runKn
    rw [hn, hc]
    simp only [hcode, hb, and_self, if_true, hex]
  have hmbx : mbxAt (begun s c r) r.master = mbxAt s r.master := by rw [mbxAt, begun_kn]; rfl
  obtain ⟨hframe, hans⟩ := answered_round (begun_frame s c r) hmbx (begun_waiting s c r)
    (answer (begun s c r) r st d [] []).kn.waiting.length st d [] []
  obtain ⟨hj, hs, hch, -⟩ := answerBad_kn (answer (begun s c r) r st d [] []).kn.waiting.length (answer (begun s c r) r st d [] [])
  rw [hrow]
  refine ⟨hframe, ⟨hj.trans ?_, hs.trans ?_, hch.trans ?_⟩, hans⟩ <;>
  · rw [answer_kn, setMbx, begun_kn]
    rfl

/-! ### Commands on objects -/

theorem onObject_run {ok : State → Nat → Bool} {f : State → Request → Nat → Res} {s : State} {r : Request} (hok : ok s r.obj = true)
    (habs : isAbsent s r.obj = false) : onObject ok f s r = f s r r.obj := by
  simp [onObject, hok, habs]

/-- A region has no unit that repair can take out of use (R411, R436). -/
theorem isAbsent_region {o n : Nat} (h : objIn 0x13 n o = true) (s : State) : isAbsent s o = false := by
  have hcls : objCls o = 0x13 := by
    simp only [objIn, Bool.and_eq_true, beq_iff_eq] at h
    exact h.1
  simp [isAbsent, carriers, hcls]

theorem kept_setFunc (s : State) (f : Nat) (z : Func) : kept (setFunc s f z) = kept s := rfl

/-- The change of a counter page (R297, R408). -/
def setPage (grant : Bool) (f : Nat) (a : State) : State :=
  setFunc { a with host := { a.host with pageWas := tblSet (0, false) a.host.pageWas f (now a + 1, pageSeen a f) } } f
    { funcAt a f with page := grant }

theorem pageRun_ok {a : State} {r : Request} {grant : Bool} (ho : objIn 0x0D 128 r.obj = true) (habs : isAbsent a r.obj = false)
    (hm : mramUp a = true) (hex : grant = true → funcExists a (objIdx r.obj) = true) :
    pageRun grant a r = .ok (setPage grant (objIdx r.obj)
      (auditChange a r r.obj (some (pageValue a (objIdx r.obj))) (some (leBytes 4 (b2n grant))))) [] [] := by
  have hmay : (grant && !funcExists a (objIdx r.obj)) = false := by
    cases grant
    · rfl
    · simp [hex rfl]
  have hu : ∀ old new, Twins _ _ a (auditChange a r r.obj old new) := fun _ _ => .of_shown (shown_auditChange hm _ _ _ _).symm
  rw [pageRun, onObject_run ho habs]
  simp only [hmay, Bool.false_eq_true, if_false, pageValue, funcAt_setFunc, setPage]
  rw [(hu _ _).read now, (hu _ _).read (pageSeen · _), (hu _ _).read (·.host.pageWas)]

theorem knPage_of {i : Instr} {s : State} {r : Request} {code : Nat} {x : Exe} {c : Cmd} {grant : Bool} (h : Accepted s code x r)
    (hc : cmdOf code = some c) (hw : c.cls = .w) (hrow : exec i s = .next (keeping s (runKn s code x))) (hx : x.run = pageRun grant)
    (ho : objIn 0x0D 128 r.obj = true) (habs : isAbsent s r.obj = false) (hex : grant = true → funcExists s (objIdx r.obj) = true) :
    KnWrites i s r (changeBody s r r.obj (some (pageValue s (objIdx r.obj))) (some (leBytes 4 (b2n grant)))) []
      (setPage grant (objIdx r.obj)) := by
  have hb := Twins.of_shown (shown_begun s c r)
  refine knWrites_of h hc hw hrow ?_ fun _ => rfl
  rw [hx, pageRun_ok ho ((hb.read (isAbsent · _)).trans habs) (h.mramUp_begun hc hw)
    fun hg => (hb.read (funcExists · _)).trans (hex hg), hb.read (pageValue · _)]

/-! ### KN_DMAQ_RECOVER (R353) -/

/-- Every queue belongs to one of the four DMA clusters (R308). -/
theorem qCluster_lt {q : Nat} (h : queueExists q = true) : qCluster q < 4 := by
  simp only [queueExists, decide_eq_true_eq] at h
  unfold qCluster
  generalize qNum q = n at h ⊢
  match hk : qKind q with
  | 0 | 1 | 2 | 3 | 4 | 5 =>
    rw [hk] at h
    simp only [List.getD_cons_succ, List.getD_cons_zero] at h ⊢
    omega
  | k + 6 => simp [hk] at h

/-- Both rings of a generation-1 pair are queues (R308, R411). -/
theorem queueExists_ring {s : State} {o ring : Nat} (h : dmaObj s o = true) (hr : ring = 0 ∨ (ring = 1 ∧ qKind (objIdx o) = 4)) :
    queueExists (objIdx o + 0x1000 * ring) = true := by
  simp only [dmaObj, Bool.and_eq_true] at h
  obtain ⟨-, hq⟩ := h
  rcases hr with rfl | ⟨rfl, hk⟩
  · exact hq
  · have hk' : qKind (objIdx o + 0x1000 * 1) = 5 := by unfold qKind at hk ⊢; omega
    have hn : qNum (objIdx o + 0x1000 * 1) = qNum (objIdx o) := by unfold qNum; omega
    simpa [queueExists, hk, hk', hn] using hq

theorem dmaqRecoverRun_ok {a u : State} {r : Request} (ho : dmaObj a r.obj = true) (habs : isAbsent a r.obj = false)
    (hact : leAt r.params 8 1 ≤ 2) (hz : leAt r.params 10 6 = 0)
    (hring : leAt r.params 9 1 = 0 ∨ (leAt r.params 9 1 = 1 ∧ qKind (objIdx r.obj) = 4))
    (hu : recoverQueue a (objIdx r.obj + 0x1000 * leAt r.params 9 1) (leAt r.params 8 1) = some u) :
    dmaqRecoverRun a r = .ok ((fun b => (recoverQueue b (objIdx r.obj + 0x1000 * leAt r.params 9 1) (leAt r.params 8 1)).getD b)
      (auditChange a r r.obj (some (dmaqCmd.read a r.obj)) (some (dmaqCmd.read u r.obj)))) [] [] := by
  rw [dmaqRecoverRun, onObject_run ho habs]
  dsimp only
  rw [if_neg (by omega), if_neg (by simp [hz]), hu, if_neg]
  rcases hring with h0 | ⟨h1, h4⟩
  · simp [h0]
  · simp [h1, h4]

/-- A recovery keeps what a state keeps. -/
theorem kept_recoverQueue {q : Nat} (hq : qCluster q < 4) (act : Nat) (a : State) : kept ((recoverQueue a q act).getD a) = kept a := by
  have hrel := (Twins.refl a).recoverQueue hq act
  generalize recoverQueue a q act = o at hrel
  cases hrel with
  | some h => exact h.left
  | none => rfl

/-- A recovery that is valid is valid in a twin as well, and the results are twins. -/
theorem Twins.exists_recovered {x y : List Nat × Nat × List Instr} {s t u : State} (h : Twins x y s t) {q : Nat} (hq : qCluster q < 4)
    {act : Nat} (hu : Machine.recoverQueue s q act = some u) : ∃ v, Machine.recoverQueue t q act = some v ∧ Twins x y u v := by
  have hrel := h.recoverQueue hq act
  rw [hu] at hrel
  generalize Machine.recoverQueue t q act = o at hrel
  cases hrel with
  | some h => exact ⟨_, rfl, h⟩

theorem knDmaqRecover_of {i : Instr} {s u : State} {r : Request} {code : Nat} {x : Exe} {c : Cmd} (h : Accepted s code x r)
    (hc : cmdOf code = some c) (hw : c.cls = .w) (hrow : exec i s = .next (keeping s (runKn s code x))) (hx : x.run = dmaqRecoverRun)
    (ho : dmaObj s r.obj = true) (habs : isAbsent s r.obj = false) (hact : leAt r.params 8 1 ≤ 2) (hz : leAt r.params 10 6 = 0)
    (hring : leAt r.params 9 1 = 0 ∨ (leAt r.params 9 1 = 1 ∧ qKind (objIdx r.obj) = 4))
    (hu : recoverQueue s (objIdx r.obj + 0x1000 * leAt r.params 9 1) (leAt r.params 8 1) = some u) :
    KnWrites i s r (changeBody s r r.obj (some (dmaqCmd.read s r.obj)) (some (dmaqCmd.read u r.obj))) []
      (fun a => (recoverQueue a (objIdx r.obj + 0x1000 * leAt r.params 9 1) (leAt r.params 8 1)).getD a) := by
  have hq := qCluster_lt (queueExists_ring ho hring)
  have hb := Twins.of_shown (shown_begun s c r).symm
  obtain ⟨v, hv, huv⟩ := hb.exists_recovered hq hu
  refine knWrites_of h hc hw hrow ?_ fun a => kept_recoverQueue hq _ a
  rw [hx, hb.read (fun a => dmaqCmd.read a r.obj), huv.read (fun a => dmaqCmd.read a r.obj)]
  exact dmaqRecoverRun_ok ho ((hb.read (isAbsent · _)).symm.trans habs) hact hz hring hv

/-! ### KN_REGION_POWER (R23) -/

/-- The change of a region's power: a region that is gated already, or runs already, stays as it is. -/
def setPower (g : Region) (act : Nat) (a : State) : State :=
  if act = 1 then (if a.regs.gated.contains g then a else regionDown a g false)
  else if a.regs.gated.contains g then regionDown a g true else a

theorem Twins.setPower {x y : List Nat × Nat × List Instr} {s t : State} (h : Twins x y s t) {g : Region} (hg : g = .host ∨ g = .record)
    (act : Nat) : Twins x y (setPower g act s) (setPower g act t) := by
  unfold Machine.setPower
  rw [h.read (·.regs.gated)]
  exact .ite (.ite h (h.regionDown hg false)) (.ite (h.regionDown hg true) h)

theorem regionPowerRun_ok {a : State} {r : Request} (ho : objIn 0x13 6 r.obj = true) (hz : leAt r.params 9 7 = 0)
    (hact : leAt r.params 8 1 ≤ 1) (hg : regionOf (objIdx r.obj) = .host ∨ regionOf (objIdx r.obj) = .record) :
    regionPowerRun a r = .ok (setPower (regionOf (objIdx r.obj)) (leAt r.params 8 1) (auditChange a r r.obj
      (some (regionValue a (objIdx r.obj)))
      (some (regionValue (setPower (regionOf (objIdx r.obj)) (leAt r.params 8 1) a) (objIdx r.obj))))) [] [] := by
  rw [regionPowerRun, onObject_run ho (isAbsent_region ho a)]
  dsimp only
  rw [if_neg (by simp [hz]), if_neg (by omega), if_neg (by tauto)]
  rfl

theorem knRegionPower_of {i : Instr} {s : State} {r : Request} {code : Nat} {x : Exe} {c : Cmd} (h : Accepted s code x r)
    (hc : cmdOf code = some c) (hw : c.cls = .w) (hrow : exec i s = .next (keeping s (runKn s code x))) (hx : x.run = regionPowerRun)
    (ho : objIn 0x13 6 r.obj = true) (hact : leAt r.params 8 1 ≤ 1) (hz : leAt r.params 9 7 = 0)
    (hg : regionOf (objIdx r.obj) = .host ∨ regionOf (objIdx r.obj) = .record) :
    KnWrites i s r (changeBody s r r.obj (some (regionValue s (objIdx r.obj)))
      (some (regionValue (setPower (regionOf (objIdx r.obj)) (leAt r.params 8 1) s) (objIdx r.obj)))) []
      (setPower (regionOf (objIdx r.obj)) (leAt r.params 8 1)) := by
  have hb := Twins.of_shown (shown_begun s c r).symm
  refine knWrites_of h hc hw hrow ?_ fun a => ((Twins.refl a).setPower hg _).left
  rw [hx, hb.read (regionValue · _), (hb.setPower hg _).read (regionValue · _)]
  exact regionPowerRun_ok ho hz hact hg

/-- Only the Host and the Record region can be gated. -/
theorem regionPowerRun_refused {a : State} {r : Request} (ho : objIn 0x13 6 r.obj = true) (hz : leAt r.params 9 7 = 0)
    (hact : leAt r.params 8 1 ≤ 1) (hhost : regionOf (objIdx r.obj) ≠ .host) (hrec : regionOf (objIdx r.obj) ≠ .record) :
    regionPowerRun a r = .fail 0x15 0 := by
  rw [regionPowerRun, onObject_run ho (isAbsent_region ho a)]
  dsimp only
  rw [if_neg (by simp [hz]), if_neg (by omega), if_pos ⟨hhost, hrec⟩]

/-- Settles O55: each change is recorded with its object's value before and after, whose new value the state that the command meets
already decides, and then takes effect; a region that cannot be gated is refused. -/
theorem knHostChanges : Obligations.KnHostChanges := by
  unfold Obligations.KnHostChanges
  refine ⟨?_, ?_, ?_, ?_, ?_⟩
  · intro s r h ho habs f hex
    exact knPage_of (grant := true) h rfl rfl rfl rfl ho habs fun _ => hex
  · intro s r h ho habs f
    exact knPage_of (grant := false) h rfl rfl rfl rfl ho habs fun hg => absurd hg (by decide)
  · intro s r u h ho habs act ring x hact hz hring hu
    exact knDmaqRecover_of h rfl rfl rfl rfl ho habs hact hz hring hu
  · intro s r h ho g act f hact hz hg
    exact knRegionPower_of h rfl rfl rfl rfl ho hact hz hg
  · intro s r h ho g hact hz hhost hrec
    obtain ⟨hframe, hunrec, hans⟩ := knFails_of h rfl (regionPowerRun_refused ho hz hact hhost hrec)
    exact ⟨_, exec_eq_next rfl rfl rfl hframe.pending_eq, hframe, hunrec, hans⟩

end Sys2Proof.Machine
end

section
/-! PROOFS. What a reset by RESET_N leaves of the repair table, and with it the refutation of O33. -/

namespace Sys2Proof.Machine

open Sys2Proof

/-- A record of a latch touches no entry of the repair table. -/
theorem latchRec_repairs (s : State) (f : Nat) (r : RecInfo) :
    (latchRec s f r).flt.repairs = s.flt.repairs ∧ (latchRec s f r).flt.repairsOwed = s.flt.repairsOwed := by
  unfold latchRec
  dsimp only
  split
  · exact ⟨rfl, rfl⟩
  · split
    · exact ⟨rfl, rfl⟩
    · exact ⟨rfl, rfl⟩

theorem recordOp_repairs (s : State) (op : Nat) :
    (recordOp s op).flt.repairs = s.flt.repairs ∧ (recordOp s op).flt.repairsOwed = s.flt.repairsOwed := by
  have hperf := (perf_frame (drawn s) (pPkg 16)).flt_eq
  have hrec := latchRec_repairs (perf (drawn s) (pPkg 16)) 525
    { kind := 3, detail := op, isNative := true, severity := drawVal s 768 % 3, count := drawVal s 768 / 3 }
  rw [hperf] at hrec
  exact hrec

/-- A reset by RESET_N loses the entries of the repair table that were not yet written to the MRAM (R22, R435). -/
theorem resetNFall_repairs {s : State} (h : s.boot.por = false) :
    (resetNFall s).flt.repairs = s.flt.repairs.take (s.flt.repairs.length - s.flt.repairsOwed) := by
  obtain ⟨hrep, howed⟩ := recordOp_repairs { s with pins := { s.pins with resetN := false } } 1
  calc (resetNFall s).flt.repairs
      = (keepFaults (recordOp { s with pins := { s.pins with resetN := false } } 1).flt).repairs := by
        simp [resetNFall, chipReset, chipCleared, h]
    _ = s.flt.repairs.take (s.flt.repairs.length - s.flt.repairsOwed) := by rw [keepFaults, hrep, howed]

/-- A self-test that may repair runs on the first unit of an edge port while die-to-die link 4, and with it the MRAM, is down. -/
def testUnderway : State :=
  { clk := { d2dDown := [4] }, boot := { por := false }
    flt := { tests := [{ src := 112, loc := 3, repair := true, running := true }] } }

/-- The self-test has found a lasting fault: its repair is in force, and its entry waits for the MRAM (R22, R433, R435). -/
def repairOwed : State := selftestDone testUnderway 112 .lasting

theorem repairOwed_reached : exec (.selftestDone 112 .lasting) testUnderway = .next repairOwed := rfl

theorem repairOwed_flt : repairOwed.boot.por = false ∧ repairOwed.flt.repairs = [{ fs := 112, loc := 3 }] ∧
    repairOwed.flt.repairsOwed = 1 := by decide +kernel

/-- Refutes O33: its first clause has RESET_N keep the whole repair table, but an entry that still waits for the MRAM is lost with the reset
(R22, R435). Here a lasting verdict has been repaired while the MRAM's link is down, and RESET_N falls before the entry is written. -/
theorem not_resetPinsAndStarts : ¬ Obligations.ResetPinsAndStarts := by
  unfold Obligations.ResetPinsAndStarts
  rintro ⟨hfall, -⟩
  obtain ⟨hpor, hrepairs, howed⟩ := repairOwed_flt
  obtain ⟨t, ht, -, -, -, -, -, -, -, -, -, -, -, -, -, -, -, -, -, -, -, -, -, -, -, hkept, -⟩ := hfall repairOwed hpor
  have hexec : exec .resetNFall repairOwed = .next (keeping repairOwed (resetNFall repairOwed)) := rfl
  have hlost : t.flt.repairs = [] := by
    obtain rfl := Host.Outcome.next.inj (ht.symm.trans hexec)
    calc (resetNFall repairOwed).flt.repairs
        = repairOwed.flt.repairs.take (repairOwed.flt.repairs.length - repairOwed.flt.repairsOwed) := resetNFall_repairs hpor
      _ = [] := by rw [hrepairs, howed]; rfl
  rw [hlost, hrepairs] at hkept
  exact absurd hkept (by decide)

end Sys2Proof.Machine
end

section
/-! PROOFS. The header check of ring frames (R57, R58) and the window positions of static slots (R50): the statements O44 and O45. -/

namespace Sys2Proof.Machine

open Sys2Proof

/-- Settles O44: CW keeps the number of a slot and CCW mirrors it. -/
theorem windowPositions : Obligations.WindowPositions := by
  intro i k hk hs
  have hcw : winPos i .cw k = k := rfl
  have hccw : winPos i .ccw k = i.s + 1 - k := rfl
  refine ⟨hcw, hccw, by omega, by omega, by omega, fun k' r hk' hs' h => ?_⟩
  cases r with
  | cw => exact h
  | ccw =>
    have hmirror : i.s + 1 - k' = i.s + 1 - k := h
    omega

/-! ### CRC-16 by bits -/

/-- One bit through the register of CRC-16, the highest bit of the register leaving (R58). -/
def crcBit16 (c : BitVec 16) (d : Bool) : BitVec 16 := if c.getMsbD 0 != d then (c <<< 1) ^^^ 0x1021#16 else c <<< 1

/-- A word added to the register is taken in by its highest bit, and the rest of it moves up with the register. -/
theorem crcBit16_xor (c y : BitVec 16) :
    crcBit16 (c ^^^ y) false = crcBit16 c (y.getMsbD 0) ^^^ (y <<< 1) := by
  have hbit : ((c ^^^ y).getMsbD 0 != false) = (c.getMsbD 0 != y.getMsbD 0) := by simp
  unfold crcBit16
  rw [hbit, BitVec.shiftLeft_xor_distrib]
  split
  · rw [BitVec.xor_assoc, BitVec.xor_assoc, BitVec.xor_comm (y <<< 1)]
  · rfl

/-- So `n` shifts of the register with a word in it take in the word's `n` highest bits. -/
theorem foldl_crcBit16_xor (n : Nat) (c y : BitVec 16) :
    (List.replicate n false).foldl crcBit16 (c ^^^ y) =
      ((List.range n).map (fun i => y.getMsbD i)).foldl crcBit16 c ^^^ (y <<< n) := by
  induction n generalizing c y with
  | zero => simp
  | succ n ih =>
    rw [List.replicate_succ, List.foldl_cons, crcBit16_xor, ih, List.range_succ_eq_map]
    simp [Function.comp_def, BitVec.getMsbD_shiftLeft, BitVec.shiftLeft_add, Nat.add_comm n 1]

/-- An octet goes through the register bit by bit, its highest bit first. -/
theorem crcStep16_eq_foldl (c : BitVec 16) (b : Byte) :
    crcStep16 c b = ((List.range 8).map (fun i => b.getMsbD i)).foldl crcBit16 c := by
  have hsteps : crcStep16 c b = (List.replicate 8 false).foldl crcBit16 (c ^^^ (b.zeroExtend 16 <<< 8)) := by
    simp [crcStep16, crcBit16, List.replicate]
  have hbits : ∀ i < 8, (b.zeroExtend 16 <<< 8).getMsbD i = b.getMsbD i := by
    intro i hi
    simp [BitVec.getMsbD_shiftLeft, BitVec.getMsbD_setWidth]
  have hout : b.zeroExtend 16 <<< 8 <<< 8 = 0#16 := by
    rw [← BitVec.shiftLeft_add]
    exact BitVec.shiftLeft_eq_zero (by decide)
  rw [hsteps, foldl_crcBit16_xor, hout, BitVec.xor_zero]
  exact congrArg _ (List.map_congr_left fun i hi => hbits i (List.mem_range.mp hi))

/-- CRC-16 of octets is that of their bits in order (R58). -/
theorem foldl_crcStep16 (o : Octets) (c : BitVec 16) :
    o.foldl crcStep16 c = (o.flatMap (fun b => (List.range 8).map (fun i => b.getMsbD i))).foldl crcBit16 c := by
  induction o generalizing c with
  | nil => rfl
  | cons b o ih => rw [List.foldl_cons, List.flatMap_cons, List.foldl_append, ih, crcStep16_eq_foldl]

theorem crc16_lt (o : Octets) : crc16 o < 256 ^ 2 := BitVec.isLt _

/-! ### Octets of a string -/

@[simp] theorem length_beBytes (n v : Nat) : (beBytes n v).length = n := by simp [beBytes]

theorem beNat_beBytes (n v : Nat) : beNat (beBytes n v) = v % 256 ^ n := by
  rw [beNat, beBytes, List.reverse_reverse, leNat_leBytes]

/-- What stands between two parts of a string is read there. -/
theorem slice_middle {a m r : Octets} {off n : Nat} (ha : a.length = off) (hm : m.length = n) : slice (a ++ m ++ r) off n = m := by
  subst ha hm
  simp [slice]

/-- A place inside the first part of a string is read in that part. -/
theorem slice_append_left {a b : Octets} {off n : Nat} (h : off + n ≤ a.length) : slice (a ++ b) off n = slice a off n := by
  rw [slice, slice, List.drop_append_of_le_length (by omega), List.take_append_of_le_length (by simp; omega)]

theorem slice_take {o : Octets} {k off n : Nat} (h : off + n ≤ k) : slice (o.take k) off n = slice o off n := by
  simp only [slice, List.drop_take, List.take_take]
  congr 1
  omega

/-- Octets written inside a string stand between what was there before and after them. -/
theorem overwrite_eq {o d : Octets} {off : Nat} (h : off ≤ o.length) : overwrite o off d = o.take off ++ d ++ o.drop (off + d.length) := by
  simp [overwrite, padTo, Nat.sub_eq_zero_of_le h]

theorem length_overwrite {o d : Octets} {off : Nat} (h : off + d.length ≤ o.length) : (overwrite o off d).length = o.length := by
  rw [overwrite_eq (by omega)]
  simp
  omega

theorem slice_overwrite {o d : Octets} {off : Nat} (h : off + d.length ≤ o.length) : slice (overwrite o off d) off d.length = d := by
  rw [overwrite_eq (by omega)]
  exact slice_middle (by simp; omega) rfl

/-- A write leaves what stands before it. -/
theorem slice_overwrite_before {o d : Octets} {off i n : Nat} (h : off ≤ o.length) (hi : i + n ≤ off) :
    slice (overwrite o off d) i n = slice o i n := by
  rw [overwrite_eq h, List.append_assoc, slice_append_left (by simp; omega), slice_take hi]

/-- A write leaves what stands after it. -/
theorem slice_overwrite_after {o d : Octets} {off i n : Nat} (h : off + d.length ≤ o.length) (hi : off + d.length ≤ i) :
    slice (overwrite o off d) i n = slice o i n := by
  have hlen : (o.take off ++ d).length = off + d.length := by simp; omega
  rw [overwrite_eq (by omega), slice, slice, List.drop_append, hlen, List.drop_drop, List.drop_eq_nil_of_le (by omega),
    List.nil_append]
  congr 2
  omega

/-! ### The header check of a frame -/

/-- A receiver recomputes HCRC over header octets 0 to 13, and compares it with octets 14 and 15 (R57, R58). -/
theorem hcrcGood_iff (o : Octets) : hcrcGood o = true ↔ beAt o 26 2 = crc16 (slice o 12 14) := by
  rw [hcrcGood, beq_iff_eq, eq_comm]

theorem hcrcGood_of_slices {o b : Octets} (hb : slice o 12 14 = b) (hc : slice o 26 2 = beBytes 2 (crc16 b)) : hcrcGood o = true := by
  rw [hcrcGood_iff, beAt, hc, hb, beNat_beBytes, Nat.mod_eq_of_lt (crc16_lt b)]

/-- The header check reads no octet behind the header. -/
theorem hcrcGood_append {a b : Octets} (h : 28 ≤ a.length) : hcrcGood (a ++ b) = hcrcGood a := by
  simp only [hcrcGood, beAt, slice_append_left (show 12 + 14 ≤ a.length by omega), slice_append_left (show 26 + 2 ≤ a.length by omega)]

theorem hcrcGood_padTo {n : Nat} {o : Octets} (h : 28 ≤ o.length) (hn : o.length ≤ n) : hcrcGood (padTo n o) = hcrcGood o := by
  rw [padTo, List.take_of_length_le hn, hcrcGood_append h]

theorem length_hdrBody (h : Hdr) : (hdrBody h).length = 14 := by simp [hdrBody]

theorem length_hdrBytes (h : Hdr) : (hdrBytes h).length = 16 := by simp [hdrBytes, length_hdrBody]

/-- A header behind the two addresses passes its check. -/
theorem hcrcGood_hdrBytes {a r : Octets} (ha : a.length = 12) (h : Hdr) : hcrcGood (a ++ hdrBytes h ++ r) = true := by
  refine hcrcGood_of_slices (b := hdrBody h) ?_ ?_
  · rw [hdrBytes, ← List.append_assoc, List.append_assoc _ _ r]
    exact slice_middle ha (length_hdrBody h)
  · rw [hdrBytes, ← List.append_assoc]
    exact slice_middle (by simp [ha, length_hdrBody]) (length_beBytes _ _)

/-- A frame that is sent passes the header check (R58). -/
theorem hcrcGood_ringFrame {body : Octets} (hb : 12 ≤ body.length) (h : Hdr) : hcrcGood (ringFrame body h) = true := by
  have hlen : (body.take 12 ++ hdrBytes h ++ body.drop 12).length = body.length + 16 := by simp [length_hdrBytes]; omega
  have hgood : hcrcGood (body.take 12 ++ hdrBytes h ++ body.drop 12) = true := hcrcGood_hdrBytes (by simp; omega) h
  unfold ringFrame
  generalize body.take 12 ++ hdrBytes h ++ body.drop 12 = b at hlen hgood ⊢
  dsimp only
  split
  · rw [hcrcGood_append (by simp [padTo]; omega), hcrcGood_padTo (by omega) (by omega), hgood]
  · rw [hcrcGood_append (by omega), hgood]

/-! ### One more hop -/

/-- A frame's octets with HOPS one more, before HCRC is recomputed. -/
def hopsRaised (b : Octets) : Octets := overwrite b 19 (beBytes 1 (beAt b 19 1 + 1))

theorem hopBody_eq (b : Octets) : hopBody b = overwrite (hopsRaised b) 26 (beBytes 2 (crc16 (slice (hopsRaised b) 12 14))) := rfl

section

variable {b : Octets} (h : 28 ≤ b.length)
include h

theorem length_hopsRaised : (hopsRaised b).length = b.length := length_overwrite (by rw [length_beBytes]; omega)

theorem length_hopBody : (hopBody b).length = b.length := by
  have hlen := length_hopsRaised h
  rw [hopBody_eq, length_overwrite (by rw [length_beBytes]; omega), hlen]

theorem slice_hopsRaised {i n : Nat} (hi : i + n ≤ 19 ∨ 20 ≤ i) : slice (hopsRaised b) i n = slice b i n := by
  rcases hi with hi | hi
  · exact slice_overwrite_before (by omega) hi
  · exact slice_overwrite_after (by rw [length_beBytes]; omega) (by rw [length_beBytes]; omega)

/-- A forwarder changes no octet of a frame but HOPS and HCRC (R58, R80). -/
theorem slice_hopBody {i n : Nat} (hhops : i + n ≤ 19 ∨ 20 ≤ i) (hcheck : i + n ≤ 26 ∨ 28 ≤ i) :
    slice (hopBody b) i n = slice b i n := by
  have hlen := length_hopsRaised h
  rw [← slice_hopsRaised h hhops, hopBody_eq]
  rcases hcheck with hi | hi
  · exact slice_overwrite_before (by omega) hi
  · exact slice_overwrite_after (by rw [length_beBytes]; omega) (by rw [length_beBytes]; omega)

theorem beAt_hopBody_hops : beAt (hopBody b) 19 1 = (beAt b 19 1 + 1) % 256 := by
  have hlen := length_hopsRaised h
  have hput : slice (hopsRaised b) 19 1 = beBytes 1 (beAt b 19 1 + 1) := slice_overwrite (by rw [length_beBytes]; omega)
  rw [beAt, hopBody_eq, slice_overwrite_before (by omega) (by omega), hput, beNat_beBytes, Nat.pow_one]

theorem hcrcGood_hopBody : hcrcGood (hopBody b) = true := by
  have hlen := length_hopsRaised h
  rw [hopBody_eq]
  exact hcrcGood_of_slices (slice_overwrite_before (by omega) (by omega)) (slice_overwrite (by rw [length_beBytes]; omega))

end

theorem length_bodyOf (o : Octets) : (bodyOf o).length = o.length - 4 := by simp [bodyOf]

theorem length_fcsOf (o : Octets) : (fcsOf o).length = 4 := length_leBytes 4 _

/-- Octets with their FCS behind them are a good frame. -/
theorem fcsGood_append_fcsOf (b : Octets) : fcsGood (b ++ fcsOf b) = true := by
  have hlen : (b ++ fcsOf b).length - 4 = b.length := by simp [length_fcsOf]
  rw [fcsGood, hlen, List.take_left, List.drop_left, beq_self_eq_true]

theorem length_hopped {o : Octets} (h : 32 ≤ o.length) : (hopped o).length = o.length := by
  have hb := length_hopBody (b := bodyOf o) (by rw [length_bodyOf]; omega)
  rw [hopped, List.length_append, hb, length_fcsOf, length_bodyOf]
  omega

/-- What stands before the FCS of a forwarded frame is read in its octets with one more hop. -/
theorem slice_hopped {o : Octets} (h : 32 ≤ o.length) {i n : Nat} (hi : i + n ≤ o.length - 4) :
    slice (hopped o) i n = slice (hopBody (bodyOf o)) i n := by
  have hb := length_hopBody (b := bodyOf o) (by rw [length_bodyOf]; omega)
  rw [length_bodyOf] at hb
  exact slice_append_left (by omega)

/-- A forwarded frame is the frame received up to its FCS, but for HOPS and HCRC. -/
theorem slice_hopped_kept {o : Octets} (h : 32 ≤ o.length) {i n : Nat} (hn : i + n ≤ o.length - 4) (hhops : i + n ≤ 19 ∨ 20 ≤ i)
    (hcheck : i + n ≤ 26 ∨ 28 ≤ i) : slice (hopped o) i n = slice o i n := by
  rw [slice_hopped h hn, slice_hopBody (by rw [length_bodyOf]; omega) hhops hcheck, bodyOf, slice_take hn]

/-- Settles O45: an octet is eight bits through the register, and the two octets of HCRC stand behind the octets that they check, in a
frame that is sent and in one that is forwarded. -/
theorem headerChecks : Obligations.HeaderChecks := by
  unfold Obligations.HeaderChecks
  refine ⟨fun o => ?bits, by decide +kernel, hcrcGood_iff, fun body h hb => hcrcGood_ringFrame hb h, fun o ho => ?hop⟩
  case bits => rw [crc16, foldl_crcStep16]; rfl
  case hop =>
    have hbody : 28 ≤ (bodyOf o).length := by rw [length_bodyOf]; omega
    refine ⟨?good, ?hops, length_hopped ho, slice_hopped_kept ho (by omega) (by omega) (by omega),
      slice_hopped_kept ho (by omega) (by omega) (by omega), slice_hopped_kept ho (by omega) (by omega) (by omega), fcsGood_append_fcsOf _⟩
    case good => rw [hopped, hcrcGood_append (by rw [length_hopBody hbody]; exact hbody), hcrcGood_hopBody hbody]
    case hops =>
      rw [beAt, slice_hopped ho (by omega), ← beAt, beAt_hopBody_hops hbody, beAt, bodyOf, slice_take (by omega), ← beAt]

end Sys2Proof.Machine
end

section
/-! PROOFS. What the geometry of the ring reads of a state, and what counters, vectors and outputs leave of it: the facts that the
statements about cycles, slots and received frames share. -/

namespace Sys2Proof.Machine

open Sys2Proof

/-- A row with its operands in range takes its effect, with the queue of waiting commands as it stood. -/
theorem exec_eq_keeping {i : Instr} {s t u : State} (hx : exec i s = checked (Instr.wf i) s t) (hw : Instr.wf i = true) (ht : t = u) :
    exec i s = .next (keeping s u) := by
  rw [hx, checked_good s t hw, ht]

/-! ### Counters, vectors and outputs -/

/-- A reading of what a state shows is the same before and after a change that is not seen. -/
theorem Unseen.read {α : Type} {s t : State} (h : Unseen s t) (r : State → α) (hr : ∀ a, r (shown a) = r a := by exact fun _ => rfl) :
    r t = r s := by
  rw [← hr t, ← hr s, h.1]

theorem Unseen.pending_eq {s t : State} (h : Unseen s t) : t.pending = s.pending := congrArg (·.2.2) h.2

@[simp] theorem perfN_pending (s : State) (i n : Nat) : (perfN s i n).pending = s.pending := (perfN_unseen s i n).pending_eq
@[simp] theorem perfN_time (s : State) (i n : Nat) : (perfN s i n).time = s.time := (perfN_unseen s i n).read (·.time)
@[simp] theorem perfN_cyc (s : State) (i n : Nat) : (perfN s i n).cyc = s.cyc := (perfN_unseen s i n).read (·.cyc)
@[simp] theorem perfN_ring (s : State) (i n : Nat) : (perfN s i n).ring = s.ring := (perfN_unseen s i n).read (·.ring)
@[simp] theorem perfN_vat (s : State) (i n : Nat) : (perfN s i n).vat = s.vat := (perfN_unseen s i n).read (·.vat)
@[simp] theorem perfN_boot (s : State) (i n : Nat) : (perfN s i n).boot = s.boot := (perfN_unseen s i n).read (·.boot)

@[simp] theorem perf_pending (s : State) (i : Nat) : (perf s i).pending = s.pending := perfN_pending s i 1
@[simp] theorem perf_time (s : State) (i : Nat) : (perf s i).time = s.time := perfN_time s i 1
@[simp] theorem perf_cyc (s : State) (i : Nat) : (perf s i).cyc = s.cyc := perfN_cyc s i 1
@[simp] theorem perf_ring (s : State) (i : Nat) : (perf s i).ring = s.ring := perfN_ring s i 1
@[simp] theorem perf_vat (s : State) (i : Nat) : (perf s i).vat = s.vat := perfN_vat s i 1
@[simp] theorem perf_boot (s : State) (i : Nat) : (perf s i).boot = s.boot := perfN_boot s i 1

/-! ### The geometry of the ring (R49 to R51, R98) -/

/-- What the geometry of the ring reads of a state: the ring's own tables, the cycle's origin, image and number, and the node. -/
def ringBase (s : State) : State :=
  { boot := s.boot, ring := s.ring, cyc := { image := s.cyc.image, c0 := s.cyc.c0, n := s.cyc.n } }

/-- Two states in which the ring has the same geometry. -/
def SameRing (s t : State) : Prop := ringBase t = ringBase s

theorem walk_ringBase (k : Nat) (s : State) (start n : Nat) (out : RPort) :
    walk k (ringBase s) start n out = walk k s start n out := by
  induction k generalizing n out with
  | zero => rfl
  | succ k ih =>
    simp only [walk, ih]
    rfl

theorem ringOrder_ringBase (s : State) : ringOrder (ringBase s) = ringOrder s := by
  simp only [ringOrder, walk_ringBase]
  rfl

theorem lap_ringBase (s : State) (rot : Rot) : lap (ringBase s) rot = lap s rot := by
  rw [lap, ringOrder_ringBase]
  rfl

theorem sigma_ringBase (s : State) (rot : Rot) : sigma (ringBase s) rot = sigma s rot := by
  unfold sigma
  rw [ringOrder_ringBase]
  rfl

namespace SameRing

variable {s t : State} (h : SameRing s t)
include h

/-- What reads no more of a state than the geometry of the ring does agrees. -/
theorem read {α : Type} (r : State → α) (hr : ∀ a, r (ringBase a) = r a := by exact fun _ => rfl) : r t = r s := by
  rw [← hr t, ← hr s, h]

theorem lap_eq (rot : Rot) : lap t rot = lap s rot := h.read (lap · rot) (lap_ringBase · rot)

theorem sigma_eq (rot : Rot) : sigma t rot = sigma s rot := h.read (sigma · rot) (sigma_ringBase · rot)

theorem slotStart_eq (i : Image) (n : Nat) (rot : Rot) (k : Nat) : slotStart t i n rot k = slotStart s i n rot k := by
  rw [slotStart, slotStart, h.sigma_eq, h.read (boundary · n)]

theorem dynEnd_eq (i : Image) (n : Nat) (rot : Rot) : dynEnd t i n rot = dynEnd s i n rot := by
  rw [dynEnd, dynEnd, dynStart, dynStart, h.sigma_eq, h.read (boundary · n)]

theorem wrapped_eq (rot : Rot) (origin : Nat) : wrapped t rot origin = wrapped s rot origin := h.read (wrapped · rot origin)

theorem tExp_eq (i : Image) (n : Nat) (rot : Rot) (slot origin : Nat) : tExp t i n rot slot origin = tExp s i n rot slot origin := by
  rw [tExp, tExp, tSend, tSend, h.slotStart_eq, h.wrapped_eq, h.lap_eq, h.read (ownHop · rot)]

theorem viewCycle_eq (rot : Rot) (ts : Nat) : viewCycle t rot ts = viewCycle s rot ts := by
  rw [viewCycle, viewCycle, h.sigma_eq, h.read (ownHop · rot), h.read (·.cyc.image), h.read (·.cyc.c0), h.read (·.cyc.n)]

theorem hdrCheck_eq (e : RPort) (o : Octets) (ts : Nat) : hdrCheck t e o ts = hdrCheck s e o ts := by
  unfold hdrCheck
  rw [h.read ringEtype, h.read idGood, h.read synced, h.read (rxRot · e), h.viewCycle_eq, h.read stripLimit]

theorem valuesOf_eq (i : Image) (n : Nat) (l : List SyncVal) : valuesOf t i n l = valuesOf s i n l := by
  have hvalue : valueOf t i n = valueOf s i n := by
    funext v
    simp only [valueOf, h.tExp_eq]
  rw [valuesOf, valuesOf, hvalue, h.read synced, h.read me]

end SameRing

theorem Unseen.sameRing {s t : State} (h : Unseen s t) : SameRing s t := h.read ringBase

end Sys2Proof.Machine
end

section
/-! PROOFS. The boundary of a cycle and what takes place at it: the statement O10. -/

namespace Sys2Proof.Machine

open Sys2Proof

/-! ### What the start of a cycle keeps -/

/-- What a cycle's start changes beside the tables of buffers and claims is neither time, nor the cycle's origin, number and marks, nor the
ring's state. -/
structure CycleKept (s t : State) : Prop where
  time_eq : t.time = s.time
  cyc_eq : { t.cyc with tx := s.cyc.tx, claims := s.cyc.claims } = s.cyc
  state_eq : t.ring.state = s.ring.state

namespace CycleKept

theorem refl (s : State) : CycleKept s s := ⟨rfl, rfl, rfl⟩

theorem trans {s t u : State} (h : CycleKept s t) (g : CycleKept t u) : CycleKept s u :=
  ⟨g.time_eq.trans h.time_eq, by rw [← h.cyc_eq, ← g.cyc_eq], g.state_eq.trans h.state_eq⟩

theorem foldl {β : Type} {f : State → β → State} (hf : ∀ s b, CycleKept s (f s b)) (l : List β) (s : State) :
    CycleKept s (l.foldl f s) := by
  induction l generalizing s with
  | nil => exact .refl s
  | cons b l ih => exact (hf s b).trans (ih _)

theorem ite {s t u : State} {c : Prop} [Decidable c] (h : c → CycleKept s t) (g : ¬c → CycleKept s u) :
    CycleKept s (if c then t else u) := by
  split
  · exact h ‹c›
  · exact g ‹¬c›

/-- What is read of the cycle beside the tables of buffers and claims stays. -/
theorem read_cyc {α : Type} {s t : State} (h : CycleKept s t) (r : CycleSt → α)
    (hr : ∀ x b c, r { x with tx := b, claims := c } = r x := by exact fun _ _ _ => rfl) : r t.cyc = r s.cyc :=
  (hr t.cyc _ _).symm.trans (congrArg r h.cyc_eq)

end CycleKept

theorem setRport_kept (s : State) (e : RPort) (x : RingPort) : CycleKept s (setRport s e x) := by cases e <;> exact ⟨rfl, rfl, rfl⟩

theorem setTx_kept (s : State) (b : Nat) (x : TxBuf) : CycleKept s (setTx s b x) := ⟨rfl, rfl, rfl⟩

theorem setClaim_kept (s : State) (x : Nat) (c : Claim) : CycleKept s (setClaim s x c) := ⟨rfl, rfl, rfl⟩

theorem txReadEnd_kept (s : State) (b : Nat) (rot : Rot) : CycleKept s (txReadEnd s b rot) := setTx_kept s b _

theorem startBurst_kept (s : State) (e : RPort) : CycleKept s (startBurst s e) := .ite (fun _ => .refl s) fun _ => setRport_kept s e _

theorem beatCycle_kept (s : State) (e : RPort) : CycleKept s (beatCycle s e) := setRport_kept s e _

theorem readyCheck_kept (s : State) (e : RPort) : CycleKept s (readyCheck s e) := .ite (fun _ => setRport_kept s e _) fun _ => .refl s

theorem restoreCheck_kept (s : State) (e : RPort) : CycleKept s (restoreCheck s e) :=
  .ite (fun _ => setRport_kept s e _) fun _ => .refl s

theorem backoffCycle_kept (s : State) : CycleKept s (backoffCycle s) := ⟨rfl, rfl, rfl⟩

theorem dropStale_kept (s : State) (e : Nat × TxBuf) : CycleKept s (dropStale s e) :=
  .trans (.ite (fun _ => txReadEnd_kept s _ _) fun _ => .refl s) (.ite (fun _ => txReadEnd_kept _ _ _) fun _ => .refl _)

theorem startClaiming_kept (s : State) (i : Image) (p : Pier) : CycleKept s (startClaiming s i p) :=
  .ite (fun _ => (setClaim_kept s _ _).trans (.foldl (fun s _ => setTx_kept s _ _) _ _)) fun _ => .refl s

/-- Where no report and no event waits, the start of an odd cycle applies none (R95, R147). -/
theorem applyDue_kept {s : State} (hr : s.ring.pendReps = []) (he : s.ring.pendEvs = []) (hst : s.ring.state ≠ .calibrating) :
    CycleKept s (applyDue s) := by
  have hcal : calCheck s = s := by simp [calCheck, hst]
  have hdue : applyDue s = s := by
    calc applyDue s = calCheck { s with ring := { s.ring with pendReps := [], pendEvs := [] } } := by simp [applyDue, hr, he]
      _ = calCheck s := by rw [← hr, ← he]
      _ = s := hcal
  rw [hdue]
  exact .refl s

/-! ### The steps of a boundary -/

/-- At the end of a cycle the rate of the pair takes effect, or a pair is formed (R101, R103). -/
def corrected (s : State) (i : Image) : State :=
  if s.cyc.n % 2 = 1 then pairEnd (endPiers s i) i
  else if synced s || s.ring.state == .integrating then correctionPair (endPiers s i) i else endPiers s i

/-- The cycle number steps, and what counts within a cycle starts again (R47). -/
def stepped (s : State) : State :=
  perf { s with
    cyc := { s.cyc with n := s.cyc.n + 1, msIdxCW := 0, msIdxCCW := 0, msCW := none, msCCW := none, dynBusyCW := [], dynBusyCCW := []
                        seen := [], armCW := none, armCCW := none }
    time := { s.time with
      syncCycles := s.time.syncCycles + b2n (synced s)
      thinArmed := s.time.thinArmed || decide (synced s ∧ s.time.syncCycles + 1 = 64) }
    ring := { s.ring with recentEvs := s.ring.recentEvs.filter (fun e => decide (s.cyc.n < e.2.2.1 + 8)) } } (pPkg 0)

theorem stepped_time (s : State) : (stepped s).time = { s.time with
    syncCycles := s.time.syncCycles + b2n (synced s)
    thinArmed := s.time.thinArmed || decide (synced s ∧ s.time.syncCycles + 1 = 64) } := perf_time _ _

theorem stepped_cyc (s : State) : (stepped s).cyc = { s.cyc with
    n := s.cyc.n + 1, msIdxCW := 0, msIdxCCW := 0, msCW := none, msCCW := none, dynBusyCW := [], dynBusyCCW := [], seen := []
    armCW := none, armCCW := none } := perf_cyc _ _

theorem stepped_ring (s : State) : (stepped s).ring = { s.ring with
    recentEvs := s.ring.recentEvs.filter (fun e => decide (s.cyc.n < e.2.2.1 + 8)) } := perf_ring _ _

theorem cycleBoundary_early {s : State} {i : Image} {c : Nat} (hi : s.cyc.image = some i) (hb : boundary s (s.cyc.n + 1) = some c)
    (hc : nt16 s < c) : cycleBoundary s = s := by
  simp only [cycleBoundary, hi, hb, if_pos hc]

/-- Once its instant has come the boundary ends the cycle with the pair, steps its number, and starts the next cycle: beats, readiness,
buffers, claims and bursts leave what `CycleKept` names. -/
theorem cycleBoundary_due {s : State} {i : Image} {c : Nat} (hi : s.cyc.image = some i) (hb : boundary s (s.cyc.n + 1) = some c)
    (hc : c ≤ nt16 s) {u : State} (hu : listenIfNew s (corrected s i) = u)
    (hdue : (stepped u).cyc.n % 2 = 1 → CycleKept (stepped u) (applyDue (stepped u))) :
    CycleKept (stepped u) (cycleBoundary s) := by
  subst hu
  unfold cycleBoundary
  rw [hi, hb]
  change CycleKept _ (if nt16 s < c then s else _)
  rw [if_neg (Nat.not_lt.mpr hc)]
  extract_lets s0 s1 s2 time cyc ring s3 s4 s5 s7 s6
  have h4 : CycleKept s3 s4 := .ite hdue fun _ => .refl s3
  have h5 : CycleKept s4 s5 := ((beatCycle_kept s4 .east).trans (beatCycle_kept _ .west)).trans (backoffCycle_kept _)
  have h7 : CycleKept s5 s7 := (((readyCheck_kept s5 .east).trans (readyCheck_kept _ .west)).trans (restoreCheck_kept _ .east)).trans
    (restoreCheck_kept _ .west)
  have h6 : CycleKept s7 s6 := (CycleKept.foldl dropStale_kept _ s7).trans (.foldl (fun t p => startClaiming_kept t i p) _ _)
  exact (((h4.trans h5).trans h7).trans h6).trans
    (.ite (fun _ => (startBurst_kept s6 .east).trans (startBurst_kept _ .west)) fun _ => .refl s6)

/-! ### Pier slots whose occurrences end -/

/-- Nothing but the claims, the expectations and the marks of pier slots is changed. -/
def PiersOnly (s t : State) : Prop :=
  t = { s with cyc := { s.cyc with claims := t.cyc.claims, expects := t.cyc.expects, seen := t.cyc.seen } }

theorem PiersOnly.refl (s : State) : PiersOnly s s := rfl

theorem PiersOnly.trans {s t u : State} (h : PiersOnly s t) (g : PiersOnly t u) : PiersOnly s u := by
  unfold PiersOnly at *
  rw [g, h]

theorem pierEnds_only (s : State) (p : Pier) : PiersOnly s (pierEnds s p) := by
  unfold pierEnds
  dsimp only
  split
  · exact .refl s
  · split
    · rfl
    · split <;> rfl

theorem endPiers_only (s : State) (i : Image) : PiersOnly s (endPiers s i) := by
  unfold endPiers
  generalize i.piers.filter _ = l
  induction l generalizing s with
  | nil => exact .refl s
  | cons p l ih => exact (pierEnds_only s p).trans (ih _)

section

variable {s t : State} (h : PiersOnly s t)
include h

theorem PiersOnly.sameRing : SameRing s t := by
  unfold PiersOnly at h
  rw [h]
  rfl

theorem PiersOnly.pending_eq : t.pending = s.pending := by
  unfold PiersOnly at h
  rw [h]

theorem PiersOnly.time_eq : t.time = s.time := by
  unfold PiersOnly at h
  rw [h]

theorem PiersOnly.ring_eq : t.ring = s.ring := by
  unfold PiersOnly at h
  rw [h]

/-- What is read of the cycle beside claims, expectations and marks stays. -/
theorem PiersOnly.read_cyc {α : Type} (r : CycleSt → α)
    (hr : ∀ x c e m, r { x with claims := c, expects := e, seen := m } = r x := by exact fun _ _ _ _ => rfl) : r t.cyc = r s.cyc := by
  unfold PiersOnly at h
  rw [h, hr]

end

/-! ### The correction pair (R101, R103) -/

/-- The state with its time replaced. -/
def setTime (s : State) (x : TimeSt) : State := { s with time := x }

@[simp] theorem setTime_cyc (s : State) (x : TimeSt) : (setTime s x).cyc = s.cyc := rfl

@[simp] theorem setTime_ring (s : State) (x : TimeSt) : (setTime s x).ring = s.ring := rfl

/-- The correction pair takes effect on the rate (R103). -/
def rateApplied (x : TimeSt) : TimeSt :=
  { x with rho := x.rhoNext.getD x.rho, rhoNext := none, phiNext := none, pairsInSync := x.pairsInSync + b2n x.prev.isSome }

/-- A correction pair of `n` values of a cycle waits for the next (R101, R104). -/
def pairFormed (x : TimeSt) (n cyc : Nat) (phi rho : Int) : TimeSt :=
  { x with nval := n % 16, prev := some x.cur, prevCycle := cyc, cur := [], outWin := 0, phiNext := some phi, rhoNext := some rho
           phiPrev := phi, limitFail := 0, thin := 0, thinArmed := true }

/-- A pair that passed its checks takes effect on the rate (R103). -/
theorem pairEnd_applies {s : State} {i : Image} (hs : synced s = true) (hl : s.time.limitFail = 0) (ht : s.time.thin < i.nStarve) :
    pairEnd s i = setTime s (rateApplied s.time) := by
  have hpairs : (if s.time.prev.isSome then s.time.pairsInSync + 1 else s.time.pairsInSync) =
      s.time.pairsInSync + b2n s.time.prev.isSome := by
    cases s.time.prev <;> rfl
  simp [pairEnd, hs, hl, Nat.not_le.mpr ht, hpairs, setTime, rateApplied]

theorem synced_state {s : State} (h : synced s = true) : s.ring.state = .synchronised := by simpa [synced] using h

/-- A synchronised node with three values and both corrections within their limits keeps the pair for the next cycle (R101, R104). -/
theorem correctionPair_good {s : State} {i : Image} {vals : List (Nat × Int)} {phi rho : Int} (hs : synced s = true)
    (hvals : valuesOf s i s.cyc.n s.time.cur = vals) (hrho : rateOf s i false (driftsOf s i vals) = rho) (hn : 3 ≤ vals.length)
    (hphi : ftm false (vals.map (·.2)) = some (-phi)) (hp : phi.natAbs ≤ i.phiLim * 65536) (hr : rho.natAbs ≤ i.rhoLim) :
    correctionPair s i = perf (setTime s (pairFormed s.time vals.length s.cyc.n phi rho)) (pPkg 1) := by
  have hint : (s.ring.state == .integrating) = false := by rw [synced_state hs]; rfl
  simp [correctionPair, hs, hint, hvals, hrho, hphi, Nat.not_lt.mpr hn, Nat.not_lt.mpr hp, Nat.not_lt.mpr hr, setTime, pairFormed]

/-- A node that stays in its ring state starts no listen period. -/
theorem listenIfNew_same {s t : State} (h : t.ring.state = s.ring.state) : listenIfNew s t = t := by
  rw [listenIfNew, if_neg fun hn => hn.2 (h.symm.trans hn.1)]

/-- At the boundary after an applying cycle a synchronised node whose pair passed its checks runs at the pair's rate (R47, R103). -/
theorem cycleBoundary_applies {s : State} {i : Image} {c : Nat} (hi : s.cyc.image = some i) (hb : boundary s (s.cyc.n + 1) = some c)
    (hc : c ≤ nt16 s) (hodd : s.cyc.n % 2 = 1) (hs : synced s = true) (hl : s.time.limitFail = 0) (ht : s.time.thin < i.nStarve) :
    CycleKept (stepped (setTime (endPiers s i) (rateApplied s.time))) (cycleBoundary s) := by
  have hp := endPiers_only s i
  have hs' : synced (endPiers s i) = true := (hp.sameRing.read synced).trans hs
  have hcorr : corrected s i = setTime (endPiers s i) (rateApplied s.time) := by
    rw [corrected, if_pos hodd, pairEnd_applies hs' (by rw [hp.time_eq, hl]) (by rw [hp.time_eq]; exact ht), hp.time_eq]
  have heven : (endPiers s i).cyc.n % 2 = 1 := by rw [hp.sameRing.read (·.cyc.n), hodd]
  refine cycleBoundary_due hi hb hc (by rw [hcorr, listenIfNew_same (by rw [setTime_ring, hp.ring_eq])]) fun hn => ?_
  simp only [stepped_cyc, setTime_cyc] at hn
  omega

/-- At the boundary after a measuring cycle a good pair waits for its cycle (R101, R103). -/
theorem cycleBoundary_measures {s : State} {i : Image} {c : Nat} {vals : List (Nat × Int)} {phi rho : Int} (hi : s.cyc.image = some i)
    (hb : boundary s (s.cyc.n + 1) = some c) (hc : c ≤ nt16 s) (heven : s.cyc.n % 2 = 0) (hs : synced s = true)
    (hreps : s.ring.pendReps = []) (hevs : s.ring.pendEvs = []) (hvals : valuesOf s i s.cyc.n s.time.cur = vals)
    (hrho : rateOf s i false (driftsOf s i vals) = rho) (hn : 3 ≤ vals.length)
    (hphi : ftm false (vals.map (·.2)) = some (-phi)) (hp : phi.natAbs ≤ i.phiLim * 65536) (hr : rho.natAbs ≤ i.rhoLim) :
    CycleKept (stepped (perf (setTime (endPiers s i) (pairFormed s.time vals.length s.cyc.n phi rho)) (pPkg 1))) (cycleBoundary s) := by
  have ho := endPiers_only s i
  have hs' : synced (endPiers s i) = true := (ho.sameRing.read synced).trans hs
  have hn' : (endPiers s i).cyc.n = s.cyc.n := ho.sameRing.read (·.cyc.n)
  have hvals' : valuesOf (endPiers s i) i (endPiers s i).cyc.n (endPiers s i).time.cur = vals := by
    rw [ho.sameRing.valuesOf_eq, ho.time_eq, hn', hvals]
  have hrho' : rateOf (endPiers s i) i false (driftsOf (endPiers s i) i vals) = rho := by
    rw [← hrho]
    simp only [rateOf, driftsOf, ho.sameRing.valuesOf_eq, ho.time_eq, ho.sameRing.read me]
  have hcorr : corrected s i = perf (setTime (endPiers s i) (pairFormed s.time vals.length s.cyc.n phi rho)) (pPkg 1) := by
    rw [corrected, if_neg (by omega), hs, Bool.true_or, if_pos rfl, correctionPair_good hs' hvals' hrho' hn hphi hp hr, ho.time_eq, hn']
  refine cycleBoundary_due hi hb hc (by rw [hcorr, listenIfNew_same (by simp [ho.ring_eq])]) fun _ => applyDue_kept ?_ ?_ ?_ <;>
    simp [stepped_ring, ho.ring_eq, hreps, hevs, synced_state hs]

/-- Piers end, the number steps and the next cycle starts: its number is the next, its marks are empty, and its origin, its image and the
receive buffers are those of the cycle before. -/
theorem cyc_of_stepped {s t u : State} {i : Image} (hk : CycleKept (stepped t) u) (ht : t.cyc = (endPiers s i).cyc) :
    u.cyc.n = s.cyc.n + 1 ∧ u.cyc.c0 = s.cyc.c0 ∧ u.cyc.image = s.cyc.image ∧ u.cyc.seen = [] ∧ u.cyc.msIdxCW = 0 ∧
      u.cyc.msIdxCCW = 0 ∧ u.cyc.rx = s.cyc.rx := by
  have ho := endPiers_only s i
  have hs := stepped_cyc t
  rw [ht] at hs
  refine ⟨?_, ?_, ?_, ?_, ?_, ?_, ?_⟩
  · rw [hk.read_cyc (·.n), hs, ho.read_cyc (·.n)]
  · rw [hk.read_cyc (·.c0), hs, ho.read_cyc (·.c0)]
  · rw [hk.read_cyc (·.image), hs, ho.read_cyc (·.image)]
  · rw [hk.read_cyc (·.seen), hs]
  · rw [hk.read_cyc (·.msIdxCW), hs]
  · rw [hk.read_cyc (·.msIdxCCW), hs]
  · rw [hk.read_cyc (·.rx), hs, ho.read_cyc (·.rx)]

theorem state_of_stepped {s t u : State} {i : Image} (hk : CycleKept (stepped t) u) (ht : t.ring = (endPiers s i).ring) :
    u.ring.state = s.ring.state := by
  rw [hk.state_eq, stepped_ring, ht, (endPiers_only s i).ring_eq]

/-- In the idle interval of an applying cycle the offset's slew begins (R103). -/
theorem offsetSlew_begins {s : State} {i : Image} {c : Nat} {phi : Int} (hi : s.cyc.image = some i)
    (hb : boundary s (s.cyc.n + 1) = some c) (hphi : s.time.phiNext = some phi) (hodd : s.cyc.n % 2 = 1)
    (hc : c ≤ nt16 s + mts i i.lnit) :
    offsetSlew s = { s with time := { s.time with slew := some (phi, 0), phiNext := none } } := by
  simp only [offsetSlew, hi, hb, hphi]
  rw [if_pos ⟨hodd, hc⟩]

theorem offsetSlew_none {s : State} (h : s.time.phiNext = none) : offsetSlew s = s := by
  unfold offsetSlew
  split
  case h_1 hphi => simp [h] at hphi
  case h_2 => rfl

/-- Settles O10: what follows the correction at a boundary keeps the time, the cycle's number and the ring's state. -/
theorem cycleBoundaries : Obligations.CycleBoundaries := by
  unfold Obligations.CycleBoundaries
  refine ⟨?early, ?applies, ?measures, ?slews, ?waits⟩
  case early =>
    intro s i c hi hb hc
    exact exec_eq_next rfl rfl (cycleBoundary_early hi hb hc) rfl
  case applies =>
    intro s i c hi hb hc hodd hs hl ht
    have hk := cycleBoundary_applies hi hb hc hodd hs hl ht
    have htime := hk.time_eq.trans (stepped_time _)
    have hstate := state_of_stepped hk (setTime_ring _ _)
    obtain ⟨hn, hc0, himage, hseen, hcw, hccw, hrx⟩ := cyc_of_stepped hk (setTime_cyc _ _)
    exact ⟨_, rfl, hn, hc0, himage, hseen, hcw, hccw, hrx, congrArg (·.rho) htime, congrArg (·.rhoNext) htime,
      congrArg (·.phiNext) htime, congrArg (·.pairsInSync) htime, congrArg (·.nt) htime, hstate⟩
  case measures =>
    intro s i c phi hi hb hc heven hs hreps hevs vals rho hn hphi hp hr
    have hk := cycleBoundary_measures hi hb hc heven hs hreps hevs (vals := vals) (rho := rho) rfl rfl hn hphi hp hr
    have htime := hk.time_eq.trans (stepped_time _)
    rw [perf_time] at htime
    have hstate := state_of_stepped hk ((perf_ring _ _).trans (setTime_ring _ _))
    obtain ⟨hnext, -⟩ := cyc_of_stepped hk ((perf_cyc _ _).trans (setTime_cyc _ _))
    exact ⟨_, rfl, hnext, congrArg (·.phiNext) htime, congrArg (·.rhoNext) htime, congrArg (·.rho) htime, congrArg (·.nval) htime,
      congrArg (·.limitFail) htime, congrArg (·.cur) htime, hstate⟩
  case slews =>
    intro s i c phi hi hb hphi hodd hc
    exact exec_eq_next rfl rfl (offsetSlew_begins hi hb hphi hodd hc) rfl
  case waits =>
    intro s h
    exact exec_eq_next rfl rfl (offsetSlew_none h) rfl

end Sys2Proof.Machine
end

section
/-! PROOFS. The fetch, the sending and the cut of slot frames: the statement O11. -/

namespace Sys2Proof.Machine

open Sys2Proof

/-! ### Ports and egresses -/

@[simp] theorem rport_perf (s : State) (i : Nat) (e : RPort) : rport (perf s i) e = rport s e := (perf_unseen s i).read (rport · e)

@[simp] theorem rtx_perf (s : State) (i : Nat) (e : RPort) : rtx (perf s i) e = rtx s e := (perf_unseen s i).read (rtx · e)

@[simp] theorem txAt_perf (s : State) (i b : Nat) : txAt (perf s i) b = txAt s b := (perf_unseen s i).read (txAt · b)

@[simp] theorem msOf_perf (s : State) (i : Nat) (rot : Rot) : msOf (perf s i) rot = msOf s rot := (perf_unseen s i).read (msOf · rot)

@[simp] theorem armOf_perf (s : State) (i : Nat) (rot : Rot) : armOf (perf s i) rot = armOf s rot := (perf_unseen s i).read (armOf · rot)

theorem otherPort_ne (e : RPort) : otherPort e ≠ e := by cases e <;> decide

/-! ### The fetch (R61, R62, R68) -/

/-- A fetch falls within 96 ns before an opening, give or take 8 ns, and not behind it. -/
theorem slotFetch_static {s : State} {i : Image} {e : BufEnt} {b n : Nat} {rot : Rot} (hi : s.cyc.image = some i)
    (he : txEnt s b = some e) (hd : e.isDyn = false) (ho : occCycle s i rot e.id (nt16 s + ns16 104) = some n)
    (ha : txActive s e n = true) (hlo : nt16 s < tSend s i n rot e.id + ns16 1) (hhi : tSend s i n rot e.id ≤ nt16 s + ns16 104)
    (hf : ((txAt s b).fet rot).map (·.1) ≠ some n) : slotFetch s b rot = latch s b e rot n := by
  simp [slotFetch, hi, he, hd, ho, ha, hlo, hhi, hf]

theorem slotFetch_dynamic {s : State} {i : Image} {e : BufEnt} {b bnd : Nat} {rot : Rot} (hi : s.cyc.image = some i)
    (he : txEnt s b = some e) (hd : e.isDyn = true) (hb : dynBoundOf s i rot e.id = some bnd)
    (ha : txActive s e s.cyc.n = true) (hlo : nt16 s < bnd + mts i i.apo + ns16 1) (hhi : bnd + mts i i.apo ≤ nt16 s + ns16 104)
    (hx : (rtx s (portOfRot s rot)).exBuf ≠ some b) : slotFetch s b rot = latch s b e rot s.cyc.n := by
  simp [slotFetch, hi, he, hd, hb, ha, hlo, hhi, hx]

theorem slotFetch_no_entry {s : State} {b : Nat} (h : txEnt s b = none) (rot : Rot) : slotFetch s b rot = s := by
  unfold slotFetch
  rw [h]
  split
  case h_1 he => cases he
  case h_2 => rfl

/-- A content that is to be sent is latched: a static one, or a dynamic one that is pending (R62, R68). -/
theorem fetchContent_sends {s : State} {e : BufEnt} {x : TxBuf} {rot : Rot} {n : Nat} {d : Octets} (hx : x.front = some d)
    (hs : e.sendNothing = false) (hp : e.isDyn = false ∨ x.pend rot = true) : fetchContent s e x rot n = some d := by
  rcases hp with hp | hp <;> simp [fetchContent, hx, hs, hp]

/-- A content sent on both rotations is not sent again under the policy SEND_NOTHING (R62). -/
theorem fetchContent_old {s : State} {e : BufEnt} {x : TxBuf} {rot : Rot} {n : Nat} {d : Octets} (hx : x.front = some d)
    (hs : e.sendNothing = true) (hcw : x.newCW = false) (hccw : x.newCCW = false) (hw : withdrawing s n = false) :
    fetchContent s e x rot n = none := by
  cases rot <;> simp [fetchContent, hx, hs, hcw, hccw, hw]

/-- A buffer that was never written sends its filler while the node withdraws, and nothing else (R62, R490). -/
theorem fetchContent_empty {s : State} {e : BufEnt} {x : TxBuf} {rot : Rot} {n : Nat} (hx : x.front = none) :
    fetchContent s e x rot n = if withdrawing s n then some (filler e) else none := by
  cases hw : withdrawing s n <;> simp [fetchContent, hx, hw]

/-! ### The sending (R110, R111) -/

theorem slotSend_static {s : State} {i : Image} {e : BufEnt} {b q n k : Nat} {rot : Rot} {d : Octets} (hi : s.cyc.image = some i)
    (he : txEnt s b = some e) (hd : e.isDyn = false) (hl : (txAt s b).lat rot = some (q, d)) (hf : (txAt s b).fet rot = some (n, k))
    (hx : (rtx s (portOfRot s rot)).exBuf ≠ some b) (ha : txActive s e n = true) (ho : tSend s i n rot e.id < nt16 s + ns16 8) :
    slotSend s b rot =
      sendAt s i b e rot n q d (tSend s i n rot e.id) (slotStart s i n rot e.id + mts i i.lst - mts i i.g) := by
  simp [slotSend, hi, he, hd, hl, hf, hx, ha, Nat.not_le.mpr ho]

theorem slotSend_dynamic {s : State} {i : Image} {e : BufEnt} {b q n k bnd : Nat} {rot : Rot} {d : Octets} (hi : s.cyc.image = some i)
    (he : txEnt s b = some e) (hd : e.isDyn = true) (hl : (txAt s b).lat rot = some (q, d)) (hf : (txAt s b).fet rot = some (n, k))
    (ha : armOf s rot = some (b, bnd)) (hx : (rtx s (portOfRot s rot)).exBuf ≠ some b) (ho : bnd + mts i i.apo < nt16 s + ns16 8)
    {t : State} (ht : sendAt (setArm s rot none) i b e rot n q d (bnd + mts i i.apo) (dynEnd s i n rot - mts i i.g) = t)
    (hb : (rtx t (portOfRot s rot)).exBuf = some b) :
    slotSend s b rot = holdOwn t i rot bnd (max 64 (d.length + 20)) := by
  simp [slotSend, hi, he, hd, hl, hf, ha, hx, Nat.not_le.mpr ho, ht, hb]

/-- A frame more than 1 ns behind its opening is late: it is counted and its buffer is read no longer (R111). -/
theorem sendAt_late {s : State} {at' : Nat} (h : at' + ns16 1 < nt16 s) (i : Image) (b : Nat) (e : BufEnt) (rot : Rot) (n q : Nat)
    (d : Octets) (close : Nat) :
    sendAt s i b e rot n q d at' close = txReadEnd (countPort s (rpIdx (portOfRot s rot)) 29) b rot :=
  if_pos h

theorem sendAt_in_time {s : State} {at' : Nat} (h : nt16 s ≤ at' + ns16 1) (i : Image) (b : Nat) (e : BufEnt) (rot : Rot) (n q : Nat)
    (d : Octets) (close : Nat) : sendAt s i b e rot n q d at' close = startExpress s i b e rot n q d close :=
  if_neg (Nat.not_lt.mpr h)

/-- A frame whose port is not in the ring is stripped there (R145). -/
theorem startExpress_stripped {s : State} {rot : Rot} (h : inRing s (portOfRot s rot) = false) (i : Image) (b : Nat) (e : BufEnt)
    (n q : Nat) (d : Octets) (close : Nat) :
    startExpress s i b e rot n q d close =
      txReadEnd (perf (countPort s (rpIdx (portOfRot s rot)) 34) (pRot rot 11)) b rot := by
  simp [startExpress, h]

/-- A transmit buffer whose content starts on a rotation (R61, R62, R68). -/
def sentOn (x : TxBuf) (rot : Rot) (q : Nat) : TxBuf :=
  match rot with
  | .cw => { x with firstCW := false, newCW := false, pendCW := false, seq := q, sentCur := true }
  | .ccw => { x with firstCCW := false, newCCW := false, pendCCW := false, seq := q, sentCur := true }

theorem startExpress_starts {s : State} {rot : Rot} (hr : inRing s (portOfRot s rot) = true)
    (hf : egressFree s (portOfRot s rot) = true) (i : Image) (b : Nat) (e : BufEnt) (n q : Nat) (d : Octets) (close : Nat) :
    startExpress s i b e rot n q d close =
      perf (expressStart (setTx s b (sentOn (txAt s b) rot q)) (portOfRot s rot)
        (ringFrame d (slotHdr s i e (txAt s b) rot q n)) close true true (some b)) (pRot rot (b2n e.isDyn)) := by
  cases rot <;> simp [startExpress, hr, hf, sentOn]

/-- The egress on which an express frame starts (R110, R114). -/
theorem rtx_expressStart (s : State) (e : RPort) (o : Octets) (close : Nat) (own good : Bool) (buf : Option Nat) :
    rtx (expressStart s e o close own good buf) e = { rtx s e with
      express := some o, exClose := close, exOwn := own, exBad := !good, exBuf := buf
      exEnd := now s + octetTicks (ringMbps s) (8 + o.length + 12) } := by
  cases e <;> rfl

theorem rtx_expressStart_ne (s : State) {e f : RPort} (h : f ≠ e) (o : Octets) (close : Nat) (own good : Bool) (buf : Option Nat) :
    rtx (expressStart s e o close own good buf) f = rtx s f := rtx_setRtx_ne s e f _ h

@[simp] theorem expressStart_pending (s : State) (e : RPort) (o : Octets) (close : Nat) (own good : Bool) (buf : Option Nat) :
    (expressStart s e o close own good buf).pending = s.pending := setRtx_pending s e _
@[simp] theorem expressStart_time (s : State) (e : RPort) (o : Octets) (close : Nat) (own good : Bool) (buf : Option Nat) :
    (expressStart s e o close own good buf).time = s.time := setRtx_time s e _
@[simp] theorem expressStart_kn (s : State) (e : RPort) (o : Octets) (close : Nat) (own good : Bool) (buf : Option Nat) :
    (expressStart s e o close own good buf).kn = s.kn := by cases e <;> rfl
@[simp] theorem expressStart_cyc (s : State) (e : RPort) (o : Octets) (close : Nat) (own good : Bool) (buf : Option Nat) :
    (expressStart s e o close own good buf).cyc = s.cyc := setRtx_cyc s e _
@[simp] theorem expressStart_boot (s : State) (e : RPort) (o : Octets) (close : Nat) (own good : Bool) (buf : Option Nat) :
    (expressStart s e o close own good buf).boot = s.boot := setRtx_boot s e _

theorem sentOn_fields (x : TxBuf) (rot : Rot) (q : Nat) :
    (sentOn x rot q).seq = q ∧ (sentOn x rot q).sentCur = true ∧ (sentOn x rot q).pend rot = false := by
  cases rot <;> exact ⟨rfl, rfl, rfl⟩

/-- The state in which an own express frame has started on a rotation (R110, R111). -/
def started (s : State) (i : Image) (b : Nat) (e : BufEnt) (rot : Rot) (n q : Nat) (d : Octets) (close : Nat) : State :=
  perf (expressStart (setTx s b (sentOn (txAt s b) rot q)) (portOfRot s rot)
    (ringFrame d (slotHdr s i e (txAt s b) rot q n)) close true true (some b)) (pRot rot (b2n e.isDyn))

section

variable (s : State) (i : Image) (b : Nat) (e : BufEnt) (rot : Rot) (n q : Nat) (d : Octets) (close : Nat)

theorem started_kept : (started s i b e rot n q d close).pending = s.pending ∧ (started s i b e rot n q d close).time = s.time ∧
    (started s i b e rot n q d close).kn = s.kn ∧ (started s i b e rot n q d close).boot = s.boot ∧
    (started s i b e rot n q d close).cyc = (setTx s b (sentOn (txAt s b) rot q)).cyc := by
  simp [started]

theorem rtx_started : rtx (started s i b e rot n q d close) (portOfRot s rot) = { rtx s (portOfRot s rot) with
    express := some (ringFrame d (slotHdr s i e (txAt s b) rot q n)), exClose := close, exOwn := true, exBad := false, exBuf := some b
    exEnd := now s + octetTicks (ringMbps s) (8 + (ringFrame d (slotHdr s i e (txAt s b) rot q n)).length + 12) } := by
  rw [started, rtx_perf, rtx_expressStart]
  rfl

theorem rtx_started_other : rtx (started s i b e rot n q d close) (otherPort (portOfRot s rot)) = rtx s (otherPort (portOfRot s rot)) := by
  rw [started, rtx_perf, rtx_expressStart_ne _ (otherPort_ne _)]
  rfl

theorem txAt_started : txAt (started s i b e rot n q d close) b = sentOn (txAt s b) rot q := by
  obtain ⟨-, -, -, -, hcyc⟩ := started_kept s i b e rot n q d close
  rw [txAt, hcyc, ← txAt, txAt_setTx]

theorem txAt_started_ne {c : Nat} (h : c ≠ b) : txAt (started s i b e rot n q d close) c = txAt s c := by
  obtain ⟨-, -, -, -, hcyc⟩ := started_kept s i b e rot n q d close
  rw [txAt, hcyc, ← txAt, txAt_setTx_ne _ _ _ _ h]

theorem msOf_started (r : Rot) : msOf (started s i b e rot n q d close) r = msOf s r := by
  obtain ⟨-, -, -, -, hcyc⟩ := started_kept s i b e rot n q d close
  cases r <;> rw [msOf, hcyc] <;> rfl

theorem armOf_started (r : Rot) : armOf (started s i b e rot n q d close) r = armOf s r := by
  obtain ⟨-, -, -, -, hcyc⟩ := started_kept s i b e rot n q d close
  cases r <;> rw [armOf, hcyc] <;> rfl

end

/-! ### The dynamic segment's frame (R69, R70) -/

@[simp] theorem msOf_setMs (s : State) (rot : Rot) (c : Option Nat) (j : Nat) (l : List (Nat × Nat)) :
    msOf (setMs s rot c j l) rot = (c, j, l) := by cases rot <;> rfl

@[simp] theorem armOf_setArm (s : State) (rot : Rot) (a : Option (Nat × Nat)) : armOf (setArm s rot a) rot = a := by cases rot <;> rfl

@[simp] theorem rtx_setMs (s : State) (rot : Rot) (c : Option Nat) (j : Nat) (l : List (Nat × Nat)) (e : RPort) :
    rtx (setMs s rot c j l) e = rtx s e := by cases rot <;> rfl

@[simp] theorem txAt_setMs (s : State) (rot : Rot) (c : Option Nat) (j : Nat) (l : List (Nat × Nat)) (b : Nat) :
    txAt (setMs s rot c j l) b = txAt s b := by cases rot <;> rfl

@[simp] theorem armOf_setMs (s : State) (rot : Rot) (c : Option Nat) (j : Nat) (l : List (Nat × Nat)) :
    armOf (setMs s rot c j l) rot = armOf s rot := by cases rot <;> rfl

@[simp] theorem setMs_pending (s : State) (rot : Rot) (c : Option Nat) (j : Nat) (l : List (Nat × Nat)) :
    (setMs s rot c j l).pending = s.pending := by cases rot <;> rfl

@[simp] theorem setMs_time (s : State) (rot : Rot) (c : Option Nat) (j : Nat) (l : List (Nat × Nat)) :
    (setMs s rot c j l).time = s.time := by cases rot <;> rfl

@[simp] theorem portOfRot_setArm (s : State) (r rot : Rot) (a : Option (Nat × Nat)) : portOfRot (setArm s r a) rot = portOfRot s rot := by
  cases r <;> rfl

@[simp] theorem rtx_setArm (s : State) (r : Rot) (a : Option (Nat × Nat)) (e : RPort) : rtx (setArm s r a) e = rtx s e := by
  cases r <;> rfl

@[simp] theorem inRing_setArm (s : State) (r : Rot) (a : Option (Nat × Nat)) (e : RPort) : inRing (setArm s r a) e = inRing s e := by
  cases r <;> rfl

@[simp] theorem egressFree_setArm (s : State) (r : Rot) (a : Option (Nat × Nat)) (e : RPort) :
    egressFree (setArm s r a) e = egressFree s e := by
  cases r <;> rfl

@[simp] theorem txAt_setArm (s : State) (r : Rot) (a : Option (Nat × Nat)) (b : Nat) : txAt (setArm s r a) b = txAt s b := by
  cases r <;> rfl

@[simp] theorem slotHdr_setArm (s : State) (r : Rot) (a : Option (Nat × Nat)) : slotHdr (setArm s r a) = slotHdr s := by
  cases r <;> rfl

@[simp] theorem msOf_setArm (s : State) (r rot : Rot) (a : Option (Nat × Nat)) : msOf (setArm s r a) rot = msOf s rot := by
  cases r <;> rfl

@[simp] theorem setArm_time (s : State) (r : Rot) (a : Option (Nat × Nat)) : (setArm s r a).time = s.time := by cases r <;> rfl

@[simp] theorem setArm_pending (s : State) (r : Rot) (a : Option (Nat × Nat)) : (setArm s r a).pending = s.pending := by cases r <;> rfl

theorem tOcc_congr {s t : State} (hi : t.cyc.image = s.cyc.image) (hb : t.boot = s.boot) (len : Nat) : tOcc t len = tOcc s len := by
  rw [tOcc, tOcc, ringMbps, ringMbps, hi, hb]

/-- An own dynamic frame that starts takes its arm away, and holds the counter from its boundary until its span is free again (R69). -/
theorem slotSend_dynamic_starts {s : State} {i : Image} {e : BufEnt} {b q n k bnd : Nat} {rot : Rot} {d : Octets}
    (hi : s.cyc.image = some i) (he : txEnt s b = some e) (hd : e.isDyn = true) (hl : (txAt s b).lat rot = some (q, d))
    (hf : (txAt s b).fet rot = some (n, k)) (ha : armOf s rot = some (b, bnd)) (hx : (rtx s (portOfRot s rot)).exBuf ≠ some b)
    (ho : bnd + mts i i.apo < nt16 s + ns16 8) (hin : nt16 s ≤ bnd + mts i i.apo + ns16 1)
    (hr : inRing s (portOfRot s rot) = true) (hfree : egressFree s (portOfRot s rot) = true) :
    slotSend s b rot = setMs (started (setArm s rot none) i b e rot n q d (dynEnd s i n rot - mts i i.g)) rot (msOf s rot).1
      (msOf s rot).2.1 (((msOf s rot).2.1 - 1, bnd + mts i i.apo + tOcc s (max 64 (d.length + 20))) :: (msOf s rot).2.2) := by
  have hnt : nt16 (setArm s rot none) = nt16 s := by rw [nt16, setArm_time, nt16]
  have hsend : sendAt (setArm s rot none) i b e rot n q d (bnd + mts i i.apo) (dynEnd s i n rot - mts i i.g) =
      started (setArm s rot none) i b e rot n q d (dynEnd s i n rot - mts i i.g) := by
    rw [sendAt_in_time (by rw [hnt]; exact hin), startExpress_starts (by simpa using hr) (by simpa using hfree), started]
  have hslot := fun hb => slotSend_dynamic hi he hd hl hf ha hx ho hsend hb
  generalize dynEnd s i n rot - mts i i.g = close at hslot ⊢
  have hbuf := congrArg (·.exBuf) (rtx_started (setArm s rot none) i b e rot n q d close)
  simp only [portOfRot_setArm] at hbuf
  obtain ⟨-, -, -, hboot, hcyc⟩ := started_kept (setArm s rot none) i b e rot n q d close
  have hocc := tOcc_congr (s := s) (hi := by rw [hcyc]; cases rot <;> rfl) (hb := by rw [hboot]; cases rot <;> rfl)
    (max 64 (d.length + 20))
  rw [hslot hbuf, holdOwn, msOf_started, msOf_setArm, hocc]

/-! ### The cut (R112, R114) -/

theorem guardianCut_cuts {s : State} {e : RPort} {b : Nat} (hx : (rtx s e).express.isSome = true) (ho : (rtx s e).exOwn = true)
    (hc : synced s = false ∨ (rtx s e).exClose ≤ nt16 s) (hb : (rtx s e).exBuf = some b) :
    guardianCut s e = txReadEnd (expressCut (countPort s (rpIdx e) 30) e) b (rotOfPort s e) := by
  have hcut : cutOwn s e = expressCut (countPort s (rpIdx e) 30) e := if_pos (by rw [hx, ho]; rfl)
  have hclosed : (!synced s || decide ((rtx s e).exClose ≤ nt16 s)) = true := by rcases hc with hc | hc <;> simp [hc]
  simp only [guardianCut, hx, ho, hclosed, Bool.and_self, if_true, hb, hcut]

theorem guardianCut_idle {s : State} {e : RPort} (hx : (rtx s e).express = none) : guardianCut s e = s := by
  simp [guardianCut, hx]

/-- A forwarded frame still in transmission when its window closes is cut (R114). -/
theorem forwardCut_cuts {s : State} {e : RPort} (hx : (rtx s e).express.isSome = true) (ho : (rtx s e).exOwn = false)
    (hc : (rtx s e).exClose ≤ nt16 s) : forwardCut s e = expressCut (windowOver s e) e :=
  if_pos (by simp [hx, ho, hc])

/-- A forwarded frame that still waits when its window closes is not begun (R114). -/
theorem forwardCut_waiting {s : State} {e : RPort} {o : Octets} {c : Nat} {g : Bool} (hx : (rtx s e).express = none)
    (hn : (rtx s e).exNext = some (o, c, g)) (hc : c ≤ nt16 s) :
    forwardCut s e = windowOver (setRtx s e { rtx s e with exNext := none }) e := by
  simp [forwardCut, hx, hn, hc]

theorem rotOfPort_setRtx (s : State) (f : RPort) (x : RingTx) (e : RPort) : rotOfPort (setRtx s f x) e = rotOfPort s e := by
  cases f <;> rfl

@[simp] theorem expressCut_pending (s : State) (e : RPort) : (expressCut s e).pending = s.pending := setRtx_pending s e _

/-- Settles O11: each clause is what the transmitter does at the instant of its row. -/
theorem slotTransmission : Obligations.SlotTransmission := by
  unfold Obligations.SlotTransmission
  refine ⟨?fetchStatic, ?fetchDynamic, ?content, ?noEntry, ?sendStatic, ?sendDynamic, ?cut, ?cutIdle, ?forward, ?forwardWaits⟩
  case fetchStatic =>
    intro s i e b rot n hw hi he hd ho ha hlo hhi hf x q
    exact exec_eq_next rfl hw (slotFetch_static hi he hd ho ha hlo hhi hf) rfl
  case fetchDynamic =>
    intro s i e b rot bnd hw hi he hd hb ha hlo hhi hx x q
    exact exec_eq_next rfl hw (slotFetch_dynamic hi he hd hb ha hlo hhi hx) rfl
  case content =>
    intro s e x rot n
    refine ⟨fun d hx hs hp => fetchContent_sends hx hs hp, fun d hx hs hcw hccw hw => fetchContent_old hx hs hcw hccw hw,
      fun hx hw => ?_, fun hx hw => ?_⟩ <;> simp [fetchContent_empty hx, hw]
  case noEntry =>
    intro s b rot hw he
    exact exec_eq_next rfl hw (slotFetch_no_entry he rot) rfl
  case sendStatic =>
    intro s i e b rot q d n k hw hi he hd hl hf port open_ hx ha ho
    have hsend := slotSend_static hi he hd hl hf hx ha ho
    refine ⟨fun hin hr hfree => ?starts, fun hin hr => ?stripped, fun hlate => ?late⟩
    case starts =>
      rw [sendAt_in_time hin, startExpress_starts hr hfree, ← started] at hsend
      generalize slotStart s i n rot e.id + mts i i.lst - mts i i.g = close at hsend ⊢
      obtain ⟨hpend, htime, hkn, -, hcyc⟩ := started_kept s i b e rot n q d close
      have hegress := rtx_started s i b e rot n q d close
      have hbuf := txAt_started s i b e rot n q d close
      obtain ⟨hseq, hsent, -⟩ := sentOn_fields (txAt s b) rot q
      exact ⟨_, exec_eq_next rfl hw hsend hpend, congrArg (·.express) hegress, congrArg (·.exOwn) hegress, congrArg (·.exBuf) hegress,
        congrArg (·.exClose) hegress, (congrArg (·.seq) hbuf).trans hseq, (congrArg (·.sentCur) hbuf).trans hsent,
        fun c hcb => txAt_started_ne s i b e rot n q d close hcb, rtx_started_other s i b e rot n q d close, htime, hkn,
        congrArg (·.n) hcyc⟩
    case stripped => exact exec_eq_keeping rfl hw (hsend.trans ((sendAt_in_time hin ..).trans (startExpress_stripped hr ..)))
    case late => exact exec_eq_keeping rfl hw (hsend.trans (sendAt_late hlate ..))
  case sendDynamic =>
    intro s i e b rot q d n k bnd hw hi he hd hl hf ha port open_ hx ho hin hr hfree
    have hsend := slotSend_dynamic_starts hi he hd hl hf ha hx ho hin hr hfree
    generalize dynEnd s i n rot - mts i i.g = close at hsend ⊢
    obtain ⟨hpend, htime, -⟩ := started_kept (setArm s rot none) i b e rot n q d close
    have hegress := rtx_started (setArm s rot none) i b e rot n q d close
    have hbuf := txAt_started (setArm s rot none) i b e rot n q d close
    have harm := armOf_started (setArm s rot none) i b e rot n q d close rot
    simp only [portOfRot_setArm, slotHdr_setArm, txAt_setArm, setArm_pending, setArm_time, armOf_setArm] at hpend htime hegress hbuf harm
    obtain ⟨-, -, hpendRot⟩ := sentOn_fields (txAt s b) rot q
    refine ⟨_, exec_eq_next rfl hw hsend (by rw [setMs_pending, hpend]), ?_⟩
    simp only [rtx_setMs, armOf_setMs, txAt_setMs, msOf_setMs, setMs_time]
    exact ⟨congrArg (·.express) hegress, congrArg (·.exOwn) hegress, congrArg (·.exBuf) hegress, congrArg (·.exClose) hegress, harm,
      (congrArg (·.pend rot) hbuf).trans hpendRot, rfl, htime⟩
  case cut =>
    intro s e b hw hx ho hc hb
    exact exec_eq_keeping rfl hw (guardianCut_cuts hx ho hc hb)
  case cutIdle =>
    intro s e hw hx
    exact exec_eq_next rfl hw (guardianCut_idle hx) rfl
  case forward =>
    intro s e hw hx ho hc
    exact exec_eq_keeping rfl hw (forwardCut_cuts hx ho hc)
  case forwardWaits =>
    intro s e o c g hw hx hn hc
    have hcut := forwardCut_waiting hx hn hc
    rw [windowOver, rotOfPort_setRtx] at hcut
    exact exec_eq_keeping rfl hw hcut

end Sys2Proof.Machine
end

section
/-! PROOFS. Mini-slots, hold periods, missed slots and pier claims: the statement O12. -/

namespace Sys2Proof.Machine

open Sys2Proof

/-! ### Mini-slots (R69, R70) -/

theorem miniSlot_early {s : State} {i : Image} {rot : Rot} (hi : s.cyc.image = some i)
    (h : nt16 s + ns16 8 ≤ msBound s i rot (msOf s rot).2.1) : miniSlot s rot = s := by
  simp [miniSlot, hi, h]

/-- At its boundary the counter of a rotation steps, or holds, and no frame is due yet. -/
def counted (s : State) (i : Image) (rot : Rot) : State :=
  setArm (setMs s rot (msCounter s i rot) ((msOf s rot).2.1 + 1)
    ((msOf s rot).2.2.filter (fun b => decide (msBound s i rot (msOf s rot).2.1 ≤ b.2)))) rot none

section

variable {s : State} {i : Image} {rot : Rot} (hi : s.cyc.image = some i) (hs : synced s = true) (hj : (msOf s rot).2.1 < i.ndyn)
  (hb : msBound s i rot (msOf s rot).2.1 < nt16 s + ns16 8)
include hi hs hj hb

theorem miniSlot_counts (h : msHeld s i rot (msOf s rot).2.1 = true ∨ ∀ c, msCounter s i rot = some c → (c, me s) ∉ i.dyn) :
    miniSlot s rot = counted s i rot := by
  cases hc : msCounter s i rot with
  | none => simp [miniSlot, hi, hs, Nat.not_le.mpr hj, Nat.not_le.mpr hb, counted, hc]
  | some c =>
    have hnot : (!msHeld s i rot (msOf s rot).2.1 && i.dyn.any (fun e => e.1 == c && e.2 == me s)) = false := by
      rcases h with h | h
      · simp [h]
      · simpa [Prod.forall] using fun hheld a b hab ha hme => h c hc (by subst ha hme; exact hab)
    simp only [miniSlot, hi, hs, Nat.not_le.mpr hj, Nat.not_le.mpr hb, hc, hnot]
    simp [counted, hc]

theorem miniSlot_arms {c : Nat} (hh : msHeld s i rot (msOf s rot).2.1 = false) (hc : msCounter s i rot = some c)
    (hm : (c, me s) ∈ i.dyn) : miniSlot s rot = dynArm (counted s i rot) i rot c (msBound s i rot (msOf s rot).2.1) := by
  have hown : i.dyn.any (fun e => e.1 == c && e.2 == me s) = true := List.any_eq_true.mpr ⟨_, hm, by simp⟩
  simp [miniSlot, hi, hs, Nat.not_le.mpr hj, Nat.not_le.mpr hb, counted, hc, hh, hown]

end

theorem sameRing_counted (s : State) (i : Image) (rot : Rot) : SameRing s (counted s i rot) := by cases rot <;> rfl

@[simp] theorem counted_pending (s : State) (i : Image) (rot : Rot) : (counted s i rot).pending = s.pending := by
  rw [counted, setArm_pending, setMs_pending]

@[simp] theorem txAt_counted (s : State) (i : Image) (rot : Rot) (b : Nat) : txAt (counted s i rot) b = txAt s b := by
  rw [counted, txAt_setArm, txAt_setMs]

@[simp] theorem txActive_counted (s : State) (i : Image) (rot : Rot) : txActive (counted s i rot) = txActive s := by cases rot <;> rfl

@[simp] theorem fetchContent_counted (s : State) (i : Image) (rot : Rot) : fetchContent (counted s i rot) = fetchContent s := by
  cases rot <;> rfl

/-- An own frame whose content is latched and that fits is due at its boundary's opening (R70). -/
theorem dynArm_counted {s : State} {i : Image} {rot : Rot} {c q bnd : Nat} {e : BufEnt} {d : Octets} (he : dynBuf s i c = some e)
    (hl : (txAt s e.buf).lat rot = some (q, d)) (ha : txActive s e s.cyc.n = true)
    (hfit : bnd + mts i i.apo + tOcc s (max 64 (d.length + 20)) + mts i i.g ≤ dynEnd s i s.cyc.n rot) :
    dynArm (counted s i rot) i rot c bnd = setArm (counted s i rot) rot (some (e.buf, bnd)) := by
  have h := sameRing_counted s i rot
  have hfits : dynFits (counted s i rot) i rot bnd d.length = true := by
    rw [dynFits, h.dynEnd_eq, h.read (·.cyc.n), h.read tOcc, decide_eq_true hfit]
  simp [dynArm, h.read dynBuf, h.read (·.cyc.n), he, hl, ha, hfits]

theorem dynArm_counted_empty {s : State} {i : Image} {rot : Rot} {c : Nat} {e : BufEnt} (he : dynBuf s i c = some e)
    (hl : (txAt s e.buf).lat rot = none) (hf : fetchContent s e (txAt s e.buf) rot s.cyc.n = none) (bnd : Nat) :
    dynArm (counted s i rot) i rot c bnd = counted s i rot := by
  have h := sameRing_counted s i rot
  simp [dynArm, h.read dynBuf, h.read (·.cyc.n), he, hl, hf]

/-! ### The counter (R69) -/

theorem msCounter_first {s : State} {rot : Rot} (h : (msOf s rot).2.1 = 0) (i : Image) : msCounter s i rot = msFirst i rot := by
  simp only [msCounter, msStep, if_pos h]

theorem msCounter_next {s : State} {rot : Rot} {c : Nat} (hc : (msOf s rot).1 = some c) (hj : 0 < (msOf s rot).2.1) (i : Image) :
    msCounter s i rot = if msHeld s i rot (msOf s rot).2.1 then some c else msNext s i rot c := by
  simp only [msCounter, msStep, if_neg (Nat.ne_of_gt hj), hc]

theorem msNext_cw_some {s : State} {i : Image} {c : Nat} (h : ∃ e ∈ i.dyn, e.2 = me s ∧ c < e.1) : msNext s i .cw c = some (c + 1) := by
  obtain ⟨e, he, hme, hlt⟩ := h
  refine if_pos (List.any_eq_true.mpr ⟨e.1, List.mem_map.mpr ⟨e, List.mem_filter.mpr ⟨he, by simp [hme]⟩, rfl⟩, by simp [hlt]⟩)

theorem msNext_cw_none {s : State} {i : Image} {c : Nat} (h : ∀ e ∈ i.dyn, e.2 = me s → e.1 ≤ c) : msNext s i .cw c = none := by
  simp only [msNext, List.any_map, List.any_filter]
  rw [if_neg]
  simpa using fun a ha => h (a, me s) ha rfl

/-! ### Hold periods (R232) -/

section

variable {s : State} {i : Image} {c : Nat} {e : RPort} (hi : s.cyc.image = some i) (hb : boundary s s.cyc.n = some c)
  (hs : synced s = true) (hx : hasExpress i = true) (hh : (rtx s e).hold = false)
include hi hb hs hx hh

/-- The hold of the cycle in progress is raised while that of the next is not yet due. -/
theorem holdRaise_present
    (hnext : nt16 s + (octetTime (ringMbps s) 143 + piT i) < (boundary s (s.cyc.n + 1)).getD 0 + sigma s (rotOfPort s e))
    (hlo : c + sigma s (rotOfPort s e) ≤ nt16 s + (octetTime (ringMbps s) 143 + piT i))
    (hhi : nt16 s ≤ expressEnd s i s.cyc.n (rotOfPort s e) + piT i) :
    holdRaise s e =
      ringInterrupt (countPort (setRtx s e { rtx s e with hold := true, holdCyc := s.cyc.n }) (rpIdx e) 55) e := by
  simp [holdRaise, hi, hb, hs, hx, hh, hlo, hhi, Nat.not_le.mpr hnext]

theorem holdRaise_next
    (hlo : (boundary s (s.cyc.n + 1)).getD 0 + sigma s (rotOfPort s e) ≤ nt16 s + (octetTime (ringMbps s) 143 + piT i))
    (hhi : nt16 s ≤ expressEnd s i (s.cyc.n + 1) (rotOfPort s e) + piT i) :
    holdRaise s e =
      ringInterrupt (countPort (setRtx s e { rtx s e with hold := true, holdCyc := s.cyc.n + 1 }) (rpIdx e) 55) e := by
  simp [holdRaise, hi, hb, hs, hx, hh, hlo, hhi]

end

theorem holdRelease_ends {s : State} {i : Image} {e : RPort} (hi : s.cyc.image = some i) (hh : (rtx s e).hold = true)
    (hc : expressEnd s i (rtx s e).holdCyc (rotOfPort s e) + piT i ≤ nt16 s) :
    holdRelease s e = setRtx s e { rtx s e with hold := false } := by
  simp [holdRelease, hi, hh, hc]

/-! ### Missed slots (R66) -/

/-- A miss of a slot on a port is marked and counted. -/
def missCounted (s : State) (k : Nat) (e : RPort) : State :=
  perf (count (markMissed s k e) 0x07 (rpBit e * 2048 + k - 1) 0) (pRot (rxRot s e) 8)

theorem slotMissed_expected {s : State} {i : Image} {k o : Nat} (hi : s.cyc.image = some i) (ho : expectedOrigin s i k = some o)
    (e : RPort) :
    slotMissed s k e =
      if !synced s || holdsSlot s i k s.cyc.n || slotSeen s k e || slotMissCounted s k e ||
          decide ((nt16 s : Int) < tExp s i s.cyc.n (rxRot s e) k o + (piT i : Nat)) then s
      else if s.cyc.withdrawn.contains (k, o) || crossesFold s e o then missCounted s k e
      else feedSystem (missCounted s k e) (258 + rpBit e) k 0 := by
  unfold slotMissed
  rw [hi]
  dsimp only
  rw [ho]
  rfl

theorem slotMissed_again {s : State} {i : Image} {k o : Nat} {e : RPort} (hi : s.cyc.image = some i)
    (ho : expectedOrigin s i k = some o) (hc : slotMissCounted s k e = true) : slotMissed s k e = s := by
  rw [slotMissed_expected hi ho, if_pos (by simp [hc])]

/-- A slot of which nothing came within Π of its time is counted, and feeds its source but for a withdrawn origin or one behind a looped
span (R66, R67, R148). -/
theorem slotMissed_first {s : State} {i : Image} {k o : Nat} {e : RPort} (hi : s.cyc.image = some i)
    (ho : expectedOrigin s i k = some o) (hs : synced s = true) (hh : holdsSlot s i k s.cyc.n = false) (hn : slotSeen s k e = false)
    (hc : slotMissCounted s k e = false) (ht : tExp s i s.cyc.n (rxRot s e) k o + (piT i : Nat) ≤ (nt16 s : Int)) :
    slotMissed s k e = if s.cyc.withdrawn.contains (k, o) || crossesFold s e o then missCounted s k e
      else feedSystem (missCounted s k e) (258 + rpBit e) k 0 := by
  rw [slotMissed_expected hi ho, if_neg (by simp [hs, hh, hn, hc, Int.not_lt.mpr ht])]

/-! ### Pier claims (R74 to R79) -/

theorem pierOf_slot {i : Image} {k n : Nat} {p : Pier} (h : pierOf i k n = some p) : p.slot = k := by
  have hp := List.find?_some h
  simp only [Bool.and_eq_true, beq_iff_eq] at hp
  exact hp.1

theorem pierOccurrenceEnd_early {s : State} {i : Image} {k c : Nat} {p : Pier} (hi : s.cyc.image = some i)
    (hp : pierOf i k s.cyc.n = some p) (hb : boundary s (s.cyc.n + 1) = some c) (h : nt16 s < c) : pierOccurrenceEnd s k = s := by
  simp [pierOccurrenceEnd, hi, hp, hb, h]

theorem pierOccurrenceEnd_due {s : State} {i : Image} {k c : Nat} {p : Pier} (hi : s.cyc.image = some i)
    (hp : pierOf i k s.cyc.n = some p) (hb : boundary s (s.cyc.n + 1) = some c) (h : c ≤ nt16 s) :
    pierOccurrenceEnd s k = pierEnds s p := by
  simp [pierOccurrenceEnd, hi, hp, hb, Nat.not_lt.mpr h]

theorem pierEnds_done {s : State} {p : Pier} (h : (checkAt s p.slot).done = true) : pierEnds s p = s := if_pos h

/-- The receiver's view of a pier slot after an occurrence (R77). -/
def expectAfter (x : Expect) (seen : Bool) : Expect :=
  let n := if seen then 0 else x.empty + 1
  if x.expected && decide (8 ≤ n) then {} else { x with empty := if x.expected then n else 0 }

/-- The claim on a pier slot after an occurrence (R74, R79). -/
def claimAfter (c : Claim) (seen : Bool) : Claim :=
  match c.state with
  | .observing => { c with seen := false, count := if c.seen || seen then 0 else min 8 (c.count + 1) }
  | .claiming => { c with seen := false, state := .held }
  | _ => { c with seen := false }

/-- The state with the receiver's view of a pier slot replaced. -/
def setExpect (s : State) (x : Nat) (v : Expect) : State := { s with cyc := { s.cyc with expects := tblSet {} s.cyc.expects x v } }

/-- Something came of a slot in its present occurrence. -/
def seenOnce (s : State) (k : Nat) : Bool := slotSeen s k .east || slotSeen s k .west

/-- The receiver's view of a pier slot and the mark of its occurrence's end take the place of those before. -/
def pierMarked (s : State) (p : Pier) : State :=
  setCheck (setExpect s p.idx (expectAfter (expectAt s p.idx) (seenOnce s p.slot))) p.slot { checkAt s p.slot with done := true }

/-- An occurrence of an own pier slot ends at a synchronised node. -/
theorem pierEnds_own {s : State} {p : Pier} (hd : (checkAt s p.slot).done = false) (hs : synced s = true)
    (ho : (ownPiers s).contains p = true) :
    pierEnds s p = setClaim (pierMarked s p) p.idx
      (claimAfter (claimAt s p.idx) (seenOnce s p.slot)) := by
  unfold pierEnds
  dsimp only
  rw [hd, if_neg (by decide), if_neg (by rw [hs, ho]; decide)]
  unfold claimAfter
  cases (claimAt s p.idx).state <;> rfl

theorem checkAt_pierMarked (s : State) (p : Pier) (x : Claim) :
    checkAt (setClaim (pierMarked s p) p.idx x) p.slot = { checkAt s p.slot with done := true } :=
  tblGet_tblSet_same _ _ _ _

theorem expectAt_pierMarked (s : State) (p : Pier) (x : Claim) :
    expectAt (setClaim (pierMarked s p) p.idx x) p.idx =
      expectAfter (expectAt s p.idx) (seenOnce s p.slot) :=
  tblGet_tblSet_same _ _ _ _

theorem expectAt_pierMarked_ne (s : State) (p : Pier) (x : Claim) {j : Nat} (h : j ≠ p.idx) :
    expectAt (setClaim (pierMarked s p) p.idx x) j = expectAt s j :=
  tblGet_tblSet_ne _ _ _ _ _ h

theorem claimAt_pierMarked_ne (s : State) (p : Pier) (x : Claim) {j : Nat} (h : j ≠ p.idx) :
    claimAt (setClaim (pierMarked s p) p.idx x) j = claimAt s j :=
  claimAt_setClaim_ne _ _ _ _ h

/-- An observed claim counts its empty occurrences up to 8, and starts again with one that was not (R79). -/
theorem claimAfter_observing {c : Claim} (h : c.state = .observing) (seen : Bool) :
    (claimAfter c seen).state = .observing ∧ (claimAfter c seen).count = if c.seen || seen then 0 else min 8 (c.count + 1) := by
  unfold claimAfter
  rw [h]
  exact ⟨rfl, rfl⟩

/-- A claim is held after the first occurrence of its own (R74). -/
theorem claimAfter_claiming {c : Claim} (h : c.state = .claiming) (seen : Bool) : (claimAfter c seen).state = .held := by
  unfold claimAfter
  rw [h]

/-- With the eighth empty occurrence in a row a pier slot is expected no more (R77). -/
theorem expectAfter_eighth {x : Expect} (hx : x.expected = true) (he : x.empty = 7) : expectAfter x false = {} := by
  simp [expectAfter, hx, he]

/-- Claims stay where transmit buffers change. -/
theorem claimAt_foldl_setTx (l : List BufEnt) (f : State → BufEnt → TxBuf) (s : State) (x : Nat) :
    claimAt (l.foldl (fun t e => setTx t e.buf (f t e)) s) x = claimAt s x := by
  induction l generalizing s with
  | nil => rfl
  | cons e l ih => exact ih _

theorem startClaiming_ready {s : State} {p : Pier} (hs : synced s = true) (hst : (claimAt s p.idx).state = .observing)
    (hph : s.cyc.n % 64 % p.m = p.b) (hc : 8 ≤ (claimAt s p.idx).count) (i : Image) :
    (claimAt (startClaiming s i p) p.idx).state = .claiming := by
  simp [startClaiming, hs, hst, hph, hc, claimAt_foldl_setTx]

theorem startClaiming_observing {s : State} {p : Pier} (hc : (claimAt s p.idx).count < 8) (i : Image) : startClaiming s i p = s := by
  simp [startClaiming, Nat.not_le.mpr hc]

/-! ### The end of a backoff (R75) -/

/-- A claim whose backoff is over observes again. -/
def backoffOver (k : Nat) (t : State) (p : Pier) : State :=
  if p.slot = k ∧ (claimAt t p.idx).state = .backoff ∧ (claimAt t p.idx).backoff = 0 then setClaim t p.idx { state := .observing } else t

theorem pierBackoffEnd_eq (s : State) (k : Nat) : pierBackoffEnd s k = (ownPiers s).foldl (backoffOver k) s := rfl

theorem backoffOver_only (k : Nat) (s : State) (p : Pier) :
    backoffOver k s p = { s with cyc := { s.cyc with claims := (backoffOver k s p).cyc.claims } } := by
  unfold backoffOver
  split <;> rfl

theorem foldl_backoffOver_only (k : Nat) (l : List Pier) (s : State) :
    l.foldl (backoffOver k) s = { s with cyc := { s.cyc with claims := (l.foldl (backoffOver k) s).cyc.claims } } := by
  induction l generalizing s with
  | nil => rfl
  | cons p l ih =>
    rw [List.foldl_cons, ih, backoffOver_only k s p]

/-- A claim that observes is not in backoff, and stays as it is. -/
theorem claimAt_backoffOver {k x : Nat} {s : State} (h : claimAt s x = { state := .observing }) (p : Pier) :
    claimAt (backoffOver k s p) x = { state := .observing } := by
  unfold backoffOver
  split
  · by_cases hx : x = p.idx
    · rw [hx, claimAt_setClaim]
    · rw [claimAt_setClaim_ne _ _ _ _ hx, h]
  · exact h

theorem claimAt_foldl_backoffOver {k x : Nat} {l : List Pier} {s : State} (h : claimAt s x = { state := .observing }) :
    claimAt (l.foldl (backoffOver k) s) x = { state := .observing } := by
  induction l generalizing s with
  | nil => exact h
  | cons p l ih => exact ih (claimAt_backoffOver h p)

/-- Each own pier slot whose backoff is over observes again, whatever the others do. -/
theorem claimAt_backoff_ends {k : Nat} {p : Pier} {l : List Pier} {s : State} (hp : p ∈ l) (hk : p.slot = k)
    (hst : (claimAt s p.idx).state = .backoff) (hz : (claimAt s p.idx).backoff = 0) :
    claimAt (l.foldl (backoffOver k) s) p.idx = { state := .observing } := by
  induction l generalizing s with
  | nil => cases hp
  | cons q l ih =>
    rw [List.foldl_cons]
    by_cases hq : q.slot = k ∧ (claimAt s q.idx).state = .backoff ∧ (claimAt s q.idx).backoff = 0
    · have hset : backoffOver k s q = setClaim s q.idx { state := .observing } := if_pos hq
      by_cases hx : p.idx = q.idx
      · exact claimAt_foldl_backoffOver (by rw [hset, hx, claimAt_setClaim])
      · have hsame : claimAt (backoffOver k s q) p.idx = claimAt s p.idx := by rw [hset, claimAt_setClaim_ne _ _ _ _ hx]
        have hpq : p ≠ q := fun h => hx (by rw [h])
        exact ih (List.mem_of_ne_of_mem hpq hp) (by rw [hsame, hst]) (by rw [hsame, hz])
    · have hleft : backoffOver k s q = s := if_neg hq
      have hpq : p ≠ q := fun h => hq (h ▸ ⟨hk, hst, hz⟩)
      rw [hleft]
      exact ih (List.mem_of_ne_of_mem hpq hp) hst hz

theorem foldl_backoffOver_none {k : Nat} {l : List Pier} {s : State}
    (h : ∀ p ∈ l, p.slot = k → (claimAt s p.idx).state = .backoff → 0 < (claimAt s p.idx).backoff) :
    l.foldl (backoffOver k) s = s := by
  induction l with
  | nil => rfl
  | cons p l ih =>
    have hleft : backoffOver k s p = s := if_neg fun ⟨hk, hst, hz⟩ => absurd (h p (by simp) hk hst) (by omega)
    rw [List.foldl_cons, hleft]
    exact ih fun q hq => h q (by simp [hq])

/-- Settles O12: each clause is what its row does at its instant; only the pier rows and the counter change more than one field. -/
theorem miniSlotsHoldsAndPiers : Obligations.MiniSlotsHoldsAndPiers := by
  unfold Obligations.MiniSlotsHoldsAndPiers
  refine ⟨?miniSlot, ?first, ?next, ?raise, ?release, ?missed, ?occurrence, ?claiming, ?backoff, ?noBackoff⟩
  case miniSlot =>
    intro s i rot hw hi hs hj j bnd counter u x
    refine ⟨fun hb => exec_eq_next rfl hw (miniSlot_early hi hb) rfl,
      fun hb hc => exec_eq_next rfl hw (miniSlot_counts hi hs hj hb hc) (counted_pending s i rot),
      fun c e hb hh hc hm he => ⟨fun q d hl ha hfit => ?arms, fun hl hf => ?empty⟩⟩
    case arms =>
      exact exec_eq_next rfl hw ((miniSlot_arms hi hs hj hb hh hc hm).trans (dynArm_counted he hl ha hfit))
        ((setArm_pending _ _ _).trans (counted_pending s i rot))
    case empty =>
      exact exec_eq_next rfl hw ((miniSlot_arms hi hs hj hb hh hc hm).trans (dynArm_counted_empty he hl hf _)) (counted_pending s i rot)
  case first => exact fun s i rot h => msCounter_first h i
  case next =>
    intro s i c hc hj
    rw [msCounter_next hc hj]
    refine ⟨fun hh => by rw [hh, if_pos rfl], fun hh he => ?_, fun hh he => ?_⟩
    · rw [hh, if_neg (by decide), msNext_cw_some he]
    · rw [hh, if_neg (by decide), msNext_cw_none he]
  case raise =>
    intro s i c e hw hi hb hs hx hh rot lead raised next
    exact ⟨fun hnext hlo hhi => exec_eq_keeping rfl hw (holdRaise_present hi hb hs hx hh hnext hlo hhi),
      fun hlo hhi => exec_eq_keeping rfl hw (holdRaise_next hi hb hs hx hh hlo hhi)⟩
  case release =>
    intro s i e hw hi hh hc
    exact exec_eq_next rfl hw (holdRelease_ends hi hh hc) (setRtx_pending s e _)
  case missed =>
    intro s i k e o hw hi ho hs hh hn rot u x
    refine ⟨fun hc => exec_eq_next rfl hw (slotMissed_again hi ho hc) rfl, fun hc ht => ?_⟩
    have hmiss := slotMissed_first hi ho hs hh hn hc ht
    refine ⟨fun hq => exec_eq_keeping rfl hw ?_, fun hw' hf => exec_eq_keeping rfl hw ?_⟩
    · rw [if_pos (by simpa using hq)] at hmiss
      exact hmiss
    · rw [hw', hf, if_neg (by decide)] at hmiss
      exact hmiss
  case occurrence =>
    intro s i k p c hw hi hp hb x seen
    have hk := pierOf_slot hp
    refine ⟨fun h => exec_eq_next rfl hw ?_ rfl, fun hc hd hs ho => ?_⟩
    · rcases lt_or_ge (nt16 s) c with hlt | hge
      · exact pierOccurrenceEnd_early hi hp hb hlt
      · exact (pierOccurrenceEnd_due hi hp hb hge).trans (pierEnds_done (hk ▸ h.resolve_left (Nat.not_lt.mpr hge)))
    · subst hk
      have hown := pierEnds_own hd hs ho
      refine ⟨pierEnds s p, exec_eq_next rfl hw (pierOccurrenceEnd_due hi hp hb hc) (pierEnds_only s p).pending_eq, ?_, fun hst => ?_,
        fun hst => ?_, fun hx hn he => ?_, fun j hj => ?_, pierEnds_only s p⟩ <;> rw [hown]
      · rw [checkAt_pierMarked]
      · rw [claimAt_setClaim]
        exact claimAfter_observing hst _
      · rw [claimAt_setClaim]
        exact claimAfter_claiming hst _
      · have hnone : seenOnce s p.slot = false := hn
        rw [expectAt_pierMarked, hnone]
        exact expectAfter_eighth hx he
      · exact ⟨claimAt_pierMarked_ne s p _ hj, expectAt_pierMarked_ne s p _ hj⟩
  case claiming =>
    intro s i p hs hst hph
    exact ⟨fun hc => startClaiming_ready hs hst hph hc i, fun hc => startClaiming_observing hc i⟩
  case backoff =>
    intro s k p hw hp hk hst hz
    exact ⟨_, exec_eq_next rfl hw (pierBackoffEnd_eq s k) (by rw [foldl_backoffOver_only]), claimAt_backoff_ends hp hk hst hz,
      foldl_backoffOver_only k _ s⟩
  case noBackoff =>
    intro s k hw h
    exact exec_eq_next rfl hw (foldl_backoffOver_none h) rfl

end Sys2Proof.Machine
end

section
/-! PROOFS. Frames and pieces of frames that arrive on the ring ports: the statement O21. -/

namespace Sys2Proof.Machine

open Sys2Proof

/-! ### What arrives, and its counters (R80, R153, R262) -/

theorem throughBypass_on {s : State} (h : s.ring.bypassOn = true) (e : RPort) (o : Octets) :
    throughBypass s e o = emit s (.bypass (otherPort e) o) := if_pos h

theorem throughBypass_off {s : State} (h : s.ring.bypassOn = false) (e : RPort) (o : Octets) : throughBypass s e o = s :=
  if_neg (by simp [h])

theorem throughBypass_unseen (s : State) (e : RPort) (o : Octets) : Unseen s (throughBypass s e o) := by
  unfold throughBypass
  split
  · exact emit_unseen s _
  · exact .refl s

theorem countPort_unseen (s : State) (p ev : Nat) : Unseen s (countPort s p ev) := countN_unseen s 1 p ev 1

theorem countFec_unseen (s : State) (p : Nat) (mp : Mpacket) : Unseen s (countFec s p mp) := by
  unfold countFec
  split
  · exact .refl s
  · exact (((countN_unseen s _ _ _ _).trans (countN_unseen _ _ _ _ _)).trans (perfN_unseen _ _ _)).trans (perfN_unseen _ _ _)

theorem ringRxCount_unseen (s : State) (e : RPort) (o : Octets) : Unseen s (ringRxCount s e o) :=
  (((countPort_unseen s _ _).trans (countN_unseen _ _ _ _ _)).trans (perf_unseen _ _)).trans (perfN_unseen _ _ _)

/-- The state in which the Ring region takes what arrived: it has passed the bypass, and its codewords are counted. -/
def arrived (s : State) (e : RPort) (mp : Mpacket) : State := countFec (throughBypass s e mp.data) (rpIdx e) mp

/-- A packet with an invalid code group is counted (R256). -/
def symCounted (s : State) (e : RPort) (mp : Mpacket) : State := if packetSym mp then countPort s (rpIdx e) 6 else s

theorem arrived_unseen (s : State) (e : RPort) (mp : Mpacket) : Unseen s (arrived s e mp) :=
  (throughBypass_unseen s e _).trans (countFec_unseen _ _ _)

theorem symCounted_unseen (s : State) (e : RPort) (mp : Mpacket) : Unseen s (symCounted s e mp) := by
  unfold symCounted
  split
  · exact countPort_unseen s _ _
  · exact .refl s

theorem ringFrameRx_down {s : State} {e : RPort} (h : inService s .ring = false ∨ (rport s e).link = false) (mp : Mpacket) (ts : Nat) :
    ringFrameRx s e mp ts = throughBypass s e mp.data := by
  have hu := throughBypass_unseen s e mp.data
  have hdown : (inService s .ring && (rport s e).link) = false := by rcases h with h | h <;> simp [h]
  have hnot : (!inService s .ring || !(rport s e).link) = true := by rw [← Bool.not_and, hdown]; rfl
  simp only [ringFrameRx, hu.read (inService · .ring), hu.read (rport · e), hdown, Bool.false_eq_true, if_false, hnot, if_true]

/-- The Ring region takes what arrives by its start code. -/
theorem ringFrameRx_up {s : State} {e : RPort} (hs : inService s .ring = true) (hl : (rport s e).link = true) (mp : Mpacket) (ts : Nat) :
    ringFrameRx s e mp ts =
      if mp.shortGap then countPort (arrived s e mp) (rpIdx e) 9
      else match mp.smd with
        | .express => ringWhole false none (arrived s e mp) e mp.data (packetSym mp) (quant ts)
        | .startH => ringFirst (arrived s e mp) e .high mp (quant ts)
        | .contH => ringMore (arrived s e mp) e .high mp
        | .startP => ringFirst (arrived s e mp) e .low mp (quant ts)
        | .contP => ringMore (arrived s e mp) e .low mp
        | .invalid => countPort (countPort (arrived s e mp) (rpIdx e) 42) (rpIdx e) 51
        | smd => smdVerifyRx (arrived s e mp) (rpIdx e) smd := by
  have hu := throughBypass_unseen s e mp.data
  have ha := arrived_unseen s e mp
  unfold ringFrameRx
  extract_lets p ts1 s1 s2
  have h2 : s2 = arrived s e mp := by
    simp only [s2, s1, hu.read (inService · .ring), hu.read (rport · e), hs, hl, Bool.and_self, if_true]
    rfl
  have hup : ¬(!inService (arrived s e mp) .ring || !(rport (arrived s e mp) e).link) = true := by
    rw [ha.read (inService · .ring), ha.read (rport · e), hs, hl]
    decide
  rw [h2]
  exact (if_neg hup).trans rfl

/-! ### Whole frames (R59, R80, R145) -/

/-- A frame of a length that is taken whole and is not MAC control, with HOPS and header as they came. -/
structure RingSized (o : Octets) : Prop where
  long : 18 ≤ o.length
  short : o.length ≤ 16000
  notPause : etypeAt o 12 ≠ 0x8808

section

variable {v w : State} {e : RPort} {o : Octets} {sym : Bool} {ts : Nat} (ho : RingSized o)
  (hw : (if sym then countPort v (rpIdx e) 6 else v) = w)
include ho hw

/-- A frame that fails a header check is counted under it (R59). -/
theorem ringWhole_refused {ev : Nat} (hc : hdrCheck w e o ts = some ev) :
    ringWhole false none v e o sym ts = countPort (ringRxCount w e o) (rpIdx e) ev := by
  have htake : o.take 16000 = o := List.take_of_length_le ho.short
  simp [ringWhole, htake, hw, hc, Nat.not_lt.mpr ho.short, Nat.not_lt.mpr ho.long, ho.notPause]

variable (hc : hdrCheck w e o ts = none) (hseg : (parseHdr o).seg ≠ 3) (hb : w.ring.bypassOn = false)
include hc hseg hb

/-- A frame that passes them stops at a port that is not in the ring (R145). -/
theorem ringWhole_stopped (hr : inRing w e = false) :
    ringWhole false none v e o sym ts =
      countPort (if fcsGood o then ringRxCount w e o else countPort (ringRxCount w e o) (rpIdx e) 5) (rpIdx e) 36 := by
  have htake : o.take 16000 = o := List.take_of_length_le ho.short
  simp [ringWhole, htake, hw, hc, hseg, hb, hr, Nat.not_lt.mpr ho.short, Nat.not_lt.mpr ho.long, ho.notPause]

/-- From a port in the ring it goes on. -/
theorem ringWhole_passes (hr : inRing w e = true) :
    ringWhole false none v e o sym ts =
      passFrame false false none (if fcsGood o then ringRxCount w e o else countPort (ringRxCount w e o) (rpIdx e) 5) e (parseHdr o) o
        sym ts := by
  have htake : o.take 16000 = o := List.take_of_length_le ho.short
  simp [ringWhole, htake, hw, hc, hseg, hb, hr, Nat.not_lt.mpr ho.short, Nat.not_lt.mpr ho.long, ho.notPause]

end

/-! ### Open frames (R80, R81, R231) -/

theorem stripOwn_other {s : State} {h : Hdr} (ho : h.origin ≠ me s) (e : RPort) : stripOwn s e h = none := if_pos ho

/-- An open frame of another node with a good FCS, for another node, goes on with one more hop (R80). -/
theorem passFrame_open_good {s : State} {e : RPort} {h : Hdr} {o : Octets} {sym : Bool} {ts : Nat} (hseg : h.seg = 2)
    (ho : h.origin ≠ me s) (hall : h.destAll = false) (hd : h.dest ≠ me s) (hr : inRing s (otherPort e) = true)
    (hf : fcsGood o = true) :
    passFrame false false none s e h o sym ts =
      perf (toTransit s (otherPort e) (levelBy s o) (hopFrame { data := o })) (pRot (rxRot s e) 5) := by
  have hfwd : forwardFrom s e (levelBy s o) o true false = toTransit s (otherPort e) (levelBy s o) (hopFrame { data := o }) := if_pos hr
  have hme : me (perf (toTransit s (otherPort e) (levelBy s o) (hopFrame { data := o })) (pRot (rxRot s e) 5)) = me s := by
    have hboot := (toTransit_out s (otherPort e) (levelBy s o) (hopFrame { data := o })).1.boot_eq
    rw [me, perf_boot, hboot, me]
  simp [passFrame, stripOwn_other ho, hseg, hf, hfwd, deliverOpen, hall, hme, hd]

/-- One with a bad FCS is counted and goes on, to end as invalid (R80). -/
theorem passFrame_open_bad {s : State} {e : RPort} {h : Hdr} {o : Octets} {sym : Bool} {ts : Nat} (hseg : h.seg = 2)
    (ho : h.origin ≠ me s) (hr : inRing s (otherPort e) = true) (hf : fcsGood o = false) :
    passFrame false false none s e h o sym ts =
      toTransit (countPort s (rpIdx e) 25) (otherPort e) (levelBy s o) (hopFrame { data := o, bad := true }) := by
  have hfwd : forwardFrom s e (levelBy s o) o false false =
      toTransit (countPort s (rpIdx e) 25) (otherPort e) (levelBy s o) (hopFrame { data := o, bad := true }) := if_pos hr
  simp [passFrame, stripOwn_other ho, hseg, hf, hfwd]

/-! ### Static frames (R55, R98, R113, R114) -/

theorem passFrame_slot {s : State} {e : RPort} {h : Hdr} {o : Octets} {sym : Bool} {ts : Nat} {i : Image} (hseg : h.seg = 0)
    (ho : h.origin ≠ me s) (hs : synced s = true) (hi : s.cyc.image = some i) (hf : fcsGood o = true) :
    passFrame false false none s e h o sym ts = slotFrameRx s i e h o true false sym ts := by
  simp [passFrame, stripOwn_other ho, hseg, hf, hs, hi]

/-- A measured arrival changes nothing but what is kept of the time (R98). -/
theorem measureSync_time (s : State) (i : Image) (rot : Rot) (n : Nat) (h : Hdr) (ts : Nat) :
    ∃ x, measureSync s i rot n h ts = setTime s x := by
  unfold measureSync
  dsimp only
  split
  · exact ⟨s.time, rfl⟩
  · split <;> exact ⟨_, rfl⟩

/-- The end of a static frame's window at this node (R110, R114). -/
def staticClose (s : State) (i : Image) (rot : Rot) (n : Nat) (h : Hdr) : Nat :=
  slotStart s i n rot h.id + mts i i.lst + (if wrapped s rot h.origin then lap s rot else 0) - mts i i.g + piT i

section

variable {s m : State} {i : Image} {e : RPort} {h : Hdr} {o : Octets} {sym : Bool} {ts n : Nat} {rot : Rot} (hseg : h.seg = 0)
  (hrot : rxRot s e = rot) (hn : viewCycle s rot ts = n) (hm : measureSync s i rot n h ts = m)
include hseg hrot hn hm

/-- A frame in a slot that this node owns is drained as a schedule conflict (R55). -/
theorem slotFrameRx_owned (hh : holdsSlot m i h.id n = true) (ho : ownerOf i h.id n = some (me m)) :
    slotFrameRx s i e h o true false sym ts = feedSystem (countRing m 1) 269 h.id 0 := by
  simp [slotFrameRx, hrot, hn, hm, hseg, hh, drainSlot, ho]

/-- A frame outside its acceptance window is discarded, and feeds the port's source (R113). -/
theorem slotFrameRx_outside (hh : holdsSlot m i h.id n = false) (hw : inStaticWindow m i rot n h ts = false) :
    slotFrameRx s i e h o true false sym ts = feedSystem (perf (countPort m (rpIdx e) 31) (pRot rot 9)) (260 + rpBit e) h.id 0 := by
  simp [slotFrameRx, hrot, hn, hm, hseg, hh, hw]

/-- One inside its window is forwarded, accepted and delivered (R80, R81). -/
theorem slotFrameRx_inside (hh : holdsSlot m i h.id n = false) (hw : inStaticWindow m i rot n h ts = true) (hsym : sym = false) :
    slotFrameRx s i e h o true false sym ts =
      deliverSlot (acceptStatic (perf (forwardExpress m e o true false (staticClose s i rot n h)) (pRot rot 3)) i e n h) i n h o ts := by
  simp [slotFrameRx, hrot, hn, hm, hseg, hh, hw, hsym, staticClose]

end

/-! ### The frame that goes on (R80, R82, R115) -/

/-- A measured hop delay takes a free value, and adds to the sums of the burst (R82, R93). -/
theorem measureHop_frame (s : State) (e : RPort) :
    ∃ n a b, measureHop s e = { s with free := n, ring := { s.ring with hopAccE2W := a, hopAccW2E := b } } := by
  unfold measureHop
  split
  · exact ⟨_, _, _, rfl⟩
  · cases e <;> exact ⟨_, _, _, rfl⟩

/-- A free egress has no piece in progress. -/
theorem ringInterrupt_free {s : State} {e : RPort} (h : egressFree s e = true) : ringInterrupt s e = s := by
  simp only [egressFree, Bool.and_eq_true, Bool.not_eq_true'] at h
  obtain ⟨⟨⟨-, hhigh⟩, hlow⟩, -⟩ := h
  simp [ringInterrupt, levelInProgress, hhigh, hlow]

theorem egressFree_express {s : State} {e : RPort} (h : egressFree s e = true) : (rtx s e).express = none := by
  simp only [egressFree, Bool.and_eq_true] at h
  exact Option.isNone_iff_eq_none.mp h.1.1.1

/-- On a free egress in the ring a static or dynamic frame starts at once (R80). -/
theorem forwardExpress_starts {s : State} {e : RPort} (hr : inRing s (otherPort e) = true)
    (hf : egressFree s (otherPort e) = true) (hn : (rtx s (otherPort e)).exNext = none) (o : Octets) (close : Nat) :
    forwardExpress s e o true false close = expressStart (measureHop s e) (otherPort e) (hopped o) close false true none := by
  obtain ⟨n, a, b, hm⟩ := measureHop_frame s e
  have hfree : egressFree (measureHop s e) (otherPort e) = true := by rw [hm, ← hf]; cases e <;> rfl
  simp [forwardExpress, hr, egressFree_express hf, hn, countBad, ringInterrupt_free hfree, hfree]

/-- It is discarded where another express frame is in transmission (R115). -/
theorem forwardExpress_occupied {s : State} {e : RPort} (hr : inRing s (otherPort e) = true)
    (hx : (rtx s (otherPort e)).express.isSome = true) (o : Octets) (good trunc : Bool) (close : Nat) :
    forwardExpress s e o good trunc close = countPort s (rpIdx (otherPort e)) 32 := by
  simp [forwardExpress, hr, hx]

/-! ### What acceptance leaves (R66, R67, R74, R77) -/

theorem deliverSlot_unbound {s : State} {i : Image} {n : Nat} {h : Hdr} (hb : boundBuffers s i n h = []) (o : Octets) (ts : Nat) :
    deliverSlot s i n h o ts = s := by
  rw [deliverSlot, hb]
  rfl

theorem slotSeen_markSeen (s : State) (k : Nat) (e : RPort) : slotSeen (markSeen s k e) k e = true := by
  have hmark : checkAt (markSeen s k e) k = (match e with
    | .east => { checkAt s k with east := true }
    | .west => { checkAt s k with west := true }) := tblGet_tblSet_same _ _ _ _
  cases e
  · exact congrArg (·.east) hmark
  · exact congrArg (·.west) hmark

/-- Acceptance marks a slot as seen, and changes the cycle's marks, claims and expectations only. -/
theorem acceptStatic_cyc (s : State) (i : Image) (e : RPort) (n : Nat) (h : Hdr) :
    ∃ w x c, acceptStatic s i e n h = { s with cyc := { s.cyc with
      seen := (markSeen s h.id e).cyc.seen, withdrawn := w, expects := x, claims := c } } := by
  unfold acceptStatic
  extract_lets k s1 w s2
  generalize hs : s2 = t
  simp only [s2] at hs
  subst hs
  split
  · dsimp only
    split <;> exact ⟨_, _, _, rfl⟩
  · exact ⟨_, _, _, rfl⟩

theorem slotSeen_acceptStatic (s : State) (i : Image) (e : RPort) (n : Nat) (h : Hdr) :
    slotSeen (acceptStatic s i e n h) h.id e = true := by
  obtain ⟨w, x, c, ha⟩ := acceptStatic_cyc s i e n h
  rw [ha, ← slotSeen_markSeen s h.id e]
  cases e <;> rfl

/-! ### Which counter counts what (R453) -/

@[simp] theorem signal_ctr (s : State) (n : Nat) : (signal s n).ctr = s.ctr := by
  have hmark : ∀ f v, (markVec s f v).ctr = s.ctr := by
    intro f v
    unfold markVec trySend
    split <;> rfl
  unfold signal
  split
  · rfl
  · split
    · exact hmark _ _
    · rfl

@[simp] theorem perfN_stat (s : State) (i n : Nat) : (perfN s i n).ctr.stat = s.ctr.stat := by
  unfold perfN
  dsimp only
  split
  · rfl
  · rw [signal_ctr]

/-- The count of event `ev` of port `p`. -/
def portStat (s : State) (p ev : Nat) : Stat := tblGet {} s.ctr.stat (statIdx 1 p ev)

theorem portStat_countPort_same (s : State) (p ev : Nat) : portStat (countPort s p ev) p ev = (portStat s p ev).add 1 (now s) :=
  tblGet_tblSet_same _ _ _ _

/-- What one ring port counts leaves the other's counters. -/
theorem portStat_countN_other (s : State) (e : RPort) {a b : Nat} (n : Nat) (ha : a < 256) (hb : b < 256) :
    portStat (countN s 1 (rpIdx e) b n) (rpIdx (otherPort e)) a = portStat s (rpIdx (otherPort e)) a := by
  have hne : statIdx 1 (rpIdx (otherPort e)) a ≠ statIdx 1 (rpIdx e) b := by
    cases e <;> simp only [statIdx, rpIdx, otherPort] <;> omega
  exact tblGet_tblSet_ne _ _ _ _ _ hne

@[simp] theorem portStat_perfN (s : State) (i n p ev : Nat) : portStat (perfN s i n) p ev = portStat s p ev := by
  rw [portStat, perfN_stat, portStat]

@[simp] theorem portStat_perf (s : State) (i p ev : Nat) : portStat (perf s i) p ev = portStat s p ev := portStat_perfN s i 1 p ev

theorem portStat_arrived_other (s : State) (e : RPort) (mp : Mpacket) {ev : Nat} (h : ev < 256) :
    portStat (arrived s e mp) (rpIdx (otherPort e)) ev = portStat s (rpIdx (otherPort e)) ev := by
  have hbyp : portStat (throughBypass s e mp.data) (rpIdx (otherPort e)) ev = portStat s (rpIdx (otherPort e)) ev := by
    unfold throughBypass
    split <;> rfl
  unfold arrived countFec
  split
  · exact hbyp
  · rw [portStat_perfN, portStat_perfN, portStat_countN_other _ e _ h (by decide), portStat_countN_other _ e _ h (by decide), hbyp]

theorem portStat_ringRxCount_other (s : State) (e : RPort) (o : Octets) {ev : Nat} (h : ev < 256) :
    portStat (ringRxCount s e o) (rpIdx (otherPort e)) ev = portStat s (rpIdx (otherPort e)) ev := by
  simp only [ringRxCount, portStat_perfN, portStat_perf, countPort, count]
  rw [portStat_countN_other _ e _ h (by decide), portStat_countN_other _ e _ h (by decide)]

/-! ### Preemptable frames in pieces (R80, R229, R231) -/

theorem KnFrame.vat_eq {s t : State} (h : KnFrame s t) : t.vat = s.vat := by
  obtain ⟨-, -, -, -, -, -, -, -, hvat, -⟩ := h
  exact hvat

theorem forwardOut_out (s : State) (e : RPort) (l : Level) (f : RFrame) : OutFrame s (forwardOut s e l f) := by
  unfold forwardOut
  split
  · exact toTransit_out s e l _
  · exact loopOut_out s e l f

theorem fwdFirst_out (s : State) (e : RPort) (l : Level) (o : Octets) (ts : Nat) : OutFrame s (fwdFirst s e l o ts).2 := by
  unfold fwdFirst
  dsimp only
  split
  · exact .refl s
  · exact forwardOut_out s _ l _

theorem onArrivingBoth_out (s : State) (c : Nat) (g : RFrame → RFrame) : OutFrame s (onArrivingBoth s c g) :=
  (setRtx_out s .east _).trans (setRtx_out _ .west _)

/-- A further piece goes to the transit frame of its context, and leaves the switch and the waiting commands. -/
theorem fwdPiece_kept (s : State) (e : RPort) (l : Level) (x : Reasm) (d : Octets) (last : Bool) :
    (fwdPiece s e l x d last).vat = s.vat ∧ (fwdPiece s e l x d last).pending = s.pending := by
  have hboth : ∀ c g, (onArrivingBoth s c g).vat = s.vat ∧ (onArrivingBoth s c g).pending = s.pending := fun c g =>
    ⟨(onArrivingBoth_out s c g).1.vat_eq, (onArrivingBoth_out s c g).1.pending_eq⟩
  unfold fwdPiece
  dsimp only
  split
  · exact ⟨rfl, rfl⟩
  · split
    · simp only [fwdFail, drawn, hboth, and_self]
    · split <;> simp only [fwdLast, fwdMore, hboth, and_self]

/-- The first piece of a frame opens its context (R229). -/
theorem ringFirst_opens {s : State} {e : RPort} {l : Level} {mp : Mpacket} (hx : (ctxAt s e l).isOpen = false)
    (hlast : mp.last = false) (hcrc : mp.crcOk = true) (ts : Nat) :
    ringFirst s e l mp ts = setCtx (fwdFirst s e l mp.data ts).2 e l {
      isOpen := true, data := mp.data, cnt := mp.frameCount % 4, since := now s, ts := ts, sym := packetSym mp
      fwd := (fwdFirst s e l mp.data ts).1 } := by
  simp [ringFirst, hx, hlast, hcrc]

/-- A piece without one is counted as such (R229, R235). -/
theorem ringMore_closed {s : State} {e : RPort} {l : Level} (hx : (ctxAt s e l).isOpen = false) (mp : Mpacket) :
    ringMore s e l mp = countPort (countPort s (rpIdx e) 45) (rpIdx e) 51 := by
  simp [ringMore, hx]

/-- A next piece with the counts of its context is joined to it (R229). -/
theorem ringMore_joins {s : State} {e : RPort} {l : Level} {mp : Mpacket} (hx : (ctxAt s e l).isOpen = true)
    (hlast : mp.last = false) (hcrc : mp.crcOk = true) (hcnt : (ctxAt s e l).cnt = mp.frameCount % 4)
    (hfrag : (ctxAt s e l).frag = mp.fragCount % 4) :
    ringMore s e l mp =
      setCtx (fwdPiece (perf (countPort s (rpIdx e) 53) (pPort (rpIdx e) 7)) e l (ctxAt s e l) mp.data false) e l { ctxAt s e l with
        data := (ctxAt s e l).data ++ mp.data, frag := ((ctxAt s e l).frag + 1) % 4
        since := now s, sym := (ctxAt s e l).sym || packetSym mp } := by
  simp [ringMore, hx, hlast, hcrc, hcnt, hfrag]

/-- A context with no piece for two cycles is discarded (R229). -/
theorem reassemblyTimeout_due {s : State} {e : RPort} {l : Level} (hx : (ctxAt s e l).isOpen = true)
    (hd : (ctxAt s e l).since + 2 * tcycTicks s ≤ now s) :
    reassemblyTimeout s e l = countPort (countPort (dropCtx s (ctxOf e l)) (rpIdx e) 45) (rpIdx e) 50 := by
  have hdue : due s ((ctxAt s e l).since + 2 * tcycTicks s) = true := decide_eq_true hd
  simp [reassemblyTimeout, hx, hdue, ringFragFail]

theorem reassemblyTimeout_none {s : State} {e : RPort} {l : Level}
    (h : (ctxAt s e l).isOpen = false ∨ now s < (ctxAt s e l).since + 2 * tcycTicks s) : reassemblyTimeout s e l = s := by
  rcases h with h | h
  · simp [reassemblyTimeout, h]
  · have hdue : due s ((ctxAt s e l).since + 2 * tcycTicks s) = false := decide_eq_false (Nat.not_le.mpr h)
    simp [reassemblyTimeout, hdue]

/-- A context of which nothing was sent on is taken away. -/
theorem dropCtx_unforwarded {s : State} {e : RPort} {l : Level} (h : (ctxAt s e l).fwd = false) :
    dropCtx s (ctxOf e l) = setCtx s e l {} := by
  have hf : (tblGet {} s.ring.reasm (ctxOf e l) : Reasm).fwd = false := h
  simp [dropCtx, setCtx, tblSet, hf]

/-! ### Frames that arrive whole -/

/-- The state in which a whole frame that arrived is counted, and is checked (R59, R453). -/
def taken (s : State) (e : RPort) (mp : Mpacket) : State := ringRxCount (symCounted (arrived s e mp) e mp) e mp.data

theorem checked_unseen (s : State) (e : RPort) (mp : Mpacket) : Unseen s (symCounted (arrived s e mp) e mp) :=
  (arrived_unseen s e mp).trans (symCounted_unseen _ e mp)

theorem taken_unseen (s : State) (e : RPort) (mp : Mpacket) : Unseen s (taken s e mp) :=
  (checked_unseen s e mp).trans (ringRxCount_unseen _ e _)

theorem portStat_taken_other (s : State) (e : RPort) (mp : Mpacket) {ev : Nat} (h : ev < 256) :
    portStat (taken s e mp) (rpIdx (otherPort e)) ev = portStat s (rpIdx (otherPort e)) ev := by
  have hsym : portStat (symCounted (arrived s e mp) e mp) (rpIdx (otherPort e)) ev =
      portStat (arrived s e mp) (rpIdx (otherPort e)) ev := by
    unfold symCounted
    split
    · exact portStat_countN_other _ e 1 h (by decide)
    · rfl
  rw [taken, portStat_ringRxCount_other _ e _ h, hsym, portStat_arrived_other s e mp h]

section

variable {s : State} {e : RPort} {mp : Mpacket} {ts : Nat} (hs : inService s .ring = true) (hl : (rport s e).link = true)
  (hg : mp.shortGap = false) (hx : mp.smd = .express)
include hs hl hg hx

theorem ringFrameRx_whole : ringFrameRx s e mp ts = ringWhole false none (arrived s e mp) e mp.data (packetSym mp) (quant ts) := by
  simp [ringFrameRx_up hs hl, hg, hx]

variable (ho : RingSized mp.data)
include ho

theorem ringFrameRx_refused {ev : Nat} (hc : hdrCheck s e mp.data (quant ts) = some ev) :
    ringFrameRx s e mp ts = countPort (taken s e mp) (rpIdx e) ev := by
  rw [← (checked_unseen s e mp).sameRing.hdrCheck_eq] at hc
  rw [ringFrameRx_whole hs hl hg hx, ringWhole_refused ho rfl hc]
  rfl

variable (hc : hdrCheck s e mp.data (quant ts) = none) (hseg : (parseHdr mp.data).seg ≠ 3) (hb : s.ring.bypassOn = false)
include hc hseg hb

theorem ringFrameRx_stopped (hr : inRing s e = false) :
    ringFrameRx s e mp ts =
      countPort (if fcsGood mp.data then taken s e mp else countPort (taken s e mp) (rpIdx e) 5) (rpIdx e) 36 := by
  have hu := checked_unseen s e mp
  rw [← hu.sameRing.hdrCheck_eq] at hc
  rw [ringFrameRx_whole hs hl hg hx, ringWhole_stopped (w := symCounted (arrived s e mp) e mp) ho rfl hc hseg
    (by rwa [hu.read (·.ring.bypassOn)]) (by rwa [hu.read (inRing · e)])]
  rfl

theorem ringFrameRx_passes (hr : inRing s e = true) :
    ringFrameRx s e mp ts =
      passFrame false false none (if fcsGood mp.data then taken s e mp else countPort (taken s e mp) (rpIdx e) 5) e (parseHdr mp.data)
        mp.data (packetSym mp) (quant ts) := by
  have hu := checked_unseen s e mp
  rw [← hu.sameRing.hdrCheck_eq] at hc
  rw [ringFrameRx_whole hs hl hg hx, ringWhole_passes (w := symCounted (arrived s e mp) e mp) ho rfl hc hseg
    (by rwa [hu.read (·.ring.bypassOn)]) (by rwa [hu.read (inRing · e)])]
  rfl

variable (hr : inRing s e = true) (hown : (parseHdr mp.data).origin ≠ me s)
include hr hown

theorem ringFrameRx_open_good (hopen : (parseHdr mp.data).seg = 2) (hout : inRing s (otherPort e) = true)
    (hf : fcsGood mp.data = true) (hall : (parseHdr mp.data).destAll = false) (hd : (parseHdr mp.data).dest ≠ me s) :
    ringFrameRx s e mp ts = perf (toTransit (taken s e mp) (otherPort e) (levelBy s mp.data) (hopFrame { data := mp.data }))
      (pRot (rxRot s e) 5) := by
  have hu := taken_unseen s e mp
  rw [ringFrameRx_passes hs hl hg hx ho hc hseg hb hr, if_pos hf, passFrame_open_good hopen (by rwa [hu.read me]) hall
    (by rwa [hu.read me]) (by rwa [hu.read (inRing · (otherPort e))]) hf, hu.read (levelBy · mp.data), hu.read (rxRot · e)]

theorem ringFrameRx_open_bad (hopen : (parseHdr mp.data).seg = 2) (hout : inRing s (otherPort e) = true)
    (hf : fcsGood mp.data = false) :
    ringFrameRx s e mp ts = toTransit (countPort (countPort (taken s e mp) (rpIdx e) 5) (rpIdx e) 25) (otherPort e)
      (levelBy s mp.data) (hopFrame { data := mp.data, bad := true }) := by
  have hu := (taken_unseen s e mp).trans (countPort_unseen _ (rpIdx e) 5)
  rw [ringFrameRx_passes hs hl hg hx ho hc hseg hb hr, if_neg (by simp [hf]), passFrame_open_bad hopen (by rwa [hu.read me])
    (by rwa [hu.read (inRing · (otherPort e))]) hf, hu.read (levelBy · mp.data)]

theorem ringFrameRx_slot {i : Image} (hslot : (parseHdr mp.data).seg = 0) (hf : fcsGood mp.data = true) (hsync : synced s = true)
    (hi : s.cyc.image = some i) :
    ringFrameRx s e mp ts = slotFrameRx (taken s e mp) i e (parseHdr mp.data) mp.data true false (packetSym mp) (quant ts) := by
  have hu := taken_unseen s e mp
  rw [ringFrameRx_passes hs hl hg hx ho hc hseg hb hr, if_pos hf, passFrame_slot hslot (by rwa [hu.read me])
    (by rwa [hu.read synced]) (by rwa [hu.read (·.cyc.image)]) hf]

end

/-! ### Static frames in the slots of others -/

/-- What reads nothing of the kept times reads the same after a measured arrival. -/
theorem measureSync_read {α : Type} (s : State) (i : Image) (rot : Rot) (n : Nat) (h : Hdr) (ts : Nat) (r : State → α)
    (hr : ∀ a x, r (setTime a x) = r a := by exact fun _ _ => rfl) : r (measureSync s i rot n h ts) = r s := by
  obtain ⟨x, hx⟩ := measureSync_time s i rot n h ts
  rw [hx, hr]

@[simp] theorem acceptStatic_vat (s : State) (i : Image) (e : RPort) (n : Nat) (h : Hdr) : (acceptStatic s i e n h).vat = s.vat := by
  obtain ⟨w, x, c, ha⟩ := acceptStatic_cyc s i e n h
  rw [ha]

@[simp] theorem acceptStatic_rx (s : State) (i : Image) (e : RPort) (n : Nat) (h : Hdr) : (acceptStatic s i e n h).cyc.rx = s.cyc.rx := by
  obtain ⟨w, x, c, ha⟩ := acceptStatic_cyc s i e n h
  rw [ha]

@[simp] theorem rtx_acceptStatic (s : State) (i : Image) (e : RPort) (n : Nat) (h : Hdr) (f : RPort) :
    rtx (acceptStatic s i e n h) f = rtx s f := by
  obtain ⟨w, x, c, ha⟩ := acceptStatic_cyc s i e n h
  rw [ha]
  rfl

@[simp] theorem portStat_acceptStatic (s : State) (i : Image) (e : RPort) (n : Nat) (h : Hdr) (p ev : Nat) :
    portStat (acceptStatic s i e n h) p ev = portStat s p ev := by
  obtain ⟨w, x, c, ha⟩ := acceptStatic_cyc s i e n h
  rw [ha]
  rfl

theorem boundBuffers_acceptStatic (s : State) (i : Image) (e : RPort) (n : Nat) (h : Hdr) :
    boundBuffers (acceptStatic s i e n h) i n h = boundBuffers s i n h := by
  obtain ⟨w, x, c, ha⟩ := acceptStatic_cyc s i e n h
  rw [ha]
  rfl

theorem measureHop_kept (s : State) (e : RPort) :
    (measureHop s e).boot = s.boot ∧ (measureHop s e).vat = s.vat ∧ (measureHop s e).cyc = s.cyc ∧
      ∀ f, rtx (measureHop s e) f = rtx s f := by
  obtain ⟨n, a, b, hm⟩ := measureHop_frame s e
  rw [hm]
  exact ⟨rfl, rfl, rfl, fun f => by cases f <;> rfl⟩

@[simp] theorem expressStart_vat (s : State) (e : RPort) (o : Octets) (close : Nat) (own good : Bool) (buf : Option Nat) :
    (expressStart s e o close own good buf).vat = s.vat := by
  simp [expressStart]

section

variable {s u m : State} {i : Image} {e : RPort} {h : Hdr} {o : Octets} {ts n : Nat} {rot : Rot} (hu : Unseen s u) (hseg : h.seg = 0)
  (hrot : rxRot s e = rot) (hn : viewCycle s rot ts = n) (hm : measureSync u i rot n h ts = m)
include hu hm

/-- What reads no counter and nothing of the kept times reads the same once an arrival is counted and measured. -/
theorem measured_read {α : Type} (r : State → α) (hr : ∀ a x, r (setTime a x) = r a := by exact fun _ _ => rfl)
    (hr' : ∀ a, r (shown a) = r a := by exact fun _ => rfl) : r m = r s := by
  rw [← hm, measureSync_read u i rot n h ts r hr, hu.read r hr']

include hseg hrot hn

/-- A frame in its window is forwarded and accepted, and with no buffer bound to it no more (R66, R80, R81). -/
theorem slotFrameRx_unbound (hh : holdsSlot s i h.id n = false) (hw : inStaticWindow m i rot n h ts = true)
    (hb : boundBuffers s i n h = []) {f : State} (hf : forwardExpress m e o true false (staticClose s i rot n h) = f)
    (hboot : f.boot = m.boot) :
    slotFrameRx u i e h o true false false ts = acceptStatic (perf f (pRot rot 3)) i e n h := by
  have hclose : staticClose u i rot n h = staticClose s i rot n h := by
    simp only [staticClose, hu.sameRing.slotStart_eq, hu.sameRing.wrapped_eq, hu.sameRing.lap_eq]
  have hme : me (perf f (pRot rot 3)) = me s := by
    rw [me, perf_boot, hboot, measured_read hu hm (·.boot), me]
  have hnone : boundBuffers (perf f (pRot rot 3)) i n h = [] := by rw [← hb, boundBuffers, boundBuffers, hme]
  rw [slotFrameRx_inside hseg (by rwa [hu.read (rxRot · e)]) (by rwa [hu.sameRing.viewCycle_eq]) hm
    (by rwa [measured_read hu hm (holdsSlot · i h.id n)]) hw rfl, hclose, hf, deliverSlot_unbound]
  rw [boundBuffers_acceptStatic, hnone]

/-- On a free egress it starts with one more hop (R80, R81). -/
theorem slotFrameRx_starts (hh : holdsSlot s i h.id n = false) (hw : inStaticWindow m i rot n h ts = true)
    (hb : boundBuffers s i n h = []) (hr : inRing s (otherPort e) = true) (hfree : egressFree s (otherPort e) = true)
    (hnext : (rtx s (otherPort e)).exNext = none) :
    ∃ t, slotFrameRx u i e h o true false false ts = t ∧ (rtx t (otherPort e)).express = some (hopped o) ∧
      (rtx t (otherPort e)).exOwn = false ∧ (rtx t (otherPort e)).exBad = false ∧ slotSeen t h.id e = true ∧
      t.cyc.rx = s.cyc.rx ∧ t.vat = s.vat ∧ (rtx t (otherPort e)).exClose = staticClose s i rot n h := by
  obtain ⟨hboot, hvat, hcyc, -⟩ := measureHop_kept m e
  have hf := forwardExpress_starts (s := m) (e := e) (by rwa [measured_read hu hm (inRing · (otherPort e))])
    (by rwa [measured_read hu hm (egressFree · (otherPort e))]) (by rwa [measured_read hu hm (rtx · (otherPort e))]) o
    (staticClose s i rot n h)
  refine ⟨_, slotFrameRx_unbound hu hseg hrot hn hm hh hw hb hf (by rw [expressStart_boot, hboot]), ?_⟩
  simp only [rtx_acceptStatic, rtx_perf, rtx_expressStart, slotSeen_acceptStatic, acceptStatic_rx, acceptStatic_vat, perf_cyc, perf_vat,
    expressStart_cyc, expressStart_vat, hvat, hcyc, measured_read hu hm (·.vat), measured_read hu hm (·.cyc.rx), Bool.not_true, and_self]

/-- Where another express frame is in transmission it is discarded, and counted on that port (R115). -/
theorem slotFrameRx_blocked (hh : holdsSlot s i h.id n = false) (hw : inStaticWindow m i rot n h ts = true)
    (hb : boundBuffers s i n h = []) (hr : inRing s (otherPort e) = true) (hx : (rtx s (otherPort e)).express.isSome = true) :
    ∃ t, slotFrameRx u i e h o true false false ts = t ∧ rtx t (otherPort e) = rtx s (otherPort e) ∧ slotSeen t h.id e = true ∧
      portStat t (rpIdx (otherPort e)) 32 = (portStat u (rpIdx (otherPort e)) 32).add 1 (now s) := by
  have hf := forwardExpress_occupied (s := m) (e := e) (by rwa [measured_read hu hm (inRing · (otherPort e))])
    (by rwa [measured_read hu hm (rtx · (otherPort e))]) o true false (staticClose s i rot n h)
  refine ⟨_, slotFrameRx_unbound hu hseg hrot hn hm hh hw hb hf rfl, ?_⟩
  have hstat : portStat m (rpIdx (otherPort e)) 32 = portStat u (rpIdx (otherPort e)) 32 := by
    rw [← hm, measureSync_read u i rot n h ts (portStat · (rpIdx (otherPort e)) 32)]
  rw [rtx_acceptStatic, rtx_perf, (countPort_unseen m _ 32).read (rtx · (otherPort e)), measured_read hu hm (rtx · (otherPort e)),
    portStat_acceptStatic, portStat_perf, portStat_countPort_same, hstat, measured_read hu hm now]
  exact ⟨rfl, slotSeen_acceptStatic _ i e n h, rfl⟩

end

/-! ### Pieces that arrive -/

section

variable {s : State} {e : RPort} {mp : Mpacket} {l : Level} {ts : Nat} (hs : inService s .ring = true) (hl : (rport s e).link = true)
  (hg : mp.shortGap = false)
include hs hl hg

/-- The first piece of a frame opens the context of its port and level (R229). -/
theorem ringFrameRx_first (hx : mp.smd = (match l with
    | Level.high => Smd.startH
    | .low => .startP)) : ringFrameRx s e mp ts = ringFirst (arrived s e mp) e l mp (quant ts) := by
  cases l <;> simp [ringFrameRx_up hs hl, hg, hx]

theorem ringFrameRx_more (hx : mp.smd = (match l with
    | Level.high => Smd.contH
    | .low => .contP)) : ringFrameRx s e mp ts = ringMore (arrived s e mp) e l mp := by
  cases l <;> simp [ringFrameRx_up hs hl, hg, hx]

end

/-- Settles O21: each frame that arrives takes the path of its check, its segment and its slot's window, and each piece that of its
context; what is counted on the way changes nothing that these read. -/
theorem ringFramesReceived : Obligations.RingFramesReceived := by
  refine ⟨fun s e mp ts hw hdown => ?_, fun s e o => ⟨fun h => throughBypass_on h e o, fun h => throughBypass_off h e o⟩,
    fun s e mp ts hw hs hl => ?_, fun s e l hw hx hd => ⟨?_, fun hf => ?_⟩, fun s e l hw h => ?_⟩
  · exact exec_eq_next rfl hw (ringFrameRx_down hdown mp ts) (throughBypass_unseen s e mp.data).pending_eq
  · intro o h v u out
    have hv : Unseen s v := arrived_unseen s e mp
    have hctx : ∀ l, ctxAt v e l = ctxAt s e l := fun l => hv.read (ctxAt · e l)
    refine ⟨fun hg => ?_, fun hg hx => ?_, fun hg hx hb hlong hshort hpause => ?_, fun l hg hx hc hlast hcrc => ?_,
      fun l hg hx hc => ?_, fun l hg hx hc hlast hcrc hcnt hfrag => ?_⟩
    · exact exec_eq_next rfl hw (by rw [ringFrameRx_up hs hl, if_pos hg]; rfl) (hv.trans (countPort_unseen _ _ _)).pending_eq
    · exact exec_eq_next rfl hw (by rw [ringFrameRx_up hs hl, if_neg (by simp [hg]), hx]; rfl)
        ((hv.trans (countPort_unseen _ _ _)).trans (countPort_unseen _ _ _)).pending_eq
    · have ho : RingSized o := ⟨hlong, hshort, hpause⟩
      have hu : Unseen s u := taken_unseen s e mp
      refine ⟨fun ev hc => ?_, fun hc hseg hr => ?_, fun hc hopen hr hout hown => ⟨fun hf hall hd => ?_, fun hf => ?_⟩,
        fun i hc hslot hf hr hown hsync hi => ?_⟩
      · exact exec_eq_keeping rfl hw (ringFrameRx_refused hs hl hg hx ho hc)
      · exact exec_eq_keeping rfl hw (ringFrameRx_stopped hs hl hg hx ho hc hseg hb hr)
      · have hseg : (parseHdr o).seg ≠ 3 := by rw [hopen]; decide
        exact exec_eq_keeping rfl hw (ringFrameRx_open_good hs hl hg hx ho hc hseg hb hr hown hopen hout hf hall hd)
      · have hseg : (parseHdr o).seg ≠ 3 := by rw [hopen]; decide
        exact exec_eq_keeping rfl hw (ringFrameRx_open_bad hs hl hg hx ho hc hseg hb hr hown hopen hout hf)
      · intro rot n m
        have hseg : (parseHdr o).seg ≠ 3 := by rw [hslot]; decide
        have hrx : ringFrameRx s e mp ts = slotFrameRx u i e h o true false (packetSym mp) (quant ts) :=
          ringFrameRx_slot hs hl hg hx ho hc hseg hb hr hown hslot hf hsync hi
        have hrot : rxRot u e = rot := hu.read (rxRot · e)
        have hn : viewCycle u rot (quant ts) = n := hu.sameRing.viewCycle_eq rot _
        have hholds : holdsSlot m i h.id n = holdsSlot s i h.id n := measured_read hu rfl (holdsSlot · i h.id n)
        refine ⟨fun hh hme => ?_, fun hh hwin => ?_, fun hh hwin hbound hsym hout hfree hnext => ?_,
          fun hh hwin hbound hsym hout hbusy => ?_⟩
        · have hme' : ownerOf i h.id n = some (me m) := by rw [hme, measured_read (m := m) hu rfl me]
          exact exec_eq_keeping rfl hw (hrx.trans (slotFrameRx_owned hslot hrot hn rfl (hholds.trans hh) hme'))
        · exact exec_eq_keeping rfl hw (hrx.trans (slotFrameRx_outside hslot hrot hn rfl (hholds.trans hh) hwin))
        · obtain ⟨t, ht, hkept⟩ := slotFrameRx_starts (o := o) hu hslot rfl rfl rfl hh hwin hbound hout hfree hnext
          rw [hsym, ht] at hrx
          exact ⟨keeping s t, exec_eq_keeping rfl hw hrx, hkept⟩
        · obtain ⟨t, ht, hout', hseen, hstat⟩ := slotFrameRx_blocked (o := o) hu hslot rfl rfl rfl hh hwin hbound hout hbusy
          rw [hsym, ht] at hrx
          have hother : portStat u (rpIdx out) 32 = portStat s (rpIdx out) 32 := portStat_taken_other s e mp (by decide)
          have hcount : portStat t (rpIdx out) 32 = (portStat s (rpIdx out) 32).add 1 (now s) := hstat.trans (by rw [hother])
          exact ⟨keeping s t, exec_eq_keeping rfl hw hrx, hout', hseen, congrArg (·.v) hcount⟩
    · have hrx : ringFrameRx s e mp ts = _ :=
        (ringFrameRx_first hs hl hg hx).trans (ringFirst_opens ((hctx l).symm ▸ hc) hlast hcrc (quant ts))
      have hfr := (fwdFirst_out v e l o (quant ts)).1
      refine ⟨_, exec_eq_next rfl hw hrx (hfr.pending_eq.trans hv.pending_eq), ?_, hfr.vat_eq.trans (hv.read (·.vat))⟩
      rw [ctxAt_setCtx, ← hv.read now]
      rfl
    · exact exec_eq_next rfl hw ((ringFrameRx_more hs hl hg hx).trans (ringMore_closed ((hctx l).symm ▸ hc) mp))
        ((hv.trans (countPort_unseen _ _ _)).trans (countPort_unseen _ _ _)).pending_eq
    · have hrx : ringFrameRx s e mp ts = _ := (ringFrameRx_more hs hl hg hx).trans
        (ringMore_joins (s := v) (by rwa [hctx l]) hlast hcrc (by rwa [hctx l]) (by rwa [hctx l]))
      have hp := (hv.trans (countPort_unseen _ (rpIdx e) 53)).trans (perf_unseen _ (pPort (rpIdx e) 7))
      obtain ⟨hvat, hpend⟩ := fwdPiece_kept (perf (countPort v (rpIdx e) 53) (pPort (rpIdx e) 7)) e l (ctxAt v e l) o false
      refine ⟨_, exec_eq_next rfl hw hrx (hpend.trans hp.pending_eq), ?_, ?_, ?_, hvat.trans (hp.read (·.vat))⟩ <;>
        rw [ctxAt_setCtx, hctx l]
      exact hc
  · exact exec_eq_keeping rfl hw (reassemblyTimeout_due hx hd)
  · have hrx := reassemblyTimeout_due hx hd
    rw [dropCtx_unforwarded hf] at hrx
    exact exec_eq_next rfl hw hrx rfl
  · exact exec_eq_next rfl hw (reassemblyTimeout_none h) rfl

end Sys2Proof.Machine
end

section
/-! PROOFS. The timing pins: PPS_OUT, the capture inputs, the timers and the end of holdover: the statement O8. -/

namespace Sys2Proof.Machine

open Sys2Proof

/-! ### PPS_OUT (R120) -/

theorem ppsOutEdge_rises {s : State} (hl : s.clk.pllLocked = true) (hp : s.time.pps = false) (hr : ppsRuns s = true)
    (hph : ppsPhase s < ns16 16) : ppsOutEdge s = perf { s with time := { s.time with pps := true } } (pPkg 17) := by
  simp [ppsOutEdge, hl, hp, hr, hph]

theorem ppsOutEdge_falls {s : State} (hl : s.clk.pllLocked = true) (hp : s.time.pps = true)
    (hend : ppsRuns s = false ∨ s.time.cfg.ppsHigh * 1000 * 65536 ≤ ppsPhase s) :
    ppsOutEdge s = { s with time := { s.time with pps := false } } := by
  simp [ppsOutEdge, hl, hp, hend]

theorem ppsOutEdge_low {s : State} (hp : s.time.pps = false) (h : ppsRuns s = false ∨ ns16 16 ≤ ppsPhase s) : ppsOutEdge s = s := by
  have hrise : ¬(ppsRuns s = true ∧ ppsPhase s < ns16 16) := by
    rintro ⟨hr, hph⟩
    rcases h with h | h
    · rw [hr] at h; exact Bool.noConfusion h
    · exact absurd hph (Nat.not_lt.mpr h)
  simp [ppsOutEdge, hp, hrise]

/-! ### Captures (R122) -/

theorem evcapEdge_unselected {s : State} {i : Nat} {rising : Bool} (h : capSelected s i rising = false) (ts : Nat) :
    evcapEdge s i rising ts = s := by simp [evcapEdge, h]

section

variable {s : State} {i : Nat} {rising : Bool} (hl : s.clk.pllLocked = true) (hsel : capSelected s i rising = true)
include hl hsel

theorem evcapEdge_close {ts t : Nat} (hlast : (capAt s i).lastEdge = some t) (ht : ts < t + 16 * 65536) :
    evcapEdge s i rising ts = count s 0x0D i 4 := by simp [evcapEdge, hl, hsel, hlast, ht]

/-- An edge at least 16 ns after the last one, or the first, is one to record. -/
theorem evcapEdge_clear {ts : Nat} (hlast : ∀ t, (capAt s i).lastEdge = some t → t + 16 * 65536 ≤ ts) :
    evcapEdge s i rising ts = if capDepth i ≤ (capAt s i).fifo.length then count (setCap s i { capAt s i with lost := true }) 0x0D i 5
      else signal (perf (setCap s i { capAt s i with
        fifo := (capAt s i).fifo ++ [capRecord s (capTime (capAt s i) ts) (!rising) (capAt s i).lost], lost := false
        lastEdge := some ts }) (pPkg 18)) (1740 + i) := by
  cases hle : (capAt s i).lastEdge with
  | none => simp [evcapEdge, hl, hsel, hle]
  | some t => simp [evcapEdge, hl, hsel, hle, Nat.not_lt.mpr (hlast t hle)]

end

/-- What is signalled and counted reads as the capture inputs did. -/
theorem capAt_unseen {s t : State} (h : Unseen s t) (j : Nat) : capAt t j = capAt s j := h.read (capAt · j)

/-! ### Timers (R124) -/

theorem timerEdge_idle {s : State} {i : Nat}
    (h : (timerAt s i).running = false ∨ (nt16 s : Int) < (timerAt s i).nextEdge + (timerAt s i).delay * 16384) :
    timerEdge s i = s := by
  rcases h with h | h <;> simp [timerEdge, h]

section

variable {s : State} {i : Nat} (hl : s.clk.pllLocked = true) (hr : (timerAt s i).running = true)
  (hd : (timerAt s i).nextEdge + (timerAt s i).delay * 16384 ≤ (nt16 s : Int))
include hl hr hd

theorem timerEdge_rises (hlow : (timerAt s i).level = false) : timerEdge s i = setTimer s i { timerAt s i with
    level := true, curPeriod := (timerAt s i).period, curHigh := (timerAt s i).high
    nextEdge := (timerAt s i).nextEdge + (timerAt s i).high * 16384 } := by
  simp [timerEdge, hl, hr, hlow, Int.not_lt.mpr hd]

theorem timerEdge_falls (hhigh : (timerAt s i).level = true) : timerEdge s i = setTimer s i { timerAt s i with
    level := false, done := (timerAt s i).done + 1
    running := !(decide ((timerAt s i).count ≠ 0) && decide ((timerAt s i).count ≤ (timerAt s i).done + 1))
    nextEdge := (timerAt s i).nextEdge + ((timerAt s i).curPeriod - (timerAt s i).curHigh) * 16384 } := by
  simp [timerEdge, hl, hr, hhigh, Int.not_lt.mpr hd]

end

/-- Settles O8: each clause is what its row does at its instant; a capture is the one change that is signalled too. -/
theorem timingPins : Obligations.TimingPins := by
  unfold Obligations.TimingPins
  refine ⟨?_, ?_, ?_, ?_, ?_, ?_, ?_, ?_, ?_⟩
  · intro s hl hp hr hph
    exact exec_eq_keeping rfl rfl (ppsOutEdge_rises hl hp hr hph)
  · intro s hl hp hend
    exact exec_eq_next rfl rfl (ppsOutEdge_falls hl hp hend) rfl
  · intro s hp h
    exact exec_eq_next rfl rfl (ppsOutEdge_low hp h) rfl
  · intro s i rising ts hw hl hsel hlast x
    have hrow : evcapEdge s i rising ts = _ := evcapEdge_clear hl hsel hlast
    refine ⟨fun hroom => ?_, fun hfull => exec_eq_next rfl hw (hrow.trans (if_pos hfull)) rfl⟩
    have hseen := (perf_unseen (setCap s i { x with
      fifo := x.fifo ++ [capRecord s (capTime x ts) (!rising) x.lost], lost := false, lastEdge := some ts }) (pPkg 18)).trans
      (signal_unseen _ (1740 + i))
    refine ⟨_, exec_eq_next rfl hw (hrow.trans (if_neg (Nat.not_le.mpr hroom))) hseen.pending_eq, ?_, fun j hj => ?_⟩
    · rw [capAt_unseen hseen, capAt_setCap]
    · rw [capAt_unseen hseen, capAt_setCap_ne _ _ _ _ hj]
  · intro s i rising ts t hw hl hsel hlast ht
    exact exec_eq_next rfl hw (evcapEdge_close hl hsel hlast ht) rfl
  · intro s i rising ts hw hsel
    exact exec_eq_next rfl hw (evcapEdge_unselected hsel ts) rfl
  · intro s i hw hl hr hd x
    exact ⟨fun hlow => exec_eq_next rfl hw (timerEdge_rises hl hr hd hlow) rfl,
      fun hhigh => exec_eq_next rfl hw (timerEdge_falls hl hr hd hhigh) rfl⟩
  · intro s i hw h
    exact exec_eq_next rfl hw (timerEdge_idle h) rfl
  · intro s hh hend
    have hover : holdoverOver s = { s with time := { s.time with
        holdover := false, gptpStopped := true, pps := s.time.pps && s.time.cfg.ppsFreeRun } } :=
      if_pos (by simp [hh, due, show s.time.holdoverEnd ≤ s.clk.tick from hend])
    exact exec_eq_next rfl rfl hover rfl

end Sys2Proof.Machine
end

section
/-! PROOFS. A read of sampling values in the tick of a sample, and with it the refutation of O60. -/

namespace Sys2Proof.Machine

open Sys2Proof

theorem KnFrame.eg_eq {s t : State} (h : KnFrame s t) : t.eg = s.eg := by
  unfold KnFrame at h
  tauto

/-- The sampling values of a queue with those of one queue cleared (R214). -/
def samplesCleared (s : State) (k : Nat) : State :=
  { s with eg := { s.eg with qs := tblErase s.eg.qs k }
           ctr := { s.ctr with stat := (List.range 17).foldl (fun t ev => tblErase t (statIdx 0x0B k ev)) s.ctr.stat } }

/-- A read in the tick of a sample answers what stood before it, and the sample opens the new set (R214). -/
theorem qsampleReadRun_same_tick {s : State} {r : Request} (ho : objIn 0x02 160 r.obj = true) (habs : isAbsent s r.obj = false)
    (ht : s.eg.qsTick = some (now s)) {x : QSPrev} (hx : tblGet {} s.eg.qsOld (objIdx r.obj) = x) :
    qsampleReadRun s r = .ok (sampleWith (samplesCleared s (objIdx r.obj)) (objIdx r.obj) x.bytes x.frames x.soj)
      (sampleOctets (unsampled s (objIdx r.obj) x) (objIdx r.obj)) [] := by
  rw [qsampleReadRun, onObject_run ho habs]
  simp only [qsampleNow, if_pos ht, hx, samplesCleared]

/-- A sample enters the lowest depth of its queue, which starts at the largest number (R213). -/
theorem sampleWith_cleared_minBytes (s : State) (k bytes frames soj : Nat) :
    (tblGet {} (sampleWith (samplesCleared s k) k bytes frames soj).eg.qs k).minBytes = min 0xFFFFFFFF bytes := by
  have hset : (sampleWith (samplesCleared s k) k bytes frames soj).eg.qs = tblSet {} (tblErase s.eg.qs k) k _ := rfl
  rw [hset, tblGet_tblSet_same]
  simp only [samplesCleared, tblGet_erase_same]

/-- After a read in the tick of a sample the lowest depth of the queue is that of the sample (R213, R214). -/
theorem knQsampleRead_same_tick {s : State} {r : Request} (h : Accepted s 0x0308 qsampleReadExe r) (ho : objIn 0x02 160 r.obj = true)
    (habs : isAbsent s r.obj = false) (ht : s.eg.qsTick = some (now s)) :
    ∃ t, exec .knQsampleRead s = .next t ∧
      (tblGet {} t.eg.qs (objIdx r.obj)).minBytes = min 0xFFFFFFFF (tblGet {} s.eg.qsOld (objIdx r.obj)).bytes := by
  obtain ⟨hn, hcode, hb, hpre⟩ := h.checks (c := ⟨0x0308, 2, .o, false⟩) rfl
  generalize hc : (⟨0x0308, 2, .o, false⟩ : Cmd) = c at hpre
  have hbegun := begun_frame s c r
  have hrun := qsampleReadRun_same_tick (s := begun s c r) ho ((isAbsent_congr hbegun _).trans habs)
    (by rw [hbegun.eg_eq, now, hbegun.clk_eq]; exact ht) rfl
  obtain ⟨hanswer, -⟩ := runKn_ok (x := qsampleReadExe) hn hcode hb (hc ▸ rfl) hpre hrun (begun_waiting s c r)
  refine ⟨keeping s (runKn s 0x0308 qsampleReadExe), exec_eq_keeping rfl rfl rfl, ?_⟩
  calc (tblGet {} (runKn s 0x0308 qsampleReadExe).eg.qs (objIdx r.obj)).minBytes
      = min 0xFFFFFFFF (tblGet {} (begun s c r).eg.qsOld (objIdx r.obj)).bytes := by
        rw [hanswer.eg_eq, sampleWith_cleared_minBytes]
    _ = min 0xFFFFFFFF (tblGet {} s.eg.qsOld (objIdx r.obj)).bytes := by rw [hbegun.eg_eq]

/-- Nothing but sampling values and counters is changed. -/
def SampledOnly (s t : State) : Prop := ∃ qs old ctr, t = { s with eg := { s.eg with qs := qs, qsOld := old }, ctr := ctr }

theorem foldl_sampleQueue_only (i : Nat) (l : List Nat) (s : State) : SampledOnly s (l.foldl (sampleQueue i) s) := by
  induction l generalizing s with
  | nil => exact ⟨_, _, _, rfl⟩
  | cons q l ih =>
    obtain ⟨qs, old, ctr, h⟩ := ih (sampleQueue i s q)
    exact ⟨qs, old, ctr, h⟩

/-- A sampling instant marks its tick and keeps what the last queue held; beside sampling values and counters it sets the next instant
(R212 to R214). -/
theorem qsampleInstant_due {s : State} (hp : s.eg.qsPeriod ≠ 0) (hd : s.eg.qsNext ≤ ntNs s) :
    qsampleInstant s = { s with eg := (qsampleInstant s).eg, ctr := (qsampleInstant s).ctr } ∧
      (qsampleInstant s).eg.qsTick = some (now s) ∧
      (tblGet {} (qsampleInstant s).eg.qsOld 159).bytes = (queueSample s s.eg.qsNext (queueKey s 19 7)).1 := by
  have hlast : (List.range 160).foldl (sampleQueue s.eg.qsNext) s =
      sampleQueue s.eg.qsNext ((List.range 159).foldl (sampleQueue s.eg.qsNext) s) 159 := by
    rw [List.range_succ, List.foldl_append]
    rfl
  obtain ⟨qs, old, ctr, hu⟩ := foldl_sampleQueue_only s.eg.qsNext (List.range 159) s
  rw [qsampleInstant, if_pos ⟨hp, hd⟩, hlast, hu]
  exact ⟨rfl, rfl, congrArg QSPrev.bytes (tblGet_tblSet_same {} old 159 _)⟩

/-- The owner's request to read the sampling values of the last queue of the ring ports. -/
def sampleRequest : Request where
  master := 0
  image := leBytes 2 0x0308 ++ leBytes 1 3 ++ leBytes 1 0 ++ leBytes 2 7 ++ leBytes 2 8 ++ leBytes 4 0 ++ leBytes 4 0 ++
    leBytes 8 (objId 0x02 159)

/-- A sampling instant has come, every queue is empty, and the owner's request waits. -/
def sampleDue : State :=
  { regs := { out := [] }, eg := { qsPeriod := 1 }, kn := { owner := some 0, leaseMs := 1000, waiting := [sampleRequest] } }

/-- Every queue has been sampled in the present tick. -/
def sampledNow : State := keeping sampleDue (qsampleInstant sampleDue)

theorem sampledNow_reached : exec .qsampleInstant sampleDue = .next sampledNow := exec_eq_keeping rfl rfl rfl

theorem sampleDue_accepts : Accepted sampleDue 0x0308 qsampleReadExe sampleRequest ∧ objIn 0x02 160 sampleRequest.obj = true ∧
    objIdx sampleRequest.obj = 159 ∧ isAbsent sampleDue sampleRequest.obj = false := by decide +kernel

/-- The request is accepted in the tick of the sample, whose depth is 0. -/
theorem sampledNow_facts : Accepted sampledNow 0x0308 qsampleReadExe sampleRequest ∧ isAbsent sampledNow sampleRequest.obj = false ∧
    sampledNow.eg.qsTick = some (now sampledNow) ∧ (tblGet {} sampledNow.eg.qsOld 159).bytes = 0 := by
  obtain ⟨hacc, -, -, habs⟩ := sampleDue_accepts
  obtain ⟨honly, htick, hbytes⟩ := qsampleInstant_due (s := sampleDue) (by decide) (by decide +kernel)
  rw [sampledNow]
  generalize qsampleInstant sampleDue = u at honly htick hbytes
  rw [honly]
  exact ⟨hacc, habs, htick, hbytes⟩

/-- Refutes O60: its clause on KN_QSAMPLE_READ has the read erase a queue's values, but where the queue has been sampled in the tick of the
read that sample belongs to the new set (R214). Here the sampling instant has come, and the owner reads a queue in the same tick. -/
theorem not_knReadsOfPart : ¬ Obligations.KnReadsOfPart := by
  unfold Obligations.KnReadsOfPart
  rintro ⟨-, -, -, -, -, hsample, -, -, -⟩
  obtain ⟨hacc, habs, htick, hbytes⟩ := sampledNow_facts
  obtain ⟨-, ho, hidx, -⟩ := sampleDue_accepts
  obtain ⟨a, t, -, ht, hframe, -⟩ := hsample sampledNow sampleRequest hacc ho habs
  obtain ⟨u, hu, hlow⟩ := knQsampleRead_same_tick hacc ho habs htick
  have herased : (tblGet {} t.eg.qs (objIdx sampleRequest.obj)).minBytes = 0xFFFFFFFF := by
    rw [hframe.eg_eq]
    exact congrArg QSample.minBytes (tblGet_erase_same {} a.eg.qs _)
  rw [Host.Outcome.next.inj (ht.symm.trans hu), hlow, hidx, hbytes] at herased
  exact absurd herased (by decide)

end Sys2Proof.Machine
end

section
/-! PROOFS. The messages of network time that the edge and uplink ports send and receive: the statement O9. -/

namespace Sys2Proof.Machine

open Sys2Proof

/-! ### Messages sent (R117 to R119) -/

theorem portSend_unseen (s : State) (p : Nat) (body : Octets) : Unseen s (portSend s p body) :=
  ((((emit_unseen s _).trans (countPort_unseen _ p 13)).trans (countN_unseen _ 0x01 p 14 _)).trans (perf_unseen _ _)).trans
    (perfN_unseen _ _ _)

theorem gptpFrame_unseen (s : State) (p : Nat) (msg : Octets) : Unseen s (gptpFrame s p msg) :=
  (portSend_unseen s p _).trans (perf_unseen _ _)

/-- A port's exchange after a further Pdelay_Req: after nine without an answer the peer is not asCapable (R117; log entry 15). -/
def requested (x : GptpPort) (ts : Nat) : GptpPort :=
  let lost := if x.waiting then x.lost + 1 else x.lost
  { x with seqReq := (x.seqReq + 1) % 65536, waiting := true, t1 := quant ts, lost := lost
           asCapable := x.asCapable && decide (lost < 9), prev := if lost < 9 then x.prev else none }

section

variable {s : State} {p : Nat}

theorem gptpSend_pdelayReq (hl : portLive s p = true) (ts : Nat) :
    Unseen (setGptp s p (requested (gptpAt s p) ts)) (gptpSend s p .pdelayReq ts) := by
  simp only [gptpSend, hl, Bool.not_true, Bool.false_eq_true, if_false]
  exact gptpFrame_unseen _ p _

theorem gptpSend_sync (hl : portLive s p = true) (hc : (gptpAt s p).asCapable = true) (hk : (gptpClock s).isSome = true) (ts : Nat) :
    gptpSend s p .sync ts = sendSync s p (quant ts) := by
  obtain ⟨c, hk⟩ := Option.isSome_iff_exists.mp hk
  simp [gptpSend, hl, hc, hk]

theorem gptpSend_announce {c : Nat × Nat × Nat} (hl : portLive s p = true) (hc : (gptpAt s p).asCapable = true)
    (hk : gptpClock s = some c) (ts : Nat) : gptpSend s p .announce ts = sendGptpAnnounce s p c := by
  simp [gptpSend, hl, hc, hk]

/-- Without a clock to send, or a peer to send it to, no time leaves the port. -/
theorem gptpSend_silent {m : GptpMsg} (hm : m = .sync ∨ m = .announce) (h : gptpClock s = none ∨ (gptpAt s p).asCapable = false)
    (ts : Nat) : gptpSend s p m ts = s := by
  rcases h with hk | hc
  · rcases hm with rfl | rfl <;> simp [gptpSend, hk]
  · rcases hm with rfl | rfl <;> cases hk : gptpClock s <;> simp [gptpSend, hc, hk]

end

/-! ### Messages received (R117) -/

section

variable {s : State} {p : Nat} {o : Octets} (hl : portLive s p = true) (hf : fcsGood o = true) (he : etypeAt o 12 = 0x88F7)
include hl hf he

theorem gptpRx_foreign (hd : beAt ((bodyOf o).drop 14) 4 1 ≠ 0) (ts : Nat) :
    gptpRx s p o ts = count (perf s (pPort p 14)) 0x0D p 2 := by
  simp [gptpRx, hl, hf, he, hd]

variable (hd : beAt ((bodyOf o).drop 14) 4 1 = 0)
include hd

theorem gptpRx_time (ht : beAt ((bodyOf o).drop 14) 0 1 % 16 = 0 ∨ beAt ((bodyOf o).drop 14) 0 1 % 16 = 0xB) (ts : Nat) :
    gptpRx s p o ts = count (perf s (pPort p 14)) 0x0D p 3 := by
  rcases ht with ht | ht <;> simp [gptpRx, hl, hf, he, hd, ht]

variable (hw : (gptpAt s p).waiting = true) (hq : beAt ((bodyOf o).drop 14) 30 2 = (gptpAt s p).seqReq)
  (hid : slice ((bodyOf o).drop 14) 44 8 = clockId s)
include hw hq hid

theorem gptpRx_response (ht : beAt ((bodyOf o).drop 14) 0 1 % 16 = 3) (ts : Nat) :
    gptpRx s p o ts = setGptp (perf s (pPort p 14)) p { gptpAt s p with
      t2 := ptpAt ((bodyOf o).drop 14) 34 (beAt ((bodyOf o).drop 14) 8 8), t4 := quant ts } := by
  have hat : gptpAt (perf s (pPort p 14)) p = gptpAt s p := (perf_unseen s _).read (gptpAt · p)
  have hclock : clockId (perf s (pPort p 14)) = clockId s := (perf_unseen s _).read clockId
  simp [gptpRx, hl, hf, he, hd, ht, hat, hclock, hw, hq, hid]

theorem gptpRx_followUp (ht : beAt ((bodyOf o).drop 14) 0 1 % 16 = 0xA) (h4 : (gptpAt s p).t4 ≠ 0) (ts : Nat) :
    gptpRx s p o ts = setGptp (perf s (pPort p 14)) p (exchanged s p (gptpAt s p)
      (ptpAt ((bodyOf o).drop 14) 34 (beAt ((bodyOf o).drop 14) 8 8)) (slice ((bodyOf o).drop 14) 20 8)) := by
  have hat : gptpAt (perf s (pPort p 14)) p = gptpAt s p := (perf_unseen s _).read (gptpAt · p)
  have hclock : clockId (perf s (pPort p 14)) = clockId s := (perf_unseen s _).read clockId
  have hex : exchanged (perf s (pPort p 14)) p = exchanged s p := (perf_unseen s _).read (exchanged · p)
  simp [gptpRx, hl, hf, he, hd, ht, hat, hclock, hex, hw, hq, hid, h4]

end

/-- Without an earlier exchange the ratio of rates is 1 (R117; log entry 15). -/
theorem linkDelay_first {x : GptpPort} (h : x.prev = none) (t3 : Nat) :
    linkDelay x t3 = ((((x.t4 : Int) - x.t1) - ((t3 : Int) - x.t2)) / 2).toNat := by simp [linkDelay, h]

/-- Settles O9: each clause is what the port does with one kind of message. -/
theorem gptpMessages : Obligations.GptpMessages := by
  unfold Obligations.GptpMessages
  refine ⟨?_, ?_, ?_, ?_, ?_, ?_⟩
  · intro s p ts hw hl x lost
    have hsent := gptpSend_pdelayReq hl ts
    refine ⟨_, exec_eq_next rfl hw rfl hsent.pending_eq, ?_, fun q hq => ?_, (hsent.read (·.time.nt)).trans rfl⟩
    · exact (hsent.read (gptpAt · p)).trans (gptpAt_setGptp s p _)
    · exact (hsent.read (gptpAt · q)).trans (gptpAt_setGptp_ne s p q _ hq)
  · intro s p ts hw hl hc hk
    exact exec_eq_keeping rfl hw (gptpSend_sync hl hc hk ts)
  · intro s p ts c hw hl hc hk
    exact exec_eq_keeping rfl hw (gptpSend_announce hl hc hk ts)
  · intro s p ts m hm hw h
    exact exec_eq_next rfl hw (gptpSend_silent (by simpa using hm) h ts) rfl
  · intro s p o ts hw hl hf he m u
    refine ⟨fun hd => ?_, fun hd ht => ?_, fun hd ht hwait hq h4 hid => ?_, fun hd ht hwait hq hid => ?_⟩
    · exact exec_eq_keeping rfl hw (gptpRx_foreign hl hf he hd ts)
    · exact exec_eq_keeping rfl hw (gptpRx_time hl hf he hd ht ts)
    · exact exec_eq_keeping rfl hw (gptpRx_followUp hl hf he hd hwait hq hid ht h4 ts)
    · exact exec_eq_keeping rfl hw (gptpRx_response hl hf he hd hwait hq hid ht ts)
  · intro x t3 h
    exact linkDelay_first h t3

end Sys2Proof.Machine
end

section
/-! PROOFS. A DELAY_REQ of a node whose number the header cannot hold, and with it the refutation of O13. -/

namespace Sys2Proof.Machine

open Sys2Proof

/-- A node in falsework whose number does not fit the six bits of ORIGIN: an exchange of its EAST port is due, and the egress is free. -/
def wideNode : State :=
  { regs := { out := [] }, boot := { cfg := { node := 1024 } }
    ring := { bypassOn := false, east := { link := true, state := .inRing, burstNo := some 0 } } }

/-- The DELAY_REQ that falls due. -/
def wideRequest : Octets :=
  ctlFrame wideNode 0x10 (padTo 32 (beBytes 2 1 ++ beBytes 1 (rpBit .east) ++ beBytes 1 0)) false (rotOfPort wideNode .east)

/-- The number runs over into SEG, so that the frame does not read as ring control, and a node that is not synchronised does not start
it (R57, R106). -/
theorem wideRequest_waits : (parseHdr wideRequest).seg = 0 ∧
    (rport (calBurstStart wideNode .east 0) .east).outT1 = none := by decide +kernel

theorem wideNode_due : ctlRuns wideNode = true ∧ (rport wideNode .east).state ≠ .down ∧ (rport wideNode .east).burstNo = some 0 ∧
    (rport wideNode .east).outT1 = none ∧ (rtx wideNode .east).ctl = [] ∧ exchangeMayGo wideNode .east = true ∧
    (rtx wideNode .east).curH = none ∧ (rtx wideNode .east).exNext = none ∧ egressFree wideNode .east = true ∧
    ctlMayStart wideNode .east wideRequest = true := by decide +kernel

/-- Refutes O13: its first clause has the DELAY_REQ of a burst start on a free egress whatever the node's number is, but a number of
1024, which no configuration gives (R478), runs over into SEG in the frame's header, and the frame waits. The clause bounds no node number. -/
theorem not_calibrationAndSpanDelay : ¬ Obligations.CalibrationAndSpanDelay := by
  unfold Obligations.CalibrationAndSpanDelay
  rintro ⟨hburst, -⟩
  obtain ⟨hruns, hup, hno, hout, hctl, hgo, hcur, hnext, hfree, hmay⟩ := wideNode_due
  obtain ⟨-, hstarts, -⟩ := hburst wideNode .east 0 0 rfl hruns hup hno hout hctl hgo
  obtain ⟨t, ht, hdeparted, -⟩ := hstarts hcur hnext hfree hmay
  have hexec : exec (.calBurstStart .east 0) wideNode = .next (keeping wideNode (calBurstStart wideNode .east 0)) :=
    exec_eq_keeping rfl rfl rfl
  have hwaits : (rport t .east).outT1 = none := by
    rw [Host.Outcome.next.inj (ht.symm.trans hexec)]
    exact wideRequest_waits.2
  rw [hwaits] at hdeparted
  exact absurd hdeparted (by simp)

end Sys2Proof.Machine
end

section
/-! PROOFS. Delay reports, ring events and abutments, and the end of CALIBRATING: the statement O14. -/

namespace Sys2Proof.Machine

open Sys2Proof

/-! ### What goes out on the ring, and what is read beside it -/

/-- What the ring's tables, events and times read of a state: nothing of its egresses, counters, vectors and outputs. -/
def mapBase (s : State) : State :=
  { clk := s.clk, time := s.time, cyc := s.cyc, boot := s.boot
    ring := { s.ring with eastTx := {}, westTx := {}, east := { s.ring.east with outT1 := none }, west := { s.ring.west with outT1 := none } } }

/-- What goes out changes nothing that the ring's tables, events and times read. -/
theorem OutFrame.read {α : Type} {s t : State} (h : OutFrame s t) (r : State → α)
    (hr : ∀ a, r (mapBase a) = r a := by exact fun _ => rfl) : r t = r s := by
  obtain ⟨⟨-, hclk, -, htime, hcyc, hring, -, -, -, -, -, -, -, -, -, -, -, hboot, -⟩, -⟩ := h
  have hbase : mapBase t = mapBase s := by
    unfold mapBase
    rw [hclk, htime, hcyc, hboot, ← hring]
  rw [← hr t, hbase, hr s]

theorem ringRxCount_out (s : State) (e : RPort) (o : Octets) : OutFrame s (ringRxCount s e o) :=
  (((countPort_out s _ _).trans (countN_out _ _ _ _ _)).trans (perf_out _ _)).trans (perfN_out _ _ _)

theorem countRing_out (s : State) (ev : Nat) : OutFrame s (countRing s ev) := countN_out s 7 0 ev 1

theorem sendBoth_out (s : State) (typ : Nat) (p : Octets) : OutFrame s (sendBoth s typ p) :=
  (sendOut_out s .east _).trans (sendOut_out _ .west _)

theorem outReport_out (s : State) (e : RPort) (f : RFrame) (fwd : Bool) : OutFrame s (outReport s e f fwd) := by
  have hgo : OutFrame s (if fwd then toTransit s e .high (hopFrame f) else sendCtl s e f.data (nt16 s)) := by
    split
    · exact toTransit_out s e _ _
    · exact sendCtl_out s e _ _
  unfold outReport
  dsimp only
  split
  · exact hgo
  · split
    · exact hgo.trans (loopOut_out _ e _ _)
    · exact hgo
  · exact loopOut_out s e _ _

theorem forwardCtl_out (s : State) (e : RPort) (o : Octets) (report : Bool) : OutFrame s (forwardCtl s e o true report) := by
  unfold forwardCtl
  split
  · exact outReport_out s _ _ _
  · exact forwardOut_out s _ _ _

/-- A frame whose contents act here has gone on, and no more than that. -/
theorem passAll_out {s : State} {e : RPort} {o : Octets} {h : Hdr} {report : Bool}
    (hr : (passAll s e o h true false report).1 = true) : OutFrame s (passAll s e o h true false report).2 := by
  revert hr
  simp only [passAll, Bool.false_eq_true, if_false]
  split
  · exact fun h => absurd h Bool.false_ne_true
  · split
    · exact fun h => absurd h Bool.false_ne_true
    · exact fun _ => forwardCtl_out s e o report

/-- A good ring-control frame for every node is counted and goes on, and its contents act where R81 gives the node a copy. -/
theorem ctlForAll_good {s : State} {e : RPort} {o : Octets} {typ ts : Nat} (h : CtlGood s e o typ ts) (report : Bool)
    (act : State → Octets → State) {r : Bool × State} (hr : passAll (ringRxCount s e o) e o (parseHdr o) true false report = r) :
    ctlForAll (throughBypass s e o) e o typ ts false report act = if r.1 then act r.2 (ctlPayload o) else r.2 := by
  obtain ⟨hruns, hup, hcheck, hseg, hid, hfcs⟩ := h
  obtain ⟨hin, hbyp⟩ : inService s .ring = true ∧ s.ring.bypassOn = false := by simpa [ctlRuns] using hruns
  have haccept : ctlAccept s e o typ ts false = (some (parseHdr o, true), ringRxCount s e o) := by
    simp [ctlAccept, hcheck, hseg, hid, hfcs]
  simp [ctlForAll, throughBypass_off hbyp, hin, hbyp, hup, haccept, hr]

/-! ### What a fault source's event leaves of the ring (R420) -/

theorem latchRec_ring (s : State) (f : Nat) (r : RecInfo) : (latchRec s f r).ring = s.ring := by
  unfold latchRec
  dsimp only
  split
  · rfl
  · split <;> rfl

theorem signal_ring (s : State) (n : Nat) : (signal s n).ring = s.ring := (signal_unseen s n).read (·.ring)

theorem requestTest_ring (s : State) (x : SelfTest) : (requestTest s x).ring = s.ring := by
  unfold requestTest
  dsimp only
  split <;> rfl

theorem classify_ring (s : State) (f : Nat) : (classify s f).2.2.2.ring = s.ring := by
  unfold classify
  dsimp only
  split_ifs <;> rfl

theorem startReact_ring (s : State) (f code : Nat) (test : Bool) : (startReact (fun t _ _ => t) s f code test).2.ring = s.ring := by
  unfold startReact
  split
  · rfl
  · exact perf_ring _ _

/-- An event of a system source resets nothing of the ring. -/
theorem feedSystem_ring (s : State) (f loc detail : Nat) : (feedSystem s f loc detail).ring = s.ring := by
  have hreact : ∀ (c : Nat × Nat × Nat × State) (t : Bool), c.2.2.2.ring = s.ring →
      (if 2 < c.2.1 then startReact (fun t _ _ => t) c.2.2.2 f c.2.1 t else (0, c.2.2.2)).2.ring = s.ring := by
    intro c t hc
    split
    · exact (startReact_ring _ _ _ _).trans hc
    · exact hc
  unfold feedSystem feedWith
  simp only [if_true, Bool.false_eq_true, if_false]
  split
  · rfl
  · split
    · rfl
    · split
      · exact latchRec_ring _ _ _
      · split
        · exact latchRec_ring _ _ _
        · have hc := classify_ring (count s 0x0C f 0) f
          generalize classify (count s 0x0C f 0) f = c at hc
          split <;> split <;>
            simp only [requestTest_ring, faultSignal, signal_ring, latchRec_ring, hreact c _ hc]

/-! ### Reports applied (R95, R96) -/

/-- The table of reports, what waits for its cycle, and the node's own report stay. -/
structure ReportsKept (s t : State) : Prop where
  reports_eq : t.ring.reports = s.ring.reports
  pendReps_eq : t.ring.pendReps = s.ring.pendReps
  calSeq_eq : t.ring.calSeq = s.ring.calSeq
  due_eq : t.ring.reportDue = s.ring.reportDue

namespace ReportsKept

theorem refl (s : State) : ReportsKept s s := ⟨rfl, rfl, rfl, rfl⟩

theorem of_ring {s t : State} (h : t.ring = s.ring) : ReportsKept s t := by constructor <;> rw [h]

theorem trans {s t u : State} (h : ReportsKept s t) (g : ReportsKept t u) : ReportsKept s u :=
  ⟨g.reports_eq.trans h.reports_eq, g.pendReps_eq.trans h.pendReps_eq, g.calSeq_eq.trans h.calSeq_eq, g.due_eq.trans h.due_eq⟩

theorem ite {s t u : State} {c : Prop} [Decidable c] (h : ReportsKept s t) (g : ReportsKept s u) :
    ReportsKept s (if c then t else u) := by
  split
  · exact h
  · exact g

end ReportsKept

theorem ReportsKept.feedSystem {s t : State} (h : ReportsKept s t) (f loc detail : Nat) : ReportsKept s (feedSystem t f loc detail) :=
  h.trans (.of_ring (feedSystem_ring t f loc detail))

theorem ReportsKept.lapCheck {s t : State} (h : ReportsKept s t) : ReportsKept s (lapCheck t) := by
  unfold Machine.lapCheck
  split
  · exact h
  · exact .ite ((h.trans (.of_ring (signal_ring t _))).feedSystem _ _ _) h

theorem ReportsKept.countRing {s t : State} (h : ReportsKept s t) (ev : Nat) : ReportsKept s (countRing t ev) := h.trans (.of_ring rfl)

theorem ReportsKept.learnCw {s t : State} (h : ReportsKept s t) : ReportsKept s (learnCw t) := by
  unfold Machine.learnCw
  split
  · exact h
  · have hset : ReportsKept s { t with ring := { t.ring with
        cwPort := ‹RPort›, cwLearnt := true, cwChange := if ‹RPort› = t.ring.cwPort then t.ring.cwChange else now t } } :=
      h.trans ⟨rfl, rfl, rfl, rfl⟩
    exact .ite ((hset.countRing 8).feedSystem _ _ _) hset

theorem ReportsKept.setRport {s t : State} (h : ReportsKept s t) (e : RPort) (x : RingPort) : ReportsKept s (setRport t e x) :=
  h.trans (by cases e <;> exact ⟨rfl, rfl, rfl, rfl⟩)

theorem ReportsKept.startListen {s t : State} (h : ReportsKept s t) : ReportsKept s (startListen t) := by
  unfold Machine.startListen
  dsimp only
  split <;> exact h.trans ⟨rfl, rfl, rfl, rfl⟩

/-- CALIBRATING is left for LISTEN without further effects. -/
theorem enterListen_calibrating {s : State} (h : s.ring.state = .calibrating) :
    enterListen s = startListen { s with ring := { s.ring with state := .listen } } := by simp [enterListen, goState, h]

theorem calCheck_kept (s : State) : ReportsKept s (calCheck s) := by
  unfold calCheck
  dsimp only
  split
  · have hstate : s.ring.state = .calibrating := by simp_all
    have hlisten : ReportsKept s { s with ring := { s.ring with state := .listen } } := ⟨rfl, rfl, rfl, rfl⟩
    rw [enterListen_calibrating hstate]
    exact hlisten.startListen
  · exact .refl s

theorem find?_tblInsert_same {α : Type} (k : Nat) (v : α) (t : Tbl α) (h : ∀ e ∈ t, e.1 ≠ k) :
    (tblInsert k v t).find? (fun e => e.1 == k) = some (k, v) := by
  induction t with
  | nil => simp [tblInsert]
  | cons e t ih =>
    obtain ⟨k', v'⟩ := e
    have hne : k' ≠ k := h (k', v') (by simp)
    have hrest := ih fun e he => h e (by simp [he])
    unfold tblInsert
    split
    · simp
    · simpa [hne] using hrest

/-- An applied report stands in the table under its number, and what waits stays. -/
theorem applyReport_done (s : State) (n : Nat) (r : Report) :
    (reportAt (applyReport s n r) n).map (·.calSeq) = some r.calSeq ∧
      (applyReport s n r).ring.pendReps = s.ring.pendReps ∧ (applyReport s n r).ring.calSeq = s.ring.calSeq ∧
      (applyReport s n r).ring.reportDue = s.ring.reportDue := by
  unfold applyReport
  extract_lets old x ring s1 own
  have hown : ∀ t e v, ReportsKept t (own t e v) := fun t e v => .ite ((ReportsKept.refl t).setRport e _) (.refl t)
  have hkept : ReportsKept s1 (lapCheck (learnCw (own (own s1 .east r.eastValid) .west r.westValid))) :=
    ((hown _ _ _).trans (hown _ _ _)).learnCw.lapCheck
  refine ⟨?_, hkept.pendReps_eq, hkept.calSeq_eq, hkept.due_eq⟩
  have hnew : ∀ e ∈ tblErase s.ring.reports n, e.1 ≠ n := fun e he => by simpa using List.of_mem_filter he
  rw [reportAt, hkept.reports_eq]
  exact congrArg (fun o => (o.map (·.2)).map (·.calSeq)) (find?_tblInsert_same n x _ hnew)

theorem reportAt_calCheck (s : State) (n : Nat) : reportAt (calCheck s) n = reportAt s n := by
  rw [reportAt, (calCheck_kept s).reports_eq, reportAt]

/-! ### The node's own report (R95) -/

section

variable {s : State}

theorem delayReportSend_idle (h : s.ring.reportDue = none) : delayReportSend s = s := by simp [delayReportSend, h]

/-- A report that is due waits while the logic rests, its cycle is to come, or the node's view of the open segment is over. -/
theorem delayReportSend_waits {c : Nat} (hdue : s.ring.reportDue = some c)
    (h : ctlRuns s = false ∨ (s.cyc.c0 ≠ none ∧ s.cyc.n < c) ∨
      (synced s = true ∧ (viewAhead s .east = false ∨ viewAhead s .west = false))) : delayReportSend s = s := by
  rcases h with h | ⟨hc0, hn⟩ | ⟨hsync, h | h⟩
  · simp [delayReportSend, hdue, h]
  · simp [delayReportSend, hdue, Option.isSome_iff_ne_none.mpr hc0, hn]
  · simp [delayReportSend, hdue, hsync, h]
  · simp [delayReportSend, hdue, hsync, h]

/-- The state in which the node's report has been formed. -/
def reportFormed (s : State) : State :=
  { s with ring := { s.ring with reportDue := none, calSeq := (s.ring.calSeq + 1) % 65536 } }

/-- A report that may go is sent on both ports, and waits for its odd cycle or, without an origin, is applied. -/
theorem delayReportSend_goes {c : Nat} (hdue : s.ring.reportDue = some c) (hruns : ctlRuns s = true)
    (hn : s.cyc.c0 ≠ none → c ≤ s.cyc.n) (hview : synced s = true → viewAhead s .east = true ∧ viewAhead s .west = true) :
    ∃ b, OutFrame (reportFormed s) b ∧ delayReportSend s =
      if s.cyc.c0.isSome then pendReport b (me b) (oddFrom (s.cyc.n + 4)) (ownReport (reportFormed s))
      else calCheck (applyReport b (me b) (ownReport (reportFormed s))) := by
  have hcycle : (s.cyc.c0.isSome && decide (s.cyc.n < c)) = false := by
    cases hc : s.cyc.c0 with
    | none => rfl
    | some x => simpa using hn (by simp [hc])
  have hahead : (synced s && !(viewAhead s .east && viewAhead s .west)) = false := by
    cases hs : synced s with
    | false => rfl
    | true => simp [hview hs]
  simp only [delayReportSend, hdue, hruns, hcycle, hahead, Bool.not_true, Bool.or_self, Bool.false_eq_true, if_false]
  cases hc : s.cyc.c0.isSome <;>
    exact ⟨_, (outReport_out (reportFormed s) .east _ false).trans (outReport_out _ .west _ false), rfl⟩

end

/-! ### A report received (R95) -/

/-- The cycle at which what names a cycle acts: that cycle, or the next odd one where it names none or comes late. -/
def dueCycle (s : State) (v : Nat) : Nat :=
  if v = 0 ∨ near32 s.cyc.n v ≤ s.cyc.n then oddFrom (s.cyc.n + 1) else near32 s.cyc.n v

/-- The node's report is remembered by its number. -/
def reportSeen (s : State) (node seq : Nat) : State :=
  { s with ring := { s.ring with repSeen := (node, seq) :: s.ring.repSeen.filter (fun x => x.1 != node) } }

section

variable {s : State} {p : Octets}

theorem takeReport_repeated (h : s.ring.repSeen.contains (beAt p 0 1 % 64, beAt p 2 2) = true) : takeReport s p = s := by
  rw [takeReport]
  exact if_pos h

variable (h : s.ring.repSeen.contains (beAt p 0 1 % 64, beAt p 2 2) = false)
include h

theorem takeReport_without_origin (hc : s.cyc.c0 = none) :
    takeReport s p = calCheck (applyReport (reportSeen s (beAt p 0 1 % 64) (beAt p 2 2)) (beAt p 0 1 % 64) (parseReport p)) := by
  rw [takeReport]
  refine (if_neg ?_).trans (if_pos ?_)
  · exact fun g => absurd (h.symm.trans g) Bool.false_ne_true
  · simp [hc]

theorem takeReport_held (hc : s.cyc.c0 ≠ none) :
    ∃ b, OutFrame (reportSeen s (beAt p 0 1 % 64) (beAt p 2 2)) b ∧
      takeReport s p = pendReport b (beAt p 0 1 % 64) (dueCycle s (beAt p 4 4)) (parseReport p) := by
  have hnone : ¬ s.cyc.c0.isNone = true := by simpa using hc
  have hcases : takeReport s p =
      if beAt p 4 4 = 0 then pendReport (reportSeen s (beAt p 0 1 % 64) (beAt p 2 2)) (beAt p 0 1 % 64) (oddFrom (s.cyc.n + 1)) (parseReport p)
      else if near32 s.cyc.n (beAt p 4 4) ≤ s.cyc.n then
        pendReport (countRing (reportSeen s (beAt p 0 1 % 64) (beAt p 2 2)) 6) (beAt p 0 1 % 64) (oddFrom (s.cyc.n + 1)) (parseReport p)
      else pendReport (reportSeen s (beAt p 0 1 % 64) (beAt p 2 2)) (beAt p 0 1 % 64) (near32 s.cyc.n (beAt p 4 4)) (parseReport p) := by
    rw [takeReport]
    exact (if_neg fun g => absurd (h.symm.trans g) Bool.false_ne_true).trans (if_neg hnone)
  rw [hcases, dueCycle]
  split
  · next h0 => exact ⟨_, .refl _, by rw [if_pos (.inl h0)]⟩
  · next h0 =>
    split
    · next hlate => exact ⟨_, countRing_out _ 6, by rw [if_pos (.inr hlate)]⟩
    · next hlate => exact ⟨_, .refl _, by rw [if_neg fun g => g.elim h0 hlate]⟩

end

/-! ### Events sent (R147) -/

section

variable {s : State}

theorem ringEventSend_none (h : s.ring.evOut = []) : ringEventSend s = s := by
  have hsame : { s with ring := { s.ring with evOut := [] } } = s := by rw [← h]
  simp [ringEventSend, h, hsame]

theorem ringEventSend_waits (h : ctlRuns s = false ∨ (synced s = true ∧ (viewAhead s .east = false ∨ viewAhead s .west = false))) :
    ringEventSend s = s := by
  rcases h with h | ⟨hsync, h | h⟩
  · simp [ringEventSend, h]
  · simp [ringEventSend, hsync, h]
  · simp [ringEventSend, hsync, h]

theorem ringEventSend_one {x : Nat × Nat × Nat × Nat} (hruns : ctlRuns s = true)
    (hview : synced s = true → viewAhead s .east = true ∧ viewAhead s .west = true) (hx : s.ring.evOut = [x]) :
    ringEventSend s = sendEvent { s with ring := { s.ring with evOut := [] } } x := by
  have hahead : (!synced s || (viewAhead s .east && viewAhead s .west)) = true := by
    cases hs : synced s with
    | false => rfl
    | true => simp [hview hs]
  simp [ringEventSend, hruns, hahead, hx]

/-- The state in which an event has its number. -/
def eventNumbered (s : State) : State := { s with ring := { s.ring with evSeq := (s.ring.evSeq + 1) % 65536 } }

/-- An end of an abutment goes out, and the port is kept as one cleared in this cycle. -/
theorem sendEvent_clear (e sub c : Nat) : ∃ b, OutFrame (eventNumbered s) b ∧
    sendEvent s (2, e, sub, c) = { b with ring := { b.ring with unfolded := unfoldedAlso b [(me b, e)] } } :=
  ⟨_, sendBoth_out (eventNumbered s) 0x22 _, rfl⟩

theorem pendBypass_held (hc : s.cyc.c0 ≠ none) (cyc ev sub : Nat) : pendBypass s cyc ev sub =
    { s with ring := { s.ring with pendEvs := s.ring.pendEvs ++ [{ cycle := cyc, ev := ev, subject := sub }] } } := by
  rw [pendBypass, if_pos (Option.isSome_iff_ne_none.mpr hc)]

theorem sendEvent_bypass {ev : Nat} (hc : s.cyc.c0 ≠ none) (hev : ev = 3 ∨ ev = 4) (e sub c : Nat) :
    ∃ b, OutFrame (eventNumbered s) b ∧ sendEvent s (ev, e, sub, c) = pendBypass b (oddFrom (s.cyc.n + 2)) ev sub := by
  have hheld : s.cyc.c0.isSome = true := Option.isSome_iff_ne_none.mpr hc
  rcases hev with rfl | rfl <;>
    exact ⟨_, sendBoth_out (eventNumbered s) 0x22 _, by simp [sendEvent, hheld]; rfl⟩

end

/-! ### Events received (R147) -/

theorem facing_mapBase (s : State) (r : Report) (n : Nat) (out : RPort) : facing (mapBase s) r n out = facing s r n out := by
  cases out <;> rfl

theorem spanEnds_mapBase (s : State) (node port : Nat) : spanEnds (mapBase s) node port = spanEnds s node port := by
  unfold spanEnds
  simp only [facing_mapBase]
  rfl

section

variable {s : State}

theorem applyAbut_on (node port : Nat) : (applyAbut s 1 node port).ring.folds =
    if s.ring.folds.contains (node, port) then s.ring.folds else (node, port) :: s.ring.folds := by
  rw [applyAbut, if_pos rfl]
  split
  · rfl
  · rw [signal_ring]

/-- An end of an abutment takes both ends of the span out of the view, and keeps those that stood in it as cleared in this cycle. -/
theorem applyAbut_off (node port : Nat) :
    (applyAbut s 2 node port).ring.folds = s.ring.folds.filter (fun x => !(spanEnds s node port).contains x) ∧
      ∀ x ∈ s.ring.folds, x ∈ spanEnds s node port → (x.1, x.2, s.cyc.n) ∈ (applyAbut s 2 node port).ring.unfolded := by
  rw [applyAbut, if_neg (by decide)]
  dsimp only
  split
  · rw [signal_ring]
    refine ⟨rfl, fun x hx hend => List.mem_append_right _ (List.mem_map.mpr ⟨x, ?_, rfl⟩)⟩
    exact List.mem_filter.mpr ⟨hx, by simpa using hend⟩
  · next hnone =>
    have hout : ∀ x ∈ s.ring.folds, x ∉ spanEnds s node port := by simpa using hnone
    refine ⟨(List.filter_eq_self.mpr fun x hx => ?_).symm, fun x hx hend => absurd hend (hout x hx)⟩
    simpa using hout x hx

variable {p : Octets}

theorem takeEvent_abut (hev : beAt p 1 1 = 1 ∨ beAt p 1 1 = 2) :
    takeEvent s p = applyAbut s (beAt p 1 1) (beAt p 0 1 % 64) (beAt p 2 1 % 2) := by
  rw [takeEvent]
  exact if_pos hev

variable (hev : beAt p 1 1 = 3 ∨ beAt p 1 1 = 4)
include hev

theorem takeEvent_repeated (hrec : recentEvent s (beAt p 1 1) (beAt p 3 1) = true) : takeEvent s p = s := by
  have habut : ¬ (beAt p 1 1 = 1 ∨ beAt p 1 1 = 2) := by omega
  cases hc : s.cyc.c0 with
  | none => simp [takeEvent, habut, hev, hc, pendBypass, hrec]
  | some c0 => simp [takeEvent, habut, hev, hc, hrec]

/-- A new bypass event waits for the cycle it names, or, late, for the next odd one. -/
theorem takeEvent_held (hc : s.cyc.c0 ≠ none) (hrec : recentEvent s (beAt p 1 1) (beAt p 3 1) = false) :
    ∃ b, OutFrame s b ∧ takeEvent s p = pendBypass b (dueCycle s (beAt p 6 4)) (beAt p 1 1) (beAt p 3 1) := by
  have habut : ¬ (beAt p 1 1 = 1 ∨ beAt p 1 1 = 2) := by omega
  have hnone : s.cyc.c0.isNone = false := by simpa [Option.isSome_iff_ne_none] using hc
  simp only [takeEvent, if_neg habut, if_pos hev, hnone, hrec, Bool.false_eq_true, if_false]
  unfold dueCycle
  split
  · next h0 => exact ⟨_, .refl _, by rw [if_pos (.inl h0)]⟩
  · next h0 =>
    split
    · next hlate => exact ⟨_, countRing_out _ 15, by rw [if_pos (.inr hlate)]⟩
    · next hlate => exact ⟨_, .refl _, by rw [if_neg fun g => g.elim h0 hlate]⟩

end

/-! ### The end of CALIBRATING (R131) -/

section

variable {s : State}

theorem calChainTimeout_rests (h : s.ring.state ≠ .calibrating) : calChainTimeout s = s := by simp [calChainTimeout, h]

theorem calChainTimeout_listens (hstate : s.ring.state = .calibrating) (hend : s.ring.calEnded = true)
    (hdue : due s s.ring.calDeadline = true) (heast : (rport s .east).state = .down ∨ (rport s .east).burstOk = true)
    (hwest : (rport s .west).state = .down ∨ (rport s .west).burstOk = true) (hchain : chainComplete s = false) :
    calChainTimeout s = enterListen (countRing s 9) := by
  have hok : ∀ e, ((rport s e).state = .down ∨ (rport s e).burstOk = true) →
      ((rport s e).state == .down || (rport s e).burstOk) = true := fun e h => by simpa using h
  simp [calChainTimeout, hstate, hend, hdue, hok _ heast, hok _ hwest, hchain]

/-- The start of the listen period leaves every ring counter but that of a cold start not allowed. -/
theorem startListen_keeps (s : State) : (startListen s).ring.state = s.ring.state ∧ (startListen s).time = s.time ∧
    (startListen s).cyc = s.cyc ∧
    tblGet {} (startListen s).ctr.stat (statIdx 0x07 0 9) = tblGet {} s.ctr.stat (statIdx 0x07 0 9) := by
  unfold startListen
  dsimp only
  split
  · exact ⟨rfl, rfl, rfl, tblGet_tblSet_ne _ _ _ _ _ (by decide)⟩
  · exact ⟨rfl, rfl, rfl, rfl⟩

theorem enterListen_after_timeout (h : s.ring.state = .calibrating) :
    let t := enterListen (countRing s 9)
    t.ring.state = .listen ∧ t.time = s.time ∧ t.cyc = s.cyc ∧
      tblGet {} t.ctr.stat (statIdx 0x07 0 9) = (tblGet {} s.ctr.stat (statIdx 0x07 0 9)).add 1 (now s) := by
  intro t
  have ht : t = startListen { countRing s 9 with ring := { s.ring with state := .listen } } := enterListen_calibrating h
  obtain ⟨hst, htime, hcyc, hstat⟩ := startListen_keeps { countRing s 9 with ring := { s.ring with state := .listen } }
  rw [ht]
  exact ⟨hst, htime, hcyc, hstat.trans (tblGet_tblSet_same _ _ _ _)⟩

end

/-! ### The statement -/

/-- What waits for its cycle after a node's report has been put there. -/
theorem pendReport_out {s b : State} (h : OutFrame s b) (node cyc : Nat) (r : Report) :
    (pendReport b node cyc r).ring.pendReps =
      s.ring.pendReps.filter (fun p => decide (p.node ≠ node)) ++ [{ node := node, cycle := cyc, rep := r }] := by
  rw [pendReport, h.read (·.ring.pendReps)]

/-- The frame that R80 forwards: what its receipt counts and its way on change nothing that the ring's tables read. -/
theorem ringRx_passAll_out {s : State} {e : RPort} {o : Octets} {report : Bool} {r : Bool × State}
    (hr : passAll (ringRxCount s e o) e o (parseHdr o) true false report = r) (h : r.1 = true) : OutFrame s r.2 := by
  subst hr
  exact (ringRxCount_out s e o).trans (passAll_out h)

section

variable {s : State} {e : RPort} {o : Octets} {ts : Nat} {r : Bool × State}

theorem exec_delayReportRx (hw : Instr.wf (.delayReportRx e o ts) = true) (hg : CtlGood s e o 0x12 ts)
    (hr : passAll (ringRxCount s e o) e o (parseHdr o) true false true = r) :
    exec (.delayReportRx e o ts) s = .next (keeping s (if r.1 then takeReport r.2 (ctlPayload o) else r.2)) :=
  exec_eq_keeping rfl hw (ctlForAll_good hg true takeReport hr)

theorem exec_ringEventRx (hw : Instr.wf (.ringEventRx e o ts) = true) (hg : CtlGood s e o 0x22 ts)
    (hr : passAll (ringRxCount s e o) e o (parseHdr o) true false false = r) :
    exec (.ringEventRx e o ts) s = .next (keeping s (if r.1 then takeEvent r.2 (ctlPayload o) else r.2)) :=
  exec_eq_keeping rfl hw (ctlForAll_good hg false takeEvent hr)

end

/-! What a report and an event do after the receipt was counted and the frame went on: in the terms of the state before. -/

section

variable {s a : State} {p : Octets} (hout : OutFrame s a)
include hout

theorem takeReport_held_out (hnew : s.ring.repSeen.contains (beAt p 0 1 % 64, beAt p 2 2) = false) (hc : s.cyc.c0 ≠ none) :
    (beAt p 0 1 % 64, beAt p 2 2) ∈ (takeReport a p).ring.repSeen ∧ (takeReport a p).cyc = s.cyc ∧ (takeReport a p).time = s.time ∧
      (takeReport a p).ring.pendReps = s.ring.pendReps.filter (fun x => decide (x.node ≠ beAt p 0 1 % 64)) ++
        [{ node := beAt p 0 1 % 64, rep := parseReport p, cycle := dueCycle s (beAt p 4 4) }] := by
  rw [← hout.read (·.ring.repSeen)] at hnew
  obtain ⟨b, hb, htake⟩ := takeReport_held hnew (by rwa [hout.read (·.cyc)])
  have hold : (reportSeen a (beAt p 0 1 % 64) (beAt p 2 2)).ring.pendReps = s.ring.pendReps := hout.read (·.ring.pendReps)
  have hcycle : dueCycle a (beAt p 4 4) = dueCycle s (beAt p 4 4) := hout.read (dueCycle · (beAt p 4 4))
  have hseen : b.ring.repSeen = _ := hb.read (·.ring.repSeen)
  rw [htake, hcycle, pendReport_out hb, hold]
  refine ⟨?_, (hb.read (·.cyc)).trans (hout.read (·.cyc)), (hb.read (·.time)).trans (hout.read (·.time)), rfl⟩
  exact hseen ▸ List.mem_cons_self

theorem takeReport_without_origin_out (hnew : s.ring.repSeen.contains (beAt p 0 1 % 64, beAt p 2 2) = false) (hc : s.cyc.c0 = none) :
    (takeReport a p).ring.pendReps = s.ring.pendReps ∧
      (reportAt (takeReport a p) (beAt p 0 1 % 64)).map (fun x => x.calSeq) = some (beAt p 2 2) := by
  rw [← hout.read (·.ring.repSeen)] at hnew
  rw [takeReport_without_origin hnew (by rwa [hout.read (·.cyc)]), reportAt_calCheck]
  obtain ⟨hat, hpend, -, -⟩ := applyReport_done (reportSeen a (beAt p 0 1 % 64) (beAt p 2 2)) (beAt p 0 1 % 64) (parseReport p)
  exact ⟨((calCheck_kept _).pendReps_eq.trans hpend).trans (hout.read (·.ring.pendReps)), hat⟩

theorem takeEvent_on_out (hev : beAt p 1 1 = 1) : (takeEvent a p).ring.folds =
    if s.ring.folds.contains (beAt p 0 1 % 64, beAt p 2 1 % 2) then s.ring.folds
    else (beAt p 0 1 % 64, beAt p 2 1 % 2) :: s.ring.folds := by
  rw [takeEvent_abut (.inl hev), hev, applyAbut_on, hout.read (·.ring.folds)]

theorem takeEvent_off_out (hev : beAt p 1 1 = 2) :
    (takeEvent a p).ring.folds = s.ring.folds.filter (fun x => !(spanEnds s (beAt p 0 1 % 64) (beAt p 2 1 % 2)).contains x) ∧
      ∀ x ∈ s.ring.folds, x ∈ spanEnds s (beAt p 0 1 % 64) (beAt p 2 1 % 2) →
        (x.1, x.2, s.cyc.n) ∈ (takeEvent a p).ring.unfolded := by
  have hends : spanEnds a (beAt p 0 1 % 64) (beAt p 2 1 % 2) = spanEnds s (beAt p 0 1 % 64) (beAt p 2 1 % 2) :=
    hout.read (spanEnds · (beAt p 0 1 % 64) (beAt p 2 1 % 2)) fun a => spanEnds_mapBase a _ _
  have hoff := applyAbut_off (s := a) (beAt p 0 1 % 64) (beAt p 2 1 % 2)
  rw [takeEvent_abut (.inr hev), hev]
  rwa [hends, hout.read (·.ring.folds), hout.read (·.cyc)] at hoff

variable (hev : beAt p 1 1 = 3 ∨ beAt p 1 1 = 4)
include hev

theorem takeEvent_held_out (hc : s.cyc.c0 ≠ none) (hnew : recentEvent s (beAt p 1 1) (beAt p 3 1) = false) :
    (takeEvent a p).ring.pendEvs =
      s.ring.pendEvs ++ [{ cycle := dueCycle s (beAt p 6 4), ev := beAt p 1 1, subject := beAt p 3 1 }] := by
  have hrec : recentEvent a (beAt p 1 1) (beAt p 3 1) = recentEvent s (beAt p 1 1) (beAt p 3 1) :=
    hout.read (recentEvent · (beAt p 1 1) (beAt p 3 1))
  obtain ⟨b, hb, htake⟩ := takeEvent_held hev (by rwa [hout.read (·.cyc)]) (hrec.trans hnew)
  have hheld : b.cyc.c0 ≠ none := by rwa [(hout.trans hb).read (·.cyc)]
  have hcycle : dueCycle a (beAt p 6 4) = dueCycle s (beAt p 6 4) := hout.read (dueCycle · (beAt p 6 4))
  rw [htake, pendBypass_held hheld, hcycle, (hout.trans hb).read (·.ring.pendEvs)]

theorem takeEvent_repeated_out (hrep : recentEvent s (beAt p 1 1) (beAt p 3 1) = true) : takeEvent a p = a :=
  takeEvent_repeated hev ((hout.read (recentEvent · (beAt p 1 1) (beAt p 3 1))).trans hrep)

end

/-! The clauses that say more than one step's equation. -/

section

variable {s : State}

theorem exec_delayReportSend_held {c : Nat} (hdue : s.ring.reportDue = some c) (hruns : ctlRuns s = true) (hc0 : s.cyc.c0 ≠ none)
    (hn : c ≤ s.cyc.n) (hview : synced s = true → viewAhead s .east = true ∧ viewAhead s .west = true) :
    ∃ t, exec .delayReportSend s = .next t ∧ t.ring.reportDue = none ∧ t.ring.calSeq = (s.ring.calSeq + 1) % 65536 ∧
      t.ring.pendReps = s.ring.pendReps.filter (fun p => decide (p.node ≠ me s)) ++
        [{ node := me s, cycle := oddFrom (s.cyc.n + 4), rep := { ownReport s with calSeq := (s.ring.calSeq + 1) % 65536 } }] ∧
      t.cyc = s.cyc ∧ t.time = s.time := by
  obtain ⟨b, hb, hsend⟩ := delayReportSend_goes hdue hruns (fun _ => hn) hview
  have hme : me b = me s := hb.read me
  rw [if_pos (Option.isSome_iff_ne_none.mpr hc0), hme] at hsend
  exact ⟨_, exec_eq_keeping rfl rfl hsend, hb.read (·.ring.reportDue), hb.read (·.ring.calSeq), pendReport_out hb _ _ _,
    hb.read (·.cyc), hb.read (·.time)⟩

theorem exec_delayReportSend_without_origin {c : Nat} (hdue : s.ring.reportDue = some c) (hruns : ctlRuns s = true)
    (hc0 : s.cyc.c0 = none) (hsync : synced s = false) :
    ∃ t, exec .delayReportSend s = .next t ∧ t.ring.reportDue = none ∧ t.ring.calSeq = (s.ring.calSeq + 1) % 65536 ∧
      t.ring.pendReps = s.ring.pendReps ∧ (reportAt t (me s)).map (fun r => r.calSeq) = some ((s.ring.calSeq + 1) % 65536) := by
  obtain ⟨b, hb, hsend⟩ := delayReportSend_goes hdue hruns (absurd hc0) (by simp [hsync])
  have hme : me b = me s := hb.read me
  rw [hc0, hme] at hsend
  obtain ⟨hat, hpend, hseq, hrep⟩ := applyReport_done b (me s) (ownReport (reportFormed s))
  have hcal := calCheck_kept (applyReport b (me s) (ownReport (reportFormed s)))
  refine ⟨_, exec_eq_keeping rfl rfl hsend, (hcal.due_eq.trans hrep).trans (hb.read (·.ring.reportDue)),
    (hcal.calSeq_eq.trans hseq).trans (hb.read (·.ring.calSeq)), (hcal.pendReps_eq.trans hpend).trans (hb.read (·.ring.pendReps)), ?_⟩
  exact (congrArg (Option.map _) (reportAt_calCheck _ (me s))).trans hat

theorem sendEvent_clear_fields (e sub c : Nat) : (sendEvent s (2, e, sub, c)).ring.evSeq = (s.ring.evSeq + 1) % 65536 ∧
    (sendEvent s (2, e, sub, c)).cyc = s.cyc ∧ (me s, e, s.cyc.n) ∈ (sendEvent s (2, e, sub, c)).ring.unfolded := by
  obtain ⟨b, hb, hsend⟩ := sendEvent_clear (s := s) e sub c
  have hstamp : (me b, e, b.cyc.n) = (me s, e, s.cyc.n) := hb.read fun a => (me a, e, a.cyc.n)
  rw [hsend, ← hstamp]
  exact ⟨hb.read (·.ring.evSeq), hb.read (·.cyc), List.mem_append_right _ (List.mem_singleton.mpr rfl)⟩

theorem sendEvent_bypass_fields {ev : Nat} (hc0 : s.cyc.c0 ≠ none) (hev : ev = 3 ∨ ev = 4) (e sub c : Nat) :
    (sendEvent s (ev, e, sub, c)).ring.evSeq = (s.ring.evSeq + 1) % 65536 ∧ (sendEvent s (ev, e, sub, c)).ring.pendEvs =
      s.ring.pendEvs ++ [{ cycle := oddFrom (s.cyc.n + 2), ev := ev, subject := sub }] := by
  obtain ⟨b, hb, hsend⟩ := sendEvent_bypass hc0 hev e sub c
  have hheld : b.cyc.c0 ≠ none := by rwa [hb.read (·.cyc)]
  rw [hsend, pendBypass_held hheld]
  exact ⟨hb.read (·.ring.evSeq), congrArg (· ++ _) (hb.read (·.ring.pendEvs))⟩

end

/-- Settles O14: each clause is what one step of the reports, of the events or of CALIBRATING does. -/
theorem reportsAndRingEvents : Obligations.ReportsAndRingEvents := by
  unfold Obligations.ReportsAndRingEvents
  refine ⟨?_, ?_, ?_, ?_, ?_, ?_, ?_, ?_, ?_, ?_, ?_, ?_, ?_⟩
  · intro s c hdue hruns hc0 hn hview
    exact exec_delayReportSend_held hdue hruns hc0 hn hview
  · intro s c hdue hruns hc0 hsync
    exact exec_delayReportSend_without_origin hdue hruns hc0 hsync
  · intro s c hdue h
    exact exec_eq_next rfl rfl (delayReportSend_waits hdue h) rfl
  · intro s hdue
    exact exec_eq_next rfl rfl (delayReportSend_idle hdue) rfl
  · intro s e o ts hw hg u p node r
    have hexec := exec_delayReportRx hw hg (r := r) rfl
    refine ⟨fun h => ?_, fun hr hnew hc0 => ?_, fun hr hnew hc0 => ?_⟩
    · rw [hexec]
      cases hr : r.1 with
      | false => rfl
      | true =>
        have hseen := h.resolve_left (by simp [hr])
        rw [← (ringRx_passAll_out rfl hr).read (·.ring.repSeen)] at hseen
        rw [if_pos rfl, takeReport_repeated hseen]
    · rw [hr, if_pos rfl] at hexec
      exact ⟨_, hexec, takeReport_held_out (ringRx_passAll_out rfl hr) hnew hc0⟩
    · rw [hr, if_pos rfl] at hexec
      exact ⟨_, hexec, takeReport_without_origin_out (ringRx_passAll_out rfl hr) hnew hc0⟩
  · intro s hruns h
    exact exec_eq_next rfl rfl (ringEventSend_none h) rfl
  · intro s h
    exact exec_eq_next rfl rfl (ringEventSend_waits h) rfl
  · intro s ev e sub c hruns hview h
    exact exec_eq_keeping rfl rfl (ringEventSend_one hruns hview h)
  · intro s e sub c
    exact sendEvent_clear_fields e sub c
  · intro s ev e sub c hc0 hev
    exact sendEvent_bypass_fields hc0 hev e sub c
  · intro s e o ts hw hg p r
    have hexec := exec_ringEventRx hw hg (r := r) rfl
    refine ⟨fun hr => ?_, fun hr hev => ?_, fun hr hev => ?_, fun hr hev hc0 hnew => ?_, fun hr hev hrep => ?_⟩
    · rw [hexec, hr, if_neg Bool.false_ne_true]
    all_goals
      have hout := ringRx_passAll_out rfl hr
      rw [hr, if_pos rfl] at hexec
    · exact ⟨_, hexec, takeEvent_on_out hout hev⟩
    · exact ⟨_, hexec, takeEvent_off_out hout hev⟩
    · exact ⟨_, hexec, takeEvent_held_out hout hev hc0 hnew⟩
    · rw [hexec, takeEvent_repeated_out hout hev hrep]
  · intro s hstate hend hdue heast hwest hchain
    exact ⟨_, exec_eq_keeping rfl rfl (calChainTimeout_listens hstate hend hdue heast hwest hchain), enterListen_after_timeout hstate⟩
  · intro s h
    exact exec_eq_next rfl rfl (calChainTimeout_rests h) rfl

end Sys2Proof.Machine
end

section
/-! PROOFS. What the ring's states, ports and times keep when frames leave its egresses, faults are fed and records are written. -/

namespace Sys2Proof.Machine

open Sys2Proof

/-! ### The queue of waiting commands as it stood -/

theorem keeping_ring (s t : State) : (keeping s t).ring = t.ring := rfl

theorem keeping_time (s t : State) : (keeping s t).time = t.time := rfl

theorem keeping_cyc (s t : State) : (keeping s t).cyc = t.cyc := rfl

theorem keeping_boot (s t : State) : (keeping s t).boot = t.boot := rfl

theorem keeping_trace (s t : State) : (keeping s t).trace = t.trace := rfl

theorem rport_keeping (s t : State) (e : RPort) : rport (keeping s t) e = rport t e := by cases e <;> rfl

theorem rtx_keeping (s t : State) (e : RPort) : rtx (keeping s t) e = rtx t e := by cases e <;> rfl

/-! ### What the ring's states, ports and times read -/

/-- What the ring's states, ports, events and times read of a state: nothing of its egresses, of frames that still arrive, nor of the
other regions. -/
def stillBase (s : State) : State :=
  { clk := { tick := s.clk.tick }, time := s.time, cyc := s.cyc, boot := s.boot, ring := { (mapBase s).ring with reasm := [] } }

/-- Two states that agree in it. -/
def Still (s t : State) : Prop := stillBase t = stillBase s

namespace Still

theorem refl (s : State) : Still s s := rfl

theorem trans {s t u : State} (h : Still s t) (g : Still t u) : Still s u := Eq.trans g h

theorem foldl {β : Type} {f : State → β → State} (hf : ∀ s b, Still s (f s b)) (l : List β) (s : State) :
    Still s (l.foldl f s) := by
  induction l generalizing s with
  | nil => exact .refl s
  | cons b l ih => exact (hf s b).trans (ih _)

theorem ite {s t u : State} {c : Prop} [Decidable c] (h : Still s t) (g : Still s u) : Still s (if c then t else u) := by
  split
  · exact h
  · exact g

theorem unseen {s t u : State} (h : Still s t) (g : Unseen t u) : Still s u := h.trans (g.read stillBase)

/-- What reads no more of a state agrees. -/
theorem read {α : Type} {s t : State} (h : Still s t) (r : State → α) (hr : ∀ a, r (stillBase a) = r a := by exact fun _ => rfl) :
    r t = r s := by
  rw [← hr t, ← hr s, h]

/-- What reads no departure of a port agrees. -/
theorem port {α : Type} {s t : State} (h : Still s t) (e : RPort) (r : RingPort → α)
    (hr : ∀ x o, r { x with outT1 := o } = r x := by exact fun _ _ => rfl) : r (rport t e) = r (rport s e) :=
  h.read (fun a => r (rport a e)) fun a => by cases e <;> exact hr _ _

end Still

theorem OutFrame.still {s t : State} (h : OutFrame s t) : Still s t := h.read stillBase

theorem Unseen.still {s t : State} (h : Unseen s t) : Still s t := h.read stillBase

theorem drawn_still (s : State) : Still s (drawn s) := rfl

/-! ### Frames of the node leave the vat and their queues -/

theorem vat_still (s : State) (v : Vat) : Still s { s with vat := v } := rfl

theorem setFrame_still (s : State) (n : Nat) (v : VFrame) : Still s (setFrame s n v) := rfl

theorem freeFrame_still (s : State) (n : Nat) : Still s (freeFrame s n) := vat_still s _

theorem toCellar_still (s : State) (n : Nat) : Still s (toCellar s n) := by
  unfold toCellar
  dsimp only
  split
  · refine Still.unseen (.unseen ?_ (perf_unseen _ _)) (perfN_unseen _ _ _)
    exact .trans (.trans (vat_still s _) (setFrame_still _ n _)) rfl
  · exact .refl s

theorem finishDest_still (s : State) (n d : Nat) : Still s (finishDest s n d) := by
  unfold finishDest
  dsimp only
  have hvat : ∀ (t : State) (c : Prop) [Decidable c] (v : Vat), Still s t → Still s (if c then { t with vat := v } else t) :=
    fun t c _ v h => .ite (h.trans (vat_still t v)) h
  split
  · refine .ite (.trans (.trans ?_ (setFrame_still _ n _)) (freeFrame_still _ n))
      (.trans (.trans ?_ (setFrame_still _ n _)) (toCellar_still _ n)) <;>
    exact hvat _ _ _ (hvat s _ _ (.refl s))
  · exact .refl s

theorem releaseLocal_still (s : State) (h : Option Nat) (o : Option RFrame) : Still s (releaseLocal s h o) := by
  unfold releaseLocal
  split
  · exact finishDest_still s _ _
  · exact .refl s

/-! ### Records of the host queues (R324, R329, R346) -/

theorem dma_still (s : State) (x : Dma) : Still s { s with dma := x } := rfl

theorem setQ_still (s : State) (q : Nat) (x : QReg) : Still s (setQ s q x) := rfl

theorem fireFull_still (s : State) (cq : Nat) : Still s (fireFull s cq) := by
  unfold fireFull
  dsimp only
  split
  · exact (setQ_still s cq _).unseen (fireCq_unseen _ cq 1)
  · exact .refl s

theorem cqHalt_still (s : State) (cq idx cqe reason : Nat) : Still s (cqHalt s cq idx cqe reason) :=
  (((setQ_still s cq _).unseen (perf_unseen _ _)).trans (dma_still _ _)).unseen (fireCq_unseen _ cq 2)

theorem cqWrite_still (s : State) (cq cqe : Nat) : Still s (cqWrite s cq cqe) := by
  unfold cqWrite
  extract_lets c n word addr s1 s2
  have h1 : Still s s1 := (hostWr_unseen s cq _ _ _ _).still
  have h2 : Still s s2 := (h1.trans (setQ_still s1 cq _)).unseen (perf_unseen _ _)
  exact .ite (cqHalt_still s cq _ _ _) (.ite (h2.unseen (fireCq_unseen s2 cq 0)) h2)

theorem cqPost_still (s : State) (cq cqe chan : Nat) : Still s (cqPost s cq cqe chan) :=
  .ite (setQ_still s cq _) (.ite ((setQ_still s cq _).trans (fireFull_still _ cq)) ((setQ_still s cq _).trans (cqWrite_still _ cq cqe)))

theorem postErr_still (s : State) (q : Nat) : Still s (postErr s q) := by
  unfold postErr
  split
  · exact .refl s
  · exact (setQ_still s q _).trans (cqPost_still _ _ _ 0)

theorem g1WriteBack_still (s : State) (q : Nat) (j : Job) (status : Nat) : Still s (g1WriteBack s q j status) := by
  unfold g1WriteBack
  extract_lets x one l s1
  have hone : ∀ t e, Still t (one t e) := fun t e =>
    .ite ((hostWr_unseen t q _ _ _ _).still.unseen (signal_unseen _ _)) (hostWr_unseen t q _ _ _ _).still
  exact (Still.foldl hone _ s).trans (setQ_still s1 q _)

theorem drainCheck_still (s : State) (q : Nat) : Still s (drainCheck s q) := by
  have hdead : Still s (deadReads s q) := dma_still s _
  unfold drainCheck
  dsimp only
  split
  · exact hdead.trans (setQ_still _ q _)
  · exact .refl s

theorem dropJob_still (s : State) (q idx : Nat) : Still s (dropJob s q idx) := dma_still s _

theorem settle_still (n : Nat) (s : State) (q : Nat) : Still s (settle n s q) := by
  induction n generalizing s with
  | zero => exact .refl s
  | succ n ih =>
    unfold settle
    split
    · exact (postErr_still s q).trans (drainCheck_still _ q)
    · next j _ _ =>
      dsimp only
      generalize hs0 : (if idxDiff (qAt s q).errIdx j.idx < _ then postErr s q else s) = s0
      have h0 : Still s s0 := hs0 ▸ .ite (postErr_still s q) (.refl s)
      refine .ite ((h0.trans (dropJob_still s0 q j.idx)).trans (.trans ?_ (ih _))) h0
      split
      · exact .refl _
      · exact .ite (g1WriteBack_still _ q j _) (cqPost_still _ _ _ _)

theorem dmaEgressDrop_still (s : State) (v : VFrame) : Still s (dmaEgressDrop s v) := by
  unfold dmaEgressDrop
  split
  · exact .refl s
  · split
    · exact .refl s
    · exact .ite (settle_still 64 (setJob s _) _) rfl

/-! ### Egress queues that are dropped (R490) -/

theorem wfqIdle_still (s : State) (p : Nat) : Still s (wfqIdle s p) := .ite rfl (.refl s)

theorem untagHead_still (s : State) (p q : Nat) : Still s (untagHead s p q) := .ite rfl (.refl s)

theorem dropQueue_still (s : State) (k ev : Nat) : Still s (dropQueue s k ev) := by
  have hempty : Still s (setQueue s k []) := rfl
  refine ((hempty.trans (wfqIdle_still _ _)).trans (untagHead_still _ _ _)).trans (.foldl (fun t e => ?_) _ _)
  have hgone : Still (dmaEgressDrop t (frameAt t e.h)) (count (dmaEgressDrop t (frameAt t e.h)) 0x03 (destOfQueue k) ev) := rfl
  exact (((dmaEgressDrop_still t _).trans hgone).trans (finishDest_still _ _ _)).unseen (perf_unseen _ _)

theorem dropOpen_still (s : State) : Still s (dropOpen s) := .foldl (fun t k => dropQueue_still t (144 + k) 1) _ s

/-! ### Records (R401, R438) -/

theorem latchRec_still (s : State) (f : Nat) (r : RecInfo) : Still s (latchRec s f r) := .ite rfl (.ite rfl rfl)

theorem recordOp_still (s : State) (op : Nat) : Still s (recordOp s op) :=
  ((drawn_still s).unseen (perf_unseen _ _)).trans (latchRec_still _ _ _)

theorem kn_still (s : State) (k : Keanak) : Still s { s with kn := k } := rfl

theorem writeRecord_still (s : State) (b : Octets) (t16 : Nat) : Still s (writeRecord s b t16) :=
  (kn_still s _).unseen (perf_unseen _ _)

theorem activationRecord_still (s : State) (obj t16 : Nat) : Still s (activationRecord s obj t16) := by
  unfold activationRecord writeAudit
  exact .ite (.refl s) (.ite ((kn_still s _).trans (writeRecord_still _ _ t16)) rfl)

/-! ### Faults that are fed (R420) -/

theorem startReact_still (s : State) (f code : Nat) (test : Bool) : Still s (startReact (fun t _ _ => t) s f code test).2 := by
  unfold startReact
  split
  · exact .refl s
  · exact (perf_unseen _ _).still

theorem classify_still (s : State) (f : Nat) : Still s (classify s f).2.2.2 := by
  unfold classify
  dsimp only
  split_ifs <;> rfl

theorem requestTest_still (s : State) (x : SelfTest) : Still s (requestTest s x) := .ite rfl rfl

theorem countN_still (s : State) (f o e n : Nat) : Still s (countN s f o e n) := rfl

theorem signal_still (s : State) (n : Nat) : Still s (signal s n) := (signal_unseen s n).still

theorem flt_still (s : State) (x : Faults) : Still s { s with flt := x } := rfl

theorem feedSystem_still (s : State) (f loc detail : Nat) : Still s (feedSystem s f loc detail) := by
  have hreact : ∀ (c : Nat × Nat × Nat × State) (t : Bool), Still s c.2.2.2 →
      Still s (if 2 < c.2.1 then startReact (fun t _ _ => t) c.2.2.2 f c.2.1 t else (0, c.2.2.2)).2 := by
    intro c t hc
    split
    · exact hc.trans (startReact_still _ _ _ _)
    · exact hc
  have hcount := countN_still s 0x0C f 0 1
  unfold feedSystem feedWith
  simp only [if_true, Bool.false_eq_true, if_false]
  split
  · exact hcount
  · split
    · exact (countN_still s 0x0C f 1 1).trans (flt_still _ _)
    · split
      · exact (hcount.trans (drawn_still _)).trans (latchRec_still _ _ _)
      · split
        · exact hcount.trans (latchRec_still _ _ _)
        · have hc := hcount.trans (classify_still (count s 0x0C f 0) f)
          generalize classify (count s 0x0C f 0) f = c at hc
          have hlatched := fun t i => (hreact c t hc).trans (latchRec_still _ f i)
          split <;> split
          · exact ((hlatched _ _).trans (signal_still _ _)).trans (requestTest_still _ _)
          · exact (hlatched _ _).trans (requestTest_still _ _)
          · exact (hlatched _ _).trans (signal_still _ _)
          · exact hlatched _ _

/-! ### The egresses of the ring -/

theorem clearEgress_still (s : State) (e : RPort) : Still s (clearEgress s e) :=
  ((releaseLocal_still s _ _).trans (releaseLocal_still _ _ _)).trans (setRtx_out _ e _).still

theorem moveTransit_still (s : State) (e : RPort) : Still s (moveTransit s e) := by
  have hloop : ∀ t l f, Still t (loopOut t e l f) := fun t l f => (loopOut_out t e l f).still
  unfold moveTransit
  dsimp only
  refine .trans (.trans (.trans ?_ (.foldl (fun t f => hloop t .high f) _ _)) (.foldl (fun t f => hloop t .low f) _ _))
    (.foldl (fun t o => hloop t .high _) _ _)
  exact ((releaseLocal_still s _ _).trans (releaseLocal_still _ _ _)).trans (setRtx_out _ e _).still

theorem dropCtx_still (s : State) (c : Nat) : Still s (dropCtx s c) := by
  have hfail : Still s (fwdFail s c) := (onArrivingBoth_out s c _).still.trans (drawn_still _)
  have hctx : ∀ t : State, Still t { t with ring := { t.ring with reasm := tblErase t.ring.reasm c } } := fun _ => rfl
  unfold dropCtx
  exact .trans (.ite hfail (.refl s)) (hctx _)

theorem cutOwn_still (s : State) (e : RPort) : Still s (cutOwn s e) :=
  .ite (((countPort_out s _ _).trans (setRtx_out _ e _)).trans (emit_out _ _)).still (.refl s)

/-! ### Gates that follow another list (R199 to R201) -/

theorem setMac_still (s : State) (p : Nat) (m : MacTx) : Still s (setMac s p m) := rfl

theorem setGate_still (s : State) (p : Nat) (g : Gate) : Still s (setGate s p g) := rfl

theorem endPiece_still (s : State) (p h c : Nat) : Still s (endPiece s p h c) :=
  ((setMac_still s p _).unseen (perf_unseen _ _)).unseen (emit_unseen _ _)

theorem interrupt_still (s : State) (p : Nat) : Still s (interrupt s p) := by
  unfold interrupt
  dsimp only
  split
  · exact .refl s
  · split
    · exact .refl s
    · split
      · exact .refl s
      · exact endPiece_still s p _ _

theorem gateCloses_still (s : State) (p : Nat) : Still s (gateCloses s p) := by
  unfold gateCloses cutAtGate
  dsimp only
  split
  · split
    · exact .refl s
    · exact .ite (.refl s) (endPiece_still s p _ _)
  · exact .refl s

theorem positionGates_still (s : State) (p : Nat) : Still s (positionGates s p) := setGate_still s p _

theorem entryActs_still (s : State) (p op : Nat) : Still s (entryActs s p op) := by
  have hraise : Still s (raiseHold s p) := ((setMac_still s p _).unseen (countPort_unseen _ p 55)).trans (interrupt_still _ p)
  exact .ite (.refl s) (.ite (.ite (.refl s) hraise) (.ite (setMac_still s p _) (.refl s)))

theorem gateActivate_still (s : State) (p : Nat) : Still s (gateActivate s p) := by
  have hregate : ∀ g, Still s (regate s p g) := fun g =>
    ((setGate_still s p g).trans (positionGates_still _ p)).trans (gateCloses_still _ p)
  unfold gateActivate
  dsimp only
  split
  · exact .refl s
  · have hacts := fun g m op => ((hregate g).trans (setMac_still _ p m)).trans (entryActs_still _ p op)
    exact .ite (hacts _ _ _) ((hacts _ _ _).trans (activationRecord_still _ _ _))

end Sys2Proof.Machine
end

section
/-! PROOFS. The states of the ring that are left, and its ports: what a change of either keeps, and what else it does: the facts that the
statements about the cold start, the beats and the bypass share. -/

namespace Sys2Proof.Machine

open Sys2Proof

/-! ### States of the ring that are left (R103, R107, R108) -/

/-- What a change of the ring's state keeps: the node, the ports and tables of the ring, and of the time and the cycle what leaving
SYNCHRONISED does not touch. -/
def heldBase (s : State) : State :=
  { boot := s.boot, time := { nt := s.time.nt, lossReason := s.time.lossReason }
    cyc := { image := s.cyc.image, c0 := s.cyc.c0, n := s.cyc.n }, ring := { (stillBase s).ring with state := .offline } }

/-- Two states that agree in it. -/
def Held (s t : State) : Prop := heldBase t = heldBase s

namespace Held

theorem trans {s t u : State} (h : Held s t) (g : Held t u) : Held s u := Eq.trans g h

theorem read {α : Type} {s t : State} (h : Held s t) (r : State → α) (hr : ∀ a, r (heldBase a) = r a := by exact fun _ => rfl) :
    r t = r s := by
  rw [← hr t, ← hr s, h]

theorem port {α : Type} {s t : State} (h : Held s t) (e : RPort) (r : RingPort → α)
    (hr : ∀ x o, r { x with outT1 := o } = r x := by exact fun _ _ => rfl) : r (rport t e) = r (rport s e) :=
  h.read (fun a => r (rport a e)) fun a => by cases e <;> exact hr _ _

end Held

theorem Still.held {s t : State} (h : Still s t) : Held s t := h.read heldBase

theorem stopTimers_only (s : State) : ∃ x, stopTimers s = { s with time := { s.time with timers := x } } := by
  have hall : ∀ (l : List Nat) (s : State), ∃ x, l.foldl (fun t i =>
      if (tblGet {} t.time.timers i).running && !(tblGet {} t.time.timers i).cont then
        { t with time := { t.time with
            timers := tblSet {} t.time.timers i { tblGet {} t.time.timers i with running := false, level := false } } }
      else t) s = { s with time := { s.time with timers := x } } := by
    intro l
    induction l with
    | nil => exact fun s => ⟨_, rfl⟩
    | cons i l ih =>
      intro s
      rw [List.foldl_cons]
      split
      · exact ih _
      · exact ih s
  exact hall _ s

/-- A node that leaves SYNCHRONISED stands in the state it leaves for. -/
theorem syncEnds_left (s : State) (st : RingState) : Held s (syncEnds s st) ∧ (syncEnds s st).ring.state = st := by
  have hcut := (cutOwn_still s .east).trans (cutOwn_still _ .west)
  unfold syncEnds
  dsimp only
  obtain ⟨x, hx⟩ := stopTimers_only _
  rw [hx]
  exact ⟨Held.trans hcut.held rfl, rfl⟩

theorem goState_left (s : State) (st : RingState) : Held s (goState s st) ∧ (goState s st).ring.state = st := by
  unfold goState
  split
  · exact syncEnds_left s st
  · split <;> exact ⟨rfl, rfl⟩

/-- Any other state is left without further effects. -/
theorem goState_of_ne {s : State} (hs : s.ring.state ≠ .synchronised) (hi : s.ring.state ≠ .integrating) (st : RingState) :
    goState s st = { s with ring := { s.ring with state := st } } := by
  rw [goState, if_neg hs, if_neg hi]

/-- The state with the reason of a loss of synchronisation noted. -/
def lossNoted (s : State) (code : Nat) : State := { s with time := { s.time with lossReason := code } }

theorem leaveSync_eq (s : State) (code : Nat) (st : RingState) : leaveSync s code st =
    feedSystem (syncEnds (perf (countRing (lossNoted s code) 7) (pPkg 3)) st) 273 0 code := rfl

theorem leaveSync_left (s : State) (code : Nat) (st : RingState) :
    Held (lossNoted s code) (leaveSync s code st) ∧ (leaveSync s code st).ring.state = st := by
  have hcount := ((countRing_out (lossNoted s code) 7).trans (perf_out _ (pPkg 3))).still.held
  obtain ⟨hends, hstate⟩ := syncEnds_left (perf (countRing (lossNoted s code) 7) (pPkg 3)) st
  have hfeed := feedSystem_still (syncEnds (perf (countRing (lossNoted s code) 7) (pPkg 3)) st) 273 0 code
  rw [leaveSync_eq]
  exact ⟨(hcount.trans hends).trans hfeed.held, (hfeed.read (·.ring.state)).trans hstate⟩

theorem enterOffline_state (s : State) (drop : Bool) : (enterOffline s drop).ring.state = .offline := by
  have hoff : (if s.ring.state = .offline then s else goState s .offline).ring.state = .offline := by
    split
    · assumption
    · exact (goState_left s .offline).2
  cases drop <;> exact hoff

theorem enterOffline_held (s : State) : Held s (enterOffline s false) := by
  unfold enterOffline
  rw [if_neg Bool.false_ne_true]
  split
  · rfl
  · exact (goState_left s .offline).1

/-! ### Ports (R144) -/

theorem setRport_rport (s : State) (e : RPort) : setRport s e (rport s e) = s := by cases e <;> rfl

theorem rport_setRport_other (s : State) (e : RPort) (x : RingPort) : rport (setRport s e x) (otherPort e) = rport s (otherPort e) :=
  rport_setRport_ne s e _ x (otherPort_ne e)

/-- The ports' states and links stay, the burst number of a port that is DOWN, and the switch of the bypass. -/
structure WiringKept (s t : State) : Prop where
  state_eq : ∀ e, (rport t e).state = (rport s e).state
  link_eq : ∀ e, (rport t e).link = (rport s e).link
  burst_eq : ∀ e, (rport s e).state = .down → (rport t e).burstNo = (rport s e).burstNo
  bypass_eq : t.ring.bypassOn = s.ring.bypassOn

namespace WiringKept

theorem refl (s : State) : WiringKept s s := ⟨fun _ => rfl, fun _ => rfl, fun _ _ => rfl, rfl⟩

theorem trans {s t u : State} (h : WiringKept s t) (g : WiringKept t u) : WiringKept s u where
  state_eq e := (g.state_eq e).trans (h.state_eq e)
  link_eq e := (g.link_eq e).trans (h.link_eq e)
  burst_eq e hd := (g.burst_eq e ((h.state_eq e).trans hd)).trans (h.burst_eq e hd)
  bypass_eq := g.bypass_eq.trans h.bypass_eq

theorem ite {s t u : State} {c : Prop} [Decidable c] (h : WiringKept s t) (g : WiringKept s u) : WiringKept s (if c then t else u) := by
  split
  · exact h
  · exact g

theorem of_ring {s t : State} (he : t.ring.east = s.ring.east) (hw : t.ring.west = s.ring.west) (hb : t.ring.bypassOn = s.ring.bypassOn) :
    WiringKept s t := by
  have hport : ∀ e, rport t e = rport s e := fun e => by cases e <;> assumption
  exact ⟨fun e => by rw [hport], fun e => by rw [hport], fun e _ => by rw [hport], hb⟩

theorem inRing_eq {s t : State} (h : WiringKept s t) (e : RPort) : inRing t e = inRing s e := by rw [inRing, h.state_eq, inRing]

end WiringKept

theorem Held.wiring {s t : State} (h : Held s t) : WiringKept s t :=
  ⟨fun e => h.port e (·.state), fun e => h.port e (·.link), fun e _ => h.port e (·.burstNo), h.read (·.ring.bypassOn)⟩

theorem Still.wiring {s t : State} (h : Still s t) : WiringKept s t := h.held.wiring

theorem setRport_wiring {s : State} {e : RPort} {x : RingPort} (hst : x.state = (rport s e).state) (hl : x.link = (rport s e).link)
    (hb : (rport s e).state = .down → x.burstNo = (rport s e).burstNo) : WiringKept s (setRport s e x) := by
  have hport : ∀ d, d = e ∨ rport (setRport s e x) d = rport s d := fun d =>
    or_iff_not_imp_left.mpr (rport_setRport_ne s e d x)
  refine ⟨fun d => ?_, fun d => ?_, fun d hd => ?_, setRport_ring_bypassOn s e x⟩ <;> obtain rfl | h := hport d
  · rw [rport_setRport, hst]
  · rw [h]
  · rw [rport_setRport, hl]
  · rw [h]
  · rw [rport_setRport, hb hd]
  · rw [h]

theorem startBurst_wiring (s : State) (e : RPort) : WiringKept s (startBurst s e) := by
  unfold startBurst
  dsimp only
  split
  · exact .refl s
  · next hup => exact setRport_wiring rfl rfl fun hd => absurd hd hup

theorem goState_wiring (s : State) (st : RingState) : WiringKept s (goState s st) := (goState_left s st).1.wiring

theorem leaveSync_wiring (s : State) (code : Nat) (st : RingState) : WiringKept s (leaveSync s code st) :=
  have hnoted : WiringKept s (lossNoted s code) := .of_ring rfl rfl rfl
  hnoted.trans (leaveSync_left s code st).1.wiring

theorem enterCalibrating_wiring (s : State) : WiringKept s (enterCalibrating s) := by
  have hset : ∀ t e, WiringKept t (setRport t e { rport t e with burstOk := false }) := fun t e => setRport_wiring rfl rfl fun _ => rfl
  have hone : ∀ t e, WiringKept t (startBurst (setRport t e { rport t e with burstOk := false }) e) := fun t e =>
    (hset t e).trans (startBurst_wiring _ e)
  unfold enterCalibrating
  dsimp only
  exact .trans ((goState_wiring s .calibrating).trans ((hone _ .east).trans (hone _ .west))) (.of_ring rfl rfl rfl)

theorem ringRecheck_wiring (s : State) : WiringKept s (ringRecheck s) := .ite (enterCalibrating_wiring s) (.refl s)

/-! ### What follows a change of port states (R107, R144, R147) -/

/-- The ABUT_ON event of an abutment that begins with a change of port states, from the looped port before it. -/
def beginEvents (s : State) (old : Option RPort) : List (Nat × Nat × Nat × Nat) :=
  match loopedPort s with
  | some x => if old = some x then [] else [(1, rpBit x, (rport s x).beatFrom, s.cyc.n)]
  | none => []

/-- The ABUT_OFF event of an abutment that ends with it. -/
def endEvents (s : State) (old : Option RPort) : List (Nat × Nat × Nat × Nat) :=
  match old with
  | some x => if inRing s .east && inRing s .west then [(2, rpBit x, (rport s x).beatFrom, s.cyc.n)] else []
  | none => []

/-- The state with events due. -/
def withEvents (s : State) (l : List (Nat × Nat × Nat × Nat)) : State := { s with ring := { s.ring with evOut := s.ring.evOut ++ l } }

theorem withEvents_nil (s : State) : withEvents s [] = s := by simp [withEvents]

theorem withEvents_append (s : State) (l m : List (Nat × Nat × Nat × Nat)) : withEvents (withEvents s l) m = withEvents s (l ++ m) := by
  simp [withEvents]

theorem withEvents_wiring (s : State) (l : List (Nat × Nat × Nat × Nat)) : WiringKept s (withEvents s l) := .of_ring rfl rfl rfl

theorem Still.withEvents {s t : State} (h : Still s t) (l : List (Nat × Nat × Nat × Nat)) :
    Still (withEvents s l) (withEvents t l) := congrArg (Machine.withEvents · l) h

/-- An abutment's event is due, and signalled. -/
theorem Still.turned {s t : State} (h : Still s t) (ev : Nat) (x : RPort) :
    Still (Machine.withEvents s [(ev, rpBit x, (rport s x).beatFrom, s.cyc.n)]) (signal (dueEvent t ev x (rport t x).beatFrom) 1784) := by
  rw [← h.port x (·.beatFrom), ← h.read (·.cyc.n)]
  exact (h.withEvents _).trans (signal_still _ _)

theorem endEvents_withEvents (s : State) (l : List (Nat × Nat × Nat × Nat)) (old : Option RPort) :
    endEvents (withEvents s l) old = endEvents s old := by
  cases old with
  | none => rfl
  | some x => cases x <;> rfl

/-- With a change of port states the abutments begin and end; what else follows is the move of transit frames and, where no port of a
synchronised node is in the ring any more, the loss of the ring. -/
theorem afterPorts_turns (s : State) (old : Option RPort) (fresh : List RPort) :
    ∃ b, Still (withEvents s (beginEvents s old ++ endEvents s old)) b ∧
      afterPorts s old fresh = if b.ring.state = .synchronised && !inRing b .east && !inRing b .west
        then ringRecheck (leaveSync b 6 .offline) else b := by
  unfold afterPorts
  extract_lets s1 s2 s3
  have h1 : Still s s1 := .foldl (fun t e => .ite (.refl t) (moveTransit_still t e)) fresh s
  have h2 : Still (withEvents s (beginEvents s old)) s2 := by
    simp only [s2, beginEvents, ← h1.read loopedPort]
    cases loopedPort s1 with
    | none => rwa [withEvents_nil]
    | some x =>
      dsimp only
      split
      · rwa [withEvents_nil]
      · exact h1.turned 1 x
  have h3 : Still (withEvents (withEvents s (beginEvents s old)) (endEvents (withEvents s (beginEvents s old)) old)) s3 := by
    simp only [s3, endEvents, ← h2.wiring.inRing_eq]
    cases old with
    | none => rwa [withEvents_nil]
    | some x =>
      dsimp only
      split
      · exact h2.turned 2 x
      · rwa [withEvents_nil]
  rw [endEvents_withEvents, withEvents_append] at h3
  exact ⟨s3, h3, rfl⟩

/-- A change that leaves a port in the ring, or comes to a node that is not synchronised, has no further effects. -/
theorem afterPorts_still {s : State} (h : s.ring.state ≠ .synchronised ∨ inRing s .east = true ∨ inRing s .west = true)
    (old : Option RPort) (fresh : List RPort) :
    Still (withEvents s (beginEvents s old ++ endEvents s old)) (afterPorts s old fresh) := by
  obtain ⟨b, hb, hports⟩ := afterPorts_turns s old fresh
  have hwires := (withEvents_wiring s _).trans hb.wiring
  rw [hports, if_neg]
  · exact hb
  · rw [hb.read (·.ring.state), hwires.inRing_eq, hwires.inRing_eq]
    rintro hloss
    simp [withEvents] at hloss
    simp_all

theorem afterPorts_wiring (s : State) (old : Option RPort) (fresh : List RPort) : WiringKept s (afterPorts s old fresh) := by
  obtain ⟨b, hb, hports⟩ := afterPorts_turns s old fresh
  have hwires := (withEvents_wiring s _).trans hb.wiring
  rw [hports]
  exact .ite ((hwires.trans (leaveSync_wiring b 6 .offline)).trans (ringRecheck_wiring _)) hwires

/-- The record of a port that takes a state: a restore is given up, and a port that is lost is READY no more. -/
def portWith (x : RingPort) (st : PortState) : RingPort :=
  { x with state := st, ready := x.ready && !(st == .down || decide (8 ≤ x.beatMiss)), restore := 0, beatMiss := 0 }

theorem setPortState_eq {s : State} {e : RPort} {st : PortState} (h : (rport s e).state ≠ st) :
    setPortState s e st = afterPorts (setRport s e (portWith (rport s e) st)) (loopedPort s) [e] := if_neg h

theorem setPortState_wiring {s : State} {e : RPort} {st : PortState} (h : (rport s e).state ≠ st) :
    WiringKept (setRport s e (portWith (rport s e) st)) (setPortState s e st) := by
  rw [setPortState_eq h]
  exact afterPorts_wiring _ _ _

/-- The port stands in the state it takes. -/
theorem setPortState_state (s : State) (e : RPort) (st : PortState) : (rport (setPortState s e st) e).state = st := by
  by_cases h : (rport s e).state = st
  · rw [setPortState, if_pos h, h]
  · rw [(setPortState_wiring h).state_eq, rport_setRport, portWith]

/-- The other port's state stays. -/
theorem setPortState_other (s : State) (e : RPort) (st : PortState) :
    (rport (setPortState s e st) (otherPort e)).state = (rport s (otherPort e)).state := by
  by_cases h : (rport s e).state = st
  · rw [setPortState, if_pos h]
  · rw [(setPortState_wiring h).state_eq, rport_setRport_other]

theorem setPortState_other_link (s : State) (e : RPort) (st : PortState) :
    (rport (setPortState s e st) (otherPort e)).link = (rport s (otherPort e)).link := by
  by_cases h : (rport s e).state = st
  · rw [setPortState, if_pos h]
  · rw [(setPortState_wiring h).link_eq, rport_setRport_other]

end Sys2Proof.Machine
end

section
/-! PROOFS. The cold start of the ring: listen periods, announces, confirmation and the origin: the statement O16. -/

namespace Sys2Proof.Machine

open Sys2Proof

/-! ### Announces sent (R133, R134, R136) -/

/-- The state in which an announce has its number. -/
def announceNumbered (s : State) : State := { s with ring := { s.ring with annSeq := (s.ring.annSeq + 1) % 65536 } }

/-- An announce takes the next number and goes out; no more changes. -/
theorem sendAnnounce_out (s : State) (confirmed : Bool) : OutFrame (announceNumbered s) (sendAnnounce s confirmed) :=
  sendBoth_out (announceNumbered s) 0x20 _

/-- A candidate's state: its origin lies three cycles ahead, its window lasts two cycles, and its announce is repeated after one. -/
def candidacy (s : State) : State :=
  { s with ring := { s.ring with
      state := .announce, annC0 := quant (nt16 s) + 3 * (s.cyc.image.map tcyc).getD 0, annEnd := now s + 2 * tcycTicks s
      annNext := now s + tcycTicks s, confirmed := false, listenEnd := none } }

theorem enterAnnounce_out {s : State} (h : s.ring.state = .listen) : OutFrame (announceNumbered (candidacy s)) (enterAnnounce s) := by
  have hgo : goState s .announce = { s with ring := { s.ring with state := .announce } } := goState_of_ne (by simp [h]) (by simp [h]) _
  have henter : enterAnnounce s = sendAnnounce (candidacy s) false := by
    rw [enterAnnounce, hgo]
    rfl
  rw [henter]
  exact sendAnnounce_out _ _

section

variable {s : State}

theorem listenPeriodEnd_rests (h : s.ring.state ≠ .listen) : listenPeriodEnd s = s := by
  unfold listenPeriodEnd
  split
  · contradiction
  · rfl

/-- An ended listen period makes the node a candidate. -/
theorem listenPeriodEnd_announces {d : Nat} (hst : s.ring.state = .listen) (hend : s.ring.listenEnd = some d) (hd : d ≤ now s) :
    Still (announceNumbered (candidacy s)) (listenPeriodEnd s) := by
  have hdue : due s d = true := decide_eq_true hd
  have heq : listenPeriodEnd s = enterAnnounce (if s.time.everSync then countRing s 11 else s) := by
    simp [listenPeriodEnd, hst, hend, hdue]
  rw [heq]
  split
  · exact (enterAnnounce_out (s := countRing s 11) hst).still
  · exact (enterAnnounce_out hst).still

theorem announceResend_repeats (hst : s.ring.state = .announce) (hc : s.ring.confirmed = false) (hnext : due s s.ring.annNext = true)
    (hend : due s s.ring.annEnd = false) :
    OutFrame (announceNumbered { s with ring := { s.ring with annNext := s.ring.annNext + tcycTicks s } }) (announceResend s) := by
  have heq : announceResend s = sendAnnounce { s with ring := { s.ring with annNext := s.ring.annNext + tcycTicks s } } false := by
    simp [announceResend, hst, hc, hnext, hend]
  rw [heq]
  exact sendAnnounce_out _ _

/-- The state of a candidate that is keystone: it holds the origin that it has announced. -/
def keystoneConfirmed (s : State) : State :=
  { s with ring := { s.ring with confirmed := true, keystone := me s }, cyc := { s.cyc with c0 := some s.ring.annC0, n := 0 } }

theorem announceWindowEnd_confirms (hst : s.ring.state = .announce) (hc : s.ring.confirmed = false) (hend : due s s.ring.annEnd = true) :
    OutFrame (announceNumbered (keystoneConfirmed s)) (announceWindowEnd s) := by
  have heq : announceWindowEnd s = sendAnnounce (keystoneConfirmed s) true := by
    simp [announceWindowEnd, hst, hc, hend, keystoneConfirmed]
  rw [heq]
  exact sendAnnounce_out _ _

end

/-! ### The origin is reached (R136) -/

/-- The start of the claims changes nothing else. -/
theorem startClaims_only (s : State) : ∃ x, startClaims s = { s with cyc := { s.cyc with claims := x } } := by
  unfold startClaims
  generalize ownPiers s = l
  induction l generalizing s with
  | nil => exact ⟨_, rfl⟩
  | cons p l ih =>
    rw [List.foldl_cons]
    split
    · exact ih _
    · exact ih s

/-- A confirmed candidate is synchronised at its origin with its counter unchanged. -/
theorem cycleOriginReached_synced {s : State} (hst : s.ring.state = .announce) (hc : s.ring.confirmed = true)
    (horigin : s.ring.annC0 ≤ nt16 s) :
    let t := cycleOriginReached s
    t.ring.state = .synchronised ∧ t.time.nt = s.time.nt ∧ t.time.rho = 0 ∧ t.cyc.c0 = s.cyc.c0 ∧ t.cyc.n = s.cyc.n ∧
      t.ring.keystone = s.ring.keystone := by
  intro t
  have ht : t = enterSynced { s with time := { s.time with rho := 0 } } := by simp [t, cycleOriginReached, hst, hc, horigin]
  rw [ht]
  unfold enterSynced
  obtain ⟨x, hx⟩ := startClaims_only _
  rw [hx]
  exact ⟨rfl, rfl, rfl, rfl, rfl, rfl⟩

/-! ### Backoffs (R133, R135) -/

/-- The listen period of a cold-start node that may announce. -/
theorem startListen_coldStart {s : State} (hcold : coldStart s = true) (hr : s.ring.readmitted = false) :
    (startListen s).ring.listenEnd = some (now s + (if s.time.everSync then 64 else 2) * tcycTicks s + usTicks (4 * s.boot.cfg.rank)) := by
  simp [startListen, hcold, hr]

theorem rankBackoffEnd_listens {s : State} (hst : s.ring.state = .rankBackoff) (hend : due s s.ring.backoffEnd = true) :
    rankBackoffEnd s = startListen { s with ring := { s.ring with state := .listen } } := by
  have hgo : goState s .listen = { s with ring := { s.ring with state := .listen } } := goState_of_ne (by simp [hst]) (by simp [hst]) _
  simp only [rankBackoffEnd, hst, hend, and_self, if_true, enterListen, hgo]

/-- A conflict of ranks with an announce out: the candidate stands back, and keeps what it has heard. -/
theorem rankConflict_announced {s : State} (h : s.ring.state = .announce) :
    (rankConflict s).ring.state = .rankBackoff ∧ (rankConflict s).ring.annHeard = s.ring.annHeard := by
  have hgo : goState s .rankBackoff = { s with ring := { s.ring with state := .rankBackoff } } :=
    goState_of_ne (by simp [h]) (by simp [h]) _
  have hfed := feedSystem_ring (countRing (goState s .rankBackoff) 13) 271 0 0
  have hring : (countRing (goState s .rankBackoff) 13).ring = { s.ring with state := .rankBackoff } := by rw [hgo]; rfl
  simp [rankConflict, h, drawn, hfed, hring]

/-! ### Integration (R84, R137) -/

theorem Still.of_foldl {β : Type} {f : State → β → State} {l : List β} {s u : State} (hu : l.foldl f s = u)
    (hf : ∀ s b, Still s (f s b)) : Still s u := hu ▸ .foldl hf l s

/-- The counter is set, and the ring stays as it was. -/
theorem setCounter_sets (s : State) (t16 : Nat) :
    (setCounter s t16).ring.state = s.ring.state ∧ (setCounter s t16).time.nt = t16 * 2 ^ 32 := by
  unfold setCounter
  dsimp only
  generalize hu : List.foldl _ _ (List.range 18) = u
  have h := Still.of_foldl hu fun t p => by
    split
    · exact .ite ((countN_still t _ _ _ _).trans (gateActivate_still _ p)) (positionGates_still t p)
    · exact positionGates_still t p
  exact ⟨h.read (·.ring.state), h.read (·.time.nt)⟩

/-! ### Announces received (R134, R135, R137) -/

/-- The state in which an announce of another node is remembered by its number. -/
def announceHeard (s : State) (p : Octets) : State :=
  { s with ring := { s.ring with annHeard := (beAt p 0 1, beAt p 2 2) :: s.ring.annHeard.filter (fun x => x.1 != beAt p 0 1) } }

section

variable {s : State} {e : RPort} {ts : Nat} {p : Octets} (hbyp : s.ring.bypassOn = false) (hother : beAt p 0 1 ≠ me s)
  (hknown : imageKnown s (beAt p 4 4) none = true)
include hbyp hother hknown

theorem takeAnnounce_unconfirmed (hbit : bitOf (beAt p 1 1) 7 = false) (hnew : s.ring.annHeard.contains (beAt p 0 1, beAt p 2 2) = false) :
    takeAnnounce e ts s p = unconfirmed (announceHeard s p) (beAt p 1 1 % 8) := by
  have hfirst : (beAt p 0 1, beAt p 2 2) ∉ s.ring.annHeard := by simpa using hnew
  simp [takeAnnounce, announceHeard, hbyp, hother, hknown, hbit, hfirst]

theorem takeAnnounce_confirmed {d : Nat} (hbit : bitOf (beAt p 1 1) 7 = true) (hd : pathDelay s e (beAt p 0 1) = some d)
    (hmay : mayIntegrate s = true) : takeAnnounce e ts s p = enterIntegrating s
      (((nt16 s : Int) + ((timeAt p 8 + d : Nat) : Int) - (quant ts : Nat)).toNat) (timeAt p 18) 0 (beAt p 0 1) := by
  simp [takeAnnounce, hbyp, hother, hknown, hbit, hd, hmay]

end

/-! What an unconfirmed announce does to a candidate (R134, R135). -/

section

variable {s : State} {rank : Nat} (hmay : mayAnnounce s = true) (hst : s.ring.state = .announce) (hc : s.ring.confirmed = false)
include hmay hst hc

theorem unconfirmed_lower (h : rank < s.boot.cfg.rank) :
    let t := unconfirmed s rank
    t.ring.state = .listen ∧ t.ring.annHeard = s.ring.annHeard ∧
      t.ring.listenEnd = some (now s + 4 * tcycTicks s + usTicks (4 * s.boot.cfg.rank)) := by
  intro t
  have hgo : goState (countRing s 12) .listen = { countRing s 12 with ring := { s.ring with state := .listen } } :=
    goState_of_ne (s := countRing s 12) (by simp [countRing, count, hst]) (by simp [countRing, count, hst]) _
  have ht : t = { countRing s 12 with ring := { s.ring with
      state := .listen, listenEnd := some (now s + 4 * tcycTicks s + usTicks (4 * s.boot.cfg.rank)) } } := by
    simp [t, unconfirmed, hmay, hst, hc, h, h.ne, hgo]
    rfl
  rw [ht]
  exact ⟨rfl, rfl, rfl⟩

theorem unconfirmed_equal (h : rank = s.boot.cfg.rank) : unconfirmed s rank = rankConflict s := by
  simp [unconfirmed, hmay, hst, hc, h]

theorem unconfirmed_higher (h : s.boot.cfg.rank < rank) : unconfirmed s rank = s := by
  simp [unconfirmed, hmay, hst, hc, h.ne', h.le]

end

/-- A node that integrates takes the time, the origin and the keystone that it has received (R137). -/
theorem enterIntegrating_fields (s : State) (t16 c0 n keystone : Nat) :
    let t := enterIntegrating s t16 c0 n keystone
    t.ring.state = .integrating ∧ t.cyc.c0 = some c0 ∧ t.cyc.n = n ∧ t.ring.keystone = keystone ∧ t.time.nt = t16 * 2 ^ 32 := by
  obtain ⟨hstate, hnt⟩ := setCounter_sets (goState s .integrating) t16
  unfold enterIntegrating
  dsimp only
  exact ⟨hstate.trans (goState_left s .integrating).2, rfl, rfl, rfl, hnt⟩

/-- A good announce of another node goes on, and decides the cold start. -/
theorem exec_announceRx {s : State} {e : RPort} {o : Octets} {ts : Nat} {r : Bool × State} (hw : Instr.wf (.announceRx e o ts) = true)
    (hg : CtlGood s e o 0x20 ts) (hr : passAll (ringRxCount s e o) e o (parseHdr o) true false false = r) :
    exec (.announceRx e o ts) s = .next (keeping s (if r.1 then takeAnnounce e ts r.2 (ctlPayload o) else r.2)) :=
  exec_eq_keeping rfl hw (ctlForAll_good hg false (takeAnnounce e ts) hr)

theorem OutFrame.imageKnown_eq {s t : State} (h : OutFrame s t) (id : Nat) (cyc : Option Nat) :
    imageKnown t id cyc = imageKnown s id cyc := by
  have hsched : t.sched = s.sched := by
    obtain ⟨⟨-, -, -, -, -, -, -, -, -, -, -, -, -, -, -, -, -, -, hsched, -⟩, -⟩ := h
    exact hsched
  unfold imageKnown
  rw [hsched, h.read (·.cyc.image)]

/-! What an announce decides after its receipt was counted and it went on: in the terms of the state before. -/

section

variable {s a : State} {e : RPort} {ts : Nat} {p : Octets} (hout : OutFrame s a) (hbyp : s.ring.bypassOn = false)
  (hother : beAt p 0 1 ≠ me s) (hknown : imageKnown s (beAt p 4 4) none = true)
include hout hbyp hother hknown

theorem takeAnnounce_unconfirmed_out (hbit : bitOf (beAt p 1 1) 7 = false)
    (hnew : s.ring.annHeard.contains (beAt p 0 1, beAt p 2 2) = false) (hmay : mayAnnounce s = true) (hst : s.ring.state = .announce)
    (hc : s.ring.confirmed = false) :
    let t := takeAnnounce e ts a p
    (beAt p 0 1, beAt p 2 2) ∈ t.ring.annHeard ∧
      (beAt p 1 1 % 8 < s.boot.cfg.rank → t.ring.state = .listen ∧
        t.ring.listenEnd = some (now s + 4 * tcycTicks s + usTicks (4 * s.boot.cfg.rank))) ∧
      (beAt p 1 1 % 8 = s.boot.cfg.rank → t.ring.state = .rankBackoff) ∧
      (s.boot.cfg.rank < beAt p 1 1 % 8 → t.ring.state = .announce) := by
  have hring : a.ring.bypassOn = s.ring.bypassOn ∧ a.ring.annHeard = s.ring.annHeard ∧ a.ring.state = s.ring.state ∧
      a.ring.confirmed = s.ring.confirmed :=
    ⟨hout.read (·.ring.bypassOn), hout.read (·.ring.annHeard), hout.read (·.ring.state), hout.read (·.ring.confirmed)⟩
  obtain ⟨hb, hh, hs, hcf⟩ := hring
  have hrank : (announceHeard a p).boot.cfg.rank = s.boot.cfg.rank := hout.read (·.boot.cfg.rank)
  have hend : now a + 4 * tcycTicks a + usTicks (4 * a.boot.cfg.rank) = now s + 4 * tcycTicks s + usTicks (4 * s.boot.cfg.rank) :=
    hout.read fun a => now a + 4 * tcycTicks a + usTicks (4 * a.boot.cfg.rank)
  have hmay' : mayAnnounce (announceHeard a p) = true := (hout.read mayAnnounce).trans hmay
  have hst' : (announceHeard a p).ring.state = .announce := hs.trans hst
  have hcf' : (announceHeard a p).ring.confirmed = false := hcf.trans hc
  have hmem : (beAt p 0 1, beAt p 2 2) ∈ (announceHeard a p).ring.annHeard := List.mem_cons_self
  intro t
  have ht : t = unconfirmed (announceHeard a p) (beAt p 1 1 % 8) :=
    takeAnnounce_unconfirmed (hb.trans hbyp) (by rwa [hout.read me]) (by rwa [hout.imageKnown_eq]) hbit (by rwa [hh])
  rw [ht]
  rcases Nat.lt_trichotomy (beAt p 1 1 % 8) s.boot.cfg.rank with h | h | h
  · obtain ⟨hstate, hheard, hlisten⟩ := unconfirmed_lower hmay' hst' hcf' (h.trans_eq hrank.symm)
    rw [hheard, hstate]
    exact ⟨hmem, fun _ => ⟨rfl, hlisten.trans (congrArg some hend)⟩, fun g => absurd g h.ne, fun g => absurd g h.not_gt⟩
  · obtain ⟨hstate, hheard⟩ := rankConflict_announced hst'
    rw [unconfirmed_equal hmay' hst' hcf' (h.trans hrank.symm), hstate, hheard]
    exact ⟨hmem, fun g => absurd h g.ne, fun _ => rfl, fun g => absurd h g.ne'⟩
  · rw [unconfirmed_higher hmay' hst' hcf' (hrank.trans_lt h), hst']
    exact ⟨hmem, fun g => absurd g h.not_gt, fun g => absurd g h.ne', fun _ => rfl⟩

theorem takeAnnounce_confirmed_out {d : Nat} (hbit : bitOf (beAt p 1 1) 7 = true)
    (hd : pathDelay a e (beAt p 0 1) = some d) (hmay : mayIntegrate a = true) :
    let t := takeAnnounce e ts a p
    t.ring.state = .integrating ∧ t.cyc.c0 = some (timeAt p 18) ∧ t.cyc.n = 0 ∧ t.ring.keystone = beAt p 0 1 ∧
      t.time.nt = ((nt16 s : Int) + ((timeAt p 8 + d : Nat) : Int) - (quant ts : Nat)).toNat * 2 ^ 32 := by
  have hb : a.ring.bypassOn = s.ring.bypassOn := hout.read (·.ring.bypassOn)
  have hnt : nt16 a = nt16 s := hout.read nt16
  intro t
  have ht : t = _ := takeAnnounce_confirmed (hb.trans hbyp) (by rwa [hout.read me]) (by rwa [hout.imageKnown_eq]) hbit hd hmay
  rw [ht, hnt]
  exact enterIntegrating_fields a _ _ _ _

end

/-- Settles O16: each clause is what one step of the cold start does. -/
theorem ringColdStart : Obligations.ColdStart := by
  unfold Obligations.ColdStart
  refine ⟨?_, ?_, ?_, ?_, ?_, ?_, ?_⟩
  · intro s i d hst hend hd himage
    have h := listenPeriodEnd_announces hst hend hd
    have hc0 : (candidacy s).ring.annC0 = quant (nt16 s) + 3 * tcyc i := by simp [candidacy, himage]
    exact ⟨_, exec_eq_keeping rfl rfl rfl, h.read (·.ring.state), h.read (·.ring.confirmed), (h.read (·.ring.annC0)).trans hc0,
      h.read (·.ring.annEnd), h.read (·.ring.annNext), h.read (·.ring.annSeq), h.read (·.time), h.read (·.cyc)⟩
  · intro s hst
    exact exec_eq_next rfl rfl (listenPeriodEnd_rests hst) rfl
  · intro s hst hc hnext hend
    have h := announceResend_repeats hst hc hnext hend
    exact ⟨_, exec_eq_keeping rfl rfl rfl, h.read (·.ring.annNext), h.read (·.ring.annSeq), (h.read (·.ring.state)).trans hst,
      h.read (·.ring.annC0)⟩
  · intro s hst hc hend
    have h := announceWindowEnd_confirms hst hc hend
    exact ⟨_, exec_eq_keeping rfl rfl rfl, h.read (·.ring.confirmed), h.read (·.ring.keystone), h.read (·.cyc.c0), h.read (·.cyc.n),
      (h.read (·.ring.state)).trans hst, h.read (·.time)⟩
  · intro s hst hc horigin
    exact ⟨_, exec_eq_keeping rfl rfl rfl, cycleOriginReached_synced hst hc horigin⟩
  · intro s hst hend
    have hstate := (startListen_keeps { s with ring := { s.ring with state := .listen } }).1
    exact ⟨_, exec_eq_keeping rfl rfl (rankBackoffEnd_listens hst hend), hstate, fun hcold hr => startListen_coldStart hcold hr⟩
  · intro s e o ts hw hg hknown hother p r
    have hexec := exec_announceRx hw hg (r := r) rfl
    have hbyp : s.ring.bypassOn = false := (by simpa [ctlRuns] using hg.1 : _ ∧ _).2
    refine ⟨fun hr => ?_, fun hr hbit hnew hmay hst hc => ?_, fun d hr hbit hd hmay => ?_⟩
    · rw [hexec, hr, if_neg Bool.false_ne_true]
    all_goals
      have hout := ringRx_passAll_out rfl hr
      rw [hr, if_pos rfl] at hexec
    · exact ⟨_, hexec, takeAnnounce_unconfirmed_out hout hbyp hother hknown hbit hnew hmay hst hc⟩
    · exact ⟨_, hexec, takeAnnounce_confirmed_out hout hbyp hother hknown hbit hd hmay⟩

end Sys2Proof.Machine
end

section
/-! PROOFS. The bypass that goes on and off, and the withdrawal: the statement O17. -/

namespace Sys2Proof.Machine

open Sys2Proof

/-! ### The bypass goes on (R153) -/

theorem bypassSwitchOn_rests {s : State} (h : s.boot.cause = 0 ∨ s.ring.bypassOn = true) : bypassSwitchOn s = s := by
  rcases h with h | h <;> simp [bypassSwitchOn, h]

/-- Where the ring logic itself stops, the origin is dropped too. -/
theorem enterOffline_drop (s : State) : enterOffline s true = dropOrigin (enterOffline s false) := rfl

/-- The node stands OFFLINE in bypass, without an origin and with no withdrawal or event to come; the causes stay. -/
theorem bypassNow_fields (s : State) :
    let t := bypassNow s
    t.ring.bypassOn = true ∧ t.ring.state = .offline ∧ t.cyc.c0 = none ∧ t.boot.cause = s.boot.cause ∧ t.ring.evOut = [] ∧
      t.ring.withdrawBypCycle = none := by
  have hoff := enterOffline_state (recordOp s 2) true
  have hheld := (recordOp_still s 2).held.trans (enterOffline_held (recordOp s 2))
  have hcause : (enterOffline (recordOp s 2) true).boot.cause = s.boot.cause := by
    rw [enterOffline_drop]
    exact hheld.read (·.boot.cause)
  have hclear := (clearEgress_still (enterOffline (recordOp s 2) true) .east).trans (clearEgress_still _ .west)
  unfold bypassNow
  dsimp only
  exact ⟨rfl, (hclear.read (·.ring.state)).trans hoff, hclear.read (·.cyc.c0), (hclear.read (·.boot.cause)).trans hcause, rfl,
    hclear.read (·.ring.withdrawBypCycle)⟩

/-! ### The bypass goes off (R144, R156) -/

/-- A port with link goes IN_RING as the bypass goes off. -/
def joined (s : State) (e : RPort) : State :=
  if (rport s e).state = .down then s
  else setRport s e { rport s e with state := .inRing, restore := 0, beatMiss := 0, beatRun := 0, beatSeen := false }

theorem bothInRing_wiring (s : State) : WiringKept (joined (joined s .east) .west) (bothInRing s) :=
  afterPorts_wiring (joined (joined s .east) .west) (loopedPort s) [.east, .west]

theorem joined_linked {s : State} (he : s.ring.east.state = .linked) (hw : s.ring.west.state = .linked) (e : RPort) :
    (rport (joined (joined s .east) .west) e).state = .inRing := by
  cases e <;> simp [joined, rport, setRport, he, hw]

theorem joined_bypassOn (s : State) (e : RPort) : (joined s e).ring.bypassOn = s.ring.bypassOn := by
  unfold joined
  split
  · rfl
  · exact setRport_ring_bypassOn s e _

section

variable {s : State}

/-- The state with the switch of the bypass off, and the operation's state beside it (R442). -/
def bypassOff (s : State) : State :=
  { s with
    ring := { s.ring with bypassOn := false, bypassBeats := 0, bypassC0 := none }
    boot := { s.boot with opState := if s.boot.opState = 3 ∨ (s.boot.opState = 1 ∧ s.boot.opLast = 3) then 2 else s.boot.opState } }

theorem bypassSwitchOff_rests (h : s.ring.bypassOn = false ∨ s.boot.cause ≠ 0) : bypassSwitchOff s = s := by
  unfold bypassSwitchOff
  split
  · rfl
  · rcases h with h | h <;> simp [h]

/-- With no origin seen through the bypass it waits for its 1 ms. -/
theorem bypassSwitchOff_waits (hc : s.ring.bypassC0 = none) (h : now s < s.ring.bypassSince + msTicks 1) : bypassSwitchOff s = s := by
  have hdue : due s (s.ring.bypassSince + msTicks 1) = false := decide_eq_false h.not_ge
  unfold bypassSwitchOff
  split
  · rfl
  · simp [hdue, hc]

theorem bypassSwitchOff_goes {i : Image} (himage : s.cyc.image = some i) (hon : s.ring.bypassOn = true) (hcause : s.boot.cause = 0)
    (hin : inService s .ring = true) (hseen : s.ring.bypassSince + msTicks 1 ≤ now s ∨
      ∃ c, s.ring.bypassC0 = some c ∧ 2 ≤ s.ring.bypassBeats ∧ bypassIdle s i c = true) :
    bypassSwitchOff s = ringRecheck (bothInRing (recordOp (bypassOff s) 3)) := by
  unfold bypassSwitchOff bypassOff
  rw [himage]
  dsimp only
  rw [if_pos]
  rcases hseen with h | ⟨c, hc, hbeats, hidle⟩
  · have hdue : due s (s.ring.bypassSince + msTicks 1) = true := decide_eq_true h
    simp [hdue, hon, hcause, hin]
  · simp [hc, hbeats, hidle, hon, hcause, hin]

/-- The bypass is off, and both ports that had link are in the ring. -/
theorem ringRecheck_joined (he : s.ring.east.state = .linked) (hw : s.ring.west.state = .linked) :
    let t := ringRecheck (bothInRing (recordOp (bypassOff s) 3))
    t.ring.bypassOn = false ∧ t.ring.east.state = .inRing ∧ t.ring.west.state = .inRing := by
  have hrec := (recordOp_still (bypassOff s) 3)
  have hports := joined_linked ((hrec.port .east (·.state)).trans he) ((hrec.port .west (·.state)).trans hw)
  have hwires := (bothInRing_wiring (recordOp (bypassOff s) 3)).trans (ringRecheck_wiring _)
  intro t
  have hstate : ∀ e, (rport t e).state = .inRing := fun e => (hwires.state_eq e).trans (hports e)
  have hoff : t.ring.bypassOn = false := by
    rw [hwires.bypass_eq, joined_bypassOn, joined_bypassOn]
    exact hrec.read (·.ring.bypassOn)
  clear_value t
  exact ⟨hoff, hstate .east, hstate .west⟩

/-! ### The withdrawal (R490, R491) -/

variable {n b : Nat}

/-- No image activates at the withdrawal's boundary, or the boundary is still to come. -/
theorem withdrawAct_alone (hat : s.ring.withdrawAt = some n) (hb : boundary s n = some b)
    (h : s.sched.actCycle ≠ some n ∨ nt16 s < b) : withdrawAct s = withdrawActTime s := by
  unfold withdrawAct
  rw [hat]
  split
  · next m i hm _ =>
    obtain rfl : n = m := Option.some.inj hm
    refine if_neg ?_
    rintro ⟨hact, hdue⟩
    simp only [hb, Option.any_some, decide_eq_true_eq] at hdue
    rcases h with h | h
    · exact h hact
    · omega
  · rfl

theorem withdrawAct_activates {i : Image} (hat : s.ring.withdrawAt = some n) (hb : boundary s n = some b) (hdue : b ≤ nt16 s)
    (hact : s.sched.actCycle = some n) (hpend : s.sched.pending = some i) : withdrawAct s = withdrawActTime (schedActivation s) := by
  simp [withdrawAct, hat, hb, hdue, hact, hpend]

theorem withdrawActTime_waits (hat : s.ring.withdrawAt = some n) (hb : boundary s n = some b) (h : nt16 s < b) :
    withdrawActTime s = s := by
  simp [withdrawActTime, hat, hb, h]

/-- The state at the withdrawal's instant: it is announced no more, and its bypass follows a cycle later. -/
def withdrawalDue (s : State) (n : Nat) : State :=
  { s with ring := { s.ring with withdrawAt := none, withdrawBypCycle := if s.ring.withdrawByp then some (n + 1) else none } }

theorem withdrawActTime_due (hat : s.ring.withdrawAt = some n) (hb : boundary s n = some b) (hdue : b ≤ nt16 s) :
    withdrawActTime s = activationRecord (if synced s then dropOpen (leaveSync (withdrawalDue s n) 7 .withdrawn) else withdrawalDue s n)
      (objId 0x1B 0) b := by
  unfold withdrawActTime
  rw [hat]
  dsimp only
  rw [hb]
  exact if_neg hdue.not_gt

theorem withdrawActTime_fields (hat : s.ring.withdrawAt = some n) (hb : boundary s n = some b) (hdue : b ≤ nt16 s) :
    let t := withdrawActTime s
    t.ring.withdrawAt = none ∧ (synced s = true → t.ring.state = .withdrawn ∧ t.time.lossReason = 7) ∧
      (synced s = false → t.ring.state = s.ring.state) ∧
      t.ring.withdrawBypCycle = (if s.ring.withdrawByp then some (n + 1) else none) ∧ t.time.nt = s.time.nt := by
  intro t
  have ht : t = _ := withdrawActTime_due hat hb hdue
  cases hs : synced s with
  | true =>
    rw [hs, if_pos rfl] at ht
    obtain ⟨hleft, hstate⟩ := leaveSync_left (withdrawalDue s n) 7 .withdrawn
    have hstill := (dropOpen_still (leaveSync (withdrawalDue s n) 7 .withdrawn)).trans (activationRecord_still _ (objId 0x1B 0) b)
    have hheld := hleft.trans hstill.held
    rw [← ht] at hstill hheld
    exact ⟨hheld.read (·.ring.withdrawAt), fun _ => ⟨(hstill.read (·.ring.state)).trans hstate, hheld.read (·.time.lossReason)⟩,
      fun h => absurd h (by decide), hheld.read (·.ring.withdrawBypCycle), hheld.read (·.time.nt)⟩
  | false =>
    rw [hs, if_neg Bool.false_ne_true] at ht
    have hstill := activationRecord_still (withdrawalDue s n) (objId 0x1B 0) b
    rw [← ht] at hstill
    exact ⟨hstill.read (·.ring.withdrawAt), fun h => absurd h (by decide), fun _ => hstill.read (·.ring.state),
      hstill.read (·.ring.withdrawBypCycle), hstill.read (·.time.nt)⟩

theorem withdrawBypass_rests (h : s.ring.withdrawBypCycle = none) : withdrawBypass s = s := by simp [withdrawBypass, h]

/-- A cause that is set reads as set. -/
theorem bitOf_or_pow (x k : Nat) : bitOf (x ||| 2 ^ k) k = true := by
  have h : (x ||| 2 ^ k).testBit k = true := by simp
  rwa [Nat.testBit_eq_decide_div_mod_eq] at h

/-- The state at the instant at which the bypass follows a withdrawal. -/
def bypassFollows (s : State) : State :=
  { s with ring := { s.ring with withdrawBypCycle := none, cmdBypassByWithdraw := true }
           boot := { s.boot with opLast := 2, opState := 2 } }

theorem withdrawBypass_due (hcyc : s.ring.withdrawBypCycle = some n) (hb : boundary s n = some b) (hdue : b ≤ nt16 s) :
    withdrawBypass s = bypassNow (setCause (bypassFollows s) 5) := by
  unfold withdrawBypass bypassFollows
  rw [hcyc]
  dsimp only
  rw [hb]
  dsimp only
  rw [if_neg hdue.not_gt]

end

/-- Settles O17: each clause is what one step of the bypass or of the withdrawal does. -/
theorem bypassAndWithdrawal : Obligations.BypassAndWithdrawal := by
  unfold Obligations.BypassAndWithdrawal
  refine ⟨?_, ?_, ?_, ?_, ?_, ?_, ?_, ?_, ?_, ?_⟩
  · intro s hcause hoff
    have hon : bypassSwitchOn s = bypassNow s := by simp [bypassSwitchOn, hcause, hoff]
    obtain ⟨hbyp, hstate, hc0, hkept, hev, -⟩ := bypassNow_fields s
    refine ⟨_, exec_eq_keeping rfl rfl hon, ?_⟩
    rw [keeping_ring, keeping_cyc, keeping_boot]
    exact ⟨hbyp, hstate, hc0, hkept, hev⟩
  · intro s h
    exact exec_eq_next rfl rfl (bypassSwitchOn_rests h) rfl
  · intro s i himage hon hcause hin hseen _ he hw
    refine ⟨_, exec_eq_keeping rfl rfl (bypassSwitchOff_goes himage hon hcause hin hseen), ?_⟩
    rw [keeping_ring]
    exact ringRecheck_joined he hw
  · intro s _ hc h
    exact exec_eq_next rfl rfl (bypassSwitchOff_waits hc h) rfl
  · intro s h
    exact exec_eq_next rfl rfl (bypassSwitchOff_rests h) rfl
  · intro s n b hat hb hdue hact
    refine ⟨_, exec_eq_keeping rfl rfl (withdrawAct_alone hat hb (.inl hact)), ?_⟩
    rw [keeping_ring, keeping_time]
    exact withdrawActTime_fields hat hb hdue
  · intro s n b hat hb h
    exact exec_eq_next rfl rfl ((withdrawAct_alone hat hb (.inr h)).trans (withdrawActTime_waits hat hb h)) rfl
  · intro s n b i hat hb hdue hact hpend
    exact exec_eq_keeping rfl rfl (withdrawAct_activates hat hb hdue hact hpend)
  · intro s n b hcyc hb hdue
    obtain ⟨hbyp, hstate, hc0, hkept, -, hnone⟩ := bypassNow_fields (setCause (bypassFollows s) 5)
    have hcause : bitOf (bypassNow (setCause (bypassFollows s) 5)).boot.cause 5 = true := hkept ▸ bitOf_or_pow s.boot.cause 5
    refine ⟨_, exec_eq_keeping rfl rfl (withdrawBypass_due hcyc hb hdue), ?_⟩
    rw [keeping_ring, keeping_cyc, keeping_boot]
    exact ⟨hbyp, hstate, hcause, hnone, hc0⟩
  · intro s h
    exact exec_eq_next rfl rfl (withdrawBypass_rests h) rfl

end Sys2Proof.Machine
end

section
/-! PROOFS. Beats, and the states of the ring ports: the statement O15. -/

namespace Sys2Proof.Machine

open Sys2Proof

/-! ### Beats sent (R128, R142) -/

theorem setRport_setRport (s : State) (e : RPort) (x y : RingPort) : setRport (setRport s e x) e y = setRport s e y := by cases e <;> rfl

theorem rtx_setRport (s : State) (e d : RPort) (x : RingPort) : rtx (setRport s e x) d = rtx s d := by cases e <;> cases d <;> rfl

section

variable {s : State} {e : RPort}

theorem beatDue_held (hc : s.cyc.c0 ≠ none) (hsent : (rport s e).beatSent = boundary s s.cyc.n) : beatDue s e = false := by
  simp [beatDue, Option.isSome_iff_ne_none.mpr hc, hsent]

theorem beatDue_without_origin (hc : s.cyc.c0 = none) : beatDue s e = decide ((rport s e).beatNext ≤ now s) := by
  unfold beatDue
  rw [hc]
  rfl

theorem linkBeatSend_rests (h : (rport s e).state = .down ∨ beatDue s e = false) (ts : Nat) : linkBeatSend s e ts = s := by
  rcases h with h | h <;> simp [linkBeatSend, h]

/-- The beat of a port with its fields (R129). -/
def beatOut (s : State) (e : RPort) (ts : Nat) : Octets :=
  ctlFrame s 0x21 (padTo 48 (beBytes 1 (me s) ++ beBytes 1 (beatStateOct s e) ++ beBytes 1 (rpBit e) ++
    beBytes 1 s.ring.keystone ++ beBytes 4 ((s.cyc.image.map (·.id)).getD 0) ++ timeBytes (quant ts) ++
    timeBytes (s.cyc.c0.getD 0) ++ beBytes 8 (if s.cyc.c0.isSome then s.cyc.n else 0) ++
    beBytes 4 (if (rport s e).state = .linked then (rport s e).restore % 2 ^ 32 else 0) ++ beBytes 1 s.time.nval)) false (rotOfPort s e)

/-- The state in which the beat has gone to the egress. -/
def beatGone (s : State) (e : RPort) (ts : Nat) : State := sendCtl s e (beatOut s e ts) ts

/-- The state in which the next beat of a node without an origin is timed. -/
def beatTimed (u : State) (e : RPort) (t : Nat) : State := setRport u e { rport u e with beatNext := t }

/-- A beat that is due goes; it marks its cycle, or, without an origin, ends a beat period. -/
theorem linkBeatSend_goes (hruns : ctlRuns s = true) (hup : (rport s e).state ≠ .down) (hdue : beatDue s e = true) (ts : Nat) :
    linkBeatSend s e ts =
      if s.cyc.c0.isSome then setRport (beatGone s e ts) e { rport (beatGone s e ts) e with beatSent := boundary s s.cyc.n }
      else readyCheck (beatCycle (beatTimed (beatGone s e ts) e (now (beatGone s e ts) + usTicks 25)) e) e := by
  have hgo : (!ctlRuns s || (rport s e).state == .down || !beatDue s e) = false := by simp [hruns, hup, hdue]
  have hnear : ∀ p, sendNear s e 0x21 p ts = sendCtl s e (ctlFrame s 0x21 p false (rotOfPort s e)) ts := fun _ => if_neg hup
  unfold linkBeatSend
  simp only [hgo, Bool.false_eq_true, if_false, hnear]
  rfl

/-- A port's count of beats at the end of a beat period (R142). -/
def beatCounted (x : RingPort) : RingPort :=
  if x.beatSeen then { x with beatSeen := false, beatRun := x.beatRun + 1, beatMiss := 0 }
  else { x with beatRun := 0, beatMiss := x.beatMiss + 1 }

theorem readyCheck_only (s : State) (e : RPort) : ∃ b, readyCheck s e = setRport s e { rport s e with ready := b } := by
  unfold readyCheck
  dsimp only
  split
  · exact ⟨true, rfl⟩
  · exact ⟨(rport s e).ready, (setRport_rport s e).symm⟩

/-- The end of a beat period changes the port's record alone. -/
theorem beatPeriod_only (u : State) (e : RPort) (t : Nat) : ∃ b, readyCheck (beatCycle (beatTimed u e t) e) e =
    setRport u e { beatCounted { rport u e with beatNext := t } with ready := b } := by
  have hcycle : beatCycle (beatTimed u e t) e = setRport u e (beatCounted { rport u e with beatNext := t }) := by
    rw [beatCycle, beatTimed, setRport_setRport, rport_setRport]
    rfl
  obtain ⟨b, hb⟩ := readyCheck_only (beatCycle (beatTimed u e t) e) e
  rw [hcycle, setRport_setRport, rport_setRport] at hb
  exact ⟨b, hcycle ▸ hb⟩

theorem beatPeriod_fields (u : State) (e : RPort) (n : Nat) :
    let t := readyCheck (beatCycle (beatTimed u e n) e) e
    rtx t e = rtx u e ∧ t.trace = u.trace ∧ (rport t e).beatNext = n ∧ (rport t e).beatSeen = false ∧
      ((rport u e).beatSeen = true → (rport t e).beatRun = (rport u e).beatRun + 1 ∧ (rport t e).beatMiss = 0) ∧
      ((rport u e).beatSeen = false → (rport t e).beatRun = 0 ∧ (rport t e).beatMiss = (rport u e).beatMiss + 1) := by
  intro t
  obtain ⟨b, hb⟩ : ∃ b, t = _ := beatPeriod_only u e n
  rw [hb, rtx_setRport, setRport_trace, rport_setRport]
  cases hseen : (rport u e).beatSeen <;> simp [beatCounted, hseen]

end

/-! ### Beats received (R129, R144, R149) -/

section

variable {s : State} {e : RPort} {o : Octets} {ts : Nat}

theorem rport_ringRxCount (s : State) (e d : RPort) (o : Octets) : rport (ringRxCount s e o) d = rport s d :=
  (ringRxCount_unseen s e o).read (rport · d)

/-- What a good beat does at a node out of bypass: with an image that is not known, to the state of its port alone. -/
theorem linkBeatRx_good (hg : CtlGood s e o 0x21 ts) :
    let p := ctlPayload o
    linkBeatRx s e o ts =
      if imageKnown s (beAt p 4 4) (some (beAt p 28 8)) then
        beatRing (restoreStep (beatPortState (beatTaken (bypassDetect (ringRxCount s e o) e (beAt p 0 1)) e p (quant ts))
          e (beAt p 1 1) (timeAt p 18) (beAt p 28 8) false) e (beAt p 0 1) (beAt p 28 8) (beAt p 4 4)) e p (quant ts)
      else beatPortState (countPort (ringRxCount s e o) (rpIdx e) 33) e (beAt p 1 1) (timeAt p 18) (beAt p 28 8) true := by
  obtain ⟨hruns, hup, hcheck, hseg, hid, hfcs⟩ := hg
  obtain ⟨hin, hbyp⟩ : inService s .ring = true ∧ s.ring.bypassOn = false := by simpa [ctlRuns] using hruns
  have haccept : ctlAccept s e o 0x21 ts false = (some (parseHdr o, true), ringRxCount s e o) := by
    simp [ctlAccept, hcheck, hseg, hid, hfcs]
  have hb : (ringRxCount s e o).ring.bypassOn = false := ((ringRxCount_unseen s e o).read (·.ring.bypassOn)).trans hbyp
  have hk := (ringRxCount_out s e o).imageKnown_eq (beAt (ctlPayload o) 4 4) (some (beAt (ctlPayload o) 28 8))
  cases hknown : imageKnown s (beAt (ctlPayload o) 4 4) (some (beAt (ctlPayload o) 28 8)) <;>
    simp [linkBeatRx, linkBeatIn, throughBypass_off hbyp, hin, haccept, hb, hk, hknown, rport_ringRxCount, hup]

end

section

variable {s : State} {e : RPort}

/-- A sender that is not new has not changed its bypass. -/
theorem bypassDetect_same {sender : Nat} (h : (rport s e).beatFrom = 0xFF ∨ (rport s e).beatFrom = sender) :
    bypassDetect s e sender = s := if_pos h

/-- A beat that does not say that its port is looped, of no origin or the node's own, leaves a port in the ring. -/
theorem beatPortState_stays {st c0 cycNo : Nat} (hin : (rport s e).state = .inRing) (hloop : bitOf st 3 = false)
    (hc0 : c0 = 0 ∨ s.cyc.c0 = some c0) : beatPortState s e st c0 cycNo false = s := by
  rcases hc0 with h | h <;> simp [beatPortState, hin, hloop, h]

/-- A beat of another origin takes a port of a node that holds one out of the ring. -/
theorem beatPortState_other_origin {st c0 cycNo : Nat} (hin : (rport s e).state = .inRing) (hheld : s.cyc.c0 ≠ none) (h0 : c0 ≠ 0)
    (hc0 : s.cyc.c0 ≠ some c0) (foreign : Bool) : beatPortState s e st c0 cycNo foreign = setPortState s e .linked := by
  simp [beatPortState, hin, Option.isSome_iff_ne_none.mpr hheld, h0, hc0]

/-- A port of a node that holds an origin does not return to the ring by a beat alone. -/
theorem beatPortState_out {st c0 cycNo : Nat} (hout : (rport s e).state ≠ .inRing) (hheld : s.cyc.c0 ≠ none) (foreign : Bool) :
    beatPortState s e st c0 cycNo foreign = s := by
  unfold beatPortState
  dsimp only
  split
  · contradiction
  · exact if_neg (by simp [Option.isSome_iff_ne_none.mpr hheld])
  · rfl

theorem restoreStep_not_ready {sender cycNo id : Nat} (h : (rport s e).ready = false) : restoreStep s e sender cycNo id = s := by
  simp [restoreStep, h]

/-- The restore handshake agrees on a cycle at most: no port changes its state. -/
theorem restoreStep_kept (s : State) (e : RPort) (sender cycNo id : Nat) :
    WiringKept s (restoreStep s e sender cycNo id) ∧ (restoreStep s e sender cycNo id).ring.state = s.ring.state := by
  have hset : ∀ n, WiringKept s (setRport s e { rport s e with restore := n }) ∧
      (setRport s e { rport s e with restore := n }).ring.state = s.ring.state := fun n =>
    ⟨setRport_wiring rfl rfl fun _ => rfl, setRport_ring_state s e _⟩
  have hfed : Still s (feedSystem (countPort s (rpIdx e) 37) 272 0 0) := (countPort_unseen s _ _).still.trans (feedSystem_still _ _ _ _)
  have hself : WiringKept s s ∧ s.ring.state = s.ring.state := ⟨.refl s, rfl⟩
  have hite : ∀ {c : Prop} [Decidable c] {t u : State}, WiringKept s t ∧ t.ring.state = s.ring.state →
      WiringKept s u ∧ u.ring.state = s.ring.state →
      WiringKept s (if c then t else u) ∧ (if c then t else u).ring.state = s.ring.state := by
    intros
    split <;> assumption
  unfold restoreStep
  dsimp only
  exact hite hself (hite ⟨hfed.wiring, hfed.read (·.ring.state)⟩ (hite (hite (hset _) hself) (hite (hset _) hself)))

/-- A synchronised node neither integrates nor listens. -/
theorem beatRing_synced (hst : s.ring.state = .synchronised) (p : Octets) (ts : Nat) : beatRing s e p ts = s := by
  simp [beatRing, mayIntegrate, hst]

end

/-! ### Ports that leave the ring and return (R142, R149) -/

section

variable {s : State} {e : RPort}

/-- Where the other port stays in the ring, or the port comes into it, a change of its state loses no ring: its abutments begin and end,
and that is all. -/
theorem setPortState_still {st : PortState} (hne : (rport s e).state ≠ st) (hin : st = .inRing ∨ inRing s (otherPort e) = true) :
    let s1 := setRport s e (portWith (rport s e) st)
    Still (withEvents s1 (beginEvents s1 (loopedPort s) ++ endEvents s1 (loopedPort s))) (setPortState s e st) := by
  intro s1
  have hself : inRing s1 e = (st == .inRing) := by simp [s1, inRing, portWith]
  have hother : inRing s1 (otherPort e) = inRing s (otherPort e) := by simp only [s1, inRing, rport_setRport_other]
  have hany : inRing s1 e = true ∨ inRing s1 (otherPort e) = true := by
    rw [hself, hother]
    exact hin.imp_left (by simp [·])
  rw [setPortState_eq hne]
  refine afterPorts_still (.inr ?_) _ _
  cases e
  · exact hany
  · exact hany.symm

theorem missingBeats_rests (h : (rport s e).state ≠ .inRing ∨ (rport s e).beatMiss < 8) : missingBeats s e = s := by
  refine if_neg ?_
  simp only [inRing, Bool.and_eq_true, beq_iff_eq, decide_eq_true_eq, not_and]
  intro hin
  have := h.resolve_left (absurd hin)
  omega

theorem missingBeats_leaves (hin : inRing s e = true) (hmiss : 8 ≤ (rport s e).beatMiss) :
    missingBeats s e = setPortState s e .linked := by
  simp [missingBeats, hin, hmiss]

theorem restoreReached_rests (h : (rport s e).state ≠ .linked) : restoreReached s e = s := by
  unfold restoreReached
  dsimp only
  split
  · rfl
  · exact if_neg fun g => h g.1

/-- The port is back in the ring, with the restore cycle kept for its beats. -/
def portRestored (s : State) (e : RPort) : State :=
  setRport (setPortState s e .inRing) e { rport (setPortState s e .inRing) e with restore := (rport s e).restore }

theorem restoreReached_returns {b : Nat} (hc0 : s.cyc.c0 ≠ none) (hb : boundary s (rport s e).restore = some b) (hdue : b ≤ nt16 s)
    (hst : (rport s e).state = .linked) (hr : (rport s e).restore ≠ 0) (hrep : (rport s e).beatRestore = (rport s e).restore % 2 ^ 32) :
    restoreReached s e =
      if loopedPort s = some e then portRestored s e else dueEvent (portRestored s e) 2 e (rport s e).beatFrom := by
  obtain ⟨c, hc⟩ := Option.ne_none_iff_exists'.mp hc0
  have hall : (rport s e).state = .linked ∧ (rport s e).restore ≠ 0 ∧ (rport s e).beatRestore = (rport s e).restore % 2 ^ 32 ∧
      (b : Int) ≤ (nt16 s : Int) := ⟨hst, hr, hrep, Int.ofNat_le.mpr hdue⟩
  unfold restoreReached
  simp only [hc, hb]
  exact if_pos hall

/-- The port that is looped has the other one in the ring. -/
theorem inRing_of_looped (h : loopedPort s = some e) : inRing s (otherPort e) = true := by
  cases e <;> unfold loopedPort at h <;> split at h <;> simp_all [otherPort]

/-- Where both ports are in the ring the abutment of the looped one ends. -/
theorem endEvents_both (hself : inRing s e = true) (hother : inRing s (otherPort e) = true) :
    endEvents s (some e) = [(2, rpBit e, (rport s e).beatFrom, s.cyc.n)] := by
  cases e <;> simp_all [endEvents, otherPort]

theorem portRestored_fields (hst : (rport s e).state = .linked) :
    let u := portRestored s e
    (rport u e).state = .inRing ∧ (rport u e).restore = (rport s e).restore ∧ u.cyc.n = s.cyc.n ∧
      (loopedPort s = some e → (2, rpBit e, (rport s e).beatFrom, s.cyc.n) ∈ u.ring.evOut) := by
  intro u
  have hstill := setPortState_still (s := s) (e := e) (st := .inRing) (by simp [hst]) (.inl rfl)
  have hport : rport u e = { rport (setPortState s e .inRing) e with restore := (rport s e).restore } := rport_setRport _ _ _
  have hn : u.cyc.n = s.cyc.n := by
    rw [show u.cyc = (setPortState s e .inRing).cyc from setRport_cyc .., hstill.read (·.cyc)]
    exact congrArg CycleSt.n (setRport_cyc ..)
  refine ⟨?_, ?_, hn, fun hloop => ?_⟩
  · rw [hport, setPortState_state]
  · rw [hport]
  · have hself : inRing (setRport s e (portWith (rport s e) .inRing)) e = true := by simp [inRing, portWith]
    have hother : inRing (setRport s e (portWith (rport s e) .inRing)) (otherPort e) = true := by
      rw [inRing, rport_setRport_other]
      exact inRing_of_looped hloop
    have hend := endEvents_both hself hother
    rw [rport_setRport, setRport_cyc] at hend
    have hev : u.ring.evOut = _ := (setRport_ring_evOut ..).trans (hstill.read (·.ring.evOut))
    rw [hev]
    exact List.mem_append_right _ (List.mem_append_right _ (hloop ▸ hend ▸ List.mem_singleton_self _))

/-- A port that returns says that its abutment has ended: the change of its state says so where the port was the looped one, and the
restore itself where it was not. -/
theorem restoreReached_says {b : Nat} (hc0 : s.cyc.c0 ≠ none) (hb : boundary s (rport s e).restore = some b) (hdue : b ≤ nt16 s)
    (hst : (rport s e).state = .linked) (hr : (rport s e).restore ≠ 0) (hrep : (rport s e).beatRestore = (rport s e).restore % 2 ^ 32) :
    let t := restoreReached s e
    (rport t e).state = .inRing ∧ (rport t e).restore = (rport s e).restore ∧
      (2, rpBit e, (rport s e).beatFrom, s.cyc.n) ∈ t.ring.evOut := by
  intro t
  obtain ⟨hstate, hrestore, hn, hev⟩ := portRestored_fields hst
  have ht : t = _ := restoreReached_returns hc0 hb hdue hst hr hrep
  rw [ht]
  split
  · next hloop => exact ⟨hstate, hrestore, hev hloop⟩
  · have hport : rport (dueEvent (portRestored s e) 2 e (rport s e).beatFrom) e = rport (portRestored s e) e := by cases e <;> rfl
    rw [hport, ← hn]
    exact ⟨hstate, hrestore, List.mem_append_right _ (List.mem_singleton_self _)⟩

/-! ### Signals that are lost (R144) -/

theorem startListen_wiring (s : State) : WiringKept s (startListen s) := by
  unfold startListen
  dsimp only
  split
  · exact (countRing_out s 10).still.wiring.trans (.of_ring rfl rfl rfl)
  · exact .of_ring rfl rfl rfl

theorem calCheck_wiring (s : State) : WiringKept s (calCheck s) :=
  .ite ((goState_wiring s .listen).trans (startListen_wiring _)) (.refl s)

/-- The state at the end of a round of bursts: its hops are taken, and a report is due. -/
def roundOver (s : State) : State :=
  let t := takeHops s
  { t with ring := { t.ring with reportDue := some (if t.cyc.c0.isSome then t.cyc.n + 1 else 0) } }

/-- The state in which a round of the calibration has ended and the next has its deadline. -/
def calOnceOver (s : State) : State := { s with ring := { s.ring with calEnded := true, calDeadline := now s + msTicks 20 } }

/-- A burst that is needed again, at a port that is up. -/
def burstAgain (s : State) (e : RPort) : State := if (rport s e).state != .down && !(rport s e).burstOk then startBurst s e else s

theorem burstRound_eq (s : State) : burstRound s =
    if burstOver s .east && burstOver s .west then
      if (roundOver s).ring.state = .calibrating then calCheck (burstAgain (burstAgain (calOnceOver (roundOver s)) .east) .west)
      else roundOver s
    else s := rfl

theorem burstRound_wiring (s : State) : WiringKept s (burstRound s) := by
  have hagain : ∀ t x, WiringKept t (burstAgain t x) := fun t x => .ite (startBurst_wiring t x) (.refl t)
  have hround : WiringKept s (roundOver s) := .of_ring rfl rfl rfl
  have hcal : WiringKept (roundOver s) (calOnceOver (roundOver s)) := .of_ring rfl rfl rfl
  rw [burstRound_eq]
  exact .ite (.ite ((((hround.trans hcal).trans (hagain _ _)).trans (hagain _ _)).trans (calCheck_wiring _)) hround) (.refl s)

/-- The record of a port that has lost its signal. -/
def linkless (x : RingPort) : RingPort :=
  { x with link := false, burstNo := none, outT1 := none, exch := [], firstBurst := true, burstOk := false, reportApplied := false
           beatRun := 0, verL := false, verH := false, verTries := 0, verNext := 0 }

/-- The state in which the port is DOWN and its link gone. -/
def linkLost (s : State) (e : RPort) : State :=
  let t := setPortState (perf (countPort s (rpIdx e) 18) (pPort (rpIdx e) 9)) e .down
  dropCtx (dropCtx (setRport t e (linkless (rport t e))) (2 * rpBit e)) (2 * rpBit e + 1)

theorem ringLinkDown_lost (h : (rport s e).link = true) : ringLinkDown s e =
    if !(linkLost s e).ring.east.link && !(linkLost s e).ring.west.link then enterOffline (linkLost s e) false
    else if (rport s e).burstNo.isSome then burstRound (linkLost s e) else linkLost s e :=
  if_neg (by simp [h])

theorem linkLost_port (s : State) (e : RPort) : (rport (linkLost s e) e).state = .down ∧ (rport (linkLost s e) e).link = false ∧
    (rport (linkLost s e) e).burstNo = none ∧ (rport (linkLost s e) (otherPort e)).link = (rport s (otherPort e)).link := by
  have hdrop : ∀ t, Still t (dropCtx (dropCtx t (2 * rpBit e)) (2 * rpBit e + 1)) := fun t =>
    (dropCtx_still t _).trans (dropCtx_still _ _)
  have hcount := ((countPort_unseen s (rpIdx e) 18).still.unseen (perf_unseen _ (pPort (rpIdx e) 9)))
  unfold linkLost
  dsimp only
  generalize hu : perf (countPort s (rpIdx e) 18) (pPort (rpIdx e) 9) = u at hcount
  have hstate := setPortState_state u e .down
  have hlink := setPortState_other_link u e .down
  generalize setPortState u e .down = t at hstate hlink
  refine ⟨((hdrop _).port e (·.state)).trans ?_, ((hdrop _).port e (·.link)).trans ?_, ((hdrop _).port e (·.burstNo)).trans ?_,
    ((hdrop _).port (otherPort e) (·.link)).trans ?_⟩
  · rw [rport_setRport]; exact hstate
  · rw [rport_setRport]; rfl
  · rw [rport_setRport]; rfl
  · rw [rport_setRport_other, hlink]; exact hcount.port (otherPort e) (·.link)

theorem links_gone (hself : (rport s e).link = false) (hother : (rport s (otherPort e)).link = false) :
    (!s.ring.east.link && !s.ring.west.link) = true := by
  cases e <;> simp_all [rport, otherPort]

/-- A node of which no port has a link is offline. -/
theorem ringLinkDown_fields (h : (rport s e).link = true) :
    let t := ringLinkDown s e
    (rport t e).state = .down ∧ (rport t e).link = false ∧ (rport t e).burstNo = none ∧
      (rport t (otherPort e)).link = (rport s (otherPort e)).link ∧
      ((rport s (otherPort e)).link = false → t.ring.state = .offline) := by
  intro t
  obtain ⟨hstate, hlink, hburst, hother⟩ := linkLost_port s e
  have ht : t = _ := ringLinkDown_lost h
  have hkept : WiringKept (linkLost s e) t := by
    rw [ht]
    exact .ite (enterOffline_held _).wiring (.ite (burstRound_wiring _) (.refl _))
  refine ⟨(hkept.state_eq e).trans hstate, (hkept.link_eq e).trans hlink, (hkept.burst_eq e hstate).trans hburst,
    (hkept.link_eq _).trans hother, fun hnone => ?_⟩
  rw [ht, if_pos (links_gone hlink (hother.trans hnone))]
  exact enterOffline_state _ _

end

/-! ### Good beats (R129, R144) -/

/-- The state in which a beat is counted and its fields are kept. -/
def beatKept (s : State) (e : RPort) (o : Octets) (t : Nat) : State := beatTaken (ringRxCount s e o) e (ctlPayload o) t

/-- The record of the port is kept from before the frame was counted. -/
theorem beatKept_eq (s : State) (e : RPort) (o : Octets) (t : Nat) :
    let p := ctlPayload o
    beatKept s e o t = setRport (ringRxCount s e o) e { rport s e with
      beatFrom := beAt p 0 1, beatC0 := timeAt p 18, beatState := beAt p 1 1, beatPort := beAt p 2 1 % 2
      beatDiff := (t : Int) - ((timeAt p 8 + dIn s e : Nat) : Int), beatRestore := beAt p 36 4, beatSeen := true } := by
  have hdin : dIn (ringRxCount s e o) e = dIn s e := (ringRxCount_unseen s e o).read (dIn · e)
  rw [beatKept, beatTaken, rport_ringRxCount, hdin]

theorem beatKept_wiring (s : State) (e : RPort) (o : Octets) (t : Nat) : WiringKept s (beatKept s e o t) :=
  (ringRxCount_unseen s e o).still.wiring.trans (setRport_wiring rfl rfl fun _ => rfl)

theorem beatKept_c0 (s : State) (e : RPort) (o : Octets) (t : Nat) : (beatKept s e o t).cyc.c0 = s.cyc.c0 :=
  (congrArg CycleSt.c0 (setRport_cyc ..)).trans ((ringRxCount_unseen s e o).read (·.cyc.c0))

theorem beatKept_ring_state (s : State) (e : RPort) (o : Octets) (t : Nat) : (beatKept s e o t).ring.state = s.ring.state :=
  (setRport_ring_state ..).trans ((ringRxCount_unseen s e o).read (·.ring.state))

theorem beatKept_ready (s : State) (e : RPort) (o : Octets) (t : Nat) : (rport (beatKept s e o t) e).ready = (rport s e).ready := by
  rw [beatKept_eq, rport_setRport]

section

variable {s : State} {e : RPort} {o : Octets} {ts : Nat}

/-- A beat of the image in force, of a sender that is not new, is kept before its port's state is judged. -/
theorem linkBeatRx_known (hg : CtlGood s e o 0x21 ts)
    (hknown : imageKnown s (beAt (ctlPayload o) 4 4) (some (beAt (ctlPayload o) 28 8)) = true)
    (hfrom : (rport s e).beatFrom = 0xFF ∨ (rport s e).beatFrom = beAt (ctlPayload o) 0 1) :
    let p := ctlPayload o
    linkBeatRx s e o ts = beatRing (restoreStep
      (beatPortState (beatKept s e o (quant ts)) e (beAt p 1 1) (timeAt p 18) (beAt p 28 8) false)
      e (beAt p 0 1) (beAt p 28 8) (beAt p 4 4)) e p (quant ts) := by
  have hsame : bypassDetect (ringRxCount s e o) e (beAt (ctlPayload o) 0 1) = ringRxCount s e o :=
    bypassDetect_same (by rwa [rport_ringRxCount])
  rw [linkBeatRx_good hg, if_pos hknown, hsame]
  rfl

/-- With no other origin, and no restore ready, the beat is kept and no more. -/
theorem linkBeatRx_kept (hg : CtlGood s e o 0x21 ts) (hst : s.ring.state = .synchronised)
    (hknown : imageKnown s (beAt (ctlPayload o) 4 4) (some (beAt (ctlPayload o) 28 8)) = true) (hin : (rport s e).state = .inRing)
    (hfrom : (rport s e).beatFrom = 0xFF ∨ (rport s e).beatFrom = beAt (ctlPayload o) 0 1)
    (hloop : bitOf (beAt (ctlPayload o) 1 1) 3 = false)
    (hc0 : timeAt (ctlPayload o) 18 = 0 ∨ s.cyc.c0 = some (timeAt (ctlPayload o) 18)) (hready : (rport s e).ready = false) :
    linkBeatRx s e o ts = beatKept s e o (quant ts) := by
  rw [linkBeatRx_known hg hknown hfrom,
    beatPortState_stays (by rwa [(beatKept_wiring ..).state_eq]) hloop (by rwa [beatKept_c0]),
    restoreStep_not_ready (by rwa [beatKept_ready]), beatRing_synced (by rwa [beatKept_ring_state])]

/-- A beat of another origin takes its port out of the ring, and the other port holds the ring. -/
theorem linkBeatRx_out (hg : CtlGood s e o 0x21 ts) (hst : s.ring.state = .synchronised)
    (hheld : s.cyc.c0 ≠ none) (hknown : imageKnown s (beAt (ctlPayload o) 4 4) (some (beAt (ctlPayload o) 28 8)) = true)
    (hin : (rport s e).state = .inRing) (hfrom : (rport s e).beatFrom = 0xFF ∨ (rport s e).beatFrom = beAt (ctlPayload o) 0 1)
    (h0 : timeAt (ctlPayload o) 18 ≠ 0) (hc0 : s.cyc.c0 ≠ some (timeAt (ctlPayload o) 18)) (hother : inRing s (otherPort e) = true) :
    let t := linkBeatRx s e o ts
    (rport t e).state = .linked ∧ (rport t (otherPort e)).state = .inRing ∧ t.ring.state = .synchronised := by
  intro t
  have ht : t = _ := linkBeatRx_known hg hknown hfrom
  have hwires := beatKept_wiring s e o (quant ts)
  have hself := (hwires.state_eq e).trans hin
  have hheld' := beatKept_c0 s e o (quant ts)
  have hstate := (beatKept_ring_state s e o (quant ts)).trans hst
  have hkeeps := (hwires.inRing_eq (otherPort e)).trans hother
  generalize beatKept s e o (quant ts) = v at ht hself hheld' hstate hkeeps
  rw [beatPortState_other_origin hself (by rwa [hheld']) h0 (by rwa [hheld'])] at ht
  have hstill := setPortState_still (s := v) (e := e) (st := .linked) (by simp [hself]) (.inr hkeeps)
  have hleft : (setPortState v e .linked).ring.state = .synchronised :=
    (hstill.read (·.ring.state)).trans ((setRport_ring_state ..).trans hstate)
  obtain ⟨hports, hring⟩ := restoreStep_kept (setPortState v e .linked) e (beAt (ctlPayload o) 0 1) (beAt (ctlPayload o) 28 8)
    (beAt (ctlPayload o) 4 4)
  rw [beatRing_synced (hring.trans hleft)] at ht
  rw [ht]
  exact ⟨(hports.state_eq e).trans (setPortState_state v e .linked),
    ((hports.state_eq _).trans (setPortState_other v e .linked)).trans (beq_iff_eq.mp hkeeps), hring.trans hleft⟩

/-- A beat of another image is counted, where its port is out of the ring and the node holds an origin. -/
theorem linkBeatRx_foreign (hg : CtlGood s e o 0x21 ts) (hheld : s.cyc.c0 ≠ none)
    (hknown : imageKnown s (beAt (ctlPayload o) 4 4) (some (beAt (ctlPayload o) 28 8)) = false) (hout : (rport s e).state ≠ .inRing) :
    linkBeatRx s e o ts = countPort (ringRxCount s e o) (rpIdx e) 33 := by
  have hcount : Still s (countPort (ringRxCount s e o) (rpIdx e) 33) :=
    (ringRxCount_unseen s e o).still.unseen (countPort_unseen _ (rpIdx e) 33)
  rw [linkBeatRx_good hg, if_neg (by simp [hknown])]
  exact beatPortState_out (by rwa [hcount.port e (·.state)]) (by rwa [hcount.read (·.cyc.c0)]) true

end

/-- Settles O15: each clause is what one step of the beats or of the ports' states does. -/
theorem beatsAndPortStates : Obligations.BeatsAndPortStates := by
  unfold Obligations.BeatsAndPortStates
  refine ⟨?_, ?_, ?_, ?_, ?_, ?_, ?_, ?_, ?_, ?_⟩
  · intro s e ts hw hruns hup hdue x pay u
    have hgoes := linkBeatSend_goes hruns hup hdue ts
    have hgone : Still s (beatGone s e ts) := (sendCtl_out ..).still
    refine ⟨fun hc0 => exec_eq_keeping rfl hw (hgoes.trans (if_pos (Option.isSome_iff_ne_none.mpr hc0))), fun hc0 => ?_⟩
    have hfields := beatPeriod_fields (beatGone s e ts) e (now s + usTicks 25)
    rw [if_neg (by simp [hc0]), hgone.read now] at hgoes
    rw [hgone.port e (·.beatSeen), hgone.port e (·.beatRun), hgone.port e (·.beatMiss)] at hfields
    refine ⟨_, exec_eq_keeping rfl hw hgoes, ?_⟩
    rw [rtx_keeping, rport_keeping, keeping_trace]
    exact hfields
  · intro s e ts hw h
    exact exec_eq_next rfl hw (linkBeatSend_rests h ts) rfl
  · intro s e
    exact ⟨beatDue_held, beatDue_without_origin⟩
  · intro s e o ts hw hg hst hheld hknown hin hfrom hloop p
    refine ⟨fun hc0 hready => ?_, fun h0 hc0 hother => ?_⟩
    · exact exec_eq_keeping rfl hw ((linkBeatRx_kept hg hst hknown hin hfrom hloop hc0 hready).trans (beatKept_eq s e o _))
    · refine ⟨_, exec_eq_keeping rfl hw rfl, ?_⟩
      rw [keeping_ring, rport_keeping, rport_keeping]
      exact linkBeatRx_out hg hst hheld hknown hin hfrom h0 hc0 hother
  · intro s e o ts hw hg hheld hknown hout _
    exact exec_eq_keeping rfl hw (linkBeatRx_foreign hg hheld hknown hout)
  · intro s e hw hin hmiss
    refine ⟨_, exec_eq_keeping rfl hw (missingBeats_leaves hin hmiss), ?_⟩
    rw [rport_keeping, rport_keeping]
    exact ⟨setPortState_state s e .linked, setPortState_other s e .linked⟩
  · intro s e hw h
    exact exec_eq_next rfl hw (missingBeats_rests h) rfl
  · intro s e hw hlink
    refine ⟨_, exec_eq_keeping rfl hw rfl, ?_⟩
    rw [keeping_ring, rport_keeping, rport_keeping]
    exact ringLinkDown_fields hlink
  · intro s e b hw hc0 hb hdue hst hr hrep
    refine ⟨_, exec_eq_keeping rfl hw rfl, ?_⟩
    rw [keeping_ring, rport_keeping]
    exact restoreReached_says hc0 hb hdue hst hr hrep
  · intro s e hw h
    exact exec_eq_next rfl hw (restoreReached_rests h) rfl

end Sys2Proof.Machine
end

section
/-! PROOFS. Cell requests that fail, and frames that return from the cellar: the statement O20. -/

namespace Sys2Proof.Machine

/- The proofs below run one at a time: each waits for those it cites, and many that wait need many threads. -/
set_option Elab.async false

open Sys2Proof

theorem keeping_vat (s t : State) : (keeping s t).vat = t.vat := rfl

theorem keeping_eg (s t : State) : (keeping s t).eg = t.eg := rfl

theorem queueAt_keeping (s t : State) (k : Nat) : queueAt (keeping s t) k = queueAt t k := rfl

theorem frameAt_keeping (s t : State) (h : Nat) : frameAt (keeping s t) h = frameAt t h := rfl

/-! ### Cell requests (R177, R180) -/

/-- The counter of a refused request touches neither the vat nor the egress. -/
theorem countOverflow_kept (s : State) (acct : Nat) : (countOverflow s acct).vat = s.vat ∧ (countOverflow s acct).eg = s.eg := by
  have hperf := perf_unseen s (pAcct acct 2)
  have h : Unseen s (countOverflow s acct) := by
    unfold countOverflow
    dsimp only
    split
    · exact (hperf.trans (countN_unseen _ 0x01 acct 40 1)).trans (perf_unseen _ _)
    · split
      · exact hperf.trans (countN_unseen _ 0x07 0 16 1)
      · exact hperf.trans (countN_unseen _ 0x09 (acct - 19) 6 1)
  exact ⟨h.read (·.vat), h.read (·.eg)⟩

/-- A frame that fails gives its cells back, whatever its cause. -/
theorem failArrival_kept (s : State) (a : Arrival) (c : NoCell) :
    (failArrival s a c).vat = (freeCells s a.fr).vat ∧ (failArrival s a c).eg = s.eg := by
  have hcount := countOverflow_kept (discardArrival s a) a.fr.acct
  cases c <;> exact hcount

/-- A request that is not due, or is not there, waits on. -/
theorem cellTimeout_rests {s : State} {i : Nat}
    (h : s.vat.waits[i]? = none ∨ ∃ a, s.vat.waits[i]? = some a ∧ now s < a.since + 32) : cellTimeout s i = s := by
  unfold cellTimeout
  obtain hnone | ⟨a, ha, hnow⟩ := h
  · rw [hnone]
  · rw [ha]
    exact if_neg (by simpa [due, now] using hnow)

/-- A request that has waited 32 ticks fails, and its frame's cells are free. -/
theorem cellTimeout_due {s : State} {i : Nat} {a : Arrival} (ha : s.vat.waits[i]? = some a) (hdue : a.since + 32 ≤ now s) :
    (cellTimeout s i).vat = (freeCells { s with vat := { s.vat with waits := s.vat.waits.eraseIdx i } } a.fr).vat ∧
      (cellTimeout s i).eg = s.eg := by
  unfold cellTimeout
  rw [ha]
  dsimp only
  rw [if_pos (by simpa [due, now] using hdue)]
  split <;> exact failArrival_kept _ a _

/-! ### Returns from the cellar (R186) -/

theorem queueAt_setEntry (s : State) (k h : Nat) (st : QState) :
    queueAt (setEntry s k h st) k = (queueAt s k).map (fun e => if e.h = h then { e with state := st } else e) := queueAt_setQueue s k _

theorem queueAt_setEntry_ne {s : State} {k h j : Nat} {st : QState} (hj : j ≠ k) : queueAt (setEntry s k h st) j = queueAt s j :=
  queueAt_setQueue_ne s k j _ hj

/-- A returning frame holds cells of the shared pool again, charged to its destination. -/
def returningFrame (s : State) (k : Nat) (e : QEnt) : VFrame :=
  let v := frameAt s e.h
  { v with pool := v.pool + cellsOf v.data.length, inCellar := false, charged := setInsert v.charged (destOfQueue k) }

/-- The pool, the account and the destination once a return has taken its cells. -/
def returnCharged (s : State) (k : Nat) (e : QEnt) : State :=
  let v := frameAt s e.h
  let n := cellsOf v.data.length
  { s with vat := { s.vat with
      poolUsed := s.vat.poolUsed + n
      acctCells := tblAdd s.vat.acctCells v.acct n
      destCells := tblAdd s.vat.destCells (destOfQueue k) (v.cells + n) } }

/-- The state in which a return has started. -/
def returnStarted (s : State) (k : Nat) (e : QEnt) : State :=
  useCellar (setEntry (setFrame (returnCharged s k e) e.h (returningFrame s k e)) k e.h .returning)

theorem returnStarted_queues (s : State) (k : Nat) (e : QEnt) :
    queueAt (returnStarted s k e) k = (queueAt s k).map (fun x => if x.h = e.h then { x with state := .returning } else x) ∧
      ∀ j, j ≠ k → queueAt (returnStarted s k e) j = queueAt s j :=
  ⟨queueAt_setEntry (setFrame (returnCharged s k e) e.h (returningFrame s k e)) k e.h .returning,
    fun _ hj => queueAt_setEntry_ne (s := setFrame (returnCharged s k e) e.h (returningFrame s k e)) hj⟩

theorem returnStarted_vat (s : State) (k : Nat) (e : QEnt) :
    (returnStarted s k e).vat = (setFrame (returnCharged s k e) e.h (returningFrame s k e)).vat := rfl

theorem returnStarted_frame (s : State) (k : Nat) (e : QEnt) : frameAt (returnStarted s k e) e.h = returningFrame s k e := by
  rw [frameAt, returnStarted_vat]
  exact frameAt_setFrame (returnCharged s k e) e.h (returningFrame s k e)

theorem returnStarted_poolUsed (s : State) (k : Nat) (e : QEnt) :
    (returnStarted s k e).vat.poolUsed = s.vat.poolUsed + cellsOf (frameAt s e.h).data.length := by
  rw [returnStarted_vat, setFrame_vat_poolUsed]
  rfl

/-- A return starts where R186 allows it: below half the LIMIT, with room in the pool, the cellar up and no other return. -/
theorem spillReturn_starts {s : State} {k : Nat} {e : QEnt} (he : (queueAt s k).find? (fun x => x.state == .inCellar) = some e)
    (hin : (frameAt s e.h).inCellar = true) (hhalf : 2 * destCells s (destOfQueue k) < (destQuota s (destOfQueue k)).limit)
    (hroom : cellsOf (frameAt s e.h).data.length ≤ poolFree s) (hup : cellarUp s = true)
    (hnone : ∀ x ∈ queueAt s k, x.state ≠ .returning) :
    spillReturn s k = returnStarted s k e := by
  unfold spillReturn spiltEntry
  rw [he]
  dsimp only
  rw [hin, if_pos rfl, if_pos ⟨hhalf, hroom, hup, by simpa using hnone⟩]
  rfl

/-- Without room in the pool no return starts. -/
theorem spillReturn_waits {s : State} {k : Nat} {e : QEnt} (he : (queueAt s k).find? (fun x => x.state == .inCellar) = some e)
    (hin : (frameAt s e.h).inCellar = true) (hfull : poolFree s < cellsOf (frameAt s e.h).data.length) : spillReturn s k = s := by
  unfold spillReturn spiltEntry
  rw [he]
  dsimp only
  rw [hin, if_pos rfl, if_neg (fun h => absurd h.2.1 (by omega))]

/-- The state in which a return that is done has left its destination's spill. -/
def returnKept (s : State) (k : Nat) (e : QEnt) : State :=
  let d := destOfQueue k
  let v := frameAt s e.h
  let s1 := setFrame s e.h { v with spillDests := v.spillDests.erase d }
  if d ∈ v.spillDests then
    { s1 with vat := { s1.vat with spillUsed := tblAdd s1.vat.spillUsed d (-(v.data.length : Int)) } } else s1

theorem returnKept_reads (s : State) (k : Nat) (e : QEnt) :
    (frameAt (returnKept s k e) e.h).spillDests = (frameAt s e.h).spillDests.erase (destOfQueue k) ∧
      ∀ j, queueAt (returnKept s k e) j = queueAt s j := by
  have hframe := congrArg VFrame.spillDests
    (frameAt_setFrame s e.h { frameAt s e.h with spillDests := (frameAt s e.h).spillDests.erase (destOfQueue k) })
  unfold returnKept
  dsimp only
  split <;> exact ⟨hframe, fun _ => rfl⟩

/-- What a return that is done leaves: its entry is ready. -/
theorem spillReturnDone_ends {s : State} {k : Nat} {e : QEnt} (he : (queueAt s k).find? (fun x => x.state == .returning) = some e) :
    Unseen (setEntry (returnKept s k e) k e.h .ready) (spillReturnDone s k) := by
  unfold spillReturnDone
  rw [he]
  exact (perf_unseen _ _).trans (perfN_unseen _ _ _)

/-- Where nothing returns, nothing is done. -/
theorem spillReturnDone_rests {s : State} {k : Nat} (h : ∀ x ∈ queueAt s k, x.state ≠ .returning) : spillReturnDone s k = s := by
  have hnone : (queueAt s k).find? (fun x => x.state == .returning) = none := by simpa using h
  rw [spillReturnDone, hnone]

/-- Settles O20: a request and a return each fail, wait or go on by the conditions of their row. -/
theorem cellRequestsAndReturns : Obligations.CellRequestsAndReturns := by
  unfold Obligations.CellRequestsAndReturns
  refine ⟨?_, ?_, ?_, ?_, ?_, ?_⟩
  · intro s i a hw ha hdue
    obtain ⟨hvat, heg⟩ := cellTimeout_due ha hdue
    refine ⟨_, exec_eq_keeping rfl hw rfl, ?_⟩
    rw [keeping_vat, keeping_eg, hvat, heg]
    exact ⟨rfl, rfl, rfl, rfl, rfl⟩
  · intro s i hw h
    exact exec_eq_next rfl hw (cellTimeout_rests h) rfl
  · intro s k e hw he hin hhalf hroom hup hnone
    obtain ⟨hqueue, hothers⟩ := returnStarted_queues s k e
    refine ⟨_, exec_eq_keeping rfl hw (spillReturn_starts he hin hhalf hroom hup hnone), ?_⟩
    rw [keeping_vat, frameAt_keeping, returnStarted_frame, returnStarted_poolUsed, queueAt_keeping]
    exact ⟨hqueue, rfl, rfl, rfl, fun j hj => (queueAt_keeping ..).trans (hothers j hj)⟩
  · intro s k e hw he hin hfull
    exact exec_eq_next rfl hw (spillReturn_waits he hin hfull) rfl
  · intro s k e hw he
    have hdone := spillReturnDone_ends he
    obtain ⟨hspill, hqueues⟩ := returnKept_reads s k e
    refine ⟨_, exec_eq_keeping rfl hw rfl, ?_⟩
    simp only [queueAt_keeping, frameAt_keeping]
    refine ⟨?_, ?_, fun j hj => ?_⟩
    · exact ((hdone.read (queueAt · k)).trans (queueAt_setEntry _ k e.h _)).trans (by rw [hqueues])
    · exact (hdone.read fun a => (frameAt a e.h).spillDests).trans hspill
    · exact ((hdone.read (queueAt · j)).trans (queueAt_setEntry_ne hj)).trans (hqueues j)
  · intro s k hw h
    exact exec_eq_next rfl hw (spillReturnDone_rests h) rfl

end Sys2Proof.Machine
end

section
/-! PROOFS. What KN_PORT_DEFAULTS_SET keeps of an action word, and with it the refutation of O47. -/

namespace Sys2Proof.Machine

/- The proofs below run one at a time: each waits for those it cites, and many that wait need many threads. -/
set_option Elab.async false

open Sys2Proof

theorem KnFrame.cls_eq {s t : State} (h : KnFrame s t) : t.cls = s.cls := by
  unfold KnFrame at h
  tauto

/-- The defaults of a port with the values of a command: the reserved bits of the action word read as 0 (R13, R160). -/
def defaultsOf (v : List Nat) : PortDef := { vid := val v 0, pcp := val v 1, action := setFld (val v 2) 32 5 0, colour := val v 3 }

/-- A port takes its defaults. -/
def setDefaults (p : Nat) (d : PortDef) (a : State) : State := { a with cls := { a.cls with defs := tblSet {} a.cls.defs p d } }

@[simp] theorem portDef_setDefaults (p : Nat) (d : PortDef) (a : State) : portDef (setDefaults p d a) p = d := tblGet_tblSet_same _ _ _ _

theorem portDefaultsCmd_put {a : State} {r : Request} {v : List Nat} (o : Nat)
    (h : bitOf r.mask 2 = true → targetMeets a (val v 2) = true) :
    portDefaultsCmd.put a r o v = .ok (setDefaults (objIdx o) (defaultsOf v) a) := by
  refine if_neg ?_
  simpa using h

/-- KN_PORT_DEFAULTS_SET with a target that every state allows. -/
theorem knPortDefaultsSet_of {s : State} {r : Request} (h : SetAccepted s 0x0203 portDefaultsCmd r)
    (hm : ∀ a, targetMeets a (val (portDefaultsCmd.vals s r) 2) = true) :
    KnSets .knPortDefaultsSet s r portDefaultsCmd (setDefaults (objIdx r.obj) (defaultsOf (portDefaultsCmd.vals s r))) := by
  refine knSets_of h rfl rfl rfl rfl (fun _ _ => rfl) (fun a ha => ?_) (fun a _ => portDefaultsCmd_put r.obj fun _ => hm a)
    (fun a _ => ?_) (fun _ _ => rfl) (fun _ ha => ha.pending_eq)
  · simp only [portDefaultsCmd, portDef, ha.cls_eq]
  · simp only [SetCmd.read, portDefaultsCmd, portDef_setDefaults]

/-- The owner's request to give the ring port an action word with a reserved bit set. -/
def reservedRequest : Request where
  master := 0
  image := leBytes 2 0x0203 ++ leBytes 1 3 ++ leBytes 1 0 ++ leBytes 2 7 ++ leBytes 2 32 ++ leBytes 4 0 ++ leBytes 4 0 ++
    leBytes 8 (objId 0x1D 18) ++ leBytes 4 4 ++ leBytes 4 0 ++ leBytes 8 0 ++ leBytes 8 (2 ^ 32)

/-- The part as the request's turn comes. -/
def reservedAsked : State := { regs := { out := [] }, kn := { owner := some 0, leaseMs := 1000, waiting := [reservedRequest] } }

theorem reservedAsked_accepts : SetAccepted reservedAsked 0x0203 portDefaultsCmd reservedRequest := by decide +kernel

theorem reservedAsked_action : val (portDefaultsCmd.vals reservedAsked reservedRequest) 2 = 2 ^ 32 := by decide +kernel

/-- Refutes O47: its clause on KN_PORT_DEFAULTS_SET keeps the whole action word, but the word's reserved bits 32 to 36 read as 0 whatever is
written to them (R13, R160). Here the owner's request sets bit 32. -/
theorem not_knClassSets : ¬ Obligations.KnClassSets := by
  unfold Obligations.KnClassSets
  rintro ⟨-, hdefaults, -⟩
  have hmeets : ∀ a, targetMeets a (val (portDefaultsCmd.vals reservedAsked reservedRequest) 2) = true := by
    rw [reservedAsked_action]
    exact fun _ => rfl
  obtain ⟨a, t, -, -, -, ht, hsaid, -⟩ := hdefaults reservedAsked reservedRequest reservedAsked_accepts fun _ => hmeets _
  obtain ⟨b, u, -, -, -, hu, hdone, -⟩ := knPortDefaultsSet_of reservedAsked_accepts hmeets
  obtain rfl := Host.Outcome.next.inj (ht.symm.trans hu)
  have hkept : (portDef t (objIdx reservedRequest.obj)).action = 2 ^ 32 := by
    rw [portDef, hsaid.cls_eq]
    dsimp only
    rw [tblGet_tblSet_same, reservedAsked_action]
  have hzero : (portDef t (objIdx reservedRequest.obj)).action = 0 := by
    rw [portDef, hdone.cls_eq]
    refine (congrArg PortDef.action (portDef_setDefaults _ _ b)).trans ?_
    rw [defaultsOf, reservedAsked_action]
    rfl
  rw [hzero] at hkept
  exact absurd hkept (by decide)

end Sys2Proof.Machine
end

section
/-! PROOFS. What the cancellation of a pending gate list does to a preemptable frame in progress, and with it the refutation of O54. -/

namespace Sys2Proof.Machine

/- The proofs below run one at a time: each waits for those it cites, and many that wait need many threads. -/
set_option Elab.async false

open Sys2Proof

theorem KnFrame.ports_eq {s t : State} (h : KnFrame s t) : t.ports = s.ports := by
  unfold KnFrame at h
  tauto

theorem KnFrame.cyc_eq {s t : State} (h : KnFrame s t) : t.cyc = s.cyc := by
  unfold KnFrame at h
  tauto

/-! ### Gates that close on a frame in progress (R218, R224) -/

/-- The fragment in progress on a port's preemptable MAC can end where its gate stands closed. -/
def cutsNow (s : State) (p : Nat) : Bool :=
  let m := macAt s p
  match m.pm with
  | none => false
  | some h =>
    let left := dataLen p (frameAt s h) - m.sent
    !bitOf (gateAt s p).states m.pmQ && !(m.susp || decide (left + 4 ≤ sentNow s p) || decide (min (sentNow s p - 4) (left - 60) < 60))

theorem endPiece_susp (s : State) (p h c : Nat) : (macAt (endPiece s p h c) p).susp = true := by
  have hseen : macAt (endPiece s p h c) p = macAt (setMac s p { macAt s p with
      susp := true, sent := (macAt s p).sent + c, frag := nextFrag (macAt s p).sent (macAt s p).frag
      freeAt := (macAt s p).start + octetTicks (lineMbps s p) (8 + c + 4 + 12) }) p :=
    ((perf_unseen _ _).trans (emit_unseen _ _)).read (macAt · p)
  rw [hseen, macAt_setMac]

theorem gateCloses_susp {s : State} {p : Nat} (h : cutsNow s p = true) : (macAt (gateCloses s p) p).susp = true := by
  unfold cutsNow at h
  dsimp only at h
  split at h
  · exact absurd h (by decide)
  · next n hn =>
    simp only [Bool.and_eq_true, Bool.not_eq_true'] at h
    obtain ⟨hclosed, hmay⟩ := h
    unfold gateCloses cutAtGate
    simp only [hn, Option.isSome_some, hclosed, Bool.not_false, Bool.and_self, if_true, hmay, Bool.false_eq_true, if_false]
    exact endPiece_susp s p n _

theorem gateCloses_kept (s : State) (p : Nat) : kept (gateCloses s p) = kept s := by
  have hend : ∀ n c, kept (endPiece s p n c) = kept s := fun n c => ((perf_unseen _ _).trans (emit_unseen _ _)).2.trans rfl
  unfold gateCloses cutAtGate
  dsimp only
  split
  · split
    · rfl
    · split
      · rfl
      · exact hend _ _
  · rfl

/-! ### KN_GATE_CANCEL (R203) -/

/-- The gates of a port without their pending list, at the position of the operative one. -/
def cancelPlaced (o p : Nat) (a : State) : State :=
  positionGates (setGate (dropStaged a o) p { gateAt a p with pend := none, byImage := false }) p

/-- The change of an accepted cancellation: a fragment whose gate is closed ends as well. -/
def cancelDone (o p : Nat) (a : State) : State := gateCloses (cancelPlaced o p a) p

theorem cancelDone_kept (o p : Nat) (a : State) : kept (cancelDone o p a) = kept a := gateCloses_kept (cancelPlaced o p a) p

theorem cancelPlaced_mac (o p : Nat) (a : State) : (cancelPlaced o p a).eg.mac = a.eg.mac := rfl

/-- Whether a cancellation ends a fragment is read from the egress, the vat, the ports and the time. -/
theorem cutsNow_cancelPlaced {s a : State} (h : KnFrame s a) (o p : Nat) :
    cutsNow (cancelPlaced o p a) p = cutsNow (cancelPlaced o p s) p := by
  have hread : ∀ b : State, cutsNow (cancelPlaced o p b) p = cutsNow (cancelPlaced o p
      { clk := b.clk, time := b.time, cyc := b.cyc, vat := b.vat, eg := b.eg, ports := b.ports, boot := b.boot }) p := fun _ => rfl
  rw [hread a, hread s, h.clk_eq, h.time_eq, h.vat_eq, h.eg_eq, h.ports_eq, h.cyc_eq, h.boot_eq]

theorem gateCancelRun_ok {a : State} {r : Request} {n : GateList} {act : Nat} (ho : objIn 0x0B 18 r.obj = true)
    (habs : isAbsent a r.obj = false) (hpend : (gateAt a (objIdx r.obj)).pend = some (n, act)) (hfar : gateNear a (objIdx r.obj) = false) :
    let g := gateAt a (objIdx r.obj)
    gateCancelRun a r = .ok (cancelDone r.obj (objIdx r.obj)
      (auditChange a r r.obj (some (gateOld g)) (some (gateValue g.oper g.since)))) [] [] := by
  dsimp only
  rw [gateCancelRun, onObject_run (ok := gateObjOk) ho habs]
  dsimp only
  rw [hfar, if_neg Bool.false_ne_true, hpend, if_neg (by simp)]
  rfl

theorem knGateCancel_of {s : State} {r : Request} {n : GateList} {act : Nat} (h : Accepted s 0x0303 gateCancelExe r)
    (ho : objIn 0x0B 18 r.obj = true) (habs : isAbsent s r.obj = false) (hpend : (gateAt s (objIdx r.obj)).pend = some (n, act))
    (hfar : gateNear s (objIdx r.obj) = false) :
    let g := gateAt s (objIdx r.obj)
    KnWrites .knGateCancel s r (changeBody s r r.obj (some (gateOld g)) (some (gateValue g.oper g.since))) []
      (cancelDone r.obj (objIdx r.obj)) := by
  have hb := fun c => Twins.of_shown (shown_begun s c r).symm
  refine knWrites_of h rfl rfl rfl ?_ (cancelDone_kept _ _)
  refine (gateCancelRun_ok ho (((hb _).read (isAbsent · _)).symm.trans habs)
    (((hb _).read fun a => (gateAt a (objIdx r.obj)).pend).symm.trans hpend) (((hb _).read (gateNear · _)).symm.trans hfar)).trans ?_
  rw [(hb _).read (gateAt · (objIdx r.obj))]

/-! ### The refutation -/

/-- The owner's request to cancel the pending gate list of port 0. -/
def cancelRequest : Request where
  master := 0
  image := leBytes 2 0x0303 ++ leBytes 1 3 ++ leBytes 1 0 ++ leBytes 2 7 ++ leBytes 2 8 ++ leBytes 4 0 ++ leBytes 4 0 ++
    leBytes 8 (objId 0x0B 0)

/-- A list of two entries of 1 µs, of which the second closes queue 0. -/
def twoEntries : GateList := { enabled := true, cycle := 2000, entries := [0xFF * 2 ^ 32 + 1000, 0xFE * 2 ^ 32 + 1000] }

/-- A preemptable frame of queue 0 has been under way at 10 Gb/s for 1 µs as its gate closes under the operative list, and the owner cancels
the list that is pending. -/
def cancelAsked : State where
  regs := { out := [] }
  clk := { tick := 1250 }
  time := { nt := 1000 * 2 ^ 48 }
  ports := { port := [(0, { link := true, rate := 5 })] }
  vat := { frames := [(0, { data := List.replicate 2000 0 })] }
  eg := { gates := [(0, { oper := twoEntries, pend := some ({}, ns16 3000000) })], mac := [(0, { pm := some 0 })] }
  kn := { owner := some 0, leaseMs := 1000, waiting := [cancelRequest] }

theorem cancelAsked_accepts : Accepted cancelAsked 0x0303 gateCancelExe cancelRequest ∧ objIn 0x0B 18 cancelRequest.obj = true ∧
    isAbsent cancelAsked cancelRequest.obj = false ∧ objIdx cancelRequest.obj = 0 ∧
    (gateAt cancelAsked 0).pend = some ({}, ns16 3000000) ∧ gateNear cancelAsked 0 = false ∧ (macAt cancelAsked 0).susp = false := by
  decide +kernel

theorem cancelAsked_cuts : cutsNow (cancelPlaced cancelRequest.obj 0 cancelAsked) 0 = true := by decide +kernel

/-- Refutes O54: its clause on KN_GATE_CANCEL only places the gates by the operative list, but where a gate so closes on a preemptable
frame in progress the frame's fragment ends (R203, R224). Here the gate closes in the tick of the command. -/
theorem not_knTrafficChanges : ¬ Obligations.KnTrafficChanges := by
  unfold Obligations.KnTrafficChanges
  rintro ⟨-, -, -, -, hcancel⟩
  obtain ⟨hacc, ho, habs, hidx, hpend, hfar, hgoes⟩ := cancelAsked_accepts
  rw [← hidx] at hpend hfar
  obtain ⟨a, t, ha, -, -, ht, hsaid, -⟩ := hcancel cancelAsked cancelRequest _ _ hacc ho habs hpend hfar
  obtain ⟨b, u, hb, -, -, hu, hdone, -⟩ := knGateCancel_of hacc ho habs hpend hfar
  obtain rfl := Host.Outcome.next.inj (ht.symm.trans hu)
  rw [hidx] at hsaid hdone
  have hruns : (macAt t 0).susp = false := by
    rw [macAt, hsaid.eg_eq]
    exact (congrArg (fun m => (tblGet ({} : MacTx) m 0).susp) ((cancelPlaced_mac _ 0 a).trans (congrArg (·.mac) ha.eg_eq))).trans hgoes
  have hcut : (macAt t 0).susp = true := by
    rw [macAt, hdone.eg_eq]
    exact gateCloses_susp ((cutsNow_cancelPlaced hb _ 0).trans cancelAsked_cuts)
  rw [hruns] at hcut
  exact absurd hcut (by decide)

end Sys2Proof.Machine
end

section
/-! PROOFS. What the recorder's drives and the links of the ports read and keep as commands act on them, and the statement O56. -/

namespace Sys2Proof.Machine

/- The proofs below run one at a time: each waits for those it cites, and many that wait need many threads. -/
set_option Elab.async false

open Sys2Proof

/-! ### The drives of the recorder (R362, R368, R377, R378) -/

theorem nvmeWrite_unseen (s : State) (d unit : Nat) (o : Octets) : Unseen s (nvmeWrite s d unit o) :=
  (emit_unseen s _).trans (perfN_unseen _ _ _)

theorem setThreshold_unseen (s : State) (d : Nat) : Unseen s (setThreshold s d) := emit_unseen s _

namespace Twins

variable {x y : List Nat × Nat × List Instr} {s t : State}

theorem nvmeWrite (h : Twins x y s t) (d unit : Nat) (o : Octets) : Twins x y (nvmeWrite s d unit o) (nvmeWrite t d unit o) :=
  h.unseen (nvmeWrite_unseen s d unit o) (nvmeWrite_unseen t d unit o)

theorem driveAt (h : Twins x y s t) (d : Nat) : driveAt s d = driveAt t d := h.read (Machine.driveAt · d)

theorem issueWrite (h : Twins x y s t) (d : Nat) : Twins x y (issueWrite s d) (issueWrite t d) := by
  have hseg : ∀ g w, segBytes s g w = segBytes t g w := fun g w => h.read (segBytes · g w)
  unfold Machine.issueWrite
  simp only [h.driveAt, h.read cellarUp, hseg]
  refine .ite h ?_
  split
  · exact h
  · split
    · exact .ite h (.ite ((h.setDrive d _).nvmeWrite d _ _) (.ite h ((h.setDrive d _).nvmeWrite d _ _)))
    · exact (h.setDrive d _).nvmeWrite d _ _

theorem pump (h : Twins x y s t) (d : Nat) : Twins x y (pump s d) (pump t d) := by
  unfold Machine.pump
  simp only [h.driveAt]
  exact (Twins.ite (h.setDrive d _) h).issueWrite d

theorem closeSeg (h : Twins x y s t) (d stream : Nat) (last : Bool) : Twins x y (closeSeg s d stream last) (closeSeg t d stream last) := by
  have herased : Twins x y { s with geley := { s.geley with isOpen := tblErase s.geley.isOpen (d * 256 + stream) } }
      { t with geley := { t.geley with isOpen := tblErase t.geley.isOpen (d * 256 + stream) } } :=
    h.update fun a => { a with geley := { a.geley with isOpen := tblErase a.geley.isOpen (d * 256 + stream) } }
  unfold Machine.closeSeg
  simp only [h.read (·.geley.isOpen.find? (fun e => e.1 == d * 256 + stream)), herased.driveAt]
  split
  · exact h
  · exact (herased.setDrive d _).pump d

theorem closeDrive (h : Twins x y s t) (d : Nat) : Twins x y (closeDrive s d) (closeDrive t d) := by
  unfold Machine.closeDrive
  rw [h.read (openSegs · d)]
  exact .foldl h fun e _ _ _ g => g.closeSeg d _ false

theorem setDriveState (h : Twins x y s t) (d : Nat) (st : DriveSt) : Twins x y (setDriveState s d st) (setDriveState t d st) := by
  have hclosed : Twins x y (if (Machine.driveAt t d).state = .recording then Machine.closeDrive s d else s)
      (if (Machine.driveAt t d).state = .recording then Machine.closeDrive t d else t) := .ite (h.closeDrive d) h
  unfold Machine.setDriveState
  simp only [h.driveAt, hclosed.driveAt]
  have hset := (hclosed.setDrive d { Machine.driveAt (if (Machine.driveAt t d).state = .recording then Machine.closeDrive t d else t) d with
    state := st }).signal (1787 + d)
  exact .ite h (.ite (hset.count _ _ 6) (.ite (hset.unseen (setThreshold_unseen _ d) (setThreshold_unseen _ d)) hset))

/-! ### Record reads (R381, R382) -/

theorem readDone (h : Twins x y s t) (j : Job) (status nvme : Nat) (data : Octets) (staged : Bool) :
    Twins x y (readDone s j status nvme data staged) (readDone t j status nvme data staged) := by
  unfold Machine.readDone writeOut
  split
  · exact h.finishJob j _
  · exact h.setJob _

theorem serveOne (h : Twins x y s t) (d k : Nat) : Twins x y (serveOne s d k) (serveOne t d k) := by
  unfold Machine.serveOne
  simp only [h.read (keyJob · k), h.driveAt, h.mayIssue, fun n => h.read (stagedContent · d n), h.read (driveShare · d),
    h.read (stagedUnits · d), fun n => h.read (due · n), h.read now, h.read (·.geley.readLimit)]
  split
  · exact h.setDrive d _
  · refine .ite h ?_
    split
    · exact (h.setDrive d _).readDone _ 0 0 _ true
    · exact .ite h ((h.setDrive d _).unseen (emit_unseen _ _) (emit_unseen _ _))

theorem serveReads (h : Twins x y s t) (d : Nat) : Twins x y (serveReads s d) (serveReads t d) := by
  unfold Machine.serveReads
  simp only [h.driveAt, h.read cellarUp]
  refine .ite h (.ite (.foldl h fun k _ _ _ g => ?_) (.foldl h fun k _ _ _ g => g.serveOne d k))
  simp only [g.read (keyJob · k), g.driveAt]
  split
  · exact g.setDrive d _
  · exact (g.setDrive d _).readDone _ 2 0 [] false

/-- A drive takes a state that is no fault. -/
theorem driveTo (h : Twins x y s t) (d : Nat) {st : DriveSt} (hst : st ≠ .stalled) (hst' : st ≠ .failed) :
    Twins x y (driveTo s d st) (driveTo t d st) := by
  unfold Machine.driveTo
  simp only [hst, hst', or_self, and_false, if_false]
  exact ((h.setDriveState d st).pump d).serveReads d

theorem disableCheck (h : Twins x y s t) (d : Nat) : Twins x y (disableCheck s d) (disableCheck t d) := by
  unfold Machine.disableCheck
  simp only [h.driveAt, h.read (openSegs · d)]
  exact .ite ((h.setDrive d _).driveTo d (by decide) (by decide)) h

theorem releaseStaged (h : Twins x y s t) (d : Nat) : Twins x y (releaseStaged s d) (releaseStaged t d) := by
  have hopen : Twins x y { s with geley := { s.geley with isOpen := s.geley.isOpen.filter (fun e => e.1 / 256 != d) } }
      { t with geley := { t.geley with isOpen := t.geley.isOpen.filter (fun e => e.1 / 256 != d) } } :=
    h.update fun a => { a with geley := { a.geley with isOpen := a.geley.isOpen.filter (fun e => e.1 / 256 != d) } }
  unfold Machine.releaseStaged
  simp only [hopen.driveAt]
  exact (hopen.setDrive d _).disableCheck d

end Twins

/-! ### KN_CABLE_TEST (R269) -/

theorem kept_setPort (s : State) (p : Nat) (x : PortSt) : kept (setPort s p x) = kept s := rfl

theorem kept_setPause (s : State) (p : Nat) (x : Pause) : kept (setPause s p x) = kept s := rfl

theorem kept_setPre (s : State) (p : Nat) (x : Preempt) : kept (setPre s p x) = kept s := rfl

theorem kept_setGptp (s : State) (p : Nat) (x : GptpPort) : kept (setGptp s p x) = kept s := rfl

theorem dropPortWork_kept (s : State) (p : Nat) : kept (dropPortWork s p) = kept s := by
  have hfin : ∀ a x d, kept (finishDest a x d) = kept a := fun a x d => ((Twins.refl a).finishDest x d).left
  have hdrop : ∀ a gone, kept (dropArrivals a gone) = kept a := fun a gone => ((Twins.refl a).dropArrivals gone).left
  unfold dropPortWork
  extract_lets m fin s1 s2 _ s3 gone
  have hopt : ∀ a o q, kept (fin a o q) = kept a := fun a o q => by
    cases o with
    | none => rfl
    | some x => exact hfin a x _
  calc kept (dropArrivals s3 gone) = kept s3 := hdrop s3 gone
    _ = kept s1 := rfl
    _ = kept (fin s m.ex m.exQ) := hopt _ _ _
    _ = kept s := hopt _ _ _

theorem portLinkDown_kept (s : State) (p : Nat) : kept (portLinkDown s p) = kept s := by
  unfold portLinkDown
  extract_lets s1 _ s2 _ s3 _ s4
  split
  · rfl
  · calc kept (signal (setGptp s4 p {}) (1745 + p)) = kept (setGptp s4 p {}) := (signal_unseen _ _).2
      _ = kept s4 := kept_setGptp s4 p {}
      _ = kept s3 := kept_setPre s3 p _
      _ = kept s2 := kept_setPause s2 p _
      _ = kept s1 := kept_setPort s1 p _
      _ = kept (perf (countPort s p 18) (pPort p 9)) := dropPortWork_kept _ p
      _ = kept s := (perf_unseen _ _).2.trans (countPort_unseen s p 18).2

/-- A cable test takes a port's link and, where its controller is neither off nor locked out, its power. -/
def cableTaken (x : PodlState) (p : Nat) (a : State) : State :=
  let t := portLinkDown a p
  let u := setPort t p { portAt t p with cableTest := true }
  if x = .disabled ∨ x = .lockout then u else setPodl u p { podlAt u p with state := .test, budgetWait := false }

theorem cableTaken_kept (x : PodlState) (p : Nat) (a : State) : kept (cableTaken x p a) = kept a := by
  unfold cableTaken
  dsimp only
  split <;> exact portLinkDown_kept a p

theorem cableTestRun_ok {a : State} {r : Request} (ho : objIn 0x01 16 r.obj = true) (habs : isAbsent a r.obj = false)
    (hlock : ¬((podlAt a (objIdx r.obj)).state = .lockout ∧ (podlAt a (objIdx r.obj)).fault = 9))
    (hidle : (portAt a (objIdx r.obj)).cableTest = false) :
    let v := some (portSetCmd.read a r.obj)
    cableTestRun a r = .ok (cableTaken (podlAt a (objIdx r.obj)).state (objIdx r.obj) (auditChange a r r.obj v v))
      (leBytes 4 (portAt a (objIdx r.obj)).cableRes) [] := by
  dsimp only
  rw [cableTestRun, onObject_run (ok := fun _ o => objIn 0x01 16 o) ho habs]
  dsimp only
  rw [if_neg (by simp [hlock, hidle])]
  rfl

theorem knCableTest_of {s : State} {r : Request} (h : Accepted s 0x0503 cableTestExe r) (ho : objIn 0x01 16 r.obj = true)
    (habs : isAbsent s r.obj = false)
    (hlock : ¬((podlAt s (objIdx r.obj)).state = .lockout ∧ (podlAt s (objIdx r.obj)).fault = 9))
    (hidle : (portAt s (objIdx r.obj)).cableTest = false) :
    let v := some (portSetCmd.read s r.obj)
    KnWrites .knCableTest s r (changeBody s r r.obj v v) (leBytes 4 (portAt s (objIdx r.obj)).cableRes)
      (cableTaken (podlAt s (objIdx r.obj)).state (objIdx r.obj)) := by
  have hb := fun c => Twins.of_shown (shown_begun s c r)
  have hpodl := fun c => (hb c).read (podlAt · (objIdx r.obj))
  have hport := fun c => (hb c).read (portAt · (objIdx r.obj))
  refine knWrites_of h rfl rfl rfl ?_ (cableTaken_kept _ _)
  refine (cableTestRun_ok ho (((hb _).read (isAbsent · _)).trans habs) (by rwa [hpodl]) (by rwa [hport])).trans ?_
  rw [hpodl, hport, (hb _).read (portSetCmd.read · r.obj)]

/-! ### Seals (R370) -/

theorem labelChanged_kept (d : Nat) (x : Drive) (a : State) : kept (labelChanged a d x) = kept a :=
  (((Twins.refl a).setDrive d (stageLabel x d)).pump d).left

/-- No drive that is mounted is absent. -/
theorem isMounted_present {x : Drive} (h : isMounted x = true) : x.state ≠ .absent := by
  intro hx
  simp [isMounted, hx] at h

theorem maskList_one {d : Nat} (hd : d < 2) : maskList 2 (2 ^ d) = [d] := by
  match d, hd with
  | 0, _ => rfl
  | 1, _ => rfl

theorem recSealRun_ok {a : State} {r : Request} {d : Nat} (hm : leAt r.params 0 1 = 2 ^ d) (hd : d < 2) (hz : leAt r.params 1 7 = 0)
    (ht : leAt r.params 8 8 ≤ leAt r.params 16 8) (hmount : isMounted (driveAt a d) = true)
    (hfit : sealsFit (sealDrive (driveAt a d) (leAt r.params 8 8) (leAt r.params 16 8) 0 0 0) = true) :
    recSealRun a r = .ok (sealOne (leAt r.params 8 8) (leAt r.params 16 8) (leAt r.params 24 4) r a d) [] [] := by
  have hrange : ¬(2 ^ d = 0 ∨ 4 ≤ 2 ^ d) := by
    match d, hd with
    | 0, _ => decide
    | 1, _ => decide
  unfold recSealRun
  simp only [hm, maskList_one hd, List.any_cons, List.any_nil, List.all_cons, List.all_nil, Bool.or_false, Bool.and_true, hmount, hfit,
    List.foldl_cons, List.foldl_nil]
  rw [if_neg (by simp [hz]), if_neg hrange, if_neg (by omega), if_neg (by simpa using isMounted_present hmount), if_neg (by decide),
    if_neg (by decide)]

theorem recSealExe_run : recSealExe.run = recSealRun := by rw [recSealExe]

theorem knRecSeal_of {s : State} {r : Request} {d : Nat} {x : Drive} (h : Accepted s 0x0703 recSealExe r)
    (hm : leAt r.params 0 1 = 2 ^ d) (hd : d < 2) (hz : leAt r.params 1 7 = 0) (ht : leAt r.params 8 8 ≤ leAt r.params 16 8)
    (hmount : isMounted (driveAt s d) = true)
    (hfit : sealsFit (sealDrive (driveAt s d) (leAt r.params 8 8) (leAt r.params 16 8) 0 0 0) = true)
    (hx : sealDrive (driveAt s d) (leAt r.params 8 8) (leAt r.params 16 8) (leAt r.params 24 4) (s.kn.seq % 2 ^ 32)
      (ntNs s % 2 ^ 64) = x) :
    KnWrites .knRecSeal s r (changeBody s r (objId 0x10 d) (some (driveValue (driveAt s d))) (some (driveValue x))) []
      (fun a => labelChanged a d x) := by
  have hb := fun c => Twins.of_shown (shown_begun s c r)
  have hdrive := fun c => (hb c).driveAt d
  have hseq : ∀ c, (begun s c r).kn.seq = s.kn.seq := fun c => by rw [begun_kn]; rfl
  refine knWrites_of h rfl rfl rfl ?_ (labelChanged_kept d x)
  rw [recSealExe_run, recSealRun_ok hm hd hz ht (by rw [hdrive, hmount]) (by rw [hdrive, hfit]), sealOne, hdrive, hseq, (hb _).read ntNs, hx]

/-- No unit that repair can take out of use carries a drive or a fault source (R411, R436). -/
theorem isAbsent_of_cls {o : Nat} (h : objCls o = 0x10 ∨ objCls o = 0x12) (s : State) : isAbsent s o = false := by
  rcases h with h | h <;> simp [isAbsent, carriers, h]

theorem objCls_of_objIn {cls n o : Nat} (h : objIn cls n o = true) : objCls o = cls := by
  simp only [objIn, Bool.and_eq_true, beq_iff_eq] at h
  exact h.1

/-- A drive without one of its seals and what still follows it. -/
def unsealDrive (x : Drive) (e : Seal) : Drive :=
  { x with seals := x.seals.filter (fun c => c != e), liveSeals := x.liveSeals.filter (fun c => c.audit != e.audit) }

theorem recUnsealRun_ok {a : State} {r : Request} {e : Seal} (ho : objIn 0x10 2 r.obj = true) (hz : leAt r.params 9 7 = 0)
    (hmount : isMounted (driveAt a (objIdx r.obj)) = true) (he : (driveAt a (objIdx r.obj)).seals[leAt r.params 8 1]? = some e) :
    let x := driveAt a (objIdx r.obj)
    recUnsealRun a r = .ok (labelChanged (auditChange a r r.obj (some (driveValue x)) (some (driveValue (unsealDrive x e))))
      (objIdx r.obj) (unsealDrive x e)) [] [] := by
  dsimp only
  rw [recUnsealRun, onObject_run (ok := driveObj) ho (isAbsent_of_cls (.inl (objCls_of_objIn ho)) a)]
  dsimp only
  rw [if_neg (by simp [hz]), if_neg (isMounted_present hmount), if_neg (by simp [hmount]), he]
  rfl

theorem knRecUnseal_of {s : State} {r : Request} {e : Seal} (h : Accepted s 0x0704 recUnsealExe r) (ho : objIn 0x10 2 r.obj = true)
    (hz : leAt r.params 9 7 = 0) (hmount : isMounted (driveAt s (objIdx r.obj)) = true)
    (he : (driveAt s (objIdx r.obj)).seals[leAt r.params 8 1]? = some e) :
    let x := driveAt s (objIdx r.obj)
    KnWrites .knRecUnseal s r (changeBody s r r.obj (some (driveValue x)) (some (driveValue (unsealDrive x e)))) []
      (fun a => labelChanged a (objIdx r.obj) (unsealDrive x e)) := by
  have hdrive := fun c => (Twins.of_shown (shown_begun s c r)).driveAt (objIdx r.obj)
  refine knWrites_of h rfl rfl rfl ?_ (labelChanged_kept _ _)
  refine (recUnsealRun_ok ho hz (by rw [hdrive, hmount]) (by rw [hdrive, he])).trans ?_
  rw [hdrive]

/-! ### KN_REC_DRIVE (R371, R376, R378) -/

/-- Two results of a drive's action agree: both are refused with one status, or both succeed with twins. -/
inductive SameAction (x y : List Nat × Nat × List Instr) : Except Nat State → Except Nat State → Prop
  | refused (e : Nat) : SameAction x y (.error e) (.error e)
  | done {u v : State} (h : Twins x y u v) : SameAction x y (.ok u) (.ok v)

theorem SameAction.ite {x y : List Nat × Nat × List Instr} {p q : Except Nat State} {c : Prop} [Decidable c] (e : Nat)
    (h : SameAction x y p q) : SameAction x y (if c then .error e else p) (if c then .error e else q) := by
  split
  · exact .refused e
  · exact h

/-- What an action does to a drive depends only on what a state shows. -/
theorem Twins.driveAction {x y : List Nat × Nat × List Instr} {s t : State} (h : Twins x y s t) (d act : Nat) :
    SameAction x y (driveAction s d act) (driveAction t d act) := by
  have hclosed := h.closeDrive d
  unfold Machine.driveAction
  simp only [h.driveAt, h.read (stagedUnits · d), hclosed.driveAt]
  split
  · refine .ite 9 (.ite 0xC (.ite 9 (.done ?_)))
    exact (h.unseen (emit_unseen s _) (emit_unseen t _)).driveTo d (by decide) (by decide)
  · exact .ite 9 (.done ((hclosed.setDrive d _).disableCheck d))
  · exact .ite 9 (.done ((h.setDrive d _).driveTo d (by decide) (by decide)))
  · exact .ite 9 (.done ((h.setDrive d _).driveTo d (by decide) (by decide)))
  · exact .done (h.releaseStaged d)

/-- The effect of an action on a drive, where it is not refused. -/
def acted (d act : Nat) (a : State) : State :=
  match driveAction a d act with
  | .ok w => w
  | .error _ => a

theorem acted_kept (d act : Nat) (a : State) : kept (acted d act a) = kept a := by
  have hsame := (Twins.refl a).driveAction d act
  unfold acted
  generalize driveAction a d act = res at hsame
  cases hsame with
  | refused => rfl
  | done h => exact h.left

theorem Twins.exists_acted {x y : List Nat × Nat × List Instr} {s t u : State} (h : Twins x y s t) {d act : Nat}
    (hu : Machine.driveAction s d act = .ok u) : ∃ v, Machine.driveAction t d act = .ok v ∧ Twins x y u v := by
  have hsame := h.driveAction d act
  rw [hu] at hsame
  generalize Machine.driveAction t d act = res at hsame
  cases hsame with
  | done h => exact ⟨_, rfl, h⟩

theorem Twins.driveAction_error {x y : List Nat × Nat × List Instr} {s t : State} (h : Twins x y s t) {d act st : Nat}
    (hu : Machine.driveAction s d act = .error st) : Machine.driveAction t d act = .error st := by
  have hsame := h.driveAction d act
  rw [hu] at hsame
  generalize Machine.driveAction t d act = res at hsame
  cases hsame with
  | refused => rfl

section

variable {a u : State} {r : Request} (ho : objIn 0x10 2 r.obj = true) (hact : leAt r.params 8 1 < 5) (hz : leAt r.params 9 7 = 0)

include ho hact hz

theorem recDriveRun_refused {st : Nat} (hpresent : (driveAt a (objIdx r.obj)).state ≠ .absent)
    (hu : driveAction a (objIdx r.obj) (leAt r.params 8 1) = .error st) : recDriveRun a r = .fail st 0 := by
  rw [recDriveRun, onObject_run (ok := driveObj) ho (isAbsent_of_cls (.inl (objCls_of_objIn ho)) a)]
  dsimp only
  rw [if_neg (by omega), if_neg (by simp [hz]), if_neg (fun h => hpresent h.1), hu]

theorem recDriveRun_ok (hpresent : (driveAt a (objIdx r.obj)).state = .absent → leAt r.params 8 1 = 4) (hm : mramUp a = true)
    (hu : driveAction a (objIdx r.obj) (leAt r.params 8 1) = .ok u) :
    recDriveRun a r = .ok (acted (objIdx r.obj) (leAt r.params 8 1) (auditChange a r r.obj
      (some (driveValue (driveAt a (objIdx r.obj)))) (some (driveValue (driveAt u (objIdx r.obj)))))) [] [] := by
  have hrec := Twins.of_shown (shown_auditChange hm r r.obj (some (driveValue (driveAt a (objIdx r.obj))))
    (some (driveValue (driveAt u (objIdx r.obj))))).symm
  obtain ⟨w, hw, -⟩ := hrec.exists_acted hu
  rw [recDriveRun, onObject_run (ok := driveObj) ho (isAbsent_of_cls (.inl (objCls_of_objIn ho)) a)]
  dsimp only
  rw [if_neg (by omega), if_neg (by simp [hz]), if_neg (fun h => h.2 (hpresent h.1)), hu]
  simp only [acted, hw]

end

theorem knRecDrive_of {s u : State} {r : Request} (h : Accepted s 0x0705 recDriveExe r) (ho : objIn 0x10 2 r.obj = true)
    (hact : leAt r.params 8 1 < 5) (hz : leAt r.params 9 7 = 0)
    (hpresent : (driveAt s (objIdx r.obj)).state = .absent → leAt r.params 8 1 = 4)
    (hu : driveAction s (objIdx r.obj) (leAt r.params 8 1) = .ok u) :
    KnWrites .knRecDrive s r (changeBody s r r.obj (some (driveValue (driveAt s (objIdx r.obj))))
      (some (driveValue (driveAt u (objIdx r.obj))))) [] (acted (objIdx r.obj) (leAt r.params 8 1)) := by
  have hb := fun c => Twins.of_shown (shown_begun s c r).symm
  obtain ⟨v, hv, huv⟩ := (hb _).exists_acted hu
  refine knWrites_of h rfl rfl rfl ?_ (acted_kept _ _)
  rw [(hb _).driveAt, huv.driveAt]
  exact recDriveRun_ok ho hact hz (by rwa [← (hb _).driveAt]) (h.mramUp_begun rfl rfl) hv

/-! ### KN_SELFTEST_RUN (R434) -/

/-- A self-test that a command asks for takes the next identifier. -/
def testAsked (f loc : Nat) (rep : Bool) (a : State) : State :=
  requestTest { a with flt := { a.flt with nextId := (a.flt.nextId + 1) % 65536 } }
    { src := f, loc := loc, repair := rep, byCmd := true, id := a.flt.nextId }

theorem testAsked_kept (f loc : Nat) (rep : Bool) (a : State) : kept (testAsked f loc rep a) = kept a :=
  (((Twins.refl a).setFlt _).requestTest _).left

theorem selftestRun_ok {a : State} {r : Request} (ho : objIn 0x12 768 r.obj = true) (hz : leAt r.params 13 3 = 0)
    (hloc : leAt r.params 8 4 ≤ 65535) (hrep : leAt r.params 12 1 ≤ 1) (htest : testOf (objIdx r.obj) ≠ .none)
    (hunit : a.flt.disabled.contains (unitOf (objIdx r.obj)) = false)
    (hidle : ∀ t ∈ a.flt.tests, ¬(t.src = objIdx r.obj ∧ t.loc = leAt r.params 8 4)) :
    let v := some (faultSetCmd.read a r.obj)
    selftestRun a r = .ok (testAsked (objIdx r.obj) (leAt r.params 8 4) (decide (leAt r.params 12 1 = 1))
      (auditChange a r r.obj v v)) [] [] := by
  have hnone : a.flt.tests.any (fun t => t.src == objIdx r.obj && t.loc == leAt r.params 8 4) = false := by simpa using hidle
  dsimp only
  rw [selftestRun, onObject_run (ok := faultObj) ho (isAbsent_of_cls (.inr (objCls_of_objIn ho)) a)]
  dsimp only
  rw [if_neg (by simp [hz]), if_neg (by omega), if_neg (by omega), if_neg htest, hunit, if_neg Bool.false_ne_true, hnone,
    if_neg Bool.false_ne_true]
  rfl

theorem knSelftestRun_of {s : State} {r : Request} (h : Accepted s 0x0804 selftestRunExe r) (ho : objIn 0x12 768 r.obj = true)
    (hz : leAt r.params 13 3 = 0) (hloc : leAt r.params 8 4 ≤ 65535) (hrep : leAt r.params 12 1 ≤ 1)
    (htest : testOf (objIdx r.obj) ≠ .none) (hunit : s.flt.disabled.contains (unitOf (objIdx r.obj)) = false)
    (hidle : ∀ t ∈ s.flt.tests, ¬(t.src = objIdx r.obj ∧ t.loc = leAt r.params 8 4)) :
    let v := some (faultSetCmd.read s r.obj)
    KnWrites .knSelftestRun s r (changeBody s r r.obj v v) []
      (testAsked (objIdx r.obj) (leAt r.params 8 4) (decide (leAt r.params 12 1 = 1))) := by
  have hflt := fun c => (begun_frame s c r).flt_eq
  refine knWrites_of h rfl rfl rfl ?_ (testAsked_kept _ _ _)
  refine (selftestRun_ok ho hz hloc hrep htest (by rwa [hflt]) (by rwa [hflt])).trans ?_
  rw [(Twins.of_shown (shown_begun s _ r)).read (faultSetCmd.read · r.obj)]

/-- Settles O56: each command is recorded with its object's value before and after, and then takes its effect, which the state that the
command meets already decides. -/
theorem knDeviceChanges : Obligations.KnDeviceChanges := by
  unfold Obligations.KnDeviceChanges
  refine ⟨?_, ?_, ?_, ?_, ?_, ?_⟩
  · intro s r h ho habs p v hlock hidle
    exact knCableTest_of h ho habs hlock hidle
  · intro s r d h t0 t1 hm hd hz ht hmount hfit x
    exact knRecSeal_of h hm hd hz ht hmount hfit rfl
  · intro s r e h ho d x hz hmount he y
    exact knRecUnseal_of h ho hz hmount he
  · intro s r u h ho d act hact hz hpresent hu
    exact knRecDrive_of h ho hact hz hpresent hu
  · intro s r st h ho act hact hz hpresent hu
    have hb := fun c => Twins.of_shown (shown_begun s c r).symm
    obtain ⟨hframe, hunrec, hans⟩ := knFails_of h rfl
      (recDriveRun_refused ho hact hz (by rwa [← (hb _).driveAt]) ((hb _).driveAction_error hu))
    exact ⟨_, exec_eq_next rfl rfl rfl hframe.pending_eq, hframe, hunrec, hans⟩
  · intro s r h ho f loc v hz hloc hrep htest hunit hidle
    exact knSelftestRun_of h ho hz hloc hrep htest hunit hidle

end Sys2Proof.Machine
end

section
/-! PROOFS. The set commands of the egress: queues, shapers, stream bindings, samples and slot bindings, each with the change it makes,
and the statement O48. -/

namespace Sys2Proof.Machine

open Sys2Proof

/-- A set command that takes effect at once reads and writes one part of the state that no answer changes. What it makes of an object
depends on that part alone: the change keeps Keanak and the queue, and the object reads the same in every state that agrees on the part. -/
theorem knSets_of_put {i : Instr} {s : State} {r : Request} {code : Nat} {k : Cmd} {c : SetCmd} {f : State → State}
    (h : SetAccepted s code c r) (hk : cmdOf code = some k) (hw : k.cls = .w) (hst : c.staged = false)
    (hrow : exec i s = .next { runKn s code c.exe with pending := s.pending }) (hobj : ∀ a, c.objOk a r.obj = c.objOk s r.obj)
    (hget : ∀ a, KnFrame s a → c.get a r.obj = c.get s r.obj) (hput : ∀ a, KnFrame s a → c.put a r r.obj (c.vals s r) = .ok (f a))
    (hread : ∀ a, KnFrame s a → c.get (f a) r.obj = c.get (f s) r.obj) (hkn : ∀ a, (f a).kn = a.kn)
    (hp : ∀ a, (f a).pending = a.pending) : KnSets i s r c f :=
  knSets_of h hk hw hst hrow (fun a _ => hobj a) hget hput (fun a ha => congrArg (pStruct r.obj (c.defs r.obj)) (hread a ha))
    (fun a _ => hkn a) (fun a ha => (hp a).trans ha.pending_eq)

/-! ### Queues (R192) -/

/-- A queue takes its four parameters, or a port its scheduler. -/
def queueChanged (o : Nat) (v : List Nat) (a : State) : State :=
  let c : QCfg := { drr := valB v 0, quantum := val v 1, weight := val v 2, maxSdu := val v 3 }
  if objCls o = 0x02 then { a with eg := { a.eg with cfg := tblSet (qcfgDefault (objIdx o)) a.eg.cfg (objIdx o) c } }
  else { a with eg := { a.eg with sched := tblSet 0 a.eg.sched (objIdx o) (val v 4) } }

theorem queueSetCmd_put (a : State) (r : Request) (o : Nat) (v : List Nat) :
    queueSetCmd.put a r o v = .ok (queueChanged o v a) := by
  simp only [queueSetCmd, queueChanged]
  split <;> rfl

theorem queueSetCmd_get_congr {a b : State} (h : a.eg = b.eg) (o : Nat) : queueSetCmd.get a o = queueSetCmd.get b o := by
  simp only [queueSetCmd, qcfgAt, schedOf, h]

/-- What a queue command writes lies in the egress part. -/
theorem queueChanged_eg (o : Nat) (v : List Nat) {a b : State} (h : a.eg = b.eg) : (queueChanged o v a).eg = (queueChanged o v b).eg := by
  unfold queueChanged
  split <;> simp only [h]

theorem queueChanged_kn (o : Nat) (v : List Nat) (a : State) : (queueChanged o v a).kn = a.kn := by
  unfold queueChanged
  split <;> rfl

theorem queueChanged_pending (o : Nat) (v : List Nat) (a : State) : (queueChanged o v a).pending = a.pending := by
  unfold queueChanged
  split <;> rfl

/-! ### Shapers (R207, R209, R210) -/

/-- The stream shaper of index `i` with new parameters, its tokens kept up to the new burst or full where it is enabled (R209). -/
def streamShaper (i : Nat) (v : List Nat) (a : State) : Shaper :=
  let x := shaperAt a i
  let had := tokensOf a i x
  let tok := if valB v 0 = true ∧ x.enable = false then val v 2 * 2 ^ 32 else min had (val v 2 * 2 ^ 32)
  let was := if x.pendTick = now a ∧ x.old.isSome then x.old else some (x.enable, x.rate, x.burst, x.overhead, had)
  { x with enable := valB v 0, rate := val v 1, burst := val v 2, overhead := val v 3, last := now a / 2, tokens := tok
           pendTick := now a, old := was }

/-- The port-class shaper of index `i` with new parameters kept for its next refill (R210). -/
def classShaper (i : Nat) (v : List Nat) (a : State) : Shaper :=
  { shaperAt a i with pend := some (valB v 0, val v 1, val v 2, val v 3), pendTick := now a }

/-- A shaper takes its new parameters. -/
def shaperChanged (i : Nat) (v : List Nat) (a : State) : State :=
  if i < 1024 then drawn (setShaper a i (streamShaper i v a)) else setShaper a i (classShaper i v a)

theorem shaperCmd_put (a : State) (r : Request) (o : Nat) (v : List Nat) :
    shaperCmd.put a r o v = .ok (shaperChanged (objIdx o) v a) := by
  simp only [shaperCmd, shaperChanged, streamShaper, classShaper, Bool.and_eq_true, Bool.not_eq_true']
  split <;> rfl

theorem shaperCmd_get (a : State) (o : Nat) : shaperCmd.get a o = shaperVals (shaperAt a (objIdx o)) := rfl

theorem shaperCmd_get_congr {a b : State} (h : a.eg = b.eg) (o : Nat) : shaperCmd.get a o = shaperCmd.get b o := by
  simp only [shaperCmd_get, shaperAt, h]

theorem shaperAt_shaperChanged (i : Nat) (v : List Nat) (a : State) :
    shaperAt (shaperChanged i v a) i = if i < 1024 then streamShaper i v a else classShaper i v a := by
  unfold shaperChanged
  split
  · exact shaperAt_setShaper a i _
  · exact shaperAt_setShaper a i _

/-- What a shaper reads as after its change depends on the change and, of the state, on the change that it had pending. -/
theorem shaperCmd_get_shaperChanged (v : List Nat) {a b : State} (h : a.eg = b.eg) (o : Nat) :
    shaperCmd.get (shaperChanged (objIdx o) v a) o = shaperCmd.get (shaperChanged (objIdx o) v b) o := by
  rw [shaperCmd_get, shaperCmd_get, shaperAt_shaperChanged, shaperAt_shaperChanged]
  split
  · simp only [shaperVals, streamShaper, shaperAt, h]
  · rfl

theorem shaperChanged_kn (i : Nat) (v : List Nat) (a : State) : (shaperChanged i v a).kn = a.kn := by
  unfold shaperChanged
  split <;> rfl

theorem shaperChanged_pending (i : Nat) (v : List Nat) (a : State) : (shaperChanged i v a).pending = a.pending := by
  unfold shaperChanged
  split <;> rfl

/-! ### Samples (R212 to R214) -/

/-- A new period or base of the sampling clears every sampled value (R212); the parameters `per` and `e` that are in force already leave
them. -/
def samplingChanged (per e : Nat) (v : List Nat) (a : State) : State :=
  if val v 0 = per ∧ val v 1 = e then a
  else { clearSamples a with eg := { a.eg with
    qs := [], qsTick := none, qsOld := [], qsPeriod := val v 0, qsE := val v 1
    qsNext := (ntNs a / (val v 0 * 1000) + 1) * (val v 0 * 1000) } }

theorem qsampleCmd_put (a : State) (r : Request) (o : Nat) (v : List Nat) :
    qsampleCmd.put a r o v = .ok (samplingChanged a.eg.qsPeriod a.eg.qsE v a) := by
  simp only [qsampleCmd, samplingChanged]
  split <;> rfl

theorem qsampleCmd_get_congr {a b : State} (h : a.eg = b.eg) (o : Nat) : qsampleCmd.get a o = qsampleCmd.get b o := by
  simp only [qsampleCmd, h]

theorem qsampleCmd_get_samplingChanged (per e : Nat) (v : List Nat) {a b : State} (h : a.eg = b.eg) (o : Nat) :
    qsampleCmd.get (samplingChanged per e v a) o = qsampleCmd.get (samplingChanged per e v b) o := by
  unfold samplingChanged
  split
  · exact qsampleCmd_get_congr h o
  · rfl

theorem samplingChanged_kn (per e : Nat) (v : List Nat) (a : State) : (samplingChanged per e v a).kn = a.kn := by
  unfold samplingChanged
  split <;> rfl

theorem samplingChanged_pending (per e : Nat) (v : List Nat) (a : State) : (samplingChanged per e v a).pending = a.pending := by
  unfold samplingChanged
  split <;> rfl

/-- Settles O48: each command writes the values of its structure into one table of the egress or of the cycle, from which its object also
reads. -/
theorem knEgressSets : Obligations.KnEgressSets := by
  unfold Obligations.KnEgressSets
  refine ⟨?_, ?_, ?_, ?_, ?_⟩
  · intro s r h v _
    exact knSets_of_put (f := queueChanged r.obj v) h rfl rfl rfl rfl (fun _ => rfl)
      (fun a ha => queueSetCmd_get_congr ha.eg_eq _) (fun a _ => queueSetCmd_put a r _ _)
      (fun a ha => queueSetCmd_get_congr (queueChanged_eg _ _ ha.eg_eq) _) (queueChanged_kn _ _) (queueChanged_pending _ _)
  · intro s r h v _
    exact knSets_of_put (f := shaperChanged (objIdx r.obj) v) h rfl rfl rfl rfl (fun _ => rfl)
      (fun a ha => shaperCmd_get_congr ha.eg_eq _) (fun a _ => shaperCmd_put a r _ _)
      (fun a ha => shaperCmd_get_shaperChanged v ha.eg_eq r.obj) (shaperChanged_kn _ _) (shaperChanged_pending _ _)
  · intro s r h
    refine knSets_of_put h rfl rfl rfl rfl (fun _ => rfl) (fun a ha => ?_) (fun _ _ => rfl) (fun a ha => ?_) (fun _ => rfl)
      (fun _ => rfl) <;>
    simp only [streamBindCmd, ha.eg_eq]
  · intro s r h v
    exact knSets_of_put (f := samplingChanged s.eg.qsPeriod s.eg.qsE v) h rfl rfl rfl rfl (fun _ => rfl)
      (fun a ha => qsampleCmd_get_congr ha.eg_eq _) (fun a ha => ha.eg_eq ▸ qsampleCmd_put a r _ _)
      (fun a ha => qsampleCmd_get_samplingChanged _ _ _ ha.eg_eq _) (samplingChanged_kn _ _ _) (samplingChanged_pending _ _ _)
  · intro s r h v
    refine knSets_of_put h rfl rfl rfl rfl (fun _ => rfl) (fun a ha => ?_) (fun _ _ => rfl) (fun a ha => ?_) (fun _ => rfl)
      (fun _ => rfl) <;>
    simp only [slotBindCmd, ha.cyc_eq]

end Sys2Proof.Machine
end

section
/-! PROOFS. The commands that only read: an accepted one answers from a state that shows what the state before it shows, and the
statement O59. -/

namespace Sys2Proof.Machine

open Sys2Proof

/-! ### Moderation times (R300) -/

/-- Every vector keeps its moderation time. -/
def ModerKept (s t : State) : Prop := ∀ f v, (vecAt t f v).moder = (vecAt s f v).moder

theorem ModerKept.of_vecs {s t : State} (h : t.host.vecs = s.host.vecs) : ModerKept s t := by
  intro f v
  rw [vecAt, vecAt, h]

theorem setVec_moder {s : State} {f v : Nat} {x : Vec} (h : x.moder = (vecAt s f v).moder) : ModerKept s (setVec s f v x) := by
  intro g w
  unfold vecAt setVec
  by_cases hk : g * 256 + w = f * 256 + v
  · rw [hk, tblGet_tblSet_same]
    exact h
  · rw [tblGet_tblSet_ne _ _ _ _ _ hk]

theorem markVec_moder (s : State) (f v : Nat) : ModerKept s (markVec s f v) := by
  have hmark : ModerKept s (setVec s f v { vecAt s f v with pend := true }) := setVec_moder rfl
  unfold markVec trySend
  generalize setVec s f v { vecAt s f v with pend := true } = t at hmark
  split
  · have hsent : ModerKept t (setVec t f v { vecAt t f v with pend := false, lastSent := some (now t) }) := setVec_moder rfl
    exact fun g w => (hsent g w).trans (hmark g w)
  · exact hmark

theorem signal_moder (s : State) (n : Nat) : ModerKept s (signal s n) := by
  unfold signal
  split
  · exact fun _ _ => rfl
  · split
    · exact markVec_moder s _ _
    · exact fun _ _ => rfl

theorem perf_moder (s : State) (i : Nat) : ModerKept s (perf s i) := by
  unfold perf perfN
  dsimp only
  split
  · exact .of_vecs rfl
  · exact signal_moder _ _

theorem restartLease_host (s : State) : (restartLease s).host = s.host := by rw [restartLease]

theorem begun_moder (s : State) (c : Cmd) (r : Request) : ModerKept s (begun s c r) := by
  have hperf := perf_moder (dropRequest s r.master) (pPkg 5)
  have hlease : ∀ a, ModerKept a (restartLease a) := fun a => .of_vecs (by rw [restartLease_host])
  have hdrop : ModerKept s (dropRequest s r.master) := .of_vecs rfl
  unfold begun
  dsimp only
  generalize perf (dropRequest s r.master) (pPkg 5) = t at hperf
  split
  · exact fun f v => ((hlease t f v).trans (hperf f v)).trans (hdrop f v)
  · exact fun f v => (hperf f v).trans (hdrop f v)

/-! ### What an accepted read does -/

/-- A state in which every read answers as in another: it shows the same, and its vectors have the same moderation times. -/
structure ReadsAlike (s a : State) : Prop where
  twins : Twins (kept a) (kept s) a s
  moder : ModerKept s a

theorem begun_readsAlike (s : State) (c : Cmd) (r : Request) : ReadsAlike s (begun s c r) :=
  ⟨.of_shown (shown_begun s c r), begun_moder s c r⟩

/-- An accepted command of class R that answers without an effect changes nothing that a read shows: its result is answered, and neither
the journal nor the lease moves. -/
theorem knReads_of {i : Instr} {s : State} {r : Request} {code : Nat} {x : Exe} {c : Cmd} {run : State → Request → Res}
    {res bulk : Octets} (h : Accepted s code x r) (hc : cmdOf code = some c) (hr : c.cls = .r)
    (hrow : exec i s = .next (keeping s (runKn s code x)))
    (hx : x.run = run) (hrun : ∀ a, ReadsAlike s a → run a r = .ok a res bulk) : KnReads i s r s.kn.leaseEnd res bulk id := by
  obtain ⟨hn, hcode, hb, hpre⟩ := h.checks hc
  obtain ⟨hframe, hlease, hjournal, hseq, hchain, hanswer⟩ :=
    runKn_ok hn hcode hb hc hpre (hx ▸ hrun _ (begun_readsAlike s c r)) (begun_waiting s c r)
  have hbegun := begun_frame s c r
  have hsame : keeping s (runKn s code x) = runKn s code x := keeping_eq (hframe.pending_eq.trans hbegun.pending_eq)
  have hres : (if c.cls = .w ∧ (begun s c r).kn.seq ≠ s.kn.seq then leBytes 8 s.kn.seq else []) ++ res = res := by simp [hr]
  rw [hsame] at hrow
  rw [hres, Answered, respImage_congr hbegun] at hanswer
  rw [begun_kn] at hlease hjournal hseq hchain
  refine ⟨begun s c r, _, hbegun, hrow, hframe, ⟨hjournal, hseq, hchain⟩, ?_, hanswer⟩
  simpa [hr] using hlease

/-! ### KN_OBJ_READ (R412) -/

/-- A set command whose objects lie in what a state shows. -/
def ReadsShown (c : SetCmd) : Prop := ∀ s o, c.objOk (shown s) o = c.objOk s o ∧ c.get (shown s) o = c.get s o

/-- Only the object of an event source reads more than what a state shows: the moderation time of a vector. -/
theorem objCmds_readsShown : ∀ c ∈ objCmds, c = eventMapCmd ∨ ReadsShown c := by
  simp only [objCmds, List.cons_append, List.nil_append, List.forall_mem_cons, List.not_mem_nil, false_imp_iff, implies_true, and_true,
    true_or, true_and]
  refine ⟨?_, ?_, ?_, ?_, ?_, ?_, ?_, ?_, ?_, ?_, ?_, ?_, ?_, ?_, ?_, ?_, ?_, ?_, ?_, ?_, ?_, ?_, ?_, ?_, ?_, ?_⟩ <;>
  exact .inr fun _ _ => ⟨rfl, rfl⟩

theorem ReadsAlike.eventMapCmd_get {s a : State} (h : ReadsAlike s a) (o : Nat) : eventMapCmd.get a o = eventMapCmd.get s o := by
  simp only [eventMapCmd, h.twins.read (·.host.evMap)]
  split
  · rfl
  · rw [h.moder]

theorem ReadsAlike.objStructs_eq {s a : State} (h : ReadsAlike s a) (o : Nat) : objStructs a o = objStructs s o := by
  have hread : ∀ c ∈ objCmds, c.objOk a o = c.objOk s o ∧ c.read a o = c.read s o := by
    intro c hc
    rcases objCmds_readsShown c hc with rfl | hshown
    · exact ⟨rfl, congrArg (pStruct o (eventMapCmd.defs o)) (h.eventMapCmd_get o)⟩
    · exact ⟨h.twins.read (c.objOk · o) fun b => (hshown b o).1,
        congrArg (pStruct o (c.defs o)) (h.twins.read (c.get · o) fun b => (hshown b o).2)⟩
  unfold objStructs
  rw [List.filter_congr fun c hc => (hread c hc).1]
  exact List.flatMap_congr fun c hc => (hread c (List.mem_of_mem_filter hc)).2

theorem objReadExe_run : objReadExe.run = objReadRun := by rw [objReadExe]

theorem objReadRun_ok {a : State} {r : Request} (hx : objStructs a r.obj ≠ []) (habs : isAbsent a r.obj = false)
    (hcls : objCls r.obj ≠ 0x12) : objReadRun a r = .ok a ((objStructs a r.obj).take 240) [] := by
  simp [objReadRun, hx, habs, hcls]

/-! ### The other reads -/

/-- An octet that leads a string stays in its front. -/
theorem take_append_octet (v n : Nat) (o : Octets) : (leBytes 1 v ++ o).take (n + 1) = leBytes 1 v ++ o.take n := rfl

/-- What the ring's status says after its four states (R48, R49; log entry 29). -/
def ringStatusTail (s : State) : Octets :=
  let c := s.cyc.c0.getD 0
  (leBytes 1 (if s.ring.cwLearnt then rpBit s.ring.cwPort else 0xFF) ++ leBytes 1 s.ring.keystone ++ leBytes 2 0 ++
    leBytes 8 (c / 65536) ++ leBytes 8 (c % 65536) ++ leBytes 8 s.cyc.n ++
    leBytes 8 (sigma s .cw) ++ leBytes 8 (sigma s .ccw) ++ leBytes 8 (lap s .cw) ++ leBytes 8 (lap s .ccw)) ++
    (ownPiers s).flatMap (fun p =>
      leBytes 2 p.slot ++ leBytes 1 (claimNo (claimAt s p.idx).state) ++ leBytes 1 (claimAt s p.idx).count ++ leBytes 4 0)

theorem ReadsAlike.ringStatusTail_eq {s a : State} (h : ReadsAlike s a) : ringStatusTail a = ringStatusTail s := by
  have hring : SameRing s a := h.twins.read ringBase
  simp only [ringStatusTail, hring.sigma_eq, hring.lap_eq, h.twins.read (·.cyc), h.twins.read (·.ring), h.twins.read ownPiers,
    h.twins.read claimAt]

theorem ringStatusRun_ok {a : State} {r : Request} (hb : r.isBulk = false) : ringStatusRun a r = .ok a
    (leBytes 1 (ringStateNo a.ring.state) ++ leBytes 1 (timeState a) ++ leBytes 1 (portStateNo a.ring.east.state) ++
      leBytes 1 (portStateNo a.ring.west.state) ++ (ringStatusTail a).take 236) [] := by
  simp only [ringStatusRun, ringStatusTail, hb, Bool.false_eq_true, if_false, List.append_assoc, take_append_octet _ 239,
    take_append_octet _ 238, take_append_octet _ 237, take_append_octet _ 236]

theorem gateReadRun_ok {a : State} {r : Request} (ho : objIn 0x0B 18 r.obj = true) (habs : isAbsent a r.obj = false)
    (hb : r.isBulk = false) (hp : (gateAt a (objIdx r.obj)).pend = none) :
    let g := gateAt a (objIdx r.obj)
    let x := gatePos g (nt16 a)
    gateReadRun a r = .ok a
      ((leBytes 4 0 ++ leBytes 4 x.entry ++ leBytes 8 0 ++ leBytes 8 (x.start.getD 0 / 65536) ++ gateOctets g.oper g.since).take 240)
      [] := by
  dsimp only
  rw [gateReadRun, onObject_run (ok := gateObjOk) ho habs]
  simp [hp, hb, b2n]

theorem preemptReadRun_ok {a : State} {r : Request} (ho : objIn 0x01 18 r.obj = true) (habs : isAbsent a r.obj = false) :
    let p := objIdx r.obj
    preemptReadRun a r = .ok a
      (preemptCmd.read a r.obj ++ leBytes 4 (verNo (preAt a p).ver) ++ leBytes 4 (b2n (preemptActive a p)) ++
        leBytes 4 (if lineMbps a p = 0 then 0 else holdAdvance a p / 65536) ++ leBytes 4 0) [] := by
  dsimp only
  rw [preemptReadRun, onObject_run (ok := macPort) ho habs]

theorem portStatusRun_ok {a : State} {r : Request} (ho : objIn 0x01 20 r.obj = true) (habs : isAbsent a r.obj = false) :
    portStatusRun a r = .ok a (leBytes 4 (statusWord a (objIdx r.obj))) [] := by
  rw [portStatusRun, onObject_run (ok := fun _ o => objIn 0x01 20 o) ho habs]

theorem padTo_length (o : Octets) : padTo o.length o = o := by simp [padTo]

theorem moduleReadExe_run (o : Option Octets) : (moduleReadExe o).run = moduleReadRun o := by rw [moduleReadExe]

theorem moduleReadRun_ok {a : State} {r : Request} {o : Octets} (hz : leAt r.params 4 4 = 0) (hp : 16 ≤ leAt r.params 0 1)
    (hp' : leAt r.params 0 1 < 20) (hn : 0 < leAt r.params 3 1) (hn' : leAt r.params 3 1 ≤ 240)
    (hfit : leAt r.params 2 1 + leAt r.params 3 1 ≤ 256) (ho : o.length = leAt r.params 3 1)
    (hin : inService a (if leAt r.params 0 1 < 18 then .edge else .ring) = true) :
    moduleReadRun (some o) a r = .ok a o [] := by
  unfold moduleReadRun
  dsimp only
  rw [if_neg (by simp [hz]), if_neg (by omega), if_neg (by omega), hin, ← ho, padTo_length, List.take_length]
  rfl

theorem dmaqStatusRun_ok {a : State} {r : Request} (ho : dmaObj a r.obj = true) (habs : isAbsent a r.obj = false) :
    dmaqStatusRun a r = .ok a ((ringsOf (objIdx r.obj)).flatMap (ringStatus a)) [] := by
  rw [dmaqStatusRun, onObject_run ho habs]

theorem faultLogReadExe_run : faultLogReadExe.run = faultLogRun := by rw [faultLogReadExe]

theorem faultLogRun_ok {a : State} {r : Request} (hsel : leAt r.params 12 1 = 0) (hb : r.isBulk = false) (hn : 1 ≤ leAt r.params 8 4)
    (hn' : leAt r.params 8 4 ≤ 16384) :
    let first := leAt r.params 0 8
    let n := leAt r.params 8 4
    faultLogRun a r = .ok a
      (leBytes 8 (oldestLog a) ++ leBytes 8 (newestLog a) ++
        (((a.flt.log.filter (fun w => decide (first ≤ logSeqOf w ∧ logSeqOf w < first + n))).reverse.map (leBytes 32)).take 7).flatten)
      [] := by
  unfold faultLogRun
  dsimp only
  rw [if_neg (by omega), if_neg (by omega), hb, hsel]
  simp only [Bool.false_eq_true, if_false, if_true, Bool.decide_and]

theorem ReadsAlike.isAbsent_eq {s a : State} (h : ReadsAlike s a) {o : Nat} (habs : isAbsent s o = false) : isAbsent a o = false :=
  (h.twins.read (isAbsent · o)).trans habs

/-- Settles O59: each command is of class R, and what it answers is the same in every state that reads alike. -/
theorem knReadAnswers : Obligations.KnReadAnswers := by
  unfold Obligations.KnReadAnswers
  refine ⟨?_, ?_, ?_, ?_, ?_, ?_, ?_, ?_, ?_, ?_⟩
  · intro s r h hx habs hcls
    refine knReads_of h rfl rfl rfl objReadExe_run fun a ha => ?_
    rw [← ha.objStructs_eq] at hx ⊢
    exact objReadRun_ok hx (ha.isAbsent_eq habs) hcls
  · intro s r h hb
    refine ⟨(ringStatusTail s).take 236, knReads_of (run := ringStatusRun) h rfl rfl rfl rfl fun a ha => (ringStatusRun_ok hb).trans ?_⟩
    rw [ha.twins.read (·.ring.state), ha.twins.read timeState, ha.twins.read (·.ring.east.state), ha.twins.read (·.ring.west.state),
      ha.ringStatusTail_eq]
  · intro s r h ho habs hb hp g x
    refine knReads_of (run := gateReadRun) h rfl rfl rfl rfl fun a ha => ?_
    have hgate := ha.twins.read (gateAt · (objIdx r.obj))
    refine (gateReadRun_ok ho (ha.isAbsent_eq habs) hb ((congrArg Gate.pend hgate).trans hp)).trans ?_
    rw [hgate, ha.twins.read nt16]
  · intro s r h ho habs p
    refine knReads_of (run := preemptReadRun) h rfl rfl rfl rfl fun a ha => (preemptReadRun_ok ho (ha.isAbsent_eq habs)).trans ?_
    rw [ha.twins.read (preemptCmd.read · _), ha.twins.read (preAt · _), ha.twins.read (preemptActive · _), ha.twins.read (lineMbps · _),
      ha.twins.read (holdAdvance · _)]
  · intro s r h ho habs
    refine knReads_of (run := portStatusRun) h rfl rfl rfl rfl fun a ha => (portStatusRun_ok ho (ha.isAbsent_eq habs)).trans ?_
    rw [ha.twins.read (statusWord · _)]
  · intro s r o h p n hz hp hp' hn hn' hfit ho hin hw
    exact knReads_of h rfl rfl (exec_eq_keeping rfl hw rfl) (moduleReadExe_run _) fun a ha =>
      moduleReadRun_ok hz hp hp' hn hn' hfit ho ((ha.twins.read (inService · _)).trans hin)
  · intro s r h ho habs
    refine knReads_of (run := dmaqStatusRun) h rfl rfl rfl rfl fun a ha => (dmaqStatusRun_ok (a := a) ho (ha.isAbsent_eq habs)).trans ?_
    rw [ha.twins.read ringStatus]
  · intro s r h
    refine knReads_of (run := recStatusRun) h rfl rfl rfl rfl fun a ha => ?_
    rw [recStatusRun, ha.twins.read driveStatus]
  · intro s r h hsel hb first n hn hn'
    refine knReads_of h rfl rfl rfl faultLogReadExe_run fun a ha => (faultLogRun_ok hsel hb hn hn').trans ?_
    rw [ha.twins.read oldestLog, ha.twins.read newestLog, ha.twins.read (·.flt.log)]
  · intro s r h
    refine knReads_of (run := schedStatusRun) h rfl rfl rfl rfl fun a ha => ?_
    rw [schedStatusRun]
    dsimp only
    rw [ha.twins.read (·.cyc), ha.twins.read (·.sched), ha.twins.read schedStage, ha.twins.read (·.dma)]

end Sys2Proof.Machine
end

section
/-! PROOFS. Gate boundaries and activations, refills, samples and the strainer's timers: what each does to the object it acts on and what
it leaves, and the statement O6. -/

namespace Sys2Proof.Machine

open Sys2Proof

theorem gateAt_keeping (s t : State) (p : Nat) : gateAt (keeping s t) p = gateAt t p := rfl

theorem keeping_ctr (s t : State) : (keeping s t).ctr = t.ctr := rfl

/-! ### A round over objects -/

/-- A round that acts on each object of a list once acts on an object as a single step does, in a state that the round relates to the first
and in which the object stands as at first. -/
theorem foldl_acts_once {α : Type} {f : State → Nat → State} {R : State → State → Prop} {get : State → Nat → α} (hrefl : ∀ s, R s s)
    (htrans : ∀ s t u, R s t → R t u → R s u) (hstep : ∀ s i, R s (f s i)) (hother : ∀ s i j, j ≠ i → get (f s i) j = get s j)
    {l : List Nat} (hl : l.Nodup) {i : Nat} (hi : i ∈ l) (s : State) :
    ∃ u, R s u ∧ get u i = get s i ∧ get (l.foldl f s) i = get (f u i) i := by
  induction l generalizing s with
  | nil => exact absurd hi List.not_mem_nil
  | cons k l ih =>
    obtain ⟨hk, hl⟩ := List.nodup_cons.mp hl
    rcases List.mem_cons.mp hi with rfl | hi
    · have hrest : ∀ (l : List Nat) t, i ∉ l → get (l.foldl f t) i = get t i := by
        intro l
        induction l with
        | nil => exact fun _ _ => rfl
        | cons j l ih =>
          intro t hj
          rw [List.mem_cons, not_or] at hj
          exact (ih (f t j) hj.2).trans (hother t j i hj.1)
      exact ⟨s, hrefl s, rfl, hrest l _ hk⟩
    · obtain ⟨u, hu, hat, hend⟩ := ih hl hi (f s k)
      have hne : i ≠ k := fun h => hk (h ▸ hi)
      exact ⟨u, htrans _ _ _ (hstep s k) hu, hat.trans (hother s k i hne), hend⟩

/-! ### Gates (R199, R201, R225, R526) -/

theorem endPiece_gates (s : State) (p h c : Nat) : (endPiece s p h c).eg.gates = s.eg.gates :=
  ((perf_unseen _ _).trans (emit_unseen _ _)).read (·.eg.gates)

theorem interrupt_gates (s : State) (p : Nat) : (interrupt s p).eg.gates = s.eg.gates := by
  unfold interrupt
  dsimp only
  split
  · rfl
  · split
    · rfl
    · split
      · rfl
      · exact endPiece_gates s p _ _

theorem gateCloses_gates (s : State) (p : Nat) : (gateCloses s p).eg.gates = s.eg.gates := by
  unfold gateCloses cutAtGate
  dsimp only
  split
  · split
    · rfl
    · split
      · rfl
      · exact endPiece_gates s p _ _
  · rfl

theorem raiseHold_gates (s : State) (p : Nat) : (raiseHold s p).eg.gates = s.eg.gates := interrupt_gates _ p

theorem entryActs_gates (s : State) (p op : Nat) : (entryActs s p op).eg.gates = s.eg.gates := by
  unfold entryActs
  dsimp only
  split
  · rfl
  · split
    · split
      · rfl
      · exact raiseHold_gates s p
    · split <;> rfl

theorem activationRecord_gates (s : State) (obj t16 : Nat) : (activationRecord s obj t16).eg.gates = s.eg.gates := by
  unfold activationRecord writeAudit
  dsimp only
  split
  · rfl
  · split
    · exact (perf_unseen _ _).read (·.eg.gates)
    · rfl

/-- A list that becomes operative leaves the gates where its port's new position puts them. -/
theorem gateActivate_gates {s : State} {p act : Nat} {n : GateList} (h : (gateAt s p).pend = some (n, act)) :
    (gateActivate s p).eg.gates =
      (positionGates (setGate s p { gateSwitched (gateAt s p) with ext := false, byImage := false }) p).eg.gates := by
  unfold gateActivate
  simp only [h]
  split
  · rw [entryActs_gates, setMac_eg_gates, regate, gateCloses_gates]
  · rw [activationRecord_gates, entryActs_gates, setMac_eg_gates, regate, gateCloses_gates]

theorem gateActivate_at {s : State} {p act : Nat} {n : GateList} (h : (gateAt s p).pend = some (n, act)) :
    (gateAt (gateActivate s p) p).oper = n ∧ (gateAt (gateActivate s p) p).since = act ∧ (gateAt (gateActivate s p) p).pend = none := by
  rw [gateAt, gateActivate_gates h, ← gateAt]
  simp [positionGates, gateSwitched, h]

/-- GATE_LIST_ACTIVATION at one port. -/
def activateDue (s : State) (p : Nat) : State :=
  match (gateAt s p).pend with
  | some (_, act) => if act ≤ nt16 s then gateActivate s p else s
  | none => s

theorem activateDue_at {s : State} {p act : Nat} {n : GateList} (h : (gateAt s p).pend = some (n, act)) :
    activateDue s p = if act ≤ nt16 s then gateActivate s p else s := by
  rw [activateDue, h]

theorem activateDue_none {s : State} {p : Nat} (h : (gateAt s p).pend = none) : activateDue s p = s := by
  rw [activateDue, h]

theorem activateDue_other (s : State) (p q : Nat) (h : q ≠ p) : gateAt (activateDue s p) q = gateAt s q := by
  match hp : (gateAt s p).pend with
  | none => rw [activateDue_none hp]
  | some (n, act) =>
    rw [activateDue_at hp]
    split
    · rw [gateAt, gateActivate_gates hp, ← gateAt, positionGates, gateAt_setGate_ne _ _ _ _ h, gateAt_setGate_ne _ _ _ _ h]
    · rfl

theorem activateDue_nt16 (s : State) (p : Nat) : nt16 (activateDue s p) = nt16 s := by
  unfold activateDue
  split
  · split
    · exact (gateActivate_still s p).read nt16
    · rfl
  · rfl

theorem gateListActivation_eq (s : State) : gateListActivation s = (List.range 18).foldl activateDue s := rfl

/-- GATE_LIST_ACTIVATION does to a port's gate what it does there alone, at the same instant (R201). -/
theorem gateListActivation_at (s : State) {p : Nat} (hp : p < 18) :
    ∃ u, nt16 u = nt16 s ∧ gateAt u p = gateAt s p ∧ gateAt (gateListActivation s) p = gateAt (activateDue u p) p :=
  foldl_acts_once (R := fun s u => nt16 u = nt16 s) (fun _ => rfl) (fun _ _ _ h g => g.trans h) activateDue_nt16 activateDue_other
    List.nodup_range (List.mem_range.mpr hp) s

theorem gateListActivation_due {s : State} {p act : Nat} {n : GateList} (hp : p < 18) (h : (gateAt s p).pend = some (n, act))
    (hdue : act ≤ nt16 s) : (gateAt (gateListActivation s) p).oper = n ∧ (gateAt (gateListActivation s) p).since = act ∧
      (gateAt (gateListActivation s) p).pend = none := by
  obtain ⟨u, ht, hg, hat⟩ := gateListActivation_at s hp
  rw [← hg] at h
  rw [hat, activateDue_at h, if_pos (ht.symm ▸ hdue)]
  exact gateActivate_at h

theorem gateListActivation_stays {s : State} {p : Nat} (hp : p < 18) (h : ∀ n act, (gateAt s p).pend = some (n, act) → nt16 s < act) :
    gateAt (gateListActivation s) p = gateAt s p := by
  obtain ⟨u, ht, hg, hat⟩ := gateListActivation_at s hp
  rw [hat, ← hg]
  match hp : (gateAt u p).pend with
  | none => rw [activateDue_none hp]
  | some (n, act) =>
    have hlater := h n act (hg ▸ hp)
    rw [activateDue_at hp, if_neg (by omega)]

/-- With no preemptable frame in progress a boundary positions the gates, and the entry that begins acts. -/
theorem gateEntryBoundary_due {s : State} {p : Nat} (h0 : (gateAt s p).next ≠ 0) (hn : (gateAt s p).next ≤ nt16 s)
    (hm : (macAt s p).pm = none) : gateEntryBoundary s p =
      entryActs (positionGates s p) p (opAt (gateAt (positionGates s p) p) (gateAt (positionGates s p) p).start
        (gateAt (positionGates s p) p).entry) := by
  have hcloses : gateCloses (positionGates s p) p = positionGates s p := by
    have hmac : (macAt (positionGates s p) p).pm = none := hm
    simp [gateCloses, hmac]
  rw [gateEntryBoundary, if_pos ⟨h0, hn⟩, hcloses]

theorem entryActs_rests {s : State} {p op : Nat} (h : preemptActive s p = false ∨ op = 0) : entryActs s p op = s := by
  rcases h with h | rfl
  · simp [entryActs, h]
  · simp [entryActs]

/-- A hold that is raised with no preemptable frame in progress is only counted (R526). -/
theorem entryActs_holds {s : State} {p : Nat} (ha : preemptActive s p = true) (hh : (macAt s p).hold = false)
    (hm : (macAt s p).pm = none) : entryActs s p 1 = countPort (setMac s p { macAt s p with hold := true }) p 55 := by
  have hidle : (macAt (countPort (setMac s p { macAt s p with hold := true }) p 55) p).pm = none := by
    rw [show macAt (countPort (setMac s p _) p 55) p = macAt (setMac s p _) p from rfl, macAt_setMac]
    exact hm
  simp only [entryActs, ha, hh, raiseHold, interrupt, hidle, Bool.not_true, Bool.false_eq_true, if_false, if_true]

theorem entryActs_releases {s : State} {p : Nat} (ha : preemptActive s p = true) :
    entryActs s p 2 = setMac s p { macAt s p with hold := false } := by
  simp [entryActs, ha]

theorem gateEntryBoundary_rests {s : State} {p : Nat} (h : nt16 s < (gateAt s p).next) : gateEntryBoundary s p = s :=
  if_neg (by omega)

theorem positionGates_at (s : State) (p : Nat) : (gateAt (positionGates s p) p).states = (gatePos (gateAt s p) (nt16 s)).states ∧
    (gateAt (positionGates s p) p).entry = (gatePos (gateAt s p) (nt16 s)).entry ∧
    (gateAt (positionGates s p) p).oper = (gateAt s p).oper := by
  rw [positionGates, gateAt_setGate]
  exact ⟨rfl, rfl, rfl⟩

theorem holdAdvanceCmd_raises {s : State} {p : Nat} (ha : preemptActive s p = true) (h0 : (gateAt s p).next ≠ 0)
    (hop : nextOp (gateAt s p) = 1) (hn : (gateAt s p).next ≤ nt16 s + holdAdvance s p) (hh : (macAt s p).hold = false) :
    holdAdvanceCmd s p = raiseHold s p := by
  simp [holdAdvanceCmd, ha, h0, hop, hn, hh]

theorem holdAdvanceCmd_rests {s : State} {p : Nat} (h : preemptActive s p = false) : holdAdvanceCmd s p = s := by
  simp [holdAdvanceCmd, h]

/-! ### Refills (R210, R211) -/

/-- A refill of port-class shapers leaves every stream shaper. -/
theorem foldl_refill_stream (t : Nat) {i : Nat} (hi : i < 1024) (l : Tbl Shaper) (s : State) :
    shaperAt (l.foldl (fun u e => if e.1 < 1024 then u else drawn (setShaper u e.1 (classRefill u t e.2))) s) i = shaperAt s i := by
  induction l generalizing s with
  | nil => rfl
  | cons e l ih =>
    rw [List.foldl_cons, ih]
    split
    · rfl
    · exact shaperAt_setShaper_ne s e.1 i _ (by omega)

theorem shaperRefill_due {s : State} (h : s.eg.lastRefill + 125 ≤ now s) :
    (shaperRefill s).eg.lastRefill = s.eg.lastRefill + 125 ∧ ∀ i < 1024, shaperAt (shaperRefill s) i = shaperAt s i := by
  have hdue : due s (s.eg.lastRefill + 125) = true := decide_eq_true h
  rw [shaperRefill, if_pos hdue]
  exact ⟨rfl, fun i hi => foldl_refill_stream _ hi _ s⟩

theorem classRefill_fills {x : Shaper} (he : x.enable = true) (hp : x.pend = none) (hr : x.rate * 2 ^ 25 % 625 = 0) (s : State) (t : Nat) :
    classRefill s t x = { x with tokens := min (x.burst * 2 ^ 32) (x.tokens + x.rate * 2 ^ 25 / 625) } := by
  unfold classRefill
  dsimp only
  rw [if_pos he, if_pos hr, Nat.add_zero]
  simp only [hp]

/-! ### Samples (R212, R213) -/

theorem sojournBin_le (e soj : Nat) : sojournBin e soj ≤ 15 := by
  unfold sojournBin
  cases h : (List.range 15).find? fun b => decide (soj < 2 ^ e * 2 ^ b) with
  | none => exact Nat.le_refl 15
  | some b =>
    have := List.mem_range.mp (List.mem_of_find?_eq_some h)
    simp only [Option.getD_some]
    omega

/-- The bins of a queue's sojourn times are other counters than the number of any queue's samples (R458). -/
theorem samples_ne_bin (i j e soj : Nat) : statIdx 0x0B j 0 ≠ statIdx 0x0B i (1 + sojournBin e soj) := by
  have := sojournBin_le e soj
  unfold statIdx
  omega

/-- What a sampling instant enters for a queue: its values, and the number of its samples. -/
def sampledAt (s : State) (i : Nat) : QSample × Stat := (tblGet {} s.eg.qs i, tblGet {} s.ctr.stat (statIdx 0x0B i 0))

theorem SampledOnly.trans {s t u : State} (h : SampledOnly s t) (g : SampledOnly t u) : SampledOnly s u := by
  obtain ⟨_, _, _, rfl⟩ := h
  obtain ⟨qs, old, ctr, rfl⟩ := g
  exact ⟨qs, old, ctr, rfl⟩

theorem sampleQueue_other (t : Nat) (s : State) (i j : Nat) (h : j ≠ i) : sampledAt (sampleQueue t s i) j = sampledAt s j := by
  have hqs : tblGet {} (sampleQueue t s i).eg.qs j = tblGet {} s.eg.qs j := tblGet_tblSet_ne _ _ _ _ _ h
  have hstat : tblGet {} (sampleQueue t s i).ctr.stat (statIdx 0x0B j 0) = tblGet {} s.ctr.stat (statIdx 0x0B j 0) :=
    (tblGet_tblSet_ne _ _ _ _ _ (samples_ne_bin _ _ _ _)).trans (tblGet_tblSet_ne _ _ _ _ _ (by unfold statIdx; omega))
  rw [sampledAt, hqs, hstat, sampledAt]

/-- A queue's values after a sample of depth and sojourn `v` (R213). -/
def sampled (x : QSample) (v : Nat × Nat × Nat) : QSample :=
  { minBytes := min x.minBytes v.1, maxBytes := max x.maxBytes v.1, minFrames := min x.minFrames v.2.1
    maxFrames := max x.maxFrames v.2.1, minSoj := min x.minSoj v.2.2, maxSoj := max x.maxSoj v.2.2 }

theorem sampleQueue_at (t : Nat) (s : State) (i : Nat) : sampledAt (sampleQueue t s i) i =
    (sampled (tblGet {} s.eg.qs i) (queueSample s t (queueKey s (i / 8) (i % 8))),
      (tblGet {} s.ctr.stat (statIdx 0x0B i 0)).add 1 (now s)) := by
  have hqs : tblGet {} (sampleQueue t s i).eg.qs i = sampled (tblGet {} s.eg.qs i) _ := tblGet_tblSet_same _ _ _ _
  have hstat : tblGet {} (sampleQueue t s i).ctr.stat (statIdx 0x0B i 0) = (tblGet {} s.ctr.stat (statIdx 0x0B i 0)).add 1 (now s) :=
    (tblGet_tblSet_ne _ _ _ _ _ (samples_ne_bin _ _ _ _)).trans (tblGet_tblSet_same _ _ _ _)
  rw [sampledAt, hqs, hstat]

theorem foldl_sampleQueue_at (t : Nat) (s : State) {i : Nat} (hi : i < 160) :
    sampledAt ((List.range 160).foldl (sampleQueue t) s) i =
      (sampled (tblGet {} s.eg.qs i) (queueSample s t (queueKey s (i / 8) (i % 8))),
        (tblGet {} s.ctr.stat (statIdx 0x0B i 0)).add 1 (now s)) := by
  obtain ⟨u, ⟨qs, old, ctr, hu⟩, hat, hend⟩ := foldl_acts_once (f := sampleQueue t) (R := SampledOnly) (get := sampledAt)
    (fun s => ⟨_, _, _, rfl⟩) (fun _ _ _ => SampledOnly.trans) (fun s i => ⟨_, _, _, rfl⟩) (sampleQueue_other t) List.nodup_range
    (List.mem_range.mpr hi) s
  obtain ⟨hqs, hstat⟩ := Prod.mk.inj hat
  rw [hend, sampleQueue_at, hqs, hstat, hu]
  rfl

/-- A sampling instant is over: its tick is marked and the next one set (R212, R214). -/
def samplingOver (s : State) (tick next : Nat) : State := { s with eg := { s.eg with qsTick := some tick, qsNext := next } }

theorem qsNext_samplingOver (s : State) (tick next : Nat) : (samplingOver s tick next).eg.qsNext = next := rfl

theorem sampledAt_samplingOver (s : State) (tick next i : Nat) : sampledAt (samplingOver s tick next) i = sampledAt s i := rfl

theorem qsampleInstant_eq {s : State} (hp : s.eg.qsPeriod ≠ 0) (hn : s.eg.qsNext ≤ ntNs s) :
    qsampleInstant s = samplingOver ((List.range 160).foldl (sampleQueue s.eg.qsNext) s) (now s)
      ((ntNs s / (s.eg.qsPeriod * 1000) + 1) * (s.eg.qsPeriod * 1000)) := by
  rw [qsampleInstant, if_pos ⟨hp, hn⟩, samplingOver]

theorem qsampleInstant_at {s : State} (hp : s.eg.qsPeriod ≠ 0) (hn : s.eg.qsNext ≤ ntNs s) {i : Nat} (hi : i < 160) :
    sampledAt (qsampleInstant s) i =
      (sampled (tblGet {} s.eg.qs i) (queueSample s s.eg.qsNext (queueKey s (i / 8) (i % 8))),
        (tblGet {} s.ctr.stat (statIdx 0x0B i 0)).add 1 (now s)) := by
  rw [qsampleInstant_eq hp hn, sampledAt_samplingOver]
  exact foldl_sampleQueue_at s.eg.qsNext s hi

/-! ### The strainer's timers (R248, R249) -/

theorem recoveryTimeout_due {s : State} {i : Nat} (hi : i < 8192) (he : (rcvyAt s i).enable = true) (ht : (rcvyAt s i).takeAny = false)
    (hd : (rcvyAt s i).lastPass + msTicks (rcvyAt s i).timeout ≤ now s) :
    recoveryTimeout s i = count (setRcvy s i { rcvyAt s i with takeAny := true }) 0x05 i 5 := by
  have hdue : due s ((rcvyAt s i).lastPass + msTicks (rcvyAt s i).timeout) = true := decide_eq_true hd
  simp [recoveryTimeout, hi, he, ht, hdue]

theorem recoveryTimeout_rests {s : State} {i : Nat} (h : (rcvyAt s i).enable = false ∨ (rcvyAt s i).takeAny = true) :
    recoveryTimeout s i = s := by
  rcases h with h | h <;> simp [recoveryTimeout, h]

theorem latentPeriodEnd_due {s : State} {i : Nat} {x : Rcvy} (hi : i < 8192) (hx : rcvyAt s i = x) (he : x.enable = true)
    (hl : x.latent = true) (hd : x.perEnd ≤ now s) :
    let u := setRcvy s i { x with passed := 0, disc := 0, perEnd := now s + msTicks x.period }
    latentPeriodEnd s i = if x.diff < x.passed * (x.paths - 1) - x.disc then latentError u i else u := by
  have hdue : due s x.perEnd = true := decide_eq_true hd
  simp [latentPeriodEnd, hi, hx, he, hl, hdue]

theorem latentPeriodEnd_rests {s : State} {i : Nat} (hi : i < 8192) (h : now s < (rcvyAt s i).perEnd) : latentPeriodEnd s i = s := by
  have hdue : due s (rcvyAt s i).perEnd = false := decide_eq_false (by show ¬_ ≤ now s; omega)
  simp [latentPeriodEnd, hi, hdue]

/-- Settles O6: each clause is what a timer of the egress or of the strainer does where it is due, and that it rests where it is not. -/
theorem gatesSamplesAndStrainerTimers : Obligations.GatesSamplesAndStrainerTimers := by
  unfold Obligations.GatesSamplesAndStrainerTimers
  refine ⟨?_, ?_, ?_, ?_, ?_, ?_, ?_, ?_, ?_, ?_, ?_, ?_⟩
  · intro s p hw h0 hn hm u op
    have hrow : gateEntryBoundary s p = entryActs u p op := gateEntryBoundary_due h0 hn hm
    obtain ⟨hstates, hentry, hoper⟩ := positionGates_at s p
    refine ⟨hstates, hentry, hoper, fun h => ?_, fun ha hop hh => ?_, fun ha hop => ?_⟩
    · exact exec_eq_next rfl hw (hrow.trans (entryActs_rests h)) rfl
    · rw [hop] at hrow
      exact exec_eq_next rfl hw (hrow.trans (entryActs_holds ha hh hm)) rfl
    · rw [hop] at hrow
      exact exec_eq_next rfl hw (hrow.trans (entryActs_releases ha)) rfl
  · intro s p hw h
    exact exec_eq_next rfl hw (gateEntryBoundary_rests h) rfl
  · intro s
    refine ⟨_, exec_eq_keeping rfl rfl rfl, fun p hp => ?_⟩
    rw [gateAt_keeping]
    cases hpend : (gateAt s p).pend with
    | none => exact gateListActivation_stays hp (by simp [hpend])
    | some e =>
      obtain ⟨n, act⟩ := e
      dsimp only
      split
      · next hdue => exact gateListActivation_due hp hpend hdue
      · next hdue => exact gateListActivation_stays hp (by simp [hpend]; omega)
  · intro s p hw ha h0 hop hn hh
    exact exec_eq_keeping rfl hw (holdAdvanceCmd_raises ha h0 hop hn hh)
  · intro s p hw h
    exact exec_eq_next rfl hw (holdAdvanceCmd_rests h) rfl
  · intro s h
    exact ⟨_, exec_eq_keeping rfl rfl rfl, shaperRefill_due h⟩
  · intro s t x he hp hr
    exact classRefill_fills he hp hr s t
  · intro s hp hn
    refine ⟨_, exec_eq_keeping rfl rfl rfl, fun i hi => ?_, ?_⟩
    · rw [keeping_eg, keeping_ctr]
      exact Prod.mk.inj (qsampleInstant_at hp hn hi)
    · rw [keeping_eg, qsampleInstant_eq hp hn, qsNext_samplingOver]
  · intro s i hw hi he ht hd
    exact exec_eq_next rfl hw (recoveryTimeout_due hi he ht hd) rfl
  · intro s i hw h
    exact exec_eq_next rfl hw (recoveryTimeout_rests h) rfl
  · intro s i hw hi he hl hd x u
    have hrow := latentPeriodEnd_due hi rfl he hl hd
    exact ⟨fun hbad => exec_eq_keeping rfl hw (hrow.trans (if_pos hbad)),
      fun hgood => exec_eq_next rfl hw (hrow.trans (if_neg (Nat.not_lt.mpr hgood))) rfl⟩
  · intro s i hw hi h
    exact exec_eq_next rfl hw (latentPeriodEnd_rests hi h) rfl

end Sys2Proof.Machine
end

section
/-! PROOFS. What the departures of frames and the records of the host queues leave as it was: the facts that the statements about images
and about frames sent share. -/

namespace Sys2Proof.Machine

open Sys2Proof

/-- A state without the vat and its cellar, the host queues and drives, the counters, the outputs, the vectors, Keanak and the commands
that wait. -/
def beyondBase (s : State) : State :=
  { shown s with vat := {}, dma := {}, host := {}, geley := {}, clk := { s.clk with cellarSelfRefresh := false, cellarUse := 0 } }

/-- Two states that agree in all else. -/
def Beyond (s t : State) : Prop := beyondBase t = beyondBase s

namespace Beyond

theorem refl (s : State) : Beyond s s := rfl

theorem trans {s t u : State} (h : Beyond s t) (g : Beyond t u) : Beyond s u := Eq.trans g h

theorem foldl {β : Type} {f : State → β → State} (hf : ∀ s b, Beyond s (f s b)) (l : List β) (s : State) : Beyond s (l.foldl f s) := by
  induction l generalizing s with
  | nil => exact .refl s
  | cons b l ih => exact (hf s b).trans (ih _)

theorem ite {s t u : State} {c : Prop} [Decidable c] (h : Beyond s t) (g : Beyond s u) : Beyond s (if c then t else u) := by
  split
  · exact h
  · exact g

/-- What reads no more of a state agrees. -/
theorem read {α : Type} {s t : State} (h : Beyond s t) (r : State → α) (hr : ∀ a, r (beyondBase a) = r a := by exact fun _ => rfl) :
    r t = r s := by
  rw [← hr t, ← hr s, h]

end Beyond

theorem Unseen.beyond {s t : State} (h : Unseen s t) : Beyond s t := h.read beyondBase

theorem Beyond.unseen {s t u : State} (h : Beyond s t) (g : Unseen t u) : Beyond s u := h.trans g.beyond

/-! ### Frames leave the vat -/

theorem vat_beyond (s : State) (v : Vat) : Beyond s { s with vat := v } := rfl

theorem setFrame_beyond (s : State) (n : Nat) (v : VFrame) : Beyond s (setFrame s n v) := rfl

theorem freeFrame_beyond (s : State) (n : Nat) : Beyond s (freeFrame s n) := vat_beyond s _

theorem toCellar_beyond (s : State) (n : Nat) : Beyond s (toCellar s n) := by
  unfold toCellar
  dsimp only
  split
  · refine Beyond.unseen (.unseen ?_ (perf_unseen _ _)) (perfN_unseen _ _ _)
    rfl
  · exact .refl s

theorem finishDest_beyond (s : State) (n d : Nat) : Beyond s (finishDest s n d) := by
  unfold finishDest
  dsimp only
  have hvat : ∀ (t : State) (c : Prop) [Decidable c] (v : Vat), Beyond s t → Beyond s (if c then { t with vat := v } else t) :=
    fun t c _ v h => .ite (h.trans (vat_beyond t v)) h
  split
  · refine .ite (.trans (.trans ?_ (setFrame_beyond _ n _)) (freeFrame_beyond _ n))
      (.trans (.trans ?_ (setFrame_beyond _ n _)) (toCellar_beyond _ n)) <;>
    exact hvat _ _ _ (hvat s _ _ (.refl s))
  · exact .refl s

theorem releaseLocal_beyond (s : State) (h : Option Nat) (o : Option RFrame) : Beyond s (releaseLocal s h o) := by
  unfold releaseLocal
  split
  · exact finishDest_beyond s _ _
  · exact .refl s

/-! ### Records of the host queues (R324, R329, R346) -/

theorem dma_beyond (s : State) (x : Dma) : Beyond s { s with dma := x } := rfl

theorem dropJob_beyond (s : State) (q idx : Nat) : Beyond s (dropJob s q idx) := dma_beyond s _

theorem setQ_beyond (s : State) (q : Nat) (x : QReg) : Beyond s (setQ s q x) := rfl

theorem setJob_beyond (s : State) (j : Job) : Beyond s (setJob s j) := rfl

theorem fireFull_beyond (s : State) (cq : Nat) : Beyond s (fireFull s cq) :=
  .ite ((setQ_beyond s cq _).unseen (fireCq_unseen _ cq 1)) (.refl s)

theorem cqHalt_beyond (s : State) (cq idx cqe reason : Nat) : Beyond s (cqHalt s cq idx cqe reason) :=
  (((setQ_beyond s cq _).unseen (perf_unseen _ _)).trans (dma_beyond _ _)).unseen (fireCq_unseen _ cq 2)

theorem cqWrite_beyond (s : State) (cq cqe : Nat) : Beyond s (cqWrite s cq cqe) := by
  unfold cqWrite
  extract_lets c n word addr s1 s2
  have h1 : Beyond s s1 := (hostWr_unseen s cq _ _ _ _).beyond
  have h2 : Beyond s s2 := (h1.trans (setQ_beyond s1 cq _)).unseen (perf_unseen _ _)
  exact .ite (cqHalt_beyond s cq _ _ _) (.ite (h2.unseen (fireCq_unseen s2 cq 0)) h2)

theorem cqPost_beyond (s : State) (cq cqe chan : Nat) : Beyond s (cqPost s cq cqe chan) :=
  .ite (setQ_beyond s cq _)
    (.ite ((setQ_beyond s cq _).trans (fireFull_beyond _ cq)) ((setQ_beyond s cq _).trans (cqWrite_beyond _ cq cqe)))

theorem postErr_beyond (s : State) (q : Nat) : Beyond s (postErr s q) := by
  unfold postErr
  split
  · exact .refl s
  · exact (setQ_beyond s q _).trans (cqPost_beyond _ _ _ 0)

theorem g1WriteBack_beyond (s : State) (q : Nat) (j : Job) (status : Nat) : Beyond s (g1WriteBack s q j status) := by
  unfold g1WriteBack
  extract_lets x one l s1
  have hone : ∀ t e, Beyond t (one t e) := fun t e =>
    .ite ((hostWr_unseen t q _ _ _ _).beyond.unseen (signal_unseen _ _)) (hostWr_unseen t q _ _ _ _).beyond
  exact (Beyond.foldl hone _ s).trans (setQ_beyond s1 q _)

theorem drainCheck_beyond (s : State) (q : Nat) : Beyond s (drainCheck s q) :=
  .ite ((dma_beyond s _).trans (setQ_beyond _ q _)) (.refl s)

theorem settle_beyond (n : Nat) (s : State) (q : Nat) : Beyond s (settle n s q) := by
  induction n generalizing s with
  | zero => exact .refl s
  | succ n ih =>
    unfold settle
    split
    · exact (postErr_beyond s q).trans (drainCheck_beyond _ q)
    · next j _ _ =>
      dsimp only
      generalize hs0 : (if idxDiff (qAt s q).errIdx j.idx < _ then postErr s q else s) = s0
      have h0 : Beyond s s0 := hs0 ▸ .ite (postErr_beyond s q) (.refl s)
      refine .ite ((h0.trans (dropJob_beyond s0 q j.idx)).trans (.trans ?_ (ih _))) h0
      split
      · exact .refl _
      · exact .ite (g1WriteBack_beyond _ q j _) (cqPost_beyond _ _ _ _)

theorem finishJob_beyond (s : State) (j : Job) (cqe : Option Nat) : Beyond s (finishJob s j cqe) :=
  (setJob_beyond s _).trans (settle_beyond 64 _ _)

theorem jobDone_beyond (s : State) (j : Job) (status : Nat) : Beyond s (jobDone s j status) :=
  .ite (finishJob_beyond s j _) (finishJob_beyond s j _)

theorem setDrive_beyond (s : State) (d : Nat) (x : Drive) : Beyond s (setDrive s d x) := .ite rfl rfl

theorem abandonJob_beyond (s : State) (j : Job) (status : Nat) : Beyond s (abandonJob s j status) := by
  unfold abandonJob
  extract_lets s1 s2
  have h1 : Beyond s s1 := by
    unfold s1
    split
    · exact freeFrame_beyond s _
    · exact .refl s
  have h2 : Beyond s1 s2 := .ite (setDrive_beyond s1 _ _) (.refl s1)
  exact (h1.trans h2).trans (jobDone_beyond s2 j status)

theorem dmaEgressDrop_beyond (s : State) (v : VFrame) : Beyond s (dmaEgressDrop s v) := by
  unfold dmaEgressDrop
  split
  · exact .refl s
  · split
    · exact .refl s
    · exact .ite (finishJob_beyond s _ _) rfl

end Sys2Proof.Machine
end

section
/-! PROOFS. Schedule images staged and activated, flash writes and the stored configuration: what an activation carries over, and the
statement O36. -/

namespace Sys2Proof.Machine

open Sys2Proof

/-! ### What is carried over to an image in force -/

/-- What the steps of an activation neither set nor lose: the images, the origin and number of the cycle, the network time and the switch
of the bypass. -/
def imageBase (s : State) : State :=
  { sched := s.sched, cyc := { image := s.cyc.image, c0 := s.cyc.c0, n := s.cyc.n }, time := { nt := s.time.nt }
    ring := { bypassOn := s.ring.bypassOn } }

/-- Two states that agree in it. -/
def Carried (s t : State) : Prop := imageBase t = imageBase s

namespace Carried

theorem refl (s : State) : Carried s s := rfl

theorem trans {s t u : State} (h : Carried s t) (g : Carried t u) : Carried s u := Eq.trans g h

theorem ite {s t u : State} {c : Prop} [Decidable c] (h : Carried s t) (g : Carried s u) : Carried s (if c then t else u) := by
  split
  · exact h
  · exact g

theorem read {α : Type} {s t : State} (h : Carried s t) (r : State → α) (hr : ∀ a, r (imageBase a) = r a := by exact fun _ => rfl) :
    r t = r s := by
  rw [← hr t, ← hr s, h]

theorem of_held {s t : State} (h : Held s t) (hs : t.sched = s.sched) : Carried s t := by
  have hcyc : (imageBase t).cyc = (imageBase s).cyc := h.read fun a => (imageBase a).cyc
  have hring : (imageBase t).ring = (imageBase s).ring := h.read fun a => (imageBase a).ring
  have htime : (imageBase t).time = (imageBase s).time := h.read fun a => (imageBase a).time
  unfold Carried imageBase at *
  simp_all

end Carried

/-- The same, and a node that is offline stays so. -/
structure Idle (s t : State) : Prop where
  carried : Carried s t
  offline : s.ring.state = .offline → t.ring.state = .offline

namespace Idle

theorem refl (s : State) : Idle s s := ⟨rfl, id⟩

theorem trans {s t u : State} (h : Idle s t) (g : Idle t u) : Idle s u := ⟨h.carried.trans g.carried, g.offline ∘ h.offline⟩

theorem foldl {β : Type} {f : State → β → State} (hf : ∀ s b, Idle s (f s b)) (l : List β) (s : State) : Idle s (l.foldl f s) := by
  induction l generalizing s with
  | nil => exact .refl s
  | cons b l ih => exact (hf s b).trans (ih _)

theorem ite {s t u : State} {c : Prop} [Decidable c] (h : Idle s t) (g : Idle s u) : Idle s (if c then t else u) := by
  split
  · exact h
  · exact g

/-- A change of what is neither carried over nor the ring's state. -/
theorem of_eq {s t : State} (h : imageBase t = imageBase s := by rfl) (hs : t.ring.state = s.ring.state := by rfl) : Idle s t :=
  ⟨h, hs.trans⟩

end Idle

theorem OutFrame.sched_eq {s t : State} (h : OutFrame s t) : t.sched = s.sched := by
  obtain ⟨⟨-, -, -, -, -, -, -, -, -, -, -, -, -, -, -, -, -, -, hsched, -⟩, -⟩ := h
  exact hsched

theorem OutFrame.idle {s t : State} (h : OutFrame s t) : Idle s t :=
  ⟨.of_held h.still.held h.sched_eq, (h.read (·.ring.state)).trans⟩

theorem Beyond.idle {s t : State} (h : Beyond s t) : Idle s t := .of_eq (h.read imageBase) (h.read (·.ring.state))

theorem setRport_idle (s : State) (e : RPort) (x : RingPort) : Idle s (setRport s e x) := by cases e <;> exact .of_eq

/-! ### Gates that follow another list -/

theorem setMac_idle (s : State) (p : Nat) (m : MacTx) : Idle s (setMac s p m) := .of_eq

theorem endPiece_idle (s : State) (p h c : Nat) : Idle s (endPiece s p h c) :=
  (setMac_idle s p _).trans ((perf_out _ _).trans (emit_out _ _)).idle

theorem interrupt_idle (s : State) (p : Nat) : Idle s (interrupt s p) := by
  unfold interrupt
  dsimp only
  split
  · exact .refl s
  · split
    · exact .refl s
    · split
      · exact .refl s
      · exact endPiece_idle s p _ _

theorem gateCloses_idle (s : State) (p : Nat) : Idle s (gateCloses s p) := by
  unfold gateCloses cutAtGate
  dsimp only
  split
  · split
    · exact .refl s
    · exact .ite (.refl s) (endPiece_idle s p _ _)
  · exact .refl s

theorem regate_idle (s : State) (p : Nat) (g : Gate) : Idle s (regate s p g) :=
  .trans (t := positionGates (setGate s p g) p) .of_eq (gateCloses_idle _ p)

theorem entryActs_idle (s : State) (p op : Nat) : Idle s (entryActs s p op) := by
  have hraise : Idle s (raiseHold s p) := ((setMac_idle s p _).trans (countPort_out _ p 55).idle).trans (interrupt_idle _ p)
  exact .ite (.refl s) (.ite (.ite (.refl s) hraise) (.ite (setMac_idle s p _) (.refl s)))

theorem writeAudit_idle (s : State) (body : Octets) (more t16 : Nat) : Idle s (writeAudit s body more t16) := by
  have hrecord : ∀ b, Idle s (writeRecord s b t16) := fun b => .trans .of_eq (perf_out _ _).idle
  unfold writeAudit
  exact .ite (hrecord _) .of_eq

theorem activationRecord_idle (s : State) (obj t16 : Nat) : Idle s (activationRecord s obj t16) :=
  .ite (.refl s) (.trans .of_eq (writeAudit_idle _ _ _ _))

theorem auditStaged_idle (s : State) (r : Request) (obj : Nat) (old new : Option Octets) : Idle s (auditStaged s r obj old new) :=
  (writeAudit_idle s _ 0 _).trans .of_eq

theorem gateActivate_idle (s : State) (p : Nat) : Idle s (gateActivate s p) := by
  unfold gateActivate
  dsimp only
  split
  · exact .refl s
  · have hacts := fun g m op => ((regate_idle s p g).trans (setMac_idle _ p m)).trans (entryActs_idle _ p op)
    exact .ite (hacts _ _ _) ((hacts _ _ _).trans (activationRecord_idle _ _ _))

theorem dropImageGates_idle (s : State) : Idle s (dropImageGates s) := by
  unfold dropImageGates
  exact .foldl (fun t p => .ite (regate_idle t p _) (.refl t)) _ s

theorem pendGates_idle (s : State) (i : Image) (at16 : Nat) : Idle s (pendGates s i at16) := by
  have hdrop : ∀ t obj, Idle t (dropStaged t obj) := fun _ _ => .of_eq
  unfold pendGates
  exact .foldl (fun t e => (hdrop t _).trans (regate_idle _ _ _)) _ s

theorem switchGates_idle (s : State) (i : Image) (at16 : Nat) (timed : Bool) : Idle s (switchGates s i at16 timed) := by
  unfold switchGates
  exact .trans (.ite (.refl s) (pendGates_idle s i at16)) (.foldl (fun t _ => .ite (gateActivate_idle t _) (.refl t)) _ _)

/-! ### Slot buffers and jobs -/

theorem setTx_idle (s : State) (b : Nat) (x : TxBuf) : Idle s (setTx s b x) := .of_eq

theorem refetch_idle (s : State) (b : Nat) (rot : Rot) : Idle s (refetch s b rot) := by
  unfold refetch
  split
  · exact setTx_idle s b _
  · exact .refl s

theorem txWrite_idle (s : State) (b : Nat) (d : Octets) : Idle s (txWrite s b d) := by
  have hagain : ∀ t (c : Bool) rot, Idle t (if c then refetch t b rot else t) := fun t c rot => .ite (refetch_idle t b rot) (.refl t)
  exact .ite (setTx_idle s b _) (((setTx_idle s b _).trans (hagain _ _ .cw)).trans (hagain _ _ .ccw))

theorem syncFiller_idle (s : State) (i : Image) : Idle s (syncFiller s i) := by
  unfold syncFiller
  exact .foldl (fun t _ => .foldl (fun u _ => .ite (.refl u) (txWrite_idle u _ _)) _ t) _ s

theorem abortWrites_idle (s : State) (l : List Nat) : Idle s (abortWrites s l) := by
  unfold abortWrites
  exact .foldl (fun t j => (abandonJob_beyond t j 1).idle) _ s

theorem startWatchdogs_idle (s : State) : Idle s (startWatchdogs s) := by
  unfold startWatchdogs
  exact .foldl (fun t p => .ite .of_eq (.refl t)) _ s

/-! ### Faults that are fed -/

theorem latchRec_sched (s : State) (f : Nat) (r : RecInfo) : (latchRec s f r).sched = s.sched := by
  unfold latchRec
  dsimp only
  split_ifs <;> rfl

theorem startReact_sched (s : State) (f code : Nat) (test : Bool) : (startReact (fun t _ _ => t) s f code test).2.sched = s.sched := by
  unfold startReact
  split
  · rfl
  · exact (perf_out _ _).sched_eq

theorem classify_sched (s : State) (f : Nat) : (classify s f).2.2.2.sched = s.sched := by
  unfold classify
  dsimp only
  split_ifs <;> rfl

theorem requestTest_sched (s : State) (x : SelfTest) : (requestTest s x).sched = s.sched := by
  unfold requestTest
  dsimp only
  split_ifs <;> rfl

/-- An event of a system source resets nothing of the images. -/
theorem feedSystem_sched (s : State) (f loc detail : Nat) : (feedSystem s f loc detail).sched = s.sched := by
  have hreact : ∀ (c : Nat × Nat × Nat × State) (t : Bool), c.2.2.2.sched = s.sched →
      (if 2 < c.2.1 then startReact (fun t _ _ => t) c.2.2.2 f c.2.1 t else (0, c.2.2.2)).2.sched = s.sched := by
    intro c t hc
    split
    · exact (startReact_sched _ _ _ _).trans hc
    · exact hc
  unfold feedSystem feedWith
  simp only [if_true, Bool.false_eq_true, if_false]
  split
  · rfl
  · split
    · rfl
    · split
      · exact latchRec_sched _ _ _
      · split
        · exact latchRec_sched _ _ _
        · have hc := classify_sched (count s 0x0C f 0) f
          generalize classify (count s 0x0C f 0) f = c at hc
          have hlatched := fun t i => (latchRec_sched _ f i).trans (hreact c t hc)
          split <;> split
          · exact (requestTest_sched _ _).trans ((signal_out _ _).sched_eq.trans (hlatched _ _))
          · exact (requestTest_sched _ _).trans (hlatched _ _)
          · exact (signal_out _ _).sched_eq.trans (hlatched _ _)
          · exact hlatched _ _

/-! ### States of the ring -/

theorem cutOwn_out (s : State) (e : RPort) : OutFrame s (cutOwn s e) := by
  unfold cutOwn
  dsimp only
  split
  · exact ((countPort_out s _ _).trans (setRtx_out _ e _)).trans (emit_out _ _)
  · exact .refl s

theorem syncEnds_carried (s : State) (st : RingState) : Carried s (syncEnds s st) := by
  refine .of_held (syncEnds_left s st).1 ?_
  have hcut := (cutOwn_out s .east).trans (cutOwn_out _ .west)
  unfold syncEnds
  dsimp only
  obtain ⟨x, hx⟩ := stopTimers_only _
  rw [hx]
  exact hcut.sched_eq

theorem goState_carried (s : State) (st : RingState) : Carried s (goState s st) := by
  unfold goState
  exact .ite (syncEnds_carried s st) (.ite rfl rfl)

theorem leaveSync_carried (s : State) (code : Nat) (st : RingState) : Carried s (leaveSync s code st) := by
  have hcount := (countN_out (lossNoted s code) 0x07 0 7 1).trans (perf_out _ (pPkg 3))
  refine .trans (t := lossNoted s code) rfl (.of_held (leaveSync_left s code st).1 ?_)
  rw [leaveSync_eq, feedSystem_sched]
  exact ((syncEnds_carried _ st).read (·.sched)).trans hcount.sched_eq

theorem startBurst_idle (s : State) (e : RPort) : Idle s (startBurst s e) := .ite (.refl s) (setRport_idle s e _)

theorem enterCalibrating_carried (s : State) : Carried s (enterCalibrating s) := by
  have hone : ∀ t e, Idle t (startBurst (setRport t e { rport t e with burstOk := false }) e) := fun t e =>
    (setRport_idle t e _).trans (startBurst_idle _ e)
  exact ((goState_carried s .calibrating).trans ((hone _ .east).trans (hone _ .west)).carried).trans rfl

theorem ringRecheck_carried (s : State) : Carried s (ringRecheck s) := .ite (enterCalibrating_carried s) (.refl s)

theorem ringRecheck_bypassed {s : State} (h : s.ring.bypassOn = true) : ringRecheck s = s := if_neg (by simp [h])

theorem enterListen_carried (s : State) : Carried s (enterListen s) := by
  have hcount := countN_out (goState s .listen) 0x07 0 10 1
  have hstart : Carried (goState s .listen) (startListen (goState s .listen)) :=
    .trans (.ite hcount.idle.carried (.refl _)) rfl
  exact (goState_carried s .listen).trans hstart

theorem calCheck_carried (s : State) : Carried s (calCheck s) := .ite (enterListen_carried s) (.refl s)

theorem enterOffline_idle (s : State) : Idle s (enterOffline s false) :=
  ⟨.ite (.refl s) (goState_carried s .offline), fun _ => enterOffline_state s false⟩

/-! ### A port loses its link -/

theorem moveTransit_idle (s : State) (e : RPort) : Idle s (moveTransit s e) := by
  have hloop : ∀ t l f, Idle t (loopOut t e l f) := fun t l f => (loopOut_out t e l f).idle
  unfold moveTransit
  dsimp only
  refine .trans (.trans (.trans ?_ (.foldl (fun t f => hloop t .high f) _ _)) (.foldl (fun t f => hloop t .low f) _ _))
    (.foldl (fun t o => hloop t .high _) _ _)
  exact ((releaseLocal_beyond s _ _).trans (releaseLocal_beyond _ _ _)).idle.trans (setRtx_out _ e _).idle

theorem abutment_idle (s : State) (ev : Nat) (x : RPort) (sub : Nat) : Idle s (signal (dueEvent s ev x sub) 1784) :=
  .trans (t := dueEvent s ev x sub) .of_eq (signal_out _ _).idle

theorem afterPorts_idle (s : State) (old : Option RPort) (fresh : List RPort) : Idle s (afterPorts s old fresh) := by
  unfold afterPorts
  extract_lets s1 s2 s3
  have h1 : Idle s s1 := .foldl (fun t e => .ite (.refl t) (moveTransit_idle t e)) fresh s
  have h2 : Idle s1 s2 := by
    unfold s2
    split
    · exact .ite (.refl s1) (abutment_idle s1 1 _ _)
    · exact .refl s1
  have h3 : Idle s2 s3 := by
    unfold s3
    split
    · exact .ite (abutment_idle s2 2 _ _) (.refl s2)
    · exact .refl s2
  refine (h1.trans (h2.trans h3)).trans ?_
  split
  · next hlost =>
    refine ⟨(leaveSync_carried s3 6 .offline).trans (ringRecheck_carried _), fun hoff => ?_⟩
    simp [hoff] at hlost
  · exact .refl s3

theorem setPortState_idle (s : State) (e : RPort) (st : PortState) : Idle s (setPortState s e st) :=
  .ite (.refl s) ((setRport_idle s e _).trans (afterPorts_idle _ _ _))

theorem dropCtx_idle (s : State) (c : Nat) : Idle s (dropCtx s c) := by
  have hfail : Idle s (fwdFail s c) := (onArrivingBoth_out s c _).idle.trans .of_eq
  exact .trans (.ite hfail (.refl s)) .of_eq

/-- A round of bursts goes on to LISTEN from CALIBRATING only. -/
theorem burstRound_idle (s : State) : Idle s (burstRound s) := by
  have hround : Idle s (roundOver s) := .of_eq
  have hagain : ∀ t x, Idle t (burstAgain t x) := fun t x => .ite (startBurst_idle t x) (.refl t)
  have hcal : Idle (roundOver s) (burstAgain (burstAgain (calOnceOver (roundOver s)) .east) .west) :=
    .trans (t := calOnceOver (roundOver s)) .of_eq ((hagain _ .east).trans (hagain _ .west))
  rw [burstRound_eq]
  refine .ite (hround.trans ?_) (.refl s)
  split
  · next h => exact ⟨hcal.carried.trans (calCheck_carried _), fun hoff => absurd h (by simp [hoff])⟩
  · exact .refl _

theorem linkLost_idle (s : State) (e : RPort) : Idle s (linkLost s e) :=
  (dropRing_out s (rpIdx e) 18 _).idle.trans <| (setPortState_idle _ e .down).trans <| (setRport_idle _ e _).trans <|
    (dropCtx_idle _ _).trans (dropCtx_idle _ _)

theorem ringLinkDown_idle (s : State) (e : RPort) : Idle s (ringLinkDown s e) := by
  by_cases h : (rport s e).link = true
  · rw [ringLinkDown_lost h]
    exact (linkLost_idle s e).trans (.ite (enterOffline_idle _) (.ite (burstRound_idle _) (.refl _)))
  · rw [ringLinkDown, if_pos (by simp [h])]
    exact .refl s

/-! ### An image comes into force -/

/-- The state with an image in force in place of the pending one. -/
def imageSwitched (s : State) (i : Image) (at16 : Nat) : State :=
  { s with cyc := { s.cyc with image := some i }
           sched := { s.sched with pending := none, actTime := 0, actCycle := none, lastAct := at16 / 65536 } }

/-- What else an activation does leaves the image in force, and a node that is offline so. -/
theorem putInForce_idle (s : State) (i : Image) (at16 : Nat) (timed : Bool) :
    Idle (imageSwitched s i at16) (putInForce s i at16 timed) := by
  unfold putInForce
  extract_lets old rateWas s1 s2 cyc time regs sched s3 s4 s5 s6
  have h3 : Idle (imageSwitched s i at16) s3 := .of_eq
  have h4 : Idle s3 s4 := (syncFiller_idle s3 i).trans (abortWrites_idle _ _)
  have h5 : Idle s4 s5 := switchGates_idle s4 i at16 timed
  have h6 : Idle s5 s6 := .ite (.refl s5) (.foldl (fun t e => .ite (ringLinkDown_idle t e) (.refl t)) _ s5)
  have hend : Idle s6 (activationRecord (perf (startWatchdogs s6) (pPkg 4)) imageObj at16) :=
    ((startWatchdogs_idle s6).trans (perf_out _ _).idle).trans (activationRecord_idle _ _ _)
  exact (((h3.trans h4).trans h5).trans h6).trans hend

theorem notReady_idle (s : State) : Idle s (notReady s) := by
  have hclear : Idle s (clearCause s 0) := by
    unfold clearCause
    exact .ite .of_eq .of_eq
  exact .ite hclear (.ite .of_eq (.refl s))

section

variable {s : State} {i : Image}

theorem schedActivation_none (h : s.sched.pending = none) : schedActivation s = s := by
  unfold schedActivation
  rw [h]

section

variable {n : Nat} (hpend : s.sched.pending = some i) (hact : s.sched.actCycle = some n)
include hpend hact

theorem schedActivation_waits (hlate : nt16 s < actInstant s) : schedActivation s = s := by
  simp [schedActivation, hpend, actImmediate, hact, hlate]

/-- At its instant, in its cycle. -/
theorem schedActivation_timed (hdue : actInstant s ≤ nt16 s) (hc0 : s.cyc.c0 ≠ none) (hname : namedCycle s s.sched.actTime = some n)
    (hn : s.cyc.n = n) : schedActivation s = activateAt s i n (actInstant s) := by
  obtain ⟨c, hc⟩ := Option.ne_none_iff_exists'.mp hc0
  simp [schedActivation, hpend, actImmediate, hact, hdue.not_gt, hc, hname, hn]

end

theorem schedActivation_immediate (hpend : s.sched.pending = some i) (hact : s.sched.actCycle = none) :
    schedActivation s = activateNow s i := by
  simp [schedActivation, hpend, actImmediate, hact]

/-- A synchronised node starts its claims, and nothing else changes. -/
theorem startClaims_synced_only (s : State) :
    ∃ x, (if synced s then startClaims s else s) = { s with cyc := { s.cyc with claims := x } } := by
  split
  · exact startClaims_only s
  · exact ⟨s.cyc.claims, rfl⟩

/-- A timed activation carries on the cycle number and the time. -/
theorem activateAt_fields (s : State) (i : Image) (n c : Nat) :
    let t := activateAt s i n c
    t.cyc.image = some i ∧ t.sched.pending = none ∧ t.cyc.n = s.cyc.n ∧ t.sched.lastAct = c / 65536 ∧ t.time.nt = s.time.nt := by
  have hput := (putInForce_idle s i c true).carried
  unfold activateAt
  generalize putInForce s i c true = u at hput ⊢
  extract_lets s1 cyc s2 t
  obtain ⟨x, hx⟩ := startClaims_synced_only s2
  have ht : t = { s2 with cyc := { s2.cyc with claims := x } } := hx
  rw [ht]
  exact ⟨hput.read (·.cyc.image), hput.read (·.sched.pending), hput.read (·.cyc.n), hput.read (·.sched.lastAct),
    hput.read (·.time.nt)⟩

/-- In bypass an image is in force at once, and the node stays offline without an origin. -/
theorem activateNow_bypassed (hoff : s.ring.state = .offline) (hbyp : s.ring.bypassOn = true) :
    let t := activateNow s i
    t.cyc.image = some i ∧ t.cyc.c0 = none ∧ t.sched.pending = none ∧ t.ring.state = .offline := by
  intro t
  have hput := (putInForce_idle (dropOrigin s) i (nt16 s) false).trans (notReady_idle _)
  have hstays := hput.offline hoff
  have ht : t = notReady (putInForce (dropOrigin s) i (nt16 s) false) := by
    have hsync : synced s = false := by simp [synced, hoff]
    simp only [t, activateNow, hsync, Bool.false_eq_true, if_false, hstays, if_true]
    exact ringRecheck_bypassed ((hput.carried.read (·.ring.bypassOn)).trans hbyp)
  rw [← ht] at hput hstays
  exact ⟨hput.carried.read (·.cyc.image), hput.carried.read (·.cyc.c0), hput.carried.read (·.sched.pending), hstays⟩

end

/-! ### Staging (R483) -/

theorem schedStagingDone_none {s : State} (h : s.sched.staging = none) : schedStagingDone s = s := by simp [schedStagingDone, h]

/-- The state with nothing staged or loading any more. -/
def stagingOver (s : State) : State := { s with sched := { s.sched with staging := none, loading := none } }

theorem regate_still (s : State) (p : Nat) (g : Gate) : Still s (regate s p g) :=
  ((setGate_still s p g).trans (positionGates_still _ p)).trans (gateCloses_still _ p)

theorem dropImageGates_still (s : State) : Still s (dropImageGates s) := by
  unfold dropImageGates
  exact .foldl (fun t p => .ite (regate_still t p _) (.refl t)) _ s

theorem pendGates_still (s : State) (i : Image) (at16 : Nat) : Still s (pendGates s i at16) := by
  unfold pendGates
  exact .foldl (fun t e => (kn_still t _).trans (regate_still _ _ _)) _ s

theorem auditStaged_still (s : State) (r : Request) (obj : Nat) (old new : Option Octets) : Still s (auditStaged s r obj old new) := by
  have hwrite : ∀ body, Still s (writeAudit s body 0 (nt16 s)) := fun body => by
    unfold writeAudit
    exact .ite (writeRecord_still s _ _) (kn_still s _)
  exact (hwrite _).trans (kn_still _ _)

/-- The schedule's state with an image pending. -/
def imagePending (x : Sched) (i : Image) (n : Option Nat) (actTime : Nat) : Sched :=
  { x with pending := some i, actCycle := n, refusal := 0, actTime := actTime }

/-- The state in which a staged image is pending, and its gate lists with it. -/
def stagedPending (s : State) (r : Request) (i : Image) (n : Option Nat) (actTime : Nat) (o : Octets) : State :=
  let s2 := if r.master = 7 then s else auditStaged s r imageObj (s.cyc.image.map (·.bytes)) (some o)
  let s3 := dropImageGates s2
  let s4 := { s3 with sched := imagePending s3.sched i n actTime }
  if n.isSome then pendGates s4 i (actInstant s4) else s4

theorem stagedPending_fields (s : State) (r : Request) (i : Image) (n : Option Nat) (actTime : Nat) (o : Octets) :
    let t := stagedPending s r i n actTime o
    t.sched = imagePending s.sched i n actTime ∧ t.cyc = s.cyc := by
  unfold stagedPending
  extract_lets s2 s3 s4 t
  have hidle : Idle s s3 := .trans (.ite (.refl s) (auditStaged_idle s r _ _ _)) (dropImageGates_idle s2)
  have hstill : Still s s3 := .trans (.ite (.refl s) (auditStaged_still s r _ _ _)) (dropImageGates_still s2)
  clear_value s3
  have hidle4 : Idle s4 t := .ite (pendGates_idle s4 i _) (.refl s4)
  have hstill4 : Still s4 t := .ite (pendGates_still s4 i _) (.refl s4)
  have hsched : s3.sched = s.sched := hidle.carried.read (·.sched)
  refine ⟨(hidle4.carried.read (·.sched)).trans ?_, (hstill4.read (·.cyc)).trans (hstill.read (·.cyc))⟩
  exact congrArg (imagePending · i n actTime) hsched

section

variable {s : State} {n : Option Nat} {r : Request} {o : Octets} (hstage : s.sched.staging = some (n, r))
  (hload : s.sched.loading = some o)
include hstage hload

theorem schedStagingDone_down (hm : mramUp s = false) : schedStagingDone s = s := by simp [schedStagingDone, hstage, hload, hm]

theorem schedStagingDone_late (hm : mramUp s = true) (h : actLate s n (if n.isSome then leAt r.params 0 8 else 0) = true) :
    schedStagingDone s = { s with sched := { s.sched with staging := none, loading := none, refusal := 0x0F } } := by
  simp only [schedStagingDone, hstage, hload, hm, h, Bool.not_true, Bool.false_eq_true, if_false, if_true]

variable (hm : mramUp s = true) (hlate : actLate s n (if n.isSome then leAt r.params 0 8 else 0) = false)
include hm hlate

theorem schedStagingDone_refused {st : Nat} (h : stageImage s.boot.cfg.imageKeys o = .error st) :
    schedStagingDone s = { s with sched := { s.sched with staging := none, loading := none, refusal := st } } := by
  simp only [schedStagingDone, hstage, hload, hm, hlate, h, Bool.not_true, Bool.false_eq_true, if_false]

theorem schedStagingDone_pending {i : Image} (h : stageImage s.boot.cfg.imageKeys o = .ok i) :
    let t := schedStagingDone s
    t.sched.pending = some i ∧ t.sched.staging = none ∧ t.sched.loading = none ∧ t.sched.refusal = 0 ∧ t.sched.actCycle = n ∧
      t.cyc = s.cyc := by
  intro t
  have ht : t = stagedPending (stagingOver s) r i n (if n.isSome then leAt r.params 0 8 else 0) o := by
    simp only [t, schedStagingDone, hstage, hload, hm, hlate, h, Bool.not_true, Bool.false_eq_true, if_false, stagedPending, stagingOver,
      imagePending]
  obtain ⟨hsched, hcyc⟩ := stagedPending_fields (stagingOver s) r i n (if n.isSome then leAt r.params 0 8 else 0) o
  rw [ht, hsched, hcyc]
  exact ⟨rfl, rfl, rfl, rfl, rfl, rfl⟩

end
/-! ### Flash (R474, R476, R479) -/

theorem fwSlot_setFwSlot (s : State) (k : Nat) (x : Slot) : fwSlot (setFwSlot s k x) k = x := by
  by_cases h : k = 0 <;> simp [fwSlot, setFwSlot, h]

theorem fwSlot_setFwSlot_other {s : State} {k : Nat} (hk : k < 2) (x : Slot) : fwSlot (setFwSlot s k x) (1 - k) = fwSlot s (1 - k) := by
  obtain rfl | rfl : k = 0 ∨ k = 1 := by omega
  · rfl
  · rfl

/-- The record of a slot whose last part is in flash. -/
def slotChecked (b : Boot) (x : Slot) (o : Octets) : Slot :=
  { x with bytes := o, state := (fwCheck b o).1, check := (fwCheck b o).2, svn := leAt o 8 4 % 256, release := leAt o 12 4 }

/-- The payload is in its slot, which stands as given; the other slot stays. -/
theorem flashWriteDone_written {s : State} {k off : Nat} {d : Octets} {last : Bool} (h : s.boot.fwBusy = some (k, off, d, last))
    (hk : k < 2) :
    let t := flashWriteDone s
    let o := flashPlace (fwSlot s k).bytes off d
    t.boot.fwBusy = none ∧
      fwSlot t k = (if last then slotChecked s.boot (fwSlot s k) o else { fwSlot s k with bytes := o }) ∧
      fwSlot t (1 - k) = fwSlot s (1 - k) := by
  intro t o
  have ht : t = { setFwSlot s k (if last then slotChecked s.boot (fwSlot s k) o else { fwSlot s k with bytes := o }) with
      boot := { (setFwSlot s k (if last then slotChecked s.boot (fwSlot s k) o else { fwSlot s k with bytes := o })).boot with
        fwBusy := none } } := by
    simp only [t, flashWriteDone, h]
    rfl
  rw [ht]
  exact ⟨rfl, fwSlot_setFwSlot s k _, fwSlot_setFwSlot_other hk _⟩

theorem flashWriteDone_idle {s : State} (h : s.boot.fwBusy = none) : flashWriteDone s = s := by simp [flashWriteDone, h]

theorem configStoreDone_idle {s : State} (h : s.boot.storeBusy = none) : configStoreDone s = s := by simp [configStoreDone, h]

/-- Settles O36: staging, activation, flash writes and the stored configuration, each by what its step leaves. -/
theorem imagesAndStores : Obligations.ImagesAndStores := by
  unfold Obligations.ImagesAndStores
  refine ⟨?_, ?_, ?_, ?_, ?_, ?_, ?_, ?_, ?_, ?_, ?_, ?_⟩
  · intro s n r o hstage hload act refused
    refine ⟨fun hm => ?_, fun hm hlate => ?_, fun st hm hlate hst => ?_, fun i hm hlate hok => ?_⟩
    · exact exec_eq_next rfl rfl (schedStagingDone_down hstage hload hm) rfl
    · exact exec_eq_next rfl rfl (schedStagingDone_late hstage hload hm hlate) rfl
    · exact exec_eq_next rfl rfl (schedStagingDone_refused hstage hload hm hlate hst) rfl
    · have hfields := schedStagingDone_pending hstage hload hm hlate hok
      generalize hu : schedStagingDone s = u at hfields
      exact ⟨_, exec_eq_keeping rfl rfl hu, hfields⟩
  · intro s h
    exact exec_eq_next rfl rfl (schedStagingDone_none h) rfl
  · intro s h
    exact exec_eq_next rfl rfl (schedActivation_none h) rfl
  · intro s i n hpend hact hwait
    exact exec_eq_next rfl rfl (schedActivation_waits hpend hact hwait) rfl
  · intro s i n hpend hact hdue hc0 hname hn
    have heff := schedActivation_timed hpend hact hdue hc0 hname hn
    obtain ⟨himage, hnone, hcyc, hlast, hnt⟩ := activateAt_fields s i n (actInstant s)
    generalize activateAt s i n (actInstant s) = u at *
    exact ⟨_, exec_eq_keeping rfl rfl heff, himage, hnone, hcyc.trans hn, hlast, hnt⟩
  · intro s i hpend hact hoff hbyp
    have heff := schedActivation_immediate hpend hact
    have hfields := activateNow_bypassed (i := i) hoff hbyp
    generalize activateNow s i = u at *
    exact ⟨_, exec_eq_keeping rfl rfl heff, hfields⟩
  · intro s k off d h hk
    exact ⟨_, exec_eq_keeping rfl rfl rfl, flashWriteDone_written h hk⟩
  · intro s k off d h hk o
    obtain ⟨hbusy, hslot, hother⟩ := flashWriteDone_written h hk
    refine ⟨_, exec_eq_keeping rfl rfl rfl, hbusy, ?_, ?_, ?_, hother⟩
    · exact congrArg Slot.bytes hslot
    · exact congrArg Slot.state hslot
    · exact congrArg Slot.check hslot
  · intro s h
    exact exec_eq_next rfl rfl (flashWriteDone_idle h) rfl
  · intro s h
    exact exec_eq_next rfl rfl (by simp [configStoreDone, h]) rfl
  · intro s h
    exact exec_eq_next rfl rfl (by simp [configStoreDone, h]) rfl
  · intro s h
    exact exec_eq_next rfl rfl (configStoreDone_idle h) rfl

end Sys2Proof.Machine
end

section
/-! PROOFS. Transmission opportunities and the ends of frames: the heads of the queues, the frame that starts, the frame that leaves, and
the statement O22. -/

namespace Sys2Proof.Machine

open Sys2Proof

/-! ### What the choice of a frame rests on -/

/-- What decides whether a port may send, before any head of its queues is looked at: the tick, the regions in service, the ports, the
reactions and tests that run, and the switch of the bypass. -/
def portsBase (s : State) : State :=
  { clk := { tick := s.clk.tick, pllLocked := s.clk.pllLocked }, regs := s.regs, ports := s.ports, flt := s.flt
    ring := { bypassOn := s.ring.bypassOn } }

/-- Two states that agree in it. -/
def SamePorts (s t : State) : Prop := portsBase t = portsBase s

namespace SamePorts

theorem refl (s : State) : SamePorts s s := rfl

theorem trans {s t u : State} (h : SamePorts s t) (g : SamePorts t u) : SamePorts s u := Eq.trans g h

theorem foldl {β : Type} {f : State → β → State} (hf : ∀ s b, SamePorts s (f s b)) (l : List β) (s : State) :
    SamePorts s (l.foldl f s) := by
  induction l generalizing s with
  | nil => exact .refl s
  | cons b l ih => exact (hf s b).trans (ih _)

theorem ite {s t u : State} {c : Prop} [Decidable c] (h : SamePorts s t) (g : SamePorts s u) : SamePorts s (if c then t else u) := by
  split
  · exact h
  · exact g

theorem read {α : Type} {s t : State} (h : SamePorts s t) (r : State → α) (hr : ∀ a, r (portsBase a) = r a := by exact fun _ => rfl) :
    r t = r s := by
  rw [← hr t, ← hr s, h]

end SamePorts

theorem Beyond.samePorts {s t : State} (h : Beyond s t) : SamePorts s t := h.read portsBase

theorem OutFrame.samePorts {s t : State} (h : OutFrame s t) : SamePorts s t := by
  have hbyp := h.read (·.ring.bypassOn)
  obtain ⟨⟨-, hclk, hregs, -, -, -, -, -, -, -, -, hports, -, -, -, -, hflt, -⟩, -⟩ := h
  unfold SamePorts portsBase
  rw [hclk, hregs, hports, hflt, hbyp]

/-! ### Refills (R211) -/

/-- Nothing but the shapers and the free values is changed. -/
def ShapersOnly (s t : State) : Prop := ∃ x free, t = { s with eg := { s.eg with shapers := x }, free := free }

namespace ShapersOnly

theorem refl (s : State) : ShapersOnly s s := ⟨s.eg.shapers, s.free, rfl⟩

theorem trans {s t u : State} (h : ShapersOnly s t) (g : ShapersOnly t u) : ShapersOnly s u := by
  obtain ⟨x, m, rfl⟩ := h
  obtain ⟨y, n, rfl⟩ := g
  exact ⟨y, n, rfl⟩

theorem foldl {β : Type} {f : State → β → State} (hf : ∀ s b, ShapersOnly s (f s b)) (l : List β) (s : State) :
    ShapersOnly s (l.foldl f s) := by
  induction l generalizing s with
  | nil => exact .refl s
  | cons b l ih => exact (hf s b).trans (ih _)

theorem ite {s t u : State} {c : Prop} [Decidable c] (h : ShapersOnly s t) (g : ShapersOnly s u) :
    ShapersOnly s (if c then t else u) := by
  split
  · exact h
  · exact g

end ShapersOnly

theorem setShaper_only (s : State) (i : Nat) (x : Shaper) : ShapersOnly s (drawn (setShaper s i x)) := ⟨_, _, rfl⟩

theorem chargeShapers_only (s : State) (l : List Nat) (len : Nat) : ShapersOnly s (chargeShapers s l len) := by
  unfold chargeShapers
  exact .foldl (fun t i => setShaper_only t i _) l s

/-- A refill changes the shapers, its instant and the free values alone. -/
theorem shaperRefill_only (s : State) : ∃ x free, shaperRefill s = { s with eg := x, free := free } := by
  unfold shaperRefill
  dsimp only
  split
  · generalize hu : List.foldl _ s s.eg.shapers = u
    obtain ⟨x, free, rfl⟩ : ShapersOnly s u := hu ▸ .foldl (fun u _ => .ite (.refl u) (setShaper_only u _ _)) _ s
    exact ⟨_, free, rfl⟩
  · exact ⟨s.eg, s.free, rfl⟩

theorem shaperRefill_early {s : State} (h : now s < s.eg.lastRefill + 125) : shaperRefill s = s := if_neg (by simp [due, now] at *; omega)

theorem shaperRefill_samePorts (s : State) : SamePorts s (shaperRefill s) := by
  obtain ⟨eg, free, h⟩ := shaperRefill_only s
  rw [h]
  rfl

theorem shaperRefill_pending (s : State) : (shaperRefill s).pending = s.pending := by
  obtain ⟨eg, free, h⟩ := shaperRefill_only s
  rw [h]

/-! ### Heads that are discarded (R196) -/

theorem wfqIdle_samePorts (s : State) (p : Nat) : SamePorts s (wfqIdle s p) := .ite rfl (.refl s)

theorem untagHead_samePorts (s : State) (p q : Nat) : SamePorts s (untagHead s p q) := .ite rfl (.refl s)

theorem tagHead_samePorts (s : State) (p q : Nat) : SamePorts s (tagHead s p q) := .ite rfl (.refl s)

theorem tagHeads_samePorts (s : State) (p : Nat) : SamePorts s (tagHeads s p) := .ite rfl (.refl s)

theorem discardHead_samePorts (s : State) (p q k : Nat) (e : QEnt) (why : HeadDrop) : SamePorts s (discardHead s p q k e why) := by
  unfold discardHead
  extract_lets s0 s1
  have h0 : SamePorts s s0 := by unfold s0; cases why <;> rfl
  have h1 : SamePorts s0 s1 :=
    .trans (t := setQueue s0 k (queueAt s0 k).tail) rfl ((wfqIdle_samePorts _ p).trans (untagHead_samePorts _ p q))
  exact (h0.trans h1).trans ((perf_out s1 _).samePorts.trans
    ((dmaEgressDrop_beyond _ _).trans (finishDest_beyond _ _ _)).samePorts)

theorem cleanHead_samePorts (n : Nat) (s : State) (p q : Nat) : SamePorts s (cleanHead n s p q) := by
  induction n generalizing s with
  | zero => exact .refl s
  | succ n ih =>
    unfold cleanHead
    dsimp only
    split
    · exact .refl s
    · split
      · exact .refl s
      · exact ((tagHead_samePorts s p q).trans (discardHead_samePorts _ p q _ _ _)).trans (ih _)

theorem cleanHeads_samePorts (s : State) (p : Nat) : SamePorts s (cleanHeads s p) := by
  unfold cleanHeads
  exact .foldl (fun t q => cleanHead_samePorts _ t p q) _ s

theorem wake_samePorts (s : State) (l : List Nat) : SamePorts s (wake s l) := rfl

theorem expressNext_samePorts (s : State) (e : RPort) : SamePorts s (expressNext s e) := by
  unfold expressNext expressStart
  split
  · exact .ite (((setRtx_out s e _).trans (setRtx_out _ e _)).trans (emit_out _ _)).samePorts (.refl s)
  · exact .refl s

/-! ### Opportunities of an edge or uplink port's MAC (R193, R220) -/

/-- The state in which the heads of a port's queues may be sent, and are tagged. -/
def headsReady (s : State) (p : Nat) : State := tagHeads (cleanHeads s p) p

theorem headsReady_samePorts (s : State) (p : Nat) : SamePorts s (headsReady s p) :=
  (cleanHeads_samePorts s p).trans (tagHeads_samePorts _ p)

/-- The state of a port that is awake for an opportunity. -/
def portAwake (s : State) (p : Nat) : State := wake (shaperRefill s) [portUnit p, 176 + p, 199]

theorem portAwake_samePorts (s : State) (p : Nat) : SamePorts s (portAwake s p) :=
  (shaperRefill_samePorts s).trans (wake_samePorts _ _)

theorem macAt_keeping (s t : State) (p : Nat) : macAt (keeping s t) p = macAt t p := rfl

section

variable {s : State} {p : Nat} {mac : Mac} {ts : Nat} (hp : p < 18)
include hp

theorem transmissionOpportunity_dead (h : portLive s p = false) : transmissionOpportunity s p mac ts = shaperRefill s := by
  have hlive := ((shaperRefill_samePorts s).read (portLive · p)).trans h
  simp [transmissionOpportunity, hp, hlive]

theorem transmissionOpportunity_live (h : portLive s p = true) (hd : (portAt s p).disabled = false)
    (hu : unitBusy s (portUnit p) = false) (hg : unitBusy s (176 + p) = false) :
    transmissionOpportunity s p mac ts = edgeOpportunity (portAwake s p) p mac ts := by
  have hsame := shaperRefill_samePorts s
  have hlive := (hsame.read (portLive · p)).trans h
  have hen := (hsame.read fun a => (portAt a p).disabled).trans hd
  have hunit := (hsame.read (unitBusy · (portUnit p))).trans hu
  have hgate := (hsame.read (unitBusy · (176 + p))).trans hg
  simp [transmissionOpportunity, hp, hlive, hen, hunit, hgate, portAwake]

end

/-- The queues of a port's express MAC whose heads may be sent. -/
def expressReady (u : State) (p : Nat) : List Nat := (macQueues u p .express).filter (eligible u p)

/-- An opportunity of the express MAC: it rests, or interrupts the preemptable frame, or starts the frame that is picked. -/
theorem edgeOpportunity_express (s : State) (p ts : Nat) :
    let u := headsReady s p
    let m := macAt u p
    edgeOpportunity s p .express ts =
      if m.ex.isSome || (expressReady u p).isEmpty then u
      else if m.pm.isSome && !m.susp then interrupt u p
      else if !due u m.freeAt then u
      else startPicked (selectQueue u p 0 (macQueues u p .express) (expressReady u p)) p .express (macQueues u p .express) ts := rfl

section

variable {s : State} {p ts : Nat}

theorem edgeOpportunity_rests (h : (macAt (headsReady s p) p).ex.isSome = true ∨ expressReady (headsReady s p) p = []) :
    edgeOpportunity s p .express ts = headsReady s p := by
  rw [edgeOpportunity_express, if_pos (by simpa using h)]

variable (hex : (macAt (headsReady s p) p).ex = none) (hel : expressReady (headsReady s p) p ≠ [])
include hex hel

theorem edgeOpportunity_interrupts (hpm : (macAt (headsReady s p) p).pm.isSome = true)
    (hsusp : (macAt (headsReady s p) p).susp = false) : edgeOpportunity s p .express ts = interrupt (headsReady s p) p := by
  rw [edgeOpportunity_express, if_neg (by simp [hex, hel]), if_pos (by simp [hpm, hsusp])]

theorem edgeOpportunity_picks (hpm : (macAt (headsReady s p) p).pm = none)
    (hfree : due (headsReady s p) (macAt (headsReady s p) p).freeAt = true) :
    edgeOpportunity s p .express ts =
      startPicked (selectQueue (headsReady s p) p 0 (macQueues (headsReady s p) p .express) (expressReady (headsReady s p) p)) p .express
        (macQueues (headsReady s p) p .express) ts := by
  rw [edgeOpportunity_express, if_neg (by simp [hex, hel]), if_neg (by simp [hpm]), if_neg (by simp [hfree])]

end

/-- The highest strict-priority queue with an eligible head is chosen. -/
theorem selectQueue_strict {s : State} {p mac : Nat} {mine el : List Nat} {q : Nat}
    (h : (el.filter (fun q => !(qcfgAt s (8 * p + q)).drr)).max? = some q) : selectQueue s p mac mine el = (some q, s) := by
  unfold selectQueue
  rw [h]

/-- A queue that is chosen so is served by strict priority. -/
theorem strict_of_max {s : State} {p : Nat} {el : List Nat} {q : Nat}
    (h : (el.filter (fun q => !(qcfgAt s (8 * p + q)).drr)).max? = some q) : (qcfgAt s (8 * p + q)).drr = false ∧ el ≠ [] := by
  have hmem := List.max?_mem h
  simp only [List.mem_filter, Bool.not_eq_true'] at hmem
  exact ⟨hmem.2, List.ne_nil_of_mem hmem.1⟩

theorem startPicked_head {s : State} {p q : Nat} {mac : Mac} {mine : List Nat} {e : QEnt} {ts : Nat}
    (he : headOf s (queueKey s p q) = some e) : startPicked (some q, s) p mac mine ts = startFrame s p q mac mine e ts := by
  simp only [startPicked, he]

/-- The record of a MAC on which an express frame starts. -/
def expressOn (s : State) (m : MacTx) (q h : Nat) : MacTx := { m with ex := some h, exQ := q, start := now s }

/-- A head frame of a strict-priority queue that starts on the express MAC has left its queue. -/
theorem startFrame_express {s : State} {p q : Nat} {mine : List Nat} {e : QEnt} (ts : Nat) (hdrr : (qcfgAt s (8 * p + q)).drr = false)
    (htsq : (frameAt s e.h).tsq = none) :
    let t := startFrame s p q .express mine e ts
    macAt t p = expressOn s (macAt s p) q e.h ∧ queueAt t (queueKey s p q) = (queueAt s (queueKey s p q)).tail := by
  have hhead : startHead s p 0 q mine e = chargeShapers (setQueue s (queueKey s p q) (queueAt s (queueKey s p q)).tail)
      (shapersOf s (frameAt s e.h) (8 * p + q)) (wireLen p (frameAt s e.h)) := by
    unfold startHead
    exact if_pos (by simp [hdrr])
  obtain ⟨x, free, hcharged⟩ := chargeShapers_only (setQueue s (queueKey s p q) (queueAt s (queueKey s p q)).tail)
    (shapersOf s (frameAt s e.h) (8 * p + q)) (wireLen p (frameAt s e.h))
  rw [hcharged] at hhead
  have hmac : ∀ (c : Bool) (a : State) (m : MacTx) (o : Output), macAt (if c then setMac a p m else emit (setMac a p m) o) p = m ∧
      (if c then setMac a p m else emit (setMac a p m) o).eg.queues = a.eg.queues := by
    intro c a m o
    cases c <;> exact ⟨macAt_setMac a p m, rfl⟩
  unfold startFrame
  simp only [hhead, htsq]
  refine ⟨(hmac _ _ _ _).1, ?_⟩
  exact (congrArg (tblGet [] · _) (hmac _ _ _ _).2).trans (queueAt_setQueue s _ _)

/-! ### Opportunities of a ring egress (R230, R231) -/

theorem rpOf_rpIdx (e : RPort) : rpOf (rpIdx e) = e := by cases e <;> rfl

theorem rpIdx_ge (e : RPort) : ¬rpIdx e < 18 := by cases e <;> decide

/-- The state of a ring egress in which the heads of its queues may be sent, and a forwarded express frame that waited has started. -/
def egressReady (s : State) (e : RPort) : State := expressNext (headsReady (shaperRefill s) (rpIdx e)) e

theorem egressReady_samePorts (s : State) (e : RPort) : SamePorts s (egressReady s e) :=
  ((shaperRefill_samePorts s).trans (headsReady_samePorts _ _)).trans (expressNext_samePorts _ e)

/-- An opportunity of level H of a ring egress. -/
theorem transmissionOpportunity_high (s : State) (e : RPort) (ts : Nat) :
    let u := egressReady s e
    let x := rtx u e
    transmissionOpportunity s (rpIdx e) .express ts =
      if !inService u .ring || u.ring.bypassOn || x.exNext.isSome || x.hold then u
      else if busyLv x .low && x.express.isNone then
        (if x.curH.isSome || !levelsVerified u e || (newHigh u e ts).isNone then u else ringInterrupt u e)
      else if !egressFree u e then u
      else if x.curH.isSome then (if mayResume u e .high then ringResume u e .high else u)
      else (newHigh u e ts).getD u := by
  have hring : transmissionOpportunity s (rpIdx e) .express ts = ringOpportunity (shaperRefill s) (rpIdx e) .express ts :=
    if_neg (rpIdx_ge e)
  intro u x
  rw [hring, ringOpportunity, rpOf_rpIdx]
  rfl

section

variable {s : State} {e : RPort} {ts : Nat}

theorem transmissionOpportunity_high_rests
    (h : inService s .ring = false ∨ s.ring.bypassOn = true ∨ (rtx (egressReady s e) e).hold = true) :
    transmissionOpportunity s (rpIdx e) .express ts = egressReady s e := by
  have hsame := egressReady_samePorts s e
  rw [← hsame.read (inService · .ring), ← hsame.read (·.ring.bypassOn)] at h
  rw [transmissionOpportunity_high, if_pos]
  rcases h with h | h | h <;> simp [h]

/-- A free egress of a node in the ring starts the frame that is next at level H. -/
theorem transmissionOpportunity_high_starts (hin : inService s .ring = true) (hbyp : s.ring.bypassOn = false)
    (hnext : (rtx (egressReady s e) e).exNext = none) (hhold : (rtx (egressReady s e) e).hold = false)
    (hlow : busyLv (rtx (egressReady s e) e) .low = false) (hcur : (rtx (egressReady s e) e).curH = none)
    (hfree : egressFree (egressReady s e) e = true) {t : State} (hnew : newHigh (egressReady s e) e ts = some t) :
    transmissionOpportunity s (rpIdx e) .express ts = t := by
  have hsame := egressReady_samePorts s e
  rw [← hsame.read (inService · .ring)] at hin
  rw [← hsame.read (·.ring.bypassOn)] at hbyp
  rw [transmissionOpportunity_high, if_neg (by simp [hin, hbyp, hnext, hhold]), if_neg (by simp [hlow]), if_neg (by simp [hfree]),
    if_neg (by simp [hcur]), hnew]
  rfl

end

section

variable {s : State} {e : RPort} {ts : Nat} (howed : beatOwed s e = false) (hcur : (rtx s e).curL = none)
  (hbeat : (beatFirst s e && synced s) = false)
include howed hcur hbeat

theorem newHigh_transit {f : RFrame} {l : List RFrame} (h : frontStart s e .high = some (f, l)) :
    newHigh s e ts = some (ringStart (setRtx s e { rtx s e with transitH := l }) e .high f none) := by
  unfold newHigh
  rw [if_neg (by simp [howed, hcur]), if_neg (by simp [hbeat])]
  simp only [startTransit, h]
  rfl

theorem newHigh_own {o : Octets} {l : List Octets} (h : frontStart s e .high = none) (hctl : ctlNext s e = some (o, l)) :
    newHigh s e ts = some (startCtl (setRtx s e { rtx s e with ctl := l }) e o ts) := by
  unfold newHigh
  rw [if_neg (by simp [howed, hcur]), if_neg (by simp [hbeat])]
  simp only [startTransit, h, startOwn, hctl]
  rfl

end

/-! ### Ends of frames (R259) -/

theorem frameLeft_beyond (s : State) (p q h : Nat) : Beyond s (frameLeft s p q h) := by
  have hperf : ∀ t n i j, Unseen t (perfN (perf t i) j n) := fun t n i j => (perf_unseen t i).trans (perfN_unseen _ j n)
  have hcount : ∀ n, Unseen s (countN (countPort s p 13) 0x01 p 14 n) := fun n =>
    (countPort_unseen s p 13).trans (countN_unseen _ _ _ _ n)
  exact (((hcount _).trans (hperf _ _ _ _)).trans (hperf _ _ _ _)).beyond.trans (finishDest_beyond _ h _)

/-- The instant at which the last octet of an express frame is due. -/
def expressDue (s : State) (p h : Nat) : Nat := (macAt s p).start + octetTicks (lineMbps s p) (8 + wireLen p (frameAt s h))

/-- The state in which an express frame has left its MAC, and the gap follows. -/
def expressLeft (s : State) (p h : Nat) : State :=
  frameLeft (setMac s p { macAt s p with ex := none, freeAt := expressDue s p h + octetTicks (lineMbps s p) 12 }) p (macAt s p).exQ h

theorem edgeTxEnd_express {s : State} {p h : Nat} (hex : (macAt s p).ex = some h) :
    edgeTxEnd s p .express = if due s (expressDue s p h) then expressLeft s p h else s := by
  unfold edgeTxEnd expressDue expressLeft
  simp only [hex]
  rfl

theorem turnBack_unlooped {s : State} {p : Nat} (h : loopedBack s p = false) (before after : Option Nat) (o : Octets) :
    turnBack s p before after o = s := by simp [turnBack, h]

theorem portDrainCheck_rests {s : State} {p : Nat} (h : (portAt s p).draining = false) : portDrainCheck s p = s := by
  simp [portDrainCheck, h]

section

variable {s : State} {p h : Nat} (hp : p < 18) (hex : (macAt s p).ex = some h) (hloop : loopedBack s p = false)
  (hdrain : (portAt s p).draining = false)
include hp hex hloop hdrain

/-- On a port that neither loops nor drains the end of an express frame is all that happens. -/
theorem frameTxEnd_express : frameTxEnd s p .express = if due s (expressDue s p h) then expressLeft s p h else s := by
  have hend := edgeTxEnd_express hex
  have hports : SamePorts s (edgeTxEnd s p .express) := by
    rw [hend]
    exact .ite (.trans (t := setMac s p _) rfl (frameLeft_beyond _ _ _ _).samePorts) (.refl s)
  have hloop' := (hports.read (loopedBack · p)).trans hloop
  have hdrain' := (hports.read fun a => (portAt a p).draining).trans hdrain
  unfold frameTxEnd
  rw [if_pos hp]
  dsimp only
  rw [turnBack_unlooped hloop', portDrainCheck_rests hdrain', hend]

end

theorem expressLeft_mac (s : State) (p h : Nat) : macAt (expressLeft s p h) p =
    { macAt s p with ex := none, freeAt := expressDue s p h + octetTicks (lineMbps s p) 12 } :=
  ((frameLeft_beyond _ p _ h).read (macAt · p)).trans (macAt_setMac s p _)

theorem ringFrameDone_rtx (s : State) (e : RPort) (l : Level) (f : RFrame) : rtx (ringFrameDone s e l f) e =
    setLv (rtx s e) l { lvOf (rtx s e) l with cur := none, q := none, sent := 0, frag := 0 } := by
  have hsent : ∀ t n k, Unseen t (ringSent t e n k) := fun t n k =>
    ((((countPort_unseen t _ 13).trans (countN_unseen _ _ _ _ n)).trans (perf_unseen _ _)).trans (perfN_unseen _ _ n)).trans
      (perfN_unseen _ _ n)
  unfold ringFrameDone
  extract_lets x v s1 s2
  have hdone : Beyond s1 (if f.bad then s2 else ringSent s2 e f.data.length 15) :=
    ((emit_unseen s1 _).beyond).trans (.ite (.refl s2) (hsent s2 _ _).beyond)
  exact ((hdone.trans (releaseLocal_beyond _ _ _)).read (rtx · e)).trans (rtx_setRtx s e _)

/-- A whole frame of level L whose last octet and gap are due is done. -/
theorem frameTxEnd_low {s : State} {e : RPort} {f : RFrame} (hcur : (rtx s e).curL = some f) (hsusp : (rtx s e).suspL = false)
    (hctx : f.ctx = none)
    (hdue : (rtx s e).startL + octetTicks (ringMbps s) (8 + (f.data.length - 4 - (rtx s e).sentL) + 4 + 12) ≤ now s) :
    frameTxEnd s (rpIdx e) .preemptable = ringFrameDone s e .low f := by
  have hknown : f.known = f.data.length - 4 := by simp [RFrame.known, hctx]
  unfold frameTxEnd
  rw [if_neg (rpIdx_ge e), ringTxEnd, rpOf_rpIdx, ringLevelEnd]
  simp only [lvOf, hcur, hknown]
  rw [if_neg (by simpa [hsusp, due, now] using hdue), if_neg (by simp [hctx])]

/-- Settles O22: each clause is one branch of an opportunity or of the end of a frame. -/
theorem framesSent : Obligations.FramesSent := by
  unfold Obligations.FramesSent
  refine ⟨?_, ?_, ?_, ?_, ?_, ?_⟩
  · intro s p mac ts hw hp hdead
    exact exec_eq_next rfl hw (transmissionOpportunity_dead hp hdead) (shaperRefill_pending s)
  · intro s h
    exact shaperRefill_early h
  · intro s p ts hw hp hlive hen hunit hgate u mine el
    have hawake : transmissionOpportunity s p .express ts = edgeOpportunity (portAwake s p) p .express ts :=
      transmissionOpportunity_live hp hlive hen hunit hgate
    refine ⟨fun h => ?_, fun hex hel hpm hsusp => ?_, fun q e hex hpm hfree hq he htsq => ?_⟩
    · exact exec_eq_keeping rfl hw (hawake.trans (edgeOpportunity_rests h))
    · exact exec_eq_keeping rfl hw (hawake.trans (edgeOpportunity_interrupts hex hel hpm hsusp))
    · obtain ⟨hdrr, hel⟩ := strict_of_max hq
      have hpick : edgeOpportunity (portAwake s p) p .express ts = startPicked (selectQueue u p 0 mine el) p .express mine ts :=
        edgeOpportunity_picks hex hel hpm hfree
      rw [selectQueue_strict hq, startPicked_head he] at hpick
      have hnow : now u = now s := (portAwake_samePorts s p).trans (headsReady_samePorts _ p) |>.read now
      obtain ⟨hmac, hqueue⟩ := startFrame_express (mine := mine) ts hdrr htsq
      generalize startFrame u p q .express mine e ts = t at hpick hmac hqueue
      refine ⟨_, exec_eq_keeping rfl hw (hawake.trans hpick), ?_⟩
      rw [macAt_keeping, queueAt_keeping, hmac, ← hnow]
      clear_value u
      exact ⟨rfl, rfl, rfl, hqueue⟩
  · intro s e ts hw u x
    refine ⟨fun h => ?_, fun hin hbyp hnext hhold hlow hcurH hcurL hfree howed hbeat => ⟨fun f l hf => ?_, fun o l hf hctl => ?_⟩⟩
    · exact exec_eq_keeping rfl hw (transmissionOpportunity_high_rests h)
    · exact exec_eq_keeping rfl hw
        (transmissionOpportunity_high_starts hin hbyp hnext hhold hlow hcurH hfree (newHigh_transit howed hcurL hbeat hf))
    · exact exec_eq_keeping rfl hw
        (transmissionOpportunity_high_starts hin hbyp hnext hhold hlow hcurH hfree (newHigh_own howed hcurL hbeat hf hctl))
  · intro s p h hw hp hex hloop hdrain m due'
    have hend := frameTxEnd_express hp hex hloop hdrain
    refine ⟨fun hearly => ?_, fun hdue => ?_⟩
    · have hwait : due s (expressDue s p h) = false := decide_eq_false (Nat.not_le.mpr hearly)
      exact exec_eq_next rfl hw (hend.trans (if_neg (by simp [hwait]))) rfl
    · refine ⟨_, exec_eq_keeping rfl hw (hend.trans (if_pos (decide_eq_true hdue))), ?_⟩
      rw [macAt_keeping, expressLeft_mac]
      exact ⟨rfl, rfl, rfl⟩
  · intro s e f hw hcur hsusp hctx hdue
    have hrtx := ringFrameDone_rtx s e .low f
    refine ⟨_, exec_eq_keeping rfl hw (frameTxEnd_low hcur hsusp hctx hdue), ?_⟩
    rw [rtx_keeping, hrtx]
    exact ⟨rfl, rfl, rfl⟩

end Sys2Proof.Machine
end

section
/-! PROOFS. Links of the edge and uplink ports that come up and go down: the statement O23. -/

namespace Sys2Proof.Machine

/- The proofs below run one at a time: each waits for those it cites, and many that wait need many threads. -/
set_option Elab.async false

open Sys2Proof

/-! ### A link goes down (R180, R222, R241, R266) -/

theorem Beyond.update {s t : State} (h : Beyond s t) (f : State → State)
    (hf : ∀ a, beyondBase (f a) = f (beyondBase a) := by exact fun _ => rfl) : Beyond (f s) (f t) := by
  unfold Beyond
  rw [hf, hf, h]

/-- The transmit MAC of a port is empty, and what was being put together on it is gone. -/
def workGone (p : Nat) (a : State) : State :=
  let b := setMac a p { hold := (macAt a p).hold, cnt := (macAt a p).cnt }
  setPort b p { portAt b p with asmb := {} }

/-- A port without its link, its pauses, its verification and its peer. -/
def linkGone (p : Nat) (a : State) : State :=
  let b := setPort a p { portAt a p with link := false, rate := 0, anDone := false }
  let c := setPause b p { pauseAt b p with upto := [], since := [] }
  let d := setPre c p { preAt c p with ver := if (preAt c p).verDis then .disabled else .unknown, tries := 0 }
  setGptp d p {}

theorem discardArrival_beyond (s : State) (a : Arrival) : Beyond s (discardArrival s a) := vat_beyond s _

/-- Frames that were in progress leave the vat and nothing else. -/
theorem dropPortWork_beyond (s : State) (p : Nat) : Beyond (workGone p s) (dropPortWork s p) := by
  unfold dropPortWork
  extract_lets m fin s1 s2 _ s3 gone
  have hfin : ∀ t h q, Beyond t (fin t h q) := fun t h q => by
    cases h with
    | none => exact .refl t
    | some x => exact finishDest_beyond t x _
  have h1 : Beyond s s1 := (hfin s _ _).trans (hfin _ _ _)
  have h3 : Beyond (workGone p s) s3 :=
    h1.update fun a => setPort (setMac a p { hold := m.hold, cnt := m.cnt }) p
      { portAt (setMac a p { hold := m.hold, cnt := m.cnt }) p with asmb := {} }
  exact (h3.trans (vat_beyond s3 _)).trans (.foldl discardArrival_beyond _ _)

theorem portLinkDown_unlinked {s : State} {p : Nat} (h : (portAt s p).link = false) : portLinkDown s p = s := if_pos (by simp [h])

theorem portLinkDown_linked {s : State} {p : Nat} (h : (portAt s p).link = true) :
    portLinkDown s p = signal (linkGone p (dropPortWork (perf (countPort s p 18) (pPort p 9)) p)) (1745 + p) := if_neg (by simp [h])

theorem portLinkDown_beyond {s : State} {p : Nat} (h : (portAt s p).link = true) :
    Beyond (linkGone p (workGone p s)) (portLinkDown s p) := by
  rw [portLinkDown_linked h]
  have hcount : Unseen s (perf (countPort s p 18) (pPort p 9)) := (countPort_unseen s p 18).trans (perf_unseen _ _)
  have hwork : Beyond (workGone p s) (dropPortWork (perf (countPort s p 18) (pPort p 9)) p) :=
    (hcount.beyond.update (workGone p)).trans (dropPortWork_beyond _ p)
  exact (hwork.update (linkGone p)).unseen (signal_unseen _ _)

theorem portLinkDown_pending (s : State) (p : Nat) : (portLinkDown s p).pending = s.pending := congrArg (·.2.2) (portLinkDown_kept s p)

/-- The entry of a port whose link is gone. -/
theorem portAt_linkGone (s : State) (p : Nat) : portAt (linkGone p (workGone p s)) p =
    { portAt s p with asmb := {}, link := false, rate := 0, anDone := false } := by
  calc portAt (linkGone p (workGone p s)) p
      = { portAt (workGone p s) p with link := false, rate := 0, anDone := false } := portAt_setPort _ p _
    _ = _ := by rw [workGone, portAt_setPort]; rfl

theorem portAt_linkGone_ne (s : State) {p q : Nat} (h : q ≠ p) : portAt (linkGone p (workGone p s)) q = portAt s q :=
  (portAt_setPort_ne (workGone p s) p q _ h).trans (portAt_setPort_ne _ p q _ h)

theorem linkGone_mac (p : Nat) (a : State) : (linkGone p a).eg.mac = a.eg.mac := rfl

theorem macAt_linkGone (s : State) (p : Nat) : macAt (linkGone p (workGone p s)) p =
    { hold := (macAt s p).hold, cnt := (macAt s p).cnt } := by
  rw [macAt, linkGone_mac]
  exact macAt_setMac s p { hold := (macAt s p).hold, cnt := (macAt s p).cnt }

theorem pauseAt_linkGone (s : State) (p : Nat) : pauseAt (linkGone p s) p = { pauseAt s p with upto := [], since := [] } :=
  pauseAt_setPause _ p _

/-! ### A link comes up (R263 to R266) -/

theorem startVerify_ports (s : State) (p : Nat) : (startVerify s p).ports = s.ports := by
  unfold startVerify
  dsimp only
  split_ifs <;> rfl

theorem portLinkUp_ports (s : State) (p : Nat) (x : PortSt) : (portLinkUp s p x).ports = (setPort s p { x with link := true }).ports :=
  startVerify_ports _ p

theorem portAt_portLinkUp (s : State) (p q : Nat) (x : PortSt) :
    portAt (portLinkUp s p x) q = portAt (setPort s p { x with link := true }) q := by
  rw [portAt, portLinkUp_ports, portAt]

/-- The role that a port's parameters want of training; none where either will do (R265). -/
def wantedRole (c : PortCfg) : Option Bool :=
  if c.an then (match c.role with
    | 2 => some true
    | 3 => some false
    | _ => none)
  else some (c.role % 2 == 0)

/-- A rate that a port's parameters allow (R264). -/
def rateAllowed (c : PortCfg) (rate : Nat) : Bool := if c.an then bitOf c.adv rate else c.forced == rate

section

variable {s : State} {p rate : Nat} {m inv : Bool}

theorem edgeLinkUp_rests (h : mayLink s p = false ∨ rateAllowed (portAt s p).cfg rate = false) : edgeLinkUp s p rate m inv = s :=
  if_pos (by unfold rateAllowed at h; simpa using h)

theorem edgeLinkUp_trained (hmay : mayLink s p = true) (hok : rateAllowed (portAt s p).cfg rate = true) :
    edgeLinkUp s p rate m inv =
      if (wantedRole (portAt s p).cfg).isSome && wantedRole (portAt s p).cfg != some m then
        (if (portAt s p).cfg.an then countPort s p 48 else s)
      else portLinkUp s p { portAt s p with rate := rate + 1, master := m, anDone := (portAt s p).cfg.an, polInv := inv } :=
  if_neg (by unfold rateAllowed at hok; simp [hmay, hok])

theorem edgeLinkUp_links (hmay : mayLink s p = true) (hok : rateAllowed (portAt s p).cfg rate = true)
    (hrole : wantedRole (portAt s p).cfg = none ∨ wantedRole (portAt s p).cfg = some m) :
    edgeLinkUp s p rate m inv =
      portLinkUp s p { portAt s p with rate := rate + 1, master := m, anDone := (portAt s p).cfg.an, polInv := inv } := by
  rw [edgeLinkUp_trained hmay hok, if_neg]
  rcases hrole with h | h <;> simp [h]

theorem edgeLinkUp_misses (hmay : mayLink s p = true) (hok : rateAllowed (portAt s p).cfg rate = true)
    (han : (portAt s p).cfg.an = true) (hrole : wantedRole (portAt s p).cfg = some (!m)) :
    edgeLinkUp s p rate m inv = countPort s p 48 := by
  rw [edgeLinkUp_trained hmay hok, if_pos (by simp [hrole]), if_pos han]

end

/-- Settles O23: training ends in one of three ways by the rate and the role, and a link that goes down takes its own port's work, pauses
and verification. -/
theorem edgeLinks : Obligations.EdgeLinks := by
  unfold Obligations.EdgeLinks
  refine ⟨?_, ?_, ?_, ?_, ?_, ?_⟩
  · intro s p rate m inv hw hmay x ok want
    refine ⟨fun hok hrole => ?_, fun hok han hrole => ?_, fun hok => ?_⟩
    · refine ⟨_, exec_eq_keeping rfl hw (edgeLinkUp_links hmay hok hrole), ?_, fun q hq => ?_⟩
      · exact (portAt_portLinkUp s p p _).trans (portAt_setPort s p _)
      · exact (portAt_portLinkUp s p q _).trans (portAt_setPort_ne s p q _ hq)
    · exact exec_eq_next rfl hw (edgeLinkUp_misses hmay hok han hrole) rfl
    · exact exec_eq_next rfl hw (edgeLinkUp_rests (.inr hok)) rfl
  · intro s p rate m inv hw hmay
    exact exec_eq_next rfl hw (edgeLinkUp_rests (.inl hmay)) rfl
  · intro s p hw hl
    have hb := portLinkDown_beyond hl
    have hport := (hb.read (portAt · p)).trans (portAt_linkGone s p)
    have hmac := (hb.read (macAt · p)).trans (macAt_linkGone s p)
    refine ⟨_, exec_eq_next rfl hw rfl (portLinkDown_pending s p), ?_, ?_, ?_, ?_, ?_, ?_, ?_,
      fun q hq => (hb.read (portAt · q)).trans (portAt_linkGone_ne s hq)⟩
    · exact congrArg (·.link) hport
    · exact congrArg (·.rate) hport
    · exact congrArg (·.asmb) hport
    · exact congrArg (·.cfg) hport
    · exact congrArg (·.ex) hmac
    · exact congrArg (·.pm) hmac
    · exact congrArg (·.upto) ((hb.read (pauseAt · p)).trans (pauseAt_linkGone _ p))
  · intro s p hw hl
    exact exec_eq_next rfl hw (portLinkDown_unlinked hl) rfl
  · intro s u hw hl
    have hb := portLinkDown_beyond hl
    have hport := (hb.read (portAt · (16 + u))).trans (portAt_linkGone s (16 + u))
    have hmac := (hb.read (macAt · (16 + u))).trans (macAt_linkGone s (16 + u))
    exact ⟨_, exec_eq_next rfl hw rfl (portLinkDown_pending s (16 + u)), congrArg (·.link) hport, congrArg (·.ex) hmac,
      congrArg (·.pm) hmac, fun q hq => (hb.read (portAt · q)).trans (portAt_linkGone_ne s hq)⟩
  · intro s u hw hl
    exact exec_eq_next rfl hw (portLinkDown_unlinked hl) rfl

end Sys2Proof.Machine
end

section
/-! PROOFS. The set commands on preemption, pauses and ports, each with the change it makes of a port: the statement O49. -/

namespace Sys2Proof.Machine

/- The proofs below run one at a time: each waits for those it cites, and many that wait need many threads. -/
set_option Elab.async false

open Sys2Proof

/-! ### What an accepted set command does -/

section

variable {c : SetCmd} {a : State} {r : Request} {v : List Nat}

/-- A set command that passes its checks runs to the change that its record announces. -/
theorem SetCmd.run_ok {t u : State} (ho : c.objOk a r.obj = true) (hchk : pCheck (c.defs r.obj) r.params r.mask = none)
    (habs : isAbsent a r.obj = false) (hst : c.staged = false)
    (hv : pMerge (c.defs r.obj) r.params r.mask (c.get a r.obj) = v) (hput : c.put a r r.obj v = .ok t)
    (hput' : c.put (auditChange a r r.obj (some (c.read a r.obj)) (some (c.read t r.obj))) r r.obj v = .ok u) :
    c.run a r = .ok u [] [] := by
  simp only [SetCmd.run, ho, Bool.not_true, Bool.false_eq_true, if_false, hchk, habs, hv, hput, hst, hput']

/-- A set command whose own rules refuse it fails with their status. -/
theorem SetCmd.run_refused {e : Nat × Nat} (ho : c.objOk a r.obj = true) (hchk : pCheck (c.defs r.obj) r.params r.mask = none)
    (habs : isAbsent a r.obj = false) (hv : pMerge (c.defs r.obj) r.params r.mask (c.get a r.obj) = v)
    (hput : c.put a r r.obj v = .error e) : c.run a r = .fail e.1 e.2 := by
  simp only [SetCmd.run, ho, Bool.not_true, Bool.false_eq_true, if_false, hchk, habs, hv, hput]

end

/-- A set command whose change keeps the masters that wait, the journal's SEQ and the queue, and reads and writes what no answer changes. -/
theorem knSets_of_kept {i : Instr} {s : State} {r : Request} {code : Nat} {k : Cmd} {c : SetCmd} {f : State → State}
    (h : SetAccepted s code c r) (hk : cmdOf code = some k) (hw : k.cls = .w) (hst : c.staged = false)
    (hrow : exec i s = .next (keeping s (runKn s code c.exe))) (hobj : ∀ a, c.objOk a r.obj = c.objOk s r.obj)
    (hget : ∀ a, KnFrame s a → c.get a r.obj = c.get s r.obj) (hput : ∀ a, KnFrame s a → c.put a r r.obj (c.vals s r) = .ok (f a))
    (hread : ∀ a, KnFrame s a → c.get (f a) r.obj = c.get (f s) r.obj) (hf : ∀ a, kept (f a) = kept a) : KnSets i s r c f := by
  obtain ⟨hacc, ho, hchk, habs⟩ := h
  have hfr := begun_frame s k r
  have hold : c.read (begun s k r) r.obj = c.read s r.obj := congrArg (pStruct r.obj (c.defs r.obj)) (hget _ hfr)
  have hnew : c.read (f (begun s k r)) r.obj = c.read (f s) r.obj := congrArg (pStruct r.obj (c.defs r.obj)) (hread _ hfr)
  have hv : pMerge (c.defs r.obj) r.params r.mask (c.get (begun s k r) r.obj) = c.vals s r := by rw [hget _ hfr]; rfl
  refine knWrites_of hacc hk hw hrow ?_ hf
  refine SetCmd.run_ok ((hobj _).trans ho) hchk ((isAbsent_congr hfr _).trans habs) hst hv (hput _ hfr) ?_
  rw [hold, hnew]
  exact hput _ (hfr.trans (auditChange_frame _ _ _ _ _ (hacc.mramUp_begun hk hw)))

/-- An accepted set command that its own rules refuse is answered with their status, and nothing is recorded. -/
theorem knSetRefused_of {s : State} {r : Request} {code : Nat} {k : Cmd} {c : SetCmd} {e : Nat × Nat} (h : SetAccepted s code c r)
    (hk : cmdOf code = some k) (hobj : ∀ a, c.objOk a r.obj = c.objOk s r.obj)
    (hput : ∀ a v, c.put a r r.obj v = .error e) :
    KnFrame s (runKn s code c.exe) ∧ Unrecorded s (runKn s code c.exe) ∧ Answered s (runKn s code c.exe) r e.1 e.2 [] [] := by
  obtain ⟨hacc, ho, hchk, habs⟩ := h
  exact knFails_of hacc hk
    (SetCmd.run_refused ((hobj _).trans ho) hchk ((isAbsent_congr (begun_frame s k r) _).trans habs) rfl (hput _ _))

/-! ### Preemption (R221, R222) -/

/-- The parameters of a port's preemption, as they are set and read. -/
def preVals (x : Preempt) : List Nat := [b2n x.enable, x.mask, b2n x.verDis, x.verTime]

theorem preemptCmd_get (a : State) (o : Nat) : preemptCmd.get a o = preVals (preAt a (objIdx o)) := rfl

/-- Verification leaves the parameters that start it. -/
theorem preVals_startVerify (a : State) (p : Nat) : preVals (preAt (startVerify a p) p) = preVals (preAt a p) := by
  have hset : ∀ x, preAt (setPre a p x) p = x := preAt_setPre a p
  have hemit : ∀ x o, preAt (emit (setPre a p x) o) p = x := fun x _ => hset x
  unfold startVerify
  dsimp only
  split_ifs <;> simp only [hset, hemit, preVals]

theorem startVerify_kn (a : State) (p : Nat) : (startVerify a p).kn = a.kn := by
  unfold startVerify
  dsimp only
  split_ifs <;> rfl

theorem startVerify_pending (a : State) (p : Nat) : (startVerify a p).pending = a.pending := by
  unfold startVerify
  dsimp only
  split_ifs <;> rfl

/-- A port takes its preemption parameters and verifies again; a ring port has none. -/
def preemptChanged (p : Nat) (v : List Nat) (a : State) : State :=
  if 18 ≤ p then a
  else startVerify (setPre a p { preAt a p with enable := valB v 0, mask := val v 1, verDis := valB v 2, verTime := val v 3 }) p

theorem preemptCmd_put (a : State) (r : Request) (o : Nat) (v : List Nat) :
    preemptCmd.put a r o v = .ok (preemptChanged (objIdx o) v a) := by
  simp only [preemptCmd, preemptChanged]
  split <;> rfl

theorem preemptCmd_get_congr {a b : State} (h : a.eg = b.eg) (o : Nat) : preemptCmd.get a o = preemptCmd.get b o := by
  rw [preemptCmd_get, preemptCmd_get, preAt, h, preAt]

theorem preemptCmd_get_preemptChanged (v : List Nat) {a b : State} (h : a.eg = b.eg) (o : Nat) :
    preemptCmd.get (preemptChanged (objIdx o) v a) o = preemptCmd.get (preemptChanged (objIdx o) v b) o := by
  unfold preemptChanged
  split
  · exact preemptCmd_get_congr h o
  · simp only [preemptCmd_get, preVals_startVerify, preAt_setPre]
    rfl

theorem preemptChanged_kn (p : Nat) (v : List Nat) (a : State) : (preemptChanged p v a).kn = a.kn := by
  unfold preemptChanged
  split
  · rfl
  · exact startVerify_kn _ p

theorem preemptChanged_pending (p : Nat) (v : List Nat) (a : State) : (preemptChanged p v a).pending = a.pending := by
  unfold preemptChanged
  split
  · rfl
  · exact startVerify_pending _ p

/-! ### Pauses (R238) -/

/-- A port takes its pause parameters; a ring port has none. -/
def pauseChanged (p : Nat) (v : List Nat) (a : State) : State :=
  if 18 ≤ p then a else setPause a p { pauseAt a p with mask := val v 0, pfc := val v 1, wdTime := val v 2 }

theorem pauseCmd_put (a : State) (r : Request) (o : Nat) (v : List Nat) : pauseCmd.put a r o v = .ok (pauseChanged (objIdx o) v a) := by
  simp only [pauseCmd, pauseChanged]
  split <;> rfl

theorem pauseCmd_get_congr {a b : State} (h : a.eg = b.eg) (o : Nat) : pauseCmd.get a o = pauseCmd.get b o := by
  simp only [pauseCmd, pauseAt, h]

/-- What a pause command writes lies in the egress part. -/
theorem pauseChanged_eg (p : Nat) (v : List Nat) {a b : State} (h : a.eg = b.eg) : (pauseChanged p v a).eg = (pauseChanged p v b).eg := by
  unfold pauseChanged
  split
  · exact h
  · simp only [setPause, pauseAt, h]

theorem pauseChanged_kn (p : Nat) (v : List Nat) (a : State) : (pauseChanged p v a).kn = a.kn := by
  unfold pauseChanged
  split <;> rfl

theorem pauseChanged_pending (p : Nat) (v : List Nat) (a : State) : (pauseChanged p v a).pending = a.pending := by
  unfold pauseChanged
  split <;> rfl

/-! ### What ports keep as queues are dropped and links go down (R266, R489) -/

theorem dmaEgressDrop_kept (s : State) (v : VFrame) : kept (dmaEgressDrop s v) = kept s := by
  unfold dmaEgressDrop
  split
  · rfl
  · split
    · rfl
    · split
      · exact ((Twins.refl s).finishJob _ _).left
      · rfl

theorem foldl_kept {β : Type} {f : State → β → State} (hf : ∀ s b, kept (f s b) = kept s) (l : List β) (s : State) :
    kept (l.foldl f s) = kept s := by
  induction l generalizing s with
  | nil => rfl
  | cons b l ih => exact (ih _).trans (hf s b)

theorem wfqIdle_kept (s : State) (p : Nat) : kept (wfqIdle s p) = kept s := by
  unfold wfqIdle
  split <;> rfl

theorem untagHead_kept (s : State) (p q : Nat) : kept (untagHead s p q) = kept s := by
  unfold untagHead
  dsimp only
  split <;> rfl

theorem dropQueue_kept (s : State) (k ev : Nat) : kept (dropQueue s k ev) = kept s := by
  unfold dropQueue
  refine (foldl_kept (fun t e => ?_) _ _).trans ((untagHead_kept _ _ _).trans (wfqIdle_kept _ _))
  exact (perf_unseen _ _).2.trans
    ((((Twins.refl (dmaEgressDrop t (frameAt t e.h))).dropDest _ _ _).left).trans (dmaEgressDrop_kept t _))

theorem dropQueue_samePorts (s : State) (k ev : Nat) : SamePorts s (dropQueue s k ev) := by
  have hhead : SamePorts s (untagHead (wfqIdle (setQueue s k []) (portOfKey s k)) (portOfKey s k) (k % 8)) :=
    .trans (t := setQueue s k []) rfl ((wfqIdle_samePorts _ _).trans (untagHead_samePorts _ _ _))
  have hentry : ∀ t v n d c, SamePorts t (perf (dropDest (dmaEgressDrop t v) n d ev) c) := fun t v n d c =>
    ((((dmaEgressDrop_beyond t v).unseen (countN_unseen _ _ _ _ 1)).trans (finishDest_beyond _ n d)).unseen (perf_unseen _ c)).samePorts
  unfold dropQueue
  exact hhead.trans (.foldl (fun t e => hentry t _ _ _ _) _ _)

theorem portLinkDown_cfg (s : State) (p : Nat) : (portAt (portLinkDown s p) p).cfg = (portAt s p).cfg := by
  by_cases h : (portAt s p).link = true
  · exact congrArg (·.cfg) (((portLinkDown_beyond h).read (portAt · p)).trans (portAt_linkGone s p))
  · rw [portLinkDown_unlinked (by simpa using h)]

theorem endPortDrain_cfg (s : State) (p : Nat) : (portAt (endPortDrain s p) p).cfg = (portAt s p).cfg := by
  unfold endPortDrain
  extract_lets s1
  have hdrop : SamePorts s s1 := .foldl (fun t q => dropQueue_samePorts t (8 * p + q) 1) _ s
  clear_value s1
  rw [portLinkDown_cfg, portAt_setPort]
  exact hdrop.read fun a => (portAt a p).cfg

theorem endPortDrain_kept (s : State) (p : Nat) : kept (endPortDrain s p) = kept s :=
  (portLinkDown_kept _ p).trans ((kept_setPort _ _ _).trans (foldl_kept (fun t q => dropQueue_kept t (8 * p + q) 1) _ s))

theorem startPortDrain_cfg (s : State) (p : Nat) : (portAt (startPortDrain s p) p).cfg = (portAt s p).cfg := by
  unfold startPortDrain portDrainCheck
  split
  · rw [endPortDrain_cfg, portAt_setPort]
  · rw [portAt_setPort]

theorem startPortDrain_kept (s : State) (p : Nat) : kept (startPortDrain s p) = kept s := by
  unfold startPortDrain portDrainCheck
  split
  · exact (endPortDrain_kept _ p).trans (kept_setPort s p _)
  · exact kept_setPort s p _

/-! ### Ports (R255, R264, R519) -/

theorem podlStart_port (s : State) (p : Nat) : (podlStart s p).ports.port = s.ports.port := by
  unfold podlStart
  dsimp only
  split <;> rfl

theorem podlStart_kept (s : State) (p : Nat) : kept (podlStart s p) = kept s := by
  unfold podlStart
  dsimp only
  split <;> rfl

theorem podlAdmin_port (s : State) (p : Nat) (up : Bool) : (podlAdmin s p up).ports.port = s.ports.port := by
  unfold podlAdmin
  split_ifs
  · rfl
  · exact podlStart_port s p
  · rfl
  · rfl

theorem podlAdmin_kept (s : State) (p : Nat) (up : Bool) : kept (podlAdmin s p up) = kept s := by
  unfold podlAdmin
  split_ifs
  · rfl
  · exact podlStart_kept s p
  · rfl
  · rfl

/-- ADMIN_UP as it changes, before an uplink's pin follows it. -/
def adminPort (s : State) (p : Nat) (up : Bool) : State :=
  let t := podlAdmin s p up
  if up then setPort t p { portAt t p with draining := false } else startPortDrain t p

theorem adminChange_unseen (s : State) (p : Nat) (up : Bool) : Unseen (adminPort s p up) (adminChange s p up) := by
  unfold adminChange
  dsimp only
  split
  · exact .refl _
  · exact emit_unseen _ _

theorem adminPort_cfg (s : State) (p : Nat) (up : Bool) : (portAt (adminPort s p up) p).cfg = (portAt s p).cfg := by
  have hpodl : portAt (podlAdmin s p up) p = portAt s p := by
    rw [portAt, podlAdmin_port, portAt]
  unfold adminPort
  dsimp only
  split
  · rw [portAt_setPort, hpodl]
  · rw [startPortDrain_cfg, hpodl]

theorem adminPort_kept (s : State) (p : Nat) (up : Bool) : kept (adminPort s p up) = kept s := by
  unfold adminPort
  dsimp only
  split
  · exact (kept_setPort _ _ _).trans (podlAdmin_kept s p up)
  · exact (startPortDrain_kept _ p).trans (podlAdmin_kept s p up)

/-- The parameters of a port with the values of a command. -/
def portCfgOf (v : List Nat) : PortCfg :=
  { adminUp := valB v 0, maxFrame := val v 1, loopback := val v 2, an := valB v 3, adv := val v 4, forced := val v 5
    role := val v 6, nvp := val v 7, upRate := val v 8, upFec := val v 9 }

/-- A port with new parameters trains again (R264, R267, R519). -/
def retrains (c old : PortCfg) : Bool :=
  linkParams c old || c.upRate != old.upRate || c.upFec != old.upFec || (loopsLink c.loopback && !loopsLink old.loopback)

/-- A port takes its parameters, and MAX_FRAME from the next first octet on. -/
def cfgTaken (p : Nat) (c : PortCfg) (a : State) : State :=
  let old := (portAt a p).cfg
  setPort a p { portAt a p with
    cfg := c, frameWas := if c.maxFrame = old.maxFrame then (portAt a p).frameWas else some (old.maxFrame, nt16 a) }

/-- A port with its parameters, whose link has gone down where they need training. -/
def portRetrained (p : Nat) (c : PortCfg) (a : State) : State :=
  if retrains c (portAt a p).cfg then portLinkDown (cfgTaken p c a) p else cfgTaken p c a

/-- A port with its parameters, its training and its ADMIN_UP; a ring port has none. -/
def portChanged (p : Nat) (c : PortCfg) (a : State) : State :=
  if 18 ≤ p then a
  else if c.adminUp = (portAt a p).cfg.adminUp then portRetrained p c a else adminChange (portRetrained p c a) p c.adminUp

theorem portSetCmd_put (a : State) (r : Request) (o : Nat) (v : List Nat)
    (h : 16 ≤ objIdx o → objIdx o < 18 → fecOk (portCfgOf v).upRate (portCfgOf v).upFec = true) :
    portSetCmd.put a r o v = .ok (portChanged (objIdx o) (portCfgOf v) a) := by
  unfold portChanged
  by_cases hring : 18 ≤ objIdx o
  · rw [if_pos hring]
    exact if_pos hring
  · rw [if_neg hring]
    refine (if_neg hring).trans (if_neg ?_)
    intro hbad
    simp only [Bool.and_eq_true, decide_eq_true_eq, Bool.not_eq_true'] at hbad
    exact absurd (h hbad.1 (by omega)) (by simp [portCfgOf, hbad.2])

/-- The parameters of a port, as they are set and read. -/
def portVals (c : PortCfg) : List Nat :=
  [b2n c.adminUp, c.maxFrame, c.loopback, b2n c.an, c.adv, c.forced, c.role, c.nvp, c.upRate, c.upFec]

theorem portSetCmd_get (a : State) (o : Nat) : portSetCmd.get a o = portVals (portAt a (objIdx o)).cfg := rfl

theorem portSetCmd_get_congr {a b : State} (h : a.ports = b.ports) (o : Nat) : portSetCmd.get a o = portSetCmd.get b o := by
  rw [portSetCmd_get, portSetCmd_get, portAt, h, portAt]

theorem portRetrained_cfg (p : Nat) (c : PortCfg) (a : State) : (portAt (portRetrained p c a) p).cfg = c := by
  have htaken : (portAt (cfgTaken p c a) p).cfg = c := congrArg (·.cfg) (portAt_setPort a p _)
  unfold portRetrained
  split
  · exact (portLinkDown_cfg _ p).trans htaken
  · exact htaken

theorem portRetrained_kept (p : Nat) (c : PortCfg) (a : State) : kept (portRetrained p c a) = kept a := by
  unfold portRetrained
  split
  · exact (portLinkDown_kept _ p).trans (kept_setPort a p _)
  · exact kept_setPort a p _

/-- What a port reads as after its change is what the command gives. -/
theorem portChanged_cfg {p : Nat} (hp : p < 18) (c : PortCfg) (a : State) : (portAt (portChanged p c a) p).cfg = c := by
  unfold portChanged
  rw [if_neg (by omega)]
  split
  · exact portRetrained_cfg p c a
  · exact ((adminChange_unseen _ p _).read fun b => (portAt b p).cfg).trans ((adminPort_cfg _ p _).trans (portRetrained_cfg p c a))

theorem portChanged_kept (p : Nat) (c : PortCfg) (a : State) : kept (portChanged p c a) = kept a := by
  unfold portChanged
  split
  · rfl
  · split
    · exact portRetrained_kept p c a
    · exact (adminChange_unseen _ p _).2.trans ((adminPort_kept _ p _).trans (portRetrained_kept p c a))

theorem portSetCmd_get_portChanged (c : PortCfg) {a b : State} (h : a.ports = b.ports) (o : Nat) :
    portSetCmd.get (portChanged (objIdx o) c a) o = portSetCmd.get (portChanged (objIdx o) c b) o := by
  by_cases hring : 18 ≤ objIdx o
  · rw [portChanged, if_pos hring, portChanged, if_pos hring]
    exact portSetCmd_get_congr h o
  · rw [portSetCmd_get, portSetCmd_get, portChanged_cfg (by omega), portChanged_cfg (by omega)]

/-! ### Power over the pair (R273, R275) -/

/-- The parameters of a port's controller with the values of a command. -/
def podlTaken (p : Nat) (v : List Nat) (a : State) : State :=
  setPodl a p { podlAt a p with enable := valB v 0, classMax := val v 1, allowUn := val v 2, shortF := val v 3, tCut := val v 4
                                retryLim := val v 5, retryDel := val v 6 }

/-- A port's controller takes its parameters, or the package its budget. -/
def podlChanged (o : Nat) (v : List Nat) (a : State) : State :=
  if objCls o = 0x01 then podlSetState (podlTaken (objIdx o) v a) (objIdx o)
  else { a with ports := { a.ports with budget := val v 7 } }

theorem podlSetCmd_put (a : State) (r : Request) (o : Nat) (v : List Nat) : podlSetCmd.put a r o v = .ok (podlChanged o v a) := by
  simp only [podlSetCmd, podlChanged]
  split <;> rfl

/-- The parameters of a port's controller, as they are set and read. -/
def podlVals (x : Podl) : List Nat := [b2n x.enable, x.classMax, x.allowUn, x.shortF, x.tCut, x.retryLim, x.retryDel, 0]

theorem podlSetCmd_get (a : State) (o : Nat) : podlSetCmd.get a o =
    if objCls o = 0x01 then podlVals (podlAt a (objIdx o)) else [0, 0, 0, 0, 0, 0, 0, a.ports.budget] := rfl

theorem podlSetCmd_get_congr {a b : State} (h : a.ports = b.ports) (o : Nat) : podlSetCmd.get a o = podlSetCmd.get b o := by
  rw [podlSetCmd_get, podlSetCmd_get, podlAt, h, podlAt]

theorem podlVals_podlStart (a : State) (p : Nat) : podlVals (podlAt (podlStart a p) p) = podlVals (podlAt a p) := by
  unfold podlStart
  dsimp only
  split
  · rw [podlAt_setPodl]
    rfl
  · rfl

/-- What the new parameters do to a controller leaves them as they are. -/
theorem podlVals_podlSetState (a : State) (p : Nat) : podlVals (podlAt (podlSetState a p) p) = podlVals (podlAt a p) := by
  unfold podlSetState
  dsimp only
  split
  · rw [podlAt_setPodl]
    rfl
  · split
    · rw [podlAt_setPodl]
      rfl
    · exact podlVals_podlStart a p

theorem podlSetState_kept (a : State) (p : Nat) : kept (podlSetState a p) = kept a := by
  unfold podlSetState
  dsimp only
  split
  · rfl
  · split
    · rfl
    · exact podlStart_kept a p

theorem podlSetCmd_get_podlChanged (o : Nat) (v : List Nat) (a b : State) :
    podlSetCmd.get (podlChanged o v a) o = podlSetCmd.get (podlChanged o v b) o := by
  unfold podlChanged
  rw [podlSetCmd_get, podlSetCmd_get]
  split
  · rw [podlVals_podlSetState, podlVals_podlSetState, podlTaken, podlTaken, podlAt_setPodl, podlAt_setPodl]
    rfl
  · rfl

theorem podlChanged_kept (o : Nat) (v : List Nat) (a : State) : kept (podlChanged o v a) = kept a := by
  unfold podlChanged
  split
  · exact (podlSetState_kept _ _).trans rfl
  · rfl

/-- Settles O49: each command writes the values of its structure into its port's entry, from which the port also reads, and then starts
verification, training, the drain or detection. -/
theorem knPortSets : Obligations.KnPortSets := by
  unfold Obligations.KnPortSets
  refine ⟨?_, ?_, ?_, ?_⟩
  · intro s r h v p
    exact knSets_of_put (f := preemptChanged p v) h rfl rfl rfl rfl (fun _ => rfl) (fun a ha => preemptCmd_get_congr ha.eg_eq _)
      (fun a _ => preemptCmd_put a r _ _) (fun a ha => preemptCmd_get_preemptChanged _ ha.eg_eq _) (preemptChanged_kn _ _)
      (preemptChanged_pending _ _)
  · intro s r h v p
    exact knSets_of_put (f := pauseChanged p v) h rfl rfl rfl rfl (fun _ => rfl) (fun a ha => pauseCmd_get_congr ha.eg_eq _)
      (fun a _ => pauseCmd_put a r _ _) (fun a ha => pauseCmd_get_congr (pauseChanged_eg _ _ ha.eg_eq) _) (pauseChanged_kn _ _)
      (pauseChanged_pending _ _)
  · intro s r h v p c hfec
    exact knSets_of_kept (f := portChanged (objIdx r.obj) (portCfgOf v)) h rfl rfl rfl rfl (fun _ => rfl)
      (fun a ha => portSetCmd_get_congr ha.ports_eq _)
      (fun a _ => portSetCmd_put a r _ _ hfec) (fun a ha => portSetCmd_get_portChanged _ ha.ports_eq r.obj) (portChanged_kept _ _)
  · intro s r h v p
    exact knSets_of_kept (f := podlChanged r.obj v) h rfl rfl rfl rfl (fun _ => rfl) (fun a ha => podlSetCmd_get_congr ha.ports_eq _)
      (fun a _ => podlSetCmd_put a r _ _) (fun a _ => podlSetCmd_get_podlChanged r.obj v a s) (podlChanged_kept _ _)

end Sys2Proof.Machine
end

section
/-! PROOFS. The set commands on redundant streams and on fault sources, each with the entry it writes: the statement O50. -/

namespace Sys2Proof.Machine

/- The proofs below run one at a time: each waits for those it cites, and many that wait need many threads. -/
set_option Elab.async false

open Sys2Proof

theorem KnFrame.frer_eq {s t : State} (h : KnFrame s t) : t.frer = s.frer := by
  unfold KnFrame at h
  tauto

/-! ### Redundant streams (R242, R244, R246) -/

/-- The identity of a stream with the values of a command. -/
def streamIdOf (v : List Nat) : StreamId :=
  { valid := true, smac := valB v 0, mac := val v 1, vid := val v 2, ports := val v 3, handle := val v 4 }

/-- An identity entry takes its values. -/
def streamIdChanged (i : Nat) (v : List Nat) (a : State) : State :=
  { a with frer := { a.frer with ids := tblSet {} a.frer.ids i (streamIdOf v) } }

theorem streamIdCmd_put {a : State} (r : Request) (o : Nat) {v : List Nat}
    (h : bitOf (val v 3) 18 = true → (rcvyAt a (val v 4)).isMatch = false) :
    streamIdCmd.put a r o v = .ok (streamIdChanged (objIdx o) v a) := by
  refine if_neg ?_
  simpa using h

theorem streamIdCmd_get_congr {a b : State} (h : a.frer = b.frer) (o : Nat) : streamIdCmd.get a o = streamIdCmd.get b o := by
  simp only [streamIdCmd, h]

theorem streamIdChanged_frer (i : Nat) (v : List Nat) {a b : State} (h : a.frer = b.frer) :
    (streamIdChanged i v a).frer = (streamIdChanged i v b).frer := by
  simp only [streamIdChanged, h]

theorem frerGenCmd_get_congr {a b : State} (h : a.frer = b.frer) (o : Nat) : frerGenCmd.get a o = frerGenCmd.get b o := by
  simp only [frerGenCmd, genAt, h]

/-- A generator takes its values. -/
def genChanged (i : Nat) (v : List Nat) (a : State) : State :=
  { a with frer := { a.frer with gen := tblSet {} a.frer.gen i { enable := valB v 0, split := val v 1, next := val v 2 } } }

theorem genChanged_frer (i : Nat) (v : List Nat) {a b : State} (h : a.frer = b.frer) :
    (genChanged i v a).frer = (genChanged i v b).frer := by
  simp only [genChanged, h]

/-- A recovery entry takes its values and then any next frame, and its latent-error period starts; an entry of a receive buffer has no
parameters. -/
def rcvyChanged (i : Nat) (v : List Nat) (a : State) : State :=
  if 8192 ≤ i then a
  else setRcvy a i { rcvyAt a i with
    enable := valB v 0, isMatch := valB v 1, history := val v 2, timeout := val v 3, popRtag := valB v 4, takeNoSeq := valB v 5
    latent := valB v 6, paths := val v 7, diff := val v 8, period := val v 9
    takeAny := true, lastPass := now a, passed := 0, disc := 0, perEnd := now a + msTicks (val v 9) }

theorem frerRcvyCmd_put {a : State} (r : Request) (o : Nat) {v : List Nat}
    (h : objIdx o < 8192 → valB v 1 = true → ringIdentified a (objIdx o) = false) :
    frerRcvyCmd.put a r o v = .ok (rcvyChanged (objIdx o) v a) := by
  unfold rcvyChanged
  by_cases hi : 8192 ≤ objIdx o
  · rw [if_pos hi]
    exact if_pos hi
  · rw [if_neg hi]
    exact (if_neg hi).trans (if_neg (by simpa using h (by omega)))

/-- The parameters of a recovery entry, as they are set and read. -/
def rcvyVals (x : Rcvy) : List Nat :=
  [b2n x.enable, b2n x.isMatch, x.history, x.timeout, b2n x.popRtag, b2n x.takeNoSeq, b2n x.latent, x.paths, x.diff, x.period]

theorem frerRcvyCmd_get (a : State) (o : Nat) : frerRcvyCmd.get a o = rcvyVals (rcvyAt a (objIdx o)) := rfl

theorem frerRcvyCmd_get_congr {a b : State} (h : a.frer = b.frer) (o : Nat) : frerRcvyCmd.get a o = frerRcvyCmd.get b o := by
  rw [frerRcvyCmd_get, frerRcvyCmd_get, rcvyAt, h, rcvyAt]

theorem frerRcvyCmd_get_rcvyChanged (v : List Nat) {a b : State} (h : a.frer = b.frer) (o : Nat) :
    frerRcvyCmd.get (rcvyChanged (objIdx o) v a) o = frerRcvyCmd.get (rcvyChanged (objIdx o) v b) o := by
  unfold rcvyChanged
  split
  · exact frerRcvyCmd_get_congr h o
  · rw [frerRcvyCmd_get, frerRcvyCmd_get, rcvyAt_setRcvy, rcvyAt_setRcvy]
    rfl

theorem rcvyChanged_kept (i : Nat) (v : List Nat) (a : State) : kept (rcvyChanged i v a) = kept a := by
  unfold rcvyChanged
  split <;> rfl

/-! ### Fault sources (R419, R421, R429) -/

/-- The severe reaction that a command gives is LOG, EVENT, or a reset that its source's units can take (R24). -/
def reactionAllowed (f a : Nat) : Bool :=
  decide (a < 3) || (decide (a ≤ widestReset f) &&
    (a != 4 || (clusterOf f).isSome) && (a != 5 || (phyDieOf f).isSome) && (a != 6 || restartRegion f != .trestle) &&
      (a != 3 || (srcInfo f).level == 0))

theorem reactionAllowed_of {f a : Nat}
    (h : a < 3 ∨ (a ≤ widestReset f ∧ (a = 4 → (clusterOf f).isSome = true) ∧ (a = 5 → (phyDieOf f).isSome = true) ∧
      (a = 6 → restartRegion f ≠ .trestle) ∧ (a = 3 → (srcInfo f).level = 0))) : reactionAllowed f a = true := by
  simp only [reactionAllowed, Bool.or_eq_true, Bool.and_eq_true, decide_eq_true_eq, bne_iff_ne, beq_iff_eq]
  rcases h with h | ⟨hwide, h4, h5, h6, h3⟩
  · exact .inl h
  · exact .inr ⟨⟨⟨⟨hwide, by tauto⟩, by tauto⟩, by tauto⟩, by tauto⟩

/-- The entry of a fault source with the values of a command; its count starts anew. -/
def sourceTaken (x : FSrc) (v : List Nat) : FSrc :=
  { x with set := true, enable := valB v 0, threshold := val v 1, window := val v 2, degraded := valB v 3, baseEvent := valB v 4
           severe := val v 5, selftest := valB v 6, count := 0 }

/-- A fault source takes its values. -/
def sourceChanged (f : Nat) (v : List Nat) (a : State) : State := setFsrc a f (sourceTaken (fsrcAt a f) v)

theorem faultSetCmd_put {a : State} (r : Request) {o : Nat} {v : List Nat} (hfree : (srcInfo (objIdx o)).fixed = false)
    (hreact : reactionAllowed (objIdx o) (val v 5 + 1) = true) (htest : valB v 6 = true → testOf (objIdx o) ≠ .none) :
    faultSetCmd.put a r o v = .ok (sourceChanged (objIdx o) v a) := by
  have hlevel : ¬(!reactionAllowed (objIdx o) (val v 5 + 1)) = true := by simp [hreact]
  have hmay : ¬(valB v 6 && testOf (objIdx o) == .none) = true := by simpa using htest
  exact (if_neg (by simp [hfree])).trans ((if_neg hlevel).trans (if_neg hmay))

theorem faultSetCmd_put_fixed {o : Nat} (h : (srcInfo (objIdx o)).fixed = true) (a : State) (r : Request) (v : List Nat) :
    faultSetCmd.put a r o v = .error (0x15, 0) := if_pos h

/-- The parameters of a source, as they are set and read. -/
def sourceVals (c : FSrc) : List Nat :=
  [b2n c.enable, c.threshold, c.window, b2n c.degraded, b2n c.baseEvent, c.severe, b2n c.selftest]

theorem faultSetCmd_get (a : State) (o : Nat) : faultSetCmd.get a o = sourceVals (fsrcCfg a (objIdx o)) := rfl

theorem faultSetCmd_get_congr {a b : State} (h : a.flt = b.flt) (o : Nat) : faultSetCmd.get a o = faultSetCmd.get b o := by
  rw [faultSetCmd_get, faultSetCmd_get, fsrcCfg, fsrcAt, h, fsrcCfg, fsrcAt]

/-- A source whose parameters have been set stands by them, and no more by those of R415. -/
theorem fsrcCfg_sourceChanged (f : Nat) (v : List Nat) (a : State) :
    fsrcCfg (sourceChanged f v a) f = sourceTaken (fsrcAt a f) v := by
  rw [fsrcCfg, sourceChanged, fsrcAt_setFsrc]
  rfl

theorem faultSetCmd_get_sourceChanged (o : Nat) (v : List Nat) (a b : State) :
    faultSetCmd.get (sourceChanged (objIdx o) v a) o = faultSetCmd.get (sourceChanged (objIdx o) v b) o := by
  rw [faultSetCmd_get, faultSetCmd_get, fsrcCfg_sourceChanged, fsrcCfg_sourceChanged]
  rfl

/-- A train of forced events, the first of them due at once. -/
def trainForced (f : Nat) (v : List Nat) (a : State) : State :=
  setFsrc a f { fsrcAt a f with
    force := decide (val v 1 ≠ 0), fRecOnly := valB v 0, fLeft := val v 1, fSpacing := val v 2, fLoc := val v 3
    fDetail := val v 4, fNext := now a }

theorem faultForceCmd_put {a : State} (r : Request) {o : Nat} {v : List Nat}
    (h : (srcInfo (objIdx o)).fixed = true → valB v 0 = true) :
    faultForceCmd.put a r o v = .ok (trainForced (objIdx o) v a) := by
  refine if_neg ?_
  simpa using h

/-- The parameters of a source's train, as they are set and read. -/
def trainVals (x : FSrc) : List Nat := [b2n x.fRecOnly, x.fLeft, x.fSpacing, x.fLoc, x.fDetail]

theorem faultForceCmd_get (a : State) (o : Nat) : faultForceCmd.get a o = trainVals (fsrcAt a (objIdx o)) := rfl

theorem faultForceCmd_get_congr {a b : State} (h : a.flt = b.flt) (o : Nat) : faultForceCmd.get a o = faultForceCmd.get b o := by
  rw [faultForceCmd_get, faultForceCmd_get, fsrcAt, h, fsrcAt]

theorem faultForceCmd_get_trainForced (o : Nat) (v : List Nat) (a b : State) :
    faultForceCmd.get (trainForced (objIdx o) v a) o = faultForceCmd.get (trainForced (objIdx o) v b) o := by
  rw [faultForceCmd_get, faultForceCmd_get, trainForced, trainForced, fsrcAt_setFsrc, fsrcAt_setFsrc]
  rfl

/-- Settles O50: each command writes the values of its structure into one entry of the strainer or of the fault sources, from which its
object also reads; a fixed source is refused before anything is written. -/
theorem knStreamAndFaultSets : Obligations.KnStreamAndFaultSets := by
  unfold Obligations.KnStreamAndFaultSets
  refine ⟨?_, ?_, ?_, ?_, ?_, ?_⟩
  · intro s r h v hmatch
    have hmay : ∀ a, KnFrame s a → bitOf (val v 3) 18 = true → (rcvyAt a (val v 4)).isMatch = false := fun a ha => by
      rwa [rcvyAt, ha.frer_eq]
    exact knSets_of_kept (f := streamIdChanged (objIdx r.obj) v) h rfl rfl rfl rfl (fun _ => rfl)
      (fun a ha => streamIdCmd_get_congr ha.frer_eq _) (fun a ha => streamIdCmd_put r r.obj (hmay a ha))
      (fun a ha => streamIdCmd_get_congr (streamIdChanged_frer _ _ ha.frer_eq) _) (fun _ => rfl)
  · intro s r h v
    exact knSets_of_kept (f := genChanged (objIdx r.obj) v) h rfl rfl rfl rfl (fun _ => rfl)
      (fun a ha => frerGenCmd_get_congr ha.frer_eq _) (fun _ _ => rfl)
      (fun a ha => frerGenCmd_get_congr (genChanged_frer _ _ ha.frer_eq) _) (fun _ => rfl)
  · intro s r h v i hring
    have hmay : ∀ a, KnFrame s a → objIdx r.obj < 8192 → valB v 1 = true → ringIdentified a (objIdx r.obj) = false := fun a ha => by
      rwa [ringIdentified, ha.frer_eq]
    exact knSets_of_kept (f := rcvyChanged (objIdx r.obj) v) h rfl rfl rfl rfl (fun _ => rfl)
      (fun a ha => frerRcvyCmd_get_congr ha.frer_eq _) (fun a ha => frerRcvyCmd_put r r.obj (hmay a ha))
      (fun a ha => frerRcvyCmd_get_rcvyChanged v ha.frer_eq r.obj) (rcvyChanged_kept _ _)
  · intro s r h v f n hfree hreact htest
    exact knSets_of_kept (f := sourceChanged (objIdx r.obj) v) h rfl rfl rfl rfl (fun _ => rfl)
      (fun a ha => faultSetCmd_get_congr ha.flt_eq _) (fun a _ => faultSetCmd_put r hfree (reactionAllowed_of hreact) htest)
      (fun a _ => faultSetCmd_get_sourceChanged r.obj v a s) (fun _ => rfl)
  · intro s r h hfixed
    obtain ⟨hframe, hunrec, hans⟩ := knSetRefused_of h rfl (fun _ => rfl) fun a v => faultSetCmd_put_fixed hfixed a r v
    exact ⟨_, exec_eq_next rfl rfl rfl hframe.pending_eq, hframe, hunrec, hans⟩
  · intro s r h v f hforce
    exact knSets_of_kept (f := trainForced (objIdx r.obj) v) h rfl rfl rfl rfl (fun _ => rfl)
      (fun a ha => faultForceCmd_get_congr ha.flt_eq _) (fun a _ => faultForceCmd_put r hforce)
      (fun a _ => faultForceCmd_get_trainForced r.obj v a s) (fun _ => rfl)

end Sys2Proof.Machine
end

section
/-! PROOFS. Frames and pieces of frames that arrive on the edge and uplink ports: the statement O19. -/

namespace Sys2Proof.Machine

/- The proofs below run one at a time: each waits for those it cites, and many that wait need many threads. -/
set_option Elab.async false

open Sys2Proof

/-! ### What arrives, and what its receipt leaves (R23, R262, R267) -/

theorem returned_unseen (s : State) (p : Nat) (mp : Mpacket) : Unseen s (returned s p mp) := by
  unfold returned
  extract_lets n all crc
  split
  · exact .refl s
  · split <;> exact emit_unseen s _

/-- The state in which a port takes what arrived: its unit runs, the codewords are counted, and a port in loopback has returned it. -/
def edgeArrived (s : State) (p : Nat) (mp : Mpacket) : State := returned (countFec (wake s [portUnit p]) p mp) p mp

theorem edgeArrived_unseen (s : State) (p : Nat) (mp : Mpacket) : Unseen (wake s [portUnit p]) (edgeArrived s p mp) :=
  (countFec_unseen _ p mp).trans (returned_unseen _ p mp)

/-- What reads neither the counters, the outputs, the vectors and Keanak nor the clocks of the units is the same as before. -/
theorem edgeArrived_read {α : Type} (s : State) (p : Nat) (mp : Mpacket) (r : State → α)
    (hr : ∀ a, r (shown a) = r a := by exact fun _ => rfl) (hw : ∀ a l, r (wake a l) = r a := by exact fun _ _ => rfl) :
    r (edgeArrived s p mp) = r s :=
  ((edgeArrived_unseen s p mp).read r hr).trans (hw s _)

theorem edgeArrived_pending (s : State) (p : Nat) (mp : Mpacket) : (edgeArrived s p mp).pending = s.pending :=
  (edgeArrived_unseen s p mp).pending_eq

theorem asmb_edgeArrived (s : State) (p : Nat) (mp : Mpacket) : (portAt (edgeArrived s p mp) p).asmb = (portAt s p).asmb :=
  edgeArrived_read s p mp fun a => (portAt a p).asmb

theorem now_edgeArrived (s : State) (p : Nat) (mp : Mpacket) : now (edgeArrived s p mp) = now s := edgeArrived_read s p mp now

theorem edgeArrived_receives (s : State) (p : Nat) (mp : Mpacket) : portReceives (edgeArrived s p mp) p = portReceives s p :=
  edgeArrived_read s p mp (portReceives · p)

/-- What a port does with what it takes, by its gap and its delimiter (R218, R222, R256). -/
def edgeTakes (u : State) (p : Nat) (mp : Mpacket) (ts : Nat) : State :=
  if mp.shortGap then countPort u p 9
  else match mp.smd with
    | .express => macFrame u p mp.data (packetSym mp) ts
    | .startP => edgeFragment u p mp true ts
    | .contP => edgeFragment u p mp false ts
    | .verifyP => smdVerifyRx u p .verifyP
    | .responseP => smdVerifyRx u p .responseP
    | _ => countPort (countPort u p 9) p 51

section

variable {s : State} {p ts : Nat} {mp : Mpacket}

theorem macFrameRx_silent (h : portReceives s p = false) : macFrameRx s p mp ts = s := by
  simp [macFrameRx, h]

/-- A receiving port takes what arrived. -/
theorem macFrameRx_receives (h : portReceives s p = true) : macFrameRx s p mp ts = edgeTakes (edgeArrived s p mp) p mp ts := by
  have hrow : ∀ u, (if portReceives s p then edgeArrived s p mp else s) = u →
      macFrameRx s p mp ts = if !portReceives u p then u else edgeTakes u p mp ts := by
    rintro u rfl
    rfl
  exact (hrow _ (if_pos h)).trans (if_neg (by simp [edgeArrived_receives, h]))

theorem macFrameRx_shortGap (h : portReceives s p = true) (hg : mp.shortGap = true) :
    macFrameRx s p mp ts = countPort (edgeArrived s p mp) p 9 := (macFrameRx_receives h).trans (if_pos hg)

theorem macFrameRx_express (h : portReceives s p = true) (hg : mp.shortGap = false) (hx : mp.smd = .express) :
    macFrameRx s p mp ts = macFrame (edgeArrived s p mp) p mp.data (packetSym mp) ts := by
  simp [macFrameRx_receives h, edgeTakes, hg, hx]

theorem macFrameRx_start (h : portReceives s p = true) (hg : mp.shortGap = false) (hx : mp.smd = .startP) :
    macFrameRx s p mp ts = edgeFragment (edgeArrived s p mp) p mp true ts := by
  simp [macFrameRx_receives h, edgeTakes, hg, hx]

theorem macFrameRx_continues (h : portReceives s p = true) (hg : mp.shortGap = false) (hx : mp.smd = .contP) :
    macFrameRx s p mp ts = edgeFragment (edgeArrived s p mp) p mp false ts := by
  simp [macFrameRx_receives h, edgeTakes, hg, hx]

end

/-! ### Whole frames (R256 to R261) -/

section

variable {s : State} {p ts : Nat} {o : Octets} {sym : Bool}

theorem macFrame_runt (h : o.length < 18) : macFrame s p o sym ts = countPort s p 7 := if_pos h

theorem macFrame_control (hl : 18 ≤ o.length) (he : etypeAt o 12 = 0x8808) :
    macFrame s p o sym ts = macControl (countRx s p (macStatus (maxFrameAt s p ts) o.length (fcsGood o) sym) o) p o
      (fcsGood o && decide (o.length ≤ maxFrameAt s p ts)) :=
  (if_neg (by omega)).trans (if_pos he)

theorem macFrame_gptp (hl : 18 ≤ o.length) (he : etypeAt o 12 = 0x88F7)
    (hst : macStatus (maxFrameAt s p ts) o.length (fcsGood o) sym = 0) :
    macFrame s p o sym ts = gptpRx (countRx s p (macStatus (maxFrameAt s p ts) o.length (fcsGood o) sym) o) p o ts :=
  (if_neg (by omega)).trans ((if_neg (by simp [he])).trans (if_pos ⟨he, hst⟩))

theorem macFrame_stored (hl : 18 ≤ o.length) (hc : etypeAt o 12 ≠ 0x8808)
    (hg : etypeAt o 12 ≠ 0x88F7 ∨ macStatus (maxFrameAt s p ts) o.length (fcsGood o) sym ≠ 0) :
    macFrame s p o sym ts = continueArrival (countRx s p (macStatus (maxFrameAt s p ts) o.length (fcsGood o) sym) o)
      { data := o.take (maxFrameAt s p ts), kind := .edge
        fr := { data := o.take (maxFrameAt s p ts), acct := p, ingress := p
                status := macStatus (maxFrameAt s p ts) o.length (fcsGood o) sym, ts := quant ts, tsFlags := timeFlags s } } :=
  (if_neg (by omega)).trans ((if_neg hc).trans (if_neg (by tauto)))

end

/-! ### Pieces of frames (R218, R235, R526) -/

/-- The state with the frame in progress on a port replaced. -/
def setAsmb (p : Nat) (r : Reasm) (s : State) : State := setPort s p { portAt s p with asmb := r }

/-- The frame that is put together on a port becomes `r`, and the queue of commands, the vat and the egress stay. -/
structure PutTogether (p : Nat) (r : Reasm) (s t : State) : Prop where
  asmb : (portAt t p).asmb = r
  vat : t.vat = s.vat
  eg : t.eg = s.eg
  pending : t.pending = s.pending

/-- The frame in progress is replaced, before or after changes that are not seen. -/
theorem putTogether_of {s u t : State} {p : Nat} {r : Reasm} (hu : Unseen s u) (ht : Unseen (setAsmb p r u) t) :
    PutTogether p r s t where
  asmb := (ht.read fun a => (portAt a p).asmb).trans (congrArg (·.asmb) (portAt_setPort u p _))
  vat := (ht.read (·.vat)).trans (hu.read (·.vat))
  eg := (ht.read (·.eg)).trans (hu.read (·.eg))
  pending := ht.pending_eq.trans hu.pending_eq

/-- The same, of what a port takes: its receipt leaves the vat, the egress and the queue of commands alone. -/
theorem PutTogether.of_arrived {s t : State} {p q : Nat} {mp : Mpacket} {r : Reasm} (h : PutTogether q r (edgeArrived s p mp) t) :
    PutTogether q r s t where
  asmb := h.asmb
  vat := h.vat.trans (edgeArrived_read s p mp (·.vat))
  eg := h.eg.trans (edgeArrived_read s p mp (·.eg))
  pending := h.pending.trans (edgeArrived_pending s p mp)

theorem fragFail_unseen (s : State) (p : Nat) : Unseen (setAsmb p {} s) (fragFail s p) :=
  (countPort_unseen (setAsmb p {} s) p 45).trans (countPort_unseen _ p 50)

/-- The counters of a continuation of an open frame. -/
theorem continuation_unseen (s : State) (p : Nat) : Unseen s (perf (countPort s p 53) (pPort p 7)) :=
  (countPort_unseen s p 53).trans (perf_unseen _ _)

section

variable {s : State} {p ts : Nat} {mp : Mpacket}

theorem edgeFragment_opens (ho : (portAt s p).asmb.isOpen = false) (hlast : mp.last = false) (hcrc : mp.crcOk = true) :
    edgeFragment s p mp true ts = setAsmb p
      { isOpen := true, data := mp.data, cnt := mp.frameCount % 4, frag := 0, since := now s, ts := ts, sym := packetSym mp } s := by
  simp [edgeFragment, ho, hlast, hcrc, setAsmb]

/-- A continuation without a start is counted (R235). -/
theorem edgeFragment_stray (ho : (portAt s p).asmb.isOpen = false) :
    edgeFragment s p mp false ts = countPort (countPort s p 45) p 51 := by
  simp [edgeFragment, ho]

theorem edgeFragment_misfits (ho : (portAt s p).asmb.isOpen = true)
    (h : (portAt s p).asmb.cnt ≠ mp.frameCount % 4 ∨ (portAt s p).asmb.frag ≠ mp.fragCount % 4) :
    edgeFragment s p mp false ts = fragFail (perf (countPort s p 53) (pPort p 7)) p := by
  unfold edgeFragment
  simp only [ho, Bool.false_eq_true, if_false, Bool.not_true]
  exact if_pos (by tauto)

/-- The frame in progress on a port with a continuation that follows on. -/
def edgeJoined (s : State) (p : Nat) (mp : Mpacket) : Reasm :=
  { (portAt s p).asmb with
    data := (portAt s p).asmb.data ++ mp.data, frag := ((portAt s p).asmb.frag + 1) % 4, since := now s
    sym := (portAt s p).asmb.sym || packetSym mp }

theorem edgeFragment_joins (ho : (portAt s p).asmb.isOpen = true) (hlast : mp.last = false) (hcrc : mp.crcOk = true)
    (hcnt : (portAt s p).asmb.cnt = mp.frameCount % 4) (hfrag : (portAt s p).asmb.frag = mp.fragCount % 4) :
    edgeFragment s p mp false ts = setAsmb p (edgeJoined s p mp) (perf (countPort s p 53) (pPort p 7)) := by
  simp [edgeFragment, ho, hlast, hcrc, hcnt, hfrag, setAsmb, edgeJoined]

end

/-! ### Pieces that arrive (R218, R235) -/

section

variable {s : State} {p : Nat} {mp : Mpacket} (h : portReceives s p = true) (hg : mp.shortGap = false) (ts : Nat)

include h hg

theorem macFrameRx_opens (hx : mp.smd = .startP) (ho : (portAt s p).asmb.isOpen = false) (hlast : mp.last = false)
    (hcrc : mp.crcOk = true) :
    PutTogether p
      { isOpen := true, data := mp.data, cnt := mp.frameCount % 4, frag := 0, since := now s, ts := ts, sym := packetSym mp } s
      (macFrameRx s p mp ts) := by
  rw [macFrameRx_start h hg hx, edgeFragment_opens (by rwa [asmb_edgeArrived]) hlast hcrc, now_edgeArrived]
  exact (putTogether_of (.refl _) (.refl _)).of_arrived

theorem macFrameRx_stray (hx : mp.smd = .contP) (ho : (portAt s p).asmb.isOpen = false) :
    macFrameRx s p mp ts = countPort (countPort (edgeArrived s p mp) p 45) p 51 :=
  (macFrameRx_continues h hg hx).trans (edgeFragment_stray (by rwa [asmb_edgeArrived]))

theorem macFrameRx_discards (hx : mp.smd = .contP) (ho : (portAt s p).asmb.isOpen = true)
    (hbad : (portAt s p).asmb.cnt ≠ mp.frameCount % 4 ∨ (portAt s p).asmb.frag ≠ mp.fragCount % 4) :
    PutTogether p {} s (macFrameRx s p mp ts) := by
  rw [macFrameRx_continues h hg hx, edgeFragment_misfits (by rwa [asmb_edgeArrived]) (by rwa [asmb_edgeArrived])]
  exact (putTogether_of (continuation_unseen _ p) (fragFail_unseen _ p)).of_arrived

theorem macFrameRx_joins (hx : mp.smd = .contP) (ho : (portAt s p).asmb.isOpen = true) (hlast : mp.last = false)
    (hcrc : mp.crcOk = true) (hcnt : (portAt s p).asmb.cnt = mp.frameCount % 4) (hfrag : (portAt s p).asmb.frag = mp.fragCount % 4) :
    PutTogether p (edgeJoined s p mp) s (macFrameRx s p mp ts) := by
  have hjoined : edgeJoined (edgeArrived s p mp) p mp = edgeJoined s p mp := by
    rw [edgeJoined, asmb_edgeArrived, now_edgeArrived, edgeJoined]
  rw [macFrameRx_continues h hg hx, edgeFragment_joins (by rwa [asmb_edgeArrived]) hlast hcrc (by rwa [asmb_edgeArrived])
    (by rwa [asmb_edgeArrived]), hjoined]
  exact (putTogether_of (continuation_unseen _ p) (.refl _)).of_arrived

end

/-- Settles O19: what arrives is taken by its gap and its delimiter, a whole frame by its length and EtherType, and a piece by the frame
that is open on its port. -/
theorem edgeFramesReceived : Obligations.EdgeFramesReceived := by
  unfold Obligations.EdgeFramesReceived
  refine ⟨?_, ?_⟩
  · intro s p mp ts hw h
    exact exec_eq_next rfl hw (macFrameRx_silent h) rfl
  · intro s p mp ts hw h u o maxF st
    have hmax : maxFrameAt (edgeArrived s p mp) p ts = maxF := edgeArrived_read s p mp (maxFrameAt · p ts)
    have hpend := edgeArrived_pending s p mp
    refine ⟨fun hg => exec_eq_next rfl hw (macFrameRx_shortGap h hg) hpend, fun hg hx => ?_, fun hg hx ho => ?_,
      fun hg hx ho hlast hcrc => ?_, fun hg hx ho hbad => ?_, fun hg hx ho hlast hcrc hcnt hfrag => ?_⟩
    · have hrow := macFrameRx_express (ts := ts) h hg hx
      refine ⟨fun hl => exec_eq_next rfl hw (hrow.trans (macFrame_runt hl)) hpend, fun hl he => ?_, fun hl he hst => ?_,
        fun hl hc hgp => ?_⟩
      · refine exec_eq_keeping rfl hw (hrow.trans ((macFrame_control hl he).trans ?_))
        rw [hmax]
        rfl
      · refine exec_eq_keeping rfl hw (hrow.trans ((macFrame_gptp hl he (by rwa [hmax])).trans ?_))
        rw [hmax]
        rfl
      · refine exec_eq_keeping rfl hw (hrow.trans ((macFrame_stored hl hc (by rwa [hmax])).trans ?_))
        rw [hmax, edgeArrived_read s p mp timeFlags]
        rfl
    · exact exec_eq_next rfl hw (macFrameRx_stray h hg ts hx ho)
        (((countPort_unseen _ p 45).trans (countPort_unseen _ p 51)).pending_eq.trans hpend)
    · have hput := macFrameRx_opens h hg ts hx ho hlast hcrc
      exact ⟨_, exec_eq_next rfl hw rfl hput.pending, hput.asmb, hput.vat, hput.eg⟩
    · have hput := macFrameRx_discards h hg ts hx ho hbad
      exact ⟨_, exec_eq_next rfl hw rfl hput.pending, hput.asmb, hput.vat, hput.eg⟩
    · have hput := macFrameRx_joins h hg ts hx ho hlast hcrc hcnt hfrag
      exact ⟨_, exec_eq_next rfl hw rfl hput.pending, congrArg (·.data) hput.asmb, (congrArg (·.isOpen) hput.asmb).trans ho,
        congrArg (·.frag) hput.asmb, hput.vat, hput.eg⟩

end Sys2Proof.Machine
end

section
/-! PROOFS. The power controller of an edge port: what each of its rows does in the state it acts in, and the statement O27. -/

namespace Sys2Proof.Machine

open Sys2Proof

/-! ### The FET and the port's controller (R273, R274) -/

theorem podlOn_iff (x : Podl) : podlOn x = true ↔ x.state = .inrush ∨ x.state = .powered := by simp [podlOn]

theorem podlAt_countPort (s : State) (q ev p : Nat) : podlAt (countPort s q ev) p = podlAt s p :=
  (countPort_unseen s q ev).read (podlAt · p)

section

variable {s : State} {p c : Nat}

/-- A class that the budget holds turns the FET on. -/
theorem podlAt_podlEnergise_within (h : podlSum s + Config.podlClassMw c ≤ s.ports.budget) :
    podlAt (podlEnergise s p c) p = { podlAt s p with state := .inrush, cls := c } := by
  rw [podlEnergise, if_pos h, podlAt_setPodl]

/-- A class beyond the budget makes the port wait, where it stands. -/
theorem podlAt_podlEnergise_beyond (h : s.ports.budget < podlSum s + Config.podlClassMw c) :
    podlAt (podlEnergise s p c) p =
      { podlAt s p with fault := 7, budgetWait := true, waitEnd := now s + msTicks 1000 } := by
  rw [podlEnergise, if_neg (Nat.not_le.mpr h), podlAt_countPort, podlAt_setPodl]

end

/-! ### The rows, on a controller that runs (R275) -/

section

variable {s : State} {p : Nat} (hr : podlRuns s p = true)

include hr

/-- The guard of most rows lets through a controller in the state the row speaks of. -/
theorem podl_acts {st : PodlState} (hx : (podlAt s p).state = st) : ¬(!podlRuns s p || (podlAt s p).state != st) = true := by
  simp [hr, hx]

theorem podlClassResult_over {c : Nat} (hx : (podlAt s p).state = .classifying) (hb : (podlAt s p).budgetWait = false)
    (hc : (podlAt s p).classMax < c) :
    podlClassResult s p (some c) = podlFault (setPodl s p { podlAt s p with pdClass := c }) p .lockout 6 :=
  (if_neg (by simp [hr, hx, hb])).trans (if_pos hc)

theorem podlClassResult_allowed {c : Nat} (hx : (podlAt s p).state = .classifying) (hb : (podlAt s p).budgetWait = false)
    (hc : c ≤ (podlAt s p).classMax) :
    podlClassResult s p (some c) = podlEnergise (setPodl s p { podlAt s p with pdClass := c }) p c :=
  (if_neg (by simp [hr, hx, hb])).trans (if_neg (Nat.not_lt.mpr hc))

theorem podlInrushEnd_reached (hx : (podlAt s p).state = .inrush) :
    podlInrushEnd s p true = setPodl s p { podlAt s p with state := .powered, waitEnd := now s + msTicks 10000 } :=
  (if_neg (podl_acts hr hx)).trans (if_pos rfl)

theorem podlInrushEnd_expired (hx : (podlAt s p).state = .inrush) : podlInrushEnd s p false = podlFault s p .backoff 2 :=
  (if_neg (podl_acts hr hx)).trans (if_neg Bool.false_ne_true)

theorem podlOverload_powered (hx : (podlAt s p).state = .powered) : podlOverload s p = podlFault s p .backoff 2 :=
  if_pos (by simp [hr, hx])

theorem podlShort_on (hon : podlOn (podlAt s p) = true) : podlShort s p = podlFault s p .backoff 1 :=
  if_pos (by simp [hr, hon])

/-- A short in the tick of the disable is recorded, and the port stays DISABLED (R285). -/
theorem podlShort_disabling (hx : (podlAt s p).state = .disabled) (ho : (podlAt s p).offAt = some (now s)) :
    podlShort s p = podlFault s p .disabled 1 :=
  (if_neg (by simp [podlOn_iff, hx])).trans (if_pos (by simp [hr, hx, ho]))

theorem podlSupplyShort_lockedOut (hx : (podlAt s p).state = .lockout) :
    podlSupplyShort s p = setPodl s p { podlAt s p with fault := 9 } :=
  (if_neg (by simp [hr, podlOn_iff, hx])).trans (if_pos hx)

theorem podlSupplyShort_locksOut (hoff : ¬podlOn (podlAt s p) = true) (hx : (podlAt s p).state ≠ .lockout) :
    podlSupplyShort s p = podlFault s p .lockout 9 :=
  (if_neg (by simp [hr, hoff])).trans (if_neg hx)

theorem podlMpsLost_powered (hx : (podlAt s p).state = .powered) :
    podlMpsLost s p = setPodl s p { podlAt s p with state := .detecting, fault := 8, budgetWait := false } :=
  if_pos (by simp [hr, hx])

theorem podlRetryDelayEnd_retries (hx : (podlAt s p).state = .backoff) (hd : due s (podlAt s p).waitEnd = true)
    (hf : (podlAt s p).faults < (podlAt s p).retryLim) :
    podlRetryDelayEnd s p = setPodl s p { podlAt s p with state := .detecting, budgetWait := false } :=
  (if_neg (by simp [hr, hx, hd])).trans (if_pos hf)

theorem podlRetryDelayEnd_locksOut (hx : (podlAt s p).state = .backoff) (hd : due s (podlAt s p).waitEnd = true)
    (hf : (podlAt s p).retryLim ≤ (podlAt s p).faults) :
    podlRetryDelayEnd s p =
      feed (countPort (setPodl s p { podlAt s p with state := .lockout }) p 49) (114 + 4 * p) 0 (podlAt s p).fault :=
  (if_neg (by simp [hr, hx, hd])).trans (if_neg (Nat.not_lt.mpr hf))

theorem podlBudgetWaitEnd_due (hx : (podlAt s p).state = .classifying) (hb : (podlAt s p).budgetWait = true)
    (hd : due s (podlAt s p).waitEnd = true) :
    podlBudgetWaitEnd s p = setPodl s p { podlAt s p with state := .detecting, budgetWait := false } :=
  if_pos (by simp [hr, hx, hb, hd])

theorem podlPowered10s_due (hx : (podlAt s p).state = .powered) (hd : due s (podlAt s p).waitEnd = true) :
    podlPowered10s s p = setPodl s p { podlAt s p with faults := 0 } :=
  if_pos (by simp [hr, hx, hd])

end

/-! ### The statement -/

/-- Settles O27: on a controller that runs, each row of R275 takes the step its state and its probe name, and a class turns the FET on
only within the budget. -/
theorem powerOverThePair : Obligations.PowerOverThePair := by
  unfold Obligations.PowerOverThePair
  refine ⟨?detection, fun _ _ _ _ => rfl, ?classification, ?inrush, ?overload, ?short, ?disabling, ?foreign, ?signature, ?retry, ?budget,
    ?steady⟩
  case detection =>
    rintro s p _ hw hr rfl hx
    have hrow := podl_acts hr hx
    exact ⟨exec_eq_next rfl hw (if_neg hrow) rfl, exec_eq_next rfl hw (if_neg hrow) rfl, exec_eq_keeping rfl hw (if_neg hrow),
      exec_eq_keeping rfl hw (if_neg hrow), exec_eq_keeping rfl hw (if_neg hrow)⟩
  case classification =>
    rintro s p c _ hw hr rfl hx hb u
    have hu : podlAt u p = { podlAt s p with pdClass := c } := podlAt_setPodl _ _ _
    refine ⟨fun hc => exec_eq_keeping rfl hw (podlClassResult_over hr hx hb hc), fun hc _ hin => ?_, fun hc hout => ?_⟩
    · refine ⟨_, exec_eq_keeping rfl hw (podlClassResult_allowed hr hx hb hc), ?_⟩
      exact (podlAt_podlEnergise_within hin).trans (by rw [hu])
    · refine ⟨_, exec_eq_keeping rfl hw (podlClassResult_allowed hr hx hb hc), ?_⟩
      exact (podlAt_podlEnergise_beyond hout).trans (by rw [hu]; rfl)
  case inrush =>
    rintro s p _ hw hr rfl hx
    exact ⟨exec_eq_next rfl hw (podlInrushEnd_reached hr hx) rfl, exec_eq_keeping rfl hw (podlInrushEnd_expired hr hx)⟩
  case overload => exact fun s p hw hr hx => exec_eq_keeping rfl hw (podlOverload_powered hr hx)
  case short => exact fun s p hw hr hx _ => exec_eq_keeping rfl hw (podlShort_on hr ((podlOn_iff _).mpr hx))
  case disabling => exact fun s p hw hr hx ho => exec_eq_keeping rfl hw (podlShort_disabling hr hx ho)
  case foreign =>
    intro s p hw hr hi hp
    have hoff : ¬podlOn (podlAt s p) = true := fun h => ((podlOn_iff _).mp h).elim hi hp
    exact ⟨fun hx => exec_eq_next rfl hw (podlSupplyShort_lockedOut hr hx) rfl,
      fun hx => exec_eq_keeping rfl hw (podlSupplyShort_locksOut hr hoff hx)⟩
  case signature =>
    rintro s p _ hw hr rfl hx
    exact exec_eq_next rfl hw (podlMpsLost_powered hr hx) rfl
  case retry =>
    rintro s p _ hw hr rfl hx hd
    have hdue : due s (podlAt s p).waitEnd = true := decide_eq_true hd
    exact ⟨fun hf => exec_eq_next rfl hw (podlRetryDelayEnd_retries hr hx hdue hf) rfl,
      fun hf => exec_eq_keeping rfl hw (podlRetryDelayEnd_locksOut hr hx hdue hf)⟩
  case budget =>
    rintro s p _ hw hr rfl hx hb hd
    exact exec_eq_next rfl hw (podlBudgetWaitEnd_due hr hx hb (decide_eq_true hd)) rfl
  case steady =>
    rintro s p _ hw hr rfl hx hd
    exact exec_eq_next rfl hw (podlPowered10s_due hr hx (decide_eq_true hd)) rfl

end Sys2Proof.Machine
end

section
/-! PROOFS. A payload write that the host does not accept, whose fault source resets the queue's cluster, and with it the refutation of
O30. -/

namespace Sys2Proof.Machine

open Sys2Proof

/-- A receive queue writes its head frame into a reserved buffer, and the first bus error of its cluster, source 325, is to reset that
cluster. -/
def clusterErring : State where
  regs := { out := [] }
  dma := { q := [(0x1000, { state := .running, rsv := [(0, 64 * 2 ^ 64)] })], jobs := [{ q := 0x1000, state := .writing }] }
  flt := { src := [(325, { set := true, severe := 3 })] }

theorem clusterErring_writes : (jobsOf clusterErring 0x1000).find? (fun j => j.state == .writing) = some { q := 0x1000, state := .writing } ∧
    (qAt clusterErring 0x1000).state = .running := by decide +kernel

/-- The reset takes the queue's reserved buffers before the queue halts (R424). -/
theorem clusterErring_resets : (qAt clusterErring 0x1000).rsv ≠ (qAt (creditTimeout clusterErring (.queue 0x1000)) 0x1000).rsv := by
  decide +kernel

/-- Refutes O30: its clause on a payload write that is not accepted has a receive queue keep its reserved buffers whatever reaction the
bus error's fault source has, but one that resets the cluster discards them (R422, R424). KN_FAULT_SET sets no such reaction for that
source (R24, R419), and the clause does not exclude one. -/
theorem not_jobsAndDeliveries : ¬ Obligations.JobsAndDeliveries := by
  unfold Obligations.JobsAndDeliveries
  rintro ⟨-, -, -, -, -, -, -, hcredit, -⟩
  obtain ⟨hwriting, hrunning⟩ := clusterErring_writes
  obtain ⟨-, hrx⟩ := hcredit clusterErring 0x1000 _ rfl hwriting
  obtain ⟨t, ht, -, -, -, hkept⟩ := hrx rfl hrunning
  have hdoes : exec (.creditTimeout (.queue 0x1000)) clusterErring =
      .next (keeping clusterErring (creditTimeout clusterErring (.queue 0x1000))) := exec_eq_keeping rfl rfl rfl
  obtain rfl := Host.Outcome.next.inj (ht.symm.trans hdoes)
  exact clusterErring_resets hkept.symm

end Sys2Proof.Machine
end

section
/-! PROOFS. A KN_EVENT_MAP whose moderation time is out of range, and with it the refutation of O51. -/

namespace Sys2Proof.Machine

open Sys2Proof

/-! ### Answers -/

/-- STATUS is octet 3 of a response's image (R390). -/
theorem respImage_status (s : State) (r : Request) (st d : Nat) (res : Octets) (n : Nat) :
    (respImage s r st d res n)[3]? = some (BitVec.ofNat 8 st) := rfl

/-- A request has one answer: two that stand in its mailbox have the same STATUS. -/
theorem Answered.status_eq {u v t : State} {r : Request} {st st' d d' : Nat} {res res' b b' : Octets} (h : Answered u t r st d res b)
    (g : Answered v t r st' d' res' b') : BitVec.ofNat 8 st = BitVec.ofNat 8 st' := by
  have himage : respImage u r st d res b.length = respImage v r st' d' res' b'.length := h.1.symm.trans g.1
  exact Option.some.inj (congrArg (·[3]?) himage)

/-! ### Event sources (R300, R520) -/

/-- A moderation time above 1 000 µs is out of range. -/
theorem eventMapCmd_put_long {s : State} {r : Request} {v : List Nat} (o : Nat) (hf : val v 0 ≠ 0xFFFF) (hv : val v 1 < numVecs (val v 0))
    (hm : bitOf r.mask 2 = true) (hlong : 1000 < val v 2) : eventMapCmd.put s r o v = .error (6, 3) :=
  (if_neg hf).trans ((if_neg (Nat.not_le.mpr hv)).trans (if_pos ⟨hm, hlong⟩))

theorem knEventMap_long {s : State} {r : Request} (h : SetAccepted s 0x0602 eventMapCmd r)
    (hf : val (eventMapCmd.vals s r) 0 ≠ 0xFFFF) (hv : val (eventMapCmd.vals s r) 1 < numVecs (val (eventMapCmd.vals s r) 0))
    (hm : bitOf r.mask 2 = true) (hlong : 1000 < val (eventMapCmd.vals s r) 2) :
    exec .knEventMap s = .next (keeping s (runKn s 0x0602 eventMapCmd.exe)) ∧
      Answered s (runKn s 0x0602 eventMapCmd.exe) r 6 3 [] [] := by
  obtain ⟨hacc, ho, hchk, habs⟩ := h
  have hvals : ∀ c, pMerge (eventMapCmd.defs r.obj) r.params r.mask (eventMapCmd.get (begun s c r) r.obj) = eventMapCmd.vals s r :=
    fun c => congrArg (pMerge _ _ _) ((begun_readsAlike s c r).eventMapCmd_get r.obj)
  exact ⟨rfl, (knFails_of hacc rfl (SetCmd.run_refused ho hchk ((isAbsent_congr (begun_frame s _ r) _).trans habs) (hvals _)
    (eventMapCmd_put_long r.obj hf hv hm hlong))).2.2⟩

/-! ### The refutation -/

/-- The owner's request to map event source 0 to vector 0 of function 0 with a moderation time of 1 001 µs. -/
def longModeration : Request where
  master := 0
  image := leBytes 2 0x0602 ++ leBytes 1 3 ++ leBytes 1 0 ++ leBytes 2 7 ++ leBytes 2 28 ++ leBytes 4 0 ++ leBytes 4 0 ++
    leBytes 8 (objId 0x0E 0) ++ leBytes 4 7 ++ leBytes 4 0 ++ leBytes 4 0 ++ leBytes 4 0 ++ leBytes 4 1001

/-- The part as the request's turn comes. -/
def moderationAsked : State := { regs := { out := [] }, kn := { owner := some 0, leaseMs := 1000, waiting := [longModeration] } }

theorem moderationAsked_accepts : SetAccepted moderationAsked 0x0602 eventMapCmd longModeration := by decide +kernel

theorem moderationAsked_long :
    let v := eventMapCmd.vals moderationAsked longModeration
    val v 0 ≠ 0xFFFF ∧ val v 1 < numVecs (val v 0) ∧ bitOf longModeration.mask 2 = true ∧ 1000 < val v 2 := by decide +kernel

/-- Refutes O51: its clause on KN_EVENT_MAP has every moderation time taken, but one above 1 000 µs is refused as out of range (R300,
R520). Here the owner asks for 1 001 µs. -/
theorem not_knHostAndRecordSets : ¬ Obligations.KnHostAndRecordSets := by
  unfold Obligations.KnHostAndRecordSets
  rintro ⟨-, -, hmap, -⟩
  obtain ⟨hf, hv, hmask, hlong⟩ := moderationAsked_long
  obtain ⟨t, ht, -, -, hdone⟩ := hmap moderationAsked longModeration moderationAsked_accepts hf hv hmask
  obtain ⟨hrow, hrefused⟩ := knEventMap_long moderationAsked_accepts hf hv hmask hlong
  obtain rfl := Host.Outcome.next.inj (ht.symm.trans hrow)
  exact absurd (hdone.status_eq hrefused) (by decide)

end Sys2Proof.Machine
end

section
/-! PROOFS. Resets of functions and of their VFs, and Bus Master Enable: what each leaves of the host part, and the statement O2. -/

namespace Sys2Proof.Machine

open Sys2Proof

/-! ### Tables -/

/-- What an object reads as is the default, or stands in an entry of its own. -/
theorem tblGet_eq_or_mem {α : Type} (d : α) (t : Tbl α) (k : Nat) : tblGet d t k = d ∨ (k, tblGet d t k) ∈ t := by
  induction t with
  | nil => exact .inl rfl
  | cons e t ih =>
    obtain ⟨k', v⟩ := e
    rw [tblGet]
    split
    · next h => exact .inr (h ▸ .head _)
    · exact ih.imp_right (.tail _)

/-! ### What the departure of frames leaves of the host part (R179) -/

/-- The host's queues, links, functions and tables, and Keanak: all of these but the vectors. -/
def hostBase (s : State) : State := { boot := s.boot, host := { s.host with vecs := [] }, dma := s.dma, kn := s.kn }

/-- Two states that agree in it. -/
def HostKept (s t : State) : Prop := hostBase t = hostBase s

namespace HostKept

theorem refl (s : State) : HostKept s s := rfl

theorem trans {s t u : State} (h : HostKept s t) (g : HostKept t u) : HostKept s u := Eq.trans g h

theorem foldl {β : Type} {f : State → β → State} (hf : ∀ s b, HostKept s (f s b)) (l : List β) (s : State) : HostKept s (l.foldl f s) := by
  induction l generalizing s with
  | nil => exact .refl s
  | cons b l ih => exact (hf s b).trans (ih _)

theorem ite {s t u : State} {c : Prop} [Decidable c] (h : HostKept s t) (g : HostKept s u) : HostKept s (if c then t else u) := by
  split
  · exact h
  · exact g

theorem read {α : Type} {s t : State} (h : HostKept s t) (r : State → α) (hr : ∀ a, r (hostBase a) = r a := by exact fun _ => rfl) :
    r t = r s := by
  rw [← hr t, ← hr s, h]

end HostKept

theorem OutFrame.hostKept {s t : State} (h : OutFrame s t) : HostKept s t := by
  obtain ⟨⟨-, -, -, -, -, -, -, -, -, -, -, -, hhost, hdma, -, -, -, hboot, -⟩, hkn⟩ := h
  have hvecs : { t.host with vecs := [] } = { s.host with vecs := [] } := congrArg (fun h : HostLink => { h with vecs := [] }) hhost
  unfold HostKept hostBase
  rw [hvecs, hdma, hboot, hkn]

theorem freeFrame_hostKept (s : State) (n : Nat) : HostKept s (freeFrame s n) := rfl

theorem toCellar_hostKept (s : State) (n : Nat) : HostKept s (toCellar s n) := by
  unfold toCellar
  dsimp only
  split
  · refine .trans (.trans ?_ (perf_out _ _).hostKept) (perfN_out _ _ _).hostKept
    rfl
  · exact .refl s

theorem finishDest_hostKept (s : State) (n d : Nat) : HostKept s (finishDest s n d) := by
  have hset : ∀ (t : State) (c : Prop) [Decidable c] (v : Vat), HostKept s t → HostKept s (if c then { t with vat := v } else t) :=
    fun t c _ v h => .ite (h.trans rfl) h
  unfold finishDest
  dsimp only
  split
  · refine .ite (.trans (.trans ?_ rfl) (freeFrame_hostKept _ n)) (.trans (.trans ?_ rfl) (toCellar_hostKept _ n)) <;>
    exact hset _ _ _ (hset s _ _ (.refl s))
  · exact .refl s

theorem dropDest_hostKept (s : State) (n d ev : Nat) : HostKept s (dropDest s n d ev) :=
  (countN_out s _ _ _ 1).hostKept.trans (finishDest_hostKept _ n d)

/-! ### A queue becomes DISABLED (R291, R356) -/

/-- A state in which the frames of a queue's jobs and those that wait for it are gone. -/
def framesFreed (s : State) (q : Nat) (cnt : Bool) : State :=
  (qAt s q).rxq.foldl (fun t e => if cnt then dropDest t e.h (destOfRx q) 1 else finishDest t e.h (destOfRx q))
    ((jobsOf s q).foldl (fun t j => match j.h with
      | none => t
      | some h => freeFrame t h) s)

theorem framesFreed_hostKept (s : State) (q : Nat) (cnt : Bool) : HostKept s (framesFreed s q cnt) := by
  refine .trans (.foldl (fun t j => ?_) _ s) (.foldl (fun t e => .ite (dropDest_hostKept t _ _ _) (finishDest_hostKept t _ _)) _ _)
  split
  · exact .refl t
  · exact freeFrame_hostKept t _

/-- A state without the jobs of a queue, whose reads are dead. -/
def workDropped (s : State) (q : Nat) : State :=
  deadReads { s with dma := { s.dma with jobs := s.dma.jobs.filter (fun j => decide (j.q ≠ q)) } } q

theorem disableQueue_eq (s : State) (q : Nat) (cnt : Bool) :
    disableQueue s q cnt = setQ (workDropped (framesFreed s q cnt) q) q (qAt (framesFreed s q cnt) q).cleared := rfl

theorem qAt_disableQueue (s : State) (q : Nat) (cnt : Bool) : (qAt (disableQueue s q cnt) q).state = .disabled := by
  rw [disableQueue_eq, qAt_setQ]
  rfl

theorem qAt_disableQueue_ne (s : State) {q j : Nat} (cnt : Bool) (h : j ≠ q) : qAt (disableQueue s q cnt) j = qAt s j := by
  rw [disableQueue_eq, qAt_setQ_ne _ _ _ _ h]
  exact (framesFreed_hostKept s q cnt).read (qAt · j)

/-! ### A function's reset (R291) -/

/-- What the resets of functions keep: the links, the slots and mappings, and Keanak. -/
def boundBase (s : State) : State :=
  { boot := s.boot, host := { s.host with vecs := [], funcs := [], numVfs := [], perfLatch := [], ntHeld := [] }, kn := s.kn }

/-- Two states that agree in it, and of which the second has every queue DISABLED that the first has. -/
structure Unbound (s t : State) : Prop where
  bound : boundBase t = boundBase s
  off : ∀ q, (qAt s q).state = .disabled → (qAt t q).state = .disabled

namespace Unbound

theorem refl (s : State) : Unbound s s := ⟨rfl, fun _ => id⟩

theorem trans {s t u : State} (h : Unbound s t) (g : Unbound t u) : Unbound s u := ⟨g.bound.trans h.bound, fun q => g.off q ∘ h.off q⟩

theorem foldl {β : Type} {f : State → β → State} (hf : ∀ s b, Unbound s (f s b)) (l : List β) (s : State) : Unbound s (l.foldl f s) := by
  induction l generalizing s with
  | nil => exact .refl s
  | cons b l ih => exact (hf s b).trans (ih _)

theorem read {α : Type} {s t : State} (h : Unbound s t) (r : State → α) (hr : ∀ a, r (boundBase a) = r a := by exact fun _ => rfl) :
    r t = r s := by
  rw [← hr t, ← hr s, h.bound]

theorem of_dma {s t : State} (h : boundBase t = boundBase s := by rfl) (hd : t.dma = s.dma := by rfl) : Unbound s t :=
  ⟨h, fun q => by rw [qAt, qAt, hd]; exact id⟩

end Unbound

/-- What a function holds of its own: its registers and the words that its reads have latched. -/
def ownRegs (s : State) (f : Nat) : Func × Nat × Nat × Nat := (funcAt s f, tblGet (0, 0, 0) s.host.ntHeld f)

theorem disableQueue_unbound (s : State) (q : Nat) (cnt : Bool) : Unbound s (disableQueue s q cnt) := by
  have hbound : boundBase (disableQueue s q cnt) = boundBase s := (framesFreed_hostKept s q cnt).read boundBase
  refine ⟨hbound, fun j hj => ?_⟩
  by_cases h : j = q
  · rw [h]
    exact qAt_disableQueue s q cnt
  · rwa [qAt_disableQueue_ne s cnt h]

theorem ownRegs_disableQueue (s : State) (q : Nat) (cnt : Bool) (f : Nat) : ownRegs (disableQueue s q cnt) f = ownRegs s f :=
  (framesFreed_hostKept s q cnt).read (ownRegs · f)

theorem resetVecs_hostKept (s : State) (f : Nat) : HostKept s (resetVecs s f) :=
  .foldl (f := fun t (e : Nat × Vec) => setVec t f (e.1 % 256) { moder := e.2.moder, lastSent := e.2.lastSent }) (fun _ _ => rfl) _ s

/-- A state in which the queues of a function's slots are disabled. -/
def queuesOff (s : State) (f : Nat) : State := (liveQueues s f).foldl (fun t q => disableQueue t q true) s

theorem queuesOff_unbound (s : State) (f : Nat) : Unbound s (queuesOff s f) :=
  .foldl (fun t q => disableQueue_unbound t q true) _ s

theorem ownRegs_queuesOff (s : State) (f g : Nat) : ownRegs (queuesOff s f) g = ownRegs s g := by
  unfold queuesOff
  induction liveQueues s f generalizing s with
  | nil => rfl
  | cons q l ih => exact (ih _).trans (ownRegs_disableQueue s q true g)

/-- Each queue of a list is disabled, and stays so as the rest follow. -/
theorem foldl_disableQueue_off {q : Nat} {l : List Nat} (h : q ∈ l) (s : State) :
    (qAt (l.foldl (fun t q => disableQueue t q true) s) q).state = .disabled := by
  induction l generalizing s with
  | nil => exact absurd h List.not_mem_nil
  | cons j l ih =>
    rcases List.mem_cons.mp h with rfl | h
    · exact (Unbound.foldl (fun t q => disableQueue_unbound t q true) l _).off q (qAt_disableQueue s q true)
    · exact ih h _

theorem mem_liveQueues {s : State} {f q : Nat} (hf : funcOfQueue s q = some f) (hon : (qAt s q).state ≠ .disabled) :
    q ∈ liveQueues s f := by
  have hentry : (q, qAt s q) ∈ s.dma.q := (tblGet_eq_or_mem ({} : QReg) s.dma.q q).resolve_left fun h => hon (by rw [qAt, h])
  refine List.mem_map_of_mem (List.mem_filter.mpr ⟨hentry, ?_⟩)
  simp [hf, hon]

theorem queuesOff_disabled {s : State} {f q : Nat} (hf : funcOfQueue s q = some f) : (qAt (queuesOff s f) q).state = .disabled := by
  by_cases hon : (qAt s q).state = .disabled
  · exact (queuesOff_unbound s f).off q hon
  · exact foldl_disableQueue_off (mem_liveQueues hf hon) s

/-- A state in which nothing that a function's reads have latched is held. -/
def latchesErased (s : State) (f : Nat) : State :=
  { s with host := { s.host with perfLatch := tblErase s.host.perfLatch f, ntHeld := tblErase s.host.ntHeld f } }

theorem resetFunc_eq (s : State) (f : Nat) :
    resetFunc s f = latchesErased (setFunc (resetVecs (queuesOff s f) f) f { page := (funcAt s f).page }) f := rfl

theorem setFunc_unbound (s : State) (f : Nat) (x : Func) : Unbound s (setFunc s f x) := .of_dma

theorem ownRegs_setFunc_ne (s : State) {f g : Nat} (x : Func) (h : g ≠ f) : ownRegs (setFunc s f x) g = ownRegs s g :=
  Prod.ext (funcAt_setFunc_ne s f g x h) rfl

theorem latchesErased_unbound (s : State) (f : Nat) : Unbound s (latchesErased s f) := .of_dma

theorem resetVecs_unbound (s : State) (f : Nat) : Unbound s (resetVecs s f) :=
  .of_dma ((resetVecs_hostKept s f).read boundBase) ((resetVecs_hostKept s f).read (·.dma))

theorem resetFunc_unbound (s : State) (f : Nat) : Unbound s (resetFunc s f) :=
  (((queuesOff_unbound s f).trans (resetVecs_unbound _ f)).trans (setFunc_unbound _ f _)).trans (latchesErased_unbound _ f)

theorem ownRegs_resetFunc (s : State) (f : Nat) : ownRegs (resetFunc s f) f = ({ page := (funcAt s f).page }, 0, 0, 0) :=
  Prod.ext (funcAt_setFunc _ f _) (tblGet_erase_same _ _ f)

theorem ownRegs_resetFunc_ne (s : State) {f g : Nat} (h : g ≠ f) : ownRegs (resetFunc s f) g = ownRegs s g := by
  have hlatch : ∀ a, ownRegs (latchesErased a f) g = ownRegs a g := fun a => Prod.ext rfl (tblGet_erase_ne _ _ f g h)
  rw [resetFunc_eq, hlatch, ownRegs_setFunc_ne _ _ h, (resetVecs_hostKept _ f).read (ownRegs · g), ownRegs_queuesOff]

/-! ### VFs that cease to exist (R307) -/

theorem vanishFunc_unbound (s : State) (f : Nat) : Unbound s (vanishFunc s f) := (resetFunc_unbound s f).trans (setFunc_unbound _ f _)

theorem ownRegs_vanishFunc (s : State) (f : Nat) : ownRegs (vanishFunc s f) f = ({}, 0, 0, 0) :=
  Prod.ext (funcAt_setFunc _ f _) (congrArg (·.2) (ownRegs_resetFunc s f))

theorem ownRegs_vanishFunc_ne (s : State) {f g : Nat} (h : g ≠ f) : ownRegs (vanishFunc s f) g = ownRegs s g :=
  (ownRegs_setFunc_ne _ _ h).trans (ownRegs_resetFunc_ne s h)

theorem ownRegs_foldl_vanishFunc_ne {g : Nat} {l : List Nat} (h : g ∉ l) (s : State) : ownRegs (l.foldl vanishFunc s) g = ownRegs s g := by
  induction l generalizing s with
  | nil => rfl
  | cons f l ih =>
    simp only [List.mem_cons, not_or] at h
    exact (ih h.2 _).trans (ownRegs_vanishFunc_ne s h.1)

/-- A function that ceases to exist has the registers of none. -/
theorem ownRegs_foldl_vanishFunc {g : Nat} {l : List Nat} (h : g ∈ l) (s : State) : ownRegs (l.foldl vanishFunc s) g = ({}, 0, 0, 0) := by
  induction l generalizing s with
  | nil => exact absurd h List.not_mem_nil
  | cons f l ih =>
    by_cases hl : g ∈ l
    · exact ih hl _
    · obtain rfl := (List.mem_cons.mp h).resolve_right hl
      exact (ownRegs_foldl_vanishFunc_ne hl _).trans (ownRegs_vanishFunc s g)

/-- The VFs of a PF that exist. -/
def vfsOf (s : State) (pf : Nat) : List Nat := ((List.range 63).map (pf * 64 + 1 + ·)).filter (funcExists s)

theorem clearVfs_eq (s : State) (pf : Nat) : clearVfs s pf =
    { (vfsOf s pf).foldl vanishFunc s with host := { ((vfsOf s pf).foldl vanishFunc s).host with
      numVfs := tblErase ((vfsOf s pf).foldl vanishFunc s).host.numVfs pf } } := rfl

theorem clearVfs_unbound (s : State) (pf : Nat) : Unbound s (clearVfs s pf) := by
  have hgone : Unbound s ((vfsOf s pf).foldl vanishFunc s) := .foldl vanishFunc_unbound _ s
  exact hgone.trans .of_dma

theorem numVfs_clearVfs (s : State) (pf : Nat) : tblGet 0 (clearVfs s pf).host.numVfs pf = 0 := tblGet_erase_same _ _ pf

theorem ownRegs_clearVfs (s : State) (pf g : Nat) : ownRegs (clearVfs s pf) g = if g ∈ vfsOf s pf then ({}, 0, 0, 0) else ownRegs s g := by
  have hgone : ownRegs (clearVfs s pf) g = ownRegs ((vfsOf s pf).foldl vanishFunc s) g := rfl
  rw [hgone]
  split
  · next h => exact ownRegs_foldl_vanishFunc h s
  · next h => exact ownRegs_foldl_vanishFunc_ne h s

/-! ### An FLR (R291, R397) -/

theorem shown_writeAudit (s : State) (b : Octets) (m t : Nat) : shown (writeAudit s b m t) = shown s := by
  unfold writeAudit
  dsimp only
  split
  · exact (perf_unseen _ _).1
  · rfl

theorem shown_lapse (s : State) : shown (lapse s) = shown s :=
  ((signal_unseen _ _).1.trans (broadcast_unseen _ _).1).trans (shown_writeAudit _ _ _ _)

theorem lapse_read {α : Type} (s : State) (r : State → α) (hr : ∀ a, r (shown a) = r a := by exact fun _ => rfl) : r (lapse s) = r s := by
  rw [← hr (lapse s), shown_lapse, hr]

theorem markVec_out (s : State) (f v : Nat) : OutFrame s (markVec s f v) := by
  unfold markVec trySend
  split <;> simp [OutFrame, KnFrame, emit, setVec]

theorem broadcast_out (s : State) (fs : List Nat) : OutFrame s (broadcast s fs) := by
  have hone : ∀ t f, OutFrame t (match lowestVec s.host.evMap f with
      | none => t
      | some v => if funcExists t f then markVec t f v else t) := by
    intro t f
    split
    · exact .refl t
    · split
      · exact markVec_out t f _
      · exact .refl t
  unfold broadcast
  generalize s.host.evMap = m at hone
  induction fs generalizing s with
  | nil => exact .refl s
  | cons f fs ih => exact (hone s f).trans (ih _)

theorem writeAudit_owner (s : State) (b : Octets) (m t : Nat) : (writeAudit s b m t).kn.owner = s.kn.owner := by
  unfold writeAudit
  dsimp only
  split
  · rw [writeRecord, perf_kn]
  · rfl

theorem lapse_owner (s : State) : (lapse s).kn.owner = none := by
  rw [lapse, signal_kn, ownChange, (broadcast_out _ _).2, writeAudit_owner]
  rfl

/-- A function's reset that runs on until FLR_COMPLETE. -/
def flrBegun (s : State) (f : Nat) : State := setFunc (resetFunc s f) f { funcAt (resetFunc s f) f with flr := true }

theorem flrBegun_unbound (s : State) (f : Nat) : Unbound s (flrBegun s f) := (resetFunc_unbound s f).trans (setFunc_unbound _ f _)

theorem ownRegs_flrBegun (s : State) (f : Nat) : ownRegs (flrBegun s f) f = ({ page := (funcAt s f).page, flr := true }, 0, 0, 0) := by
  have hreset := ownRegs_resetFunc s f
  have hregs : funcAt (resetFunc s f) f = { page := (funcAt s f).page } := congrArg (·.1) hreset
  refine Prod.ext ((funcAt_setFunc _ f _).trans ?_) (congrArg (·.2) hreset)
  rw [hregs]

theorem flrBegun_disabled {s : State} {f q : Nat} (hf : funcOfQueue s q = some f) : (qAt (flrBegun s f) q).state = .disabled := by
  have hoff : Unbound (queuesOff s f) (flrBegun s f) :=
    (((resetVecs_unbound _ f).trans (setFunc_unbound _ f _)).trans (latchesErased_unbound _ f)).trans (setFunc_unbound _ f _)
  exact hoff.off q (queuesOff_disabled hf)

/-- An FLR with what it takes of a PF's VFs. -/
def flrTaken (s : State) (f : Nat) : State := if f % 64 = 0 then clearVfs (flrBegun s f) (f / 64) else flrBegun s f

theorem functionLevelReset_rests {s : State} {f : Nat} (h : funcExists s f = false ∨ (funcAt s f).flr = true) :
    functionLevelReset s f = s := if_pos (by simpa using h)

theorem functionLevelReset_takes {s : State} {f : Nat} (he : funcExists s f = true) (hflr : (funcAt s f).flr = false) :
    functionLevelReset s f = if f % 64 = 0 ∧ s.kn.owner = some (f / 64) then lapse (flrTaken s f) else flrTaken s f := by
  unfold functionLevelReset flrTaken
  rw [if_neg (by simp [he, hflr])]
  by_cases hpf : f % 64 = 0
  · simp only [hpf, ne_eq, not_true_eq_false, if_false, if_true, true_and]
    rfl
  · simp only [hpf, ne_eq, not_false_eq_true, if_true, false_and, if_false]
    rfl

/-- An FLR leaves what a state shows as its queues, functions and VFs leave it: a lapse changes Keanak alone. -/
theorem functionLevelReset_read {s : State} {f : Nat} (he : funcExists s f = true) (hflr : (funcAt s f).flr = false) {α : Type}
    (r : State → α) (hr : ∀ a, r (shown a) = r a := by exact fun _ => rfl) : r (functionLevelReset s f) = r (flrTaken s f) := by
  rw [functionLevelReset_takes he hflr]
  split
  · exact lapse_read _ r hr
  · rfl

theorem flrTaken_unbound (s : State) (f : Nat) : Unbound s (flrTaken s f) := by
  unfold flrTaken
  split
  · exact (flrBegun_unbound s f).trans (clearVfs_unbound _ _)
  · exact flrBegun_unbound s f

theorem ownRegs_flrTaken (s : State) (f : Nat) : ownRegs (flrTaken s f) f = ({ page := (funcAt s f).page, flr := true }, 0, 0, 0) := by
  rw [← ownRegs_flrBegun s f]
  unfold flrTaken
  split
  · next hpf =>
    have hself : f ∉ vfsOf (flrBegun s f) (f / 64) := by
      intro h
      obtain ⟨i, -, hi⟩ := List.mem_map.mp (List.mem_of_mem_filter h)
      omega
    rw [ownRegs_clearVfs, if_neg hself]
  · rfl

theorem flrTaken_disabled {s : State} {f q : Nat} (hf : funcOfQueue s q = some f) : (qAt (flrTaken s f) q).state = .disabled := by
  unfold flrTaken
  split
  · exact (clearVfs_unbound _ _).off q (flrBegun_disabled hf)
  · exact flrBegun_disabled hf

theorem numVfs_flrTaken (s : State) {f : Nat} (hpf : f % 64 = 0) : tblGet 0 (flrTaken s f).host.numVfs (f / 64) = 0 := by
  rw [flrTaken, if_pos hpf]
  exact numVfs_clearVfs _ _

theorem functionLevelReset_owner {s : State} {f : Nat} (he : funcExists s f = true) (hflr : (funcAt s f).flr = false) :
    (functionLevelReset s f).kn.owner = if f % 64 = 0 ∧ s.kn.owner = some (f / 64) then none else s.kn.owner := by
  rw [functionLevelReset_takes he hflr]
  split
  · exact lapse_owner _
  · exact (flrTaken_unbound s f).read (·.kn.owner)

/-! ### Vectors (R300) -/

theorem trySend_idle {s : State} {f v : Nat} (h : (vecAt s f v).pend = false) : trySend s f v = s :=
  if_neg (by simp [vecMaySend, h])

theorem foldl_trySend_idle {s : State} {f : Nat} {l : List Nat} (h : ∀ v ∈ l, (vecAt s f v).pend = false) :
    l.foldl (fun t v => trySend t f v) s = s := by
  induction l with
  | nil => rfl
  | cons v l ih =>
    rw [List.foldl_cons, trySend_idle (h v (.head l))]
    exact ih fun w hw => h w (.tail v hw)

/-- A function for which nothing waits has nothing to resume (R292). -/
theorem resumeFunc_idle {s : State} {f : Nat} (hlive : liveQueues s f = []) (hpend : ∀ v < numVecs f, (vecAt s f v).pend = false) :
    resumeFunc s f = s := by
  rw [resumeFunc, hlive]
  exact foldl_trySend_idle fun v hv => hpend v (List.mem_range.mp hv)

/-- Settles O2: a function's reset is the disabling of its queues and then its tables anew; what an FLR takes beyond it are the VFs and the
ownership. -/
theorem functionResetsAndEnables : Obligations.FunctionResetsAndEnables := by
  unfold Obligations.FunctionResetsAndEnables
  refine ⟨?flr, ?complete, ?vfs, ?vfsEnd, ?clear, ?set⟩
  case flr =>
    intro s f hw he hflr
    have hregs : ownRegs (functionLevelReset s f) f = _ := (functionLevelReset_read he hflr (ownRegs · f)).trans (ownRegs_flrTaken s f)
    refine ⟨_, exec_eq_keeping rfl hw rfl, congrArg (·.1) hregs, fun q hq => ?_, ?_, ?_, congrArg (·.2) hregs, fun hpf => ?_,
      functionLevelReset_owner he hflr⟩
    · exact (functionLevelReset_read he hflr fun a => (qAt a q).state).trans (flrTaken_disabled hq)
    · exact (functionLevelReset_read he hflr (·.host.slots)).trans ((flrTaken_unbound s f).read (·.host.slots))
    · exact (functionLevelReset_read he hflr (·.host.evMap)).trans ((flrTaken_unbound s f).read (·.host.evMap))
    · exact (functionLevelReset_read he hflr fun a => tblGet 0 a.host.numVfs (f / 64)).trans (numVfs_flrTaken s hpf)
  case complete => exact fun s f hw hflr => exec_eq_next rfl hw (if_pos hflr) rfl
  case vfs => exact fun s pf n hw he hb hflr hn => exec_eq_next rfl hw (if_neg (by simp [he, hb, hflr, hn])) rfl
  case vfsEnd =>
    intro s pf hw he
    have hkept := clearVfs_unbound s pf
    refine ⟨_, exec_eq_keeping rfl hw (if_pos he), numVfs_clearVfs s pf, fun n h1 h63 hn => ?_, hkept.read (·.host.slots),
      hkept.read (·.host.evMap), hkept.read (·.kn)⟩
    have hvf : pf * 64 + n ∈ vfsOf s pf :=
      List.mem_filter.mpr ⟨List.mem_map.mpr ⟨n - 1, List.mem_range.mpr (by omega), by omega⟩, hn⟩
    exact congrArg (·.1) ((ownRegs_clearVfs s pf _).trans (if_pos hvf))
  case clear => exact fun s f hw he hflr => exec_eq_next rfl hw (if_neg (by simp [he, hflr])) rfl
  case set =>
    intro s f hw he hflr hlive hpend
    exact exec_eq_next rfl hw ((if_neg (by simp [he, hflr])).trans (resumeFunc_idle hlive hpend)) rfl

end Sys2Proof.Machine
end

section
/-! PROOFS. The host links, which go down and train, and the messages of vectors: the statement O3. -/

namespace Sys2Proof.Machine

open Sys2Proof

/-! ### Host links (R286, R287, R290) -/

/-- A link that is down, before the functions on it are reset. -/
def hostLinkLost (s : State) (k : Nat) : State :=
  { s with host := { s.host with
    linkUp := setErase s.host.linkUp k, widths := tblErase s.host.widths k, speeds := tblErase s.host.speeds k } }

/-- The resets of functions keep the links and the slots. -/
theorem functionLevelReset_host (s : State) (f : Nat) : (boundBase (functionLevelReset s f)).host = (boundBase s).host := by
  by_cases hrests : funcExists s f = false ∨ (funcAt s f).flr = true
  · rw [functionLevelReset_rests hrests]
  · simp only [not_or, Bool.not_eq_false, Bool.not_eq_true] at hrests
    obtain ⟨he, hflr⟩ := hrests
    exact (functionLevelReset_read he hflr fun a => (boundBase a).host).trans (congrArg (·.host) (flrTaken_unbound s f).bound)

theorem linkReset_host (s : State) (k : Nat) : (boundBase (linkReset s k)).host = (boundBase (hostLinkLost s k)).host := by
  have hfuncs : ∀ (l : List Nat) (t : State),
      (boundBase (l.foldl (fun t pf => functionLevelReset t (pf * 64)) t)).host = (boundBase t).host := by
    intro l t
    induction l generalizing t with
    | nil => rfl
    | cons pf l ih => exact (ih _).trans (functionLevelReset_host t (pf * 64))
  exact hfuncs _ (hostLinkLost s k)

/-- Settles O3: a link's reset takes the link down before its functions are reset, and a vector sends where it may. -/
theorem hostLinksAndVectors : Obligations.HostLinksAndVectors := by
  unfold Obligations.HostLinksAndVectors
  refine ⟨?perst, ?down, ?trained, ?unmask, ?unmaskAll, ?moderated, ?idle⟩
  case perst => exact fun s k hw hl => exec_eq_keeping rfl hw (if_neg (by simp [hl]))
  case down =>
    intro s k hw hl
    have hhost := linkReset_host s k
    have hup : (linkReset s k).host.linkUp = setErase s.host.linkUp k := congrArg HostLink.linkUp hhost
    have hwidths : (linkReset s k).host.widths = tblErase s.host.widths k := congrArg HostLink.widths hhost
    have hspeeds : (linkReset s k).host.speeds = tblErase s.host.speeds k := congrArg HostLink.speeds hhost
    exact ⟨_, exec_eq_keeping rfl hw (if_neg (by simp [hl])), rfl, (congrArg (·.contains k) hup).trans (by simp [setErase]),
      (congrArg (tblGet 0 · k) hwidths).trans (tblGet_erase_same _ _ k), (congrArg (tblGet 0 · k) hspeeds).trans (tblGet_erase_same _ _ k),
      (congrArg HostLink.slots hhost :)⟩
  case trained => exact fun s k w v hw hl ht hr => exec_eq_next rfl hw (if_neg (by simp [hl, ht, hr])) rfl
  case unmask =>
    intro s f v hw hl hv u
    have hlive : ¬(!barLive s f || decide (numVecs f ≤ v)) = true := by simp [hl, hv]
    exact ⟨fun h => exec_eq_next rfl hw ((if_neg hlive).trans (if_pos h)) rfl,
      fun h => exec_eq_next rfl hw ((if_neg hlive).trans (if_neg (by simp [u, h]))) rfl⟩
  case unmaskAll =>
    intro s f hw he hpend
    exact exec_eq_next rfl hw ((if_neg (by simp [he])).trans (foldl_trySend_idle fun v hv => hpend v (List.mem_range.mp hv))) rfl
  case moderated => exact fun s f v hw h => exec_eq_next rfl hw (if_pos h) rfl
  case idle => exact fun s f v hw h => exec_eq_next rfl hw (trySend_idle h) rfl

end Sys2Proof.Machine
end

section
/-! PROOFS. Descriptor fetches of the host queues and the reads they issue: the statement O29. -/

namespace Sys2Proof.Machine

open Sys2Proof

/-! ### Reads issued (R288, R306) -/

theorem exists_funcOfQueue_of_mayIssue {s : State} {q : Nat} (h : mayIssue s q = true) : ∃ f, funcOfQueue s q = some f := by
  unfold mayIssue at h
  split at h
  · exact absurd h Bool.false_ne_true
  · next f hf => exact ⟨f, hf⟩

theorem mayIssue_of_mayRead {s : State} {q : Nat} (h : mayRead s q = true) : mayIssue s q = true := by
  simp only [mayRead, Bool.and_eq_true] at h
  exact h.1

/-- A queue is read from its table. -/
theorem qAt_congr {s t : State} (h : t.dma.q = s.dma.q) (q : Nat) : qAt t q = qAt s q := by rw [qAt, h, qAt]

theorem issueRead_dma {s : State} {q f : Nat} (hf : funcOfQueue s q = some f) (addr len : Nat) (kind : ReadKind) (noSnoop : Bool) :
    (issueRead s q addr len kind noSnoop).dma = { s.dma with
      reads := tblSet {} s.dma.reads (nextTag s q) { q := q, addr := addr, len := len, kind := kind, since := now s, func := f } } := by
  unfold issueRead
  rw [hf]
  exact ((perfN_unseen _ _ _).trans (perf_unseen _ _)).read (·.dma)

/-! ### Fetches (R313) -/

/-- The address that the next descriptors of a queue stand at. -/
def fetchAddr (s : State) (q : Nat) : Nat := (qAt s q).ringAddr + 32 * ((qAt s q).cons % ringSize s q)

/-- A queue that fetches, with the unit that reads its ring awake (R23). -/
def fetchBegun (s : State) (q : Nat) : State :=
  setQ (wake s [320 + 8 * qCluster q]) q { qAt s q with fetching := true, fetchAt := (qAt s q).cons }

section

variable {s : State} {q : Nat}

/-- A transmit queue that may read, has room and waits for nothing fetches, or halts where the read would pass the top. -/
theorem descriptorFetch_due (hk : qKind q = 0) (hrun : (qAt s q).state = .running) (hidle : (qAt s q).fetching = false)
    (hmay : mayRead s q = true) (hcq : cqWait s q = false) (hhead : headHeld s q = false) (hn : fetchCount s q ≠ 0) :
    descriptorFetch s q =
      if 2 ^ 64 < fetchAddr s q + 32 * fetchCount s q then
        haltQueue (setQ s q { qAt s q with haltN := fetchCount s q }) q 0x13 (fetchAddr s q) (qAt s q).cons false true
      else issueRead (fetchBegun s q) q (fetchAddr s q) (32 * fetchCount s q) .desc false := by
  unfold descriptorFetch
  extract_lets x n addr
  rw [if_neg (by omega), if_neg (by simp [x, hk, hrun, hidle, hmay]), if_neg (by simp [hcq, hhead]), if_neg hn]
  rfl

theorem descriptorFetch_rests (hk : qKind q < 3)
    (h : (qAt s q).state ≠ .running ∨ (qAt s q).fetching = true ∨ mayRead s q = false) : descriptorFetch s q = s := by
  unfold descriptorFetch
  extract_lets x n addr
  rw [if_neg (by omega), if_pos (.inr h)]

end

/-! ### Reads that return, and reads that fail (R306, R352) -/

/-- A read with a tag is no longer outstanding. -/
def readEnded (s : State) (tag : Nat) : State := { s with dma := { s.dma with reads := tblErase s.dma.reads tag } }

/-- A queue whose cache the descriptors of its read have entered. -/
def cacheFilled (x : QReg) (o : Octets) : QReg :=
  { x with fetching := false, cache := x.cache ++ parseEntries 32 (o.length / 32) x.fetchAt o
           cons := (x.fetchAt + o.length / 32) % 65536 }

theorem descData_running {s : State} {q : Nat} (hrun : (qAt s q).state = .running) (o : Octets) :
    Unseen (setQ s q (cacheFilled (qAt s q) o)) (descData s q o) := by
  unfold descData
  extract_lets x n x1
  rw [if_pos (.inl hrun)]
  exact perfN_unseen _ _ _

theorem hostReadCompletion_ignores {s : State} {tag : Nat} {o : Octets}
    (h : ∀ e ∈ s.dma.reads, e.1 = tag → e.2.len ≠ o.length) : hostReadCompletion s tag o = s := by
  unfold hostReadCompletion
  split
  · rfl
  · next k r hfind =>
    have hk := List.find?_some hfind
    exact if_pos (h _ (List.mem_of_find?_eq_some hfind) (by simpa using hk)).symm

theorem readFails_unknown {s : State} {tag : Nat} (h : ∀ e ∈ s.dma.reads, e.1 ≠ tag) (reason : Nat) : readFails s tag reason = s := by
  have hnone : s.dma.reads.find? (fun e => e.1 == tag) = none := List.find?_eq_none.mpr fun e he => by simpa using h e he
  rw [readFails, hnone]

section

variable {s : State} {tag : Nat} {r : HostRead} (hfind : s.dma.reads.find? (fun e => e.1 == tag) = some (tag, r))
include hfind

theorem hostReadCompletion_desc (hkind : r.kind = .desc) {o : Octets} (hlen : o.length = r.len) :
    hostReadCompletion s tag o = descData (readEnded s tag) r.q o := by
  simp only [hostReadCompletion, hfind, hlen, ne_eq, not_true_eq_false, if_false, hkind, readEnded]

theorem readFails_desc (hkind : r.kind = .desc) (reason : Nat) :
    readFails s tag reason = haltQueue (setQ (readEnded s tag) r.q { qAt (readEnded s tag) r.q with
      fetching := false, haltN := r.len / 32 }) r.q reason r.addr (qAt (readEnded s tag) r.q).fetchAt false true := by
  simp only [readFails, hfind, hkind, readEnded]

theorem completionTimeout_of_read :
    completionTimeout s tag = if due s (r.since + msTicks 50) then readFails s tag 0x11 else s := by
  simp only [completionTimeout, hfind]

end

/-- The reason of a bus error: a poisoned completion, or any other (R352). -/
theorem hostBusError_eq (s : State) (tag : Nat) (kind : BusErr) :
    hostBusError s tag kind = readFails s tag (if kind = .poisoned then 0x12 else 0x10) := by
  cases kind <;> rfl

/-! ### The statement -/

/-- Settles O29: a fetch is one read, of which the queue notes that it runs; the read returns whole, fails, or is not the queue's. -/
theorem descriptorFetches : Obligations.DescriptorFetches := by
  unfold Obligations.DescriptorFetches
  refine ⟨?fetch, ?rests, ?returns, ?ignored, ?fails, ?unknown, ?timeout⟩
  case fetch =>
    intro s q hw hk hrun hidle hmay hcq hhead hn x n addr
    have hdue := descriptorFetch_due hk hrun hidle hmay hcq hhead hn
    refine ⟨fun hfits => ?_, fun htop => exec_eq_keeping rfl hw (hdue.trans (if_pos htop))⟩
    obtain ⟨f, hf⟩ := exists_funcOfQueue_of_mayIssue (mayIssue_of_mayRead hmay)
    have hdma := issueRead_dma (s := fetchBegun s q) (q := q) hf addr (32 * n) .desc false
    refine ⟨_, exec_eq_keeping rfl hw (hdue.trans (if_neg (Nat.not_lt.mpr hfits))), ?_, f, hf, congrArg Dma.reads hdma⟩
    exact (qAt_congr (s := fetchBegun s q) (congrArg Dma.q hdma :) q).trans (qAt_setQ _ q _)
  case rests =>
    intro s q hw hk h
    refine exec_eq_next rfl hw (descriptorFetch_rests hk ?_) rfl
    rcases h with h | h | h | h
    · exact .inl h
    · exact .inr (.inl h)
    · exact .inr (.inr (by simp [mayRead, h]))
    · exact .inr (.inr h)
  case returns =>
    intro s tag r o hw hfind hkind hlen hrun
    have hdma := (descData_running (s := readEnded s tag) hrun o).read (·.dma)
    have hq := (qAt_congr (congrArg Dma.q hdma) r.q).trans (qAt_setQ _ r.q _)
    exact ⟨_, exec_eq_keeping rfl hw (hostReadCompletion_desc hfind hkind hlen), congrArg Dma.reads hdma, congrArg QReg.cache hq,
      congrArg QReg.cons hq, congrArg QReg.fetching hq, (congrArg Dma.jobs hdma :)⟩
  case ignored => exact fun s tag o hw h => exec_eq_next rfl hw (hostReadCompletion_ignores h) rfl
  case fails =>
    exact fun s tag r k hw hfind hkind => exec_eq_keeping rfl hw ((hostBusError_eq s tag k).trans (readFails_desc hfind hkind _))
  case unknown => exact fun s tag k hw h => exec_eq_next rfl hw ((hostBusError_eq s tag k).trans (readFails_unknown h _)) rfl
  case timeout =>
    intro s tag r hw hfind
    have htime := completionTimeout_of_read hfind
    exact ⟨fun hdue => exec_eq_keeping rfl hw (htime.trans (if_pos (decide_eq_true hdue))),
      fun hearly => exec_eq_next rfl hw (htime.trans (if_neg (by simpa [due, now] using hearly))) rfl⟩

end Sys2Proof.Machine
end

section
/-! PROOFS. Writes to the slot registers, and the index writes of queues: the statement O4. -/

namespace Sys2Proof.Machine

open Sys2Proof

/-! ### Writes that reach a queue (R295, R314) -/

/-- A queue or ring takes no work: it is DISABLED or DRAINING (R312). -/
abbrev QueueOff (s : State) (q : Nat) : Prop := (qAt s q).state = .disabled ∨ (qAt s q).state = .draining

theorem not_queueOff {s : State} {q : Nat} (h : (qAt s q).state ≠ .disabled ∧ (qAt s q).state ≠ .draining) : ¬QueueOff s q :=
  not_or.mpr h

theorem queueOff_of_not {s : State} {q : Nat} (h : ¬((qAt s q).state ≠ .disabled ∧ (qAt s q).state ≠ .draining)) : QueueOff s q := by
  rwa [← not_or, not_not] at h

theorem slotWrite_of_slotOn {s : State} {f slot q : Nat} (h : SlotOn s f slot q) (v : Nat) :
    slotWrite s f slot v = queueWrite s q v := by
  obtain ⟨hlive, hslot, hq⟩ := h
  rw [slotWrite, if_neg (by simp [hlive, hslot]), hq]

theorem slotWrite_of_empty {s : State} {f slot : Nat} (hlive : barLive s f = true) (hslot : slot < slotCount f)
    (hq : tblGet 0 s.host.slots (f * 4096 + slot) = 0) (v : Nat) : slotWrite s f slot v = count s 0x09 0 7 := by
  rw [slotWrite, if_neg (by simp [hlive, hslot]), hq]

/-- A value below 2²⁸ carries CMD 0, which is INDEX. -/
theorem queueWrite_index {s : State} {q v : Nat} (hk : qKind q ≠ 4) (hv : v < 2 ^ 28) :
    queueWrite s q v = if qKind q = 3 then headIndex s q (v % 65536) (bitOf v 16) else prodIndex s q (v % 65536) := by
  have hcmd : v / 2 ^ 28 % 16 = 0 := by omega
  rw [queueWrite, if_neg hk]
  simp only [hcmd]

theorem dmaIndex_eq {s : State} {f slot q prod : Nat} (h : SlotOn s f slot q) (hk : qKind q < 3) (hprod : prod < 65536) :
    dmaIndex s f slot prod = prodIndex s q prod := by
  rw [dmaIndex, slotWrite_of_slotOn h, queueWrite_index (by omega) (by omega), if_neg (by omega), Nat.mod_eq_of_lt hprod]

theorem cqIndex_eq {s : State} {f slot q head : Nat} (h : SlotOn s f slot q) (hk : qKind q = 3) (hhead : head < 65536) (arm : Bool) :
    cqIndex s f slot head arm = headIndex s q head arm := by
  have harm : b2n arm ≤ 1 ∧ bitOf (head + 65536 * b2n arm) 16 = arm := by
    cases arm <;> simp [b2n, bitOf] <;> omega
  obtain ⟨hle, hbit⟩ := harm
  have hlow : (head + 65536 * b2n arm) % 65536 = head := by omega
  rw [cqIndex, slotWrite_of_slotOn h, queueWrite_index (by omega) (by omega), if_pos hk, hlow, hbit]

/-! ### Producer indices (R315, R316) -/

theorem prodIndex_off {s : State} {q : Nat} (hoff : QueueOff s q) (w : Nat) : prodIndex s q w = count s 0x08 0 1 := if_pos hoff

/-- Where the queue takes work, an index overruns the ring, retreats behind the last one, or is taken. -/
theorem prodIndex_on {s : State} {q : Nat} (hon : ¬QueueOff s q) (w : Nat) :
    prodIndex s q w =
      if ringSize s q < idxDiff w (qAt s q).cons then errorQueue s q 1 w
      else if idxDiff w (qAt s q).cons < idxDiff (qAt s q).prod (qAt s q).cons then errorQueue s q 2 w
      else setQ s q { qAt s q with prod := w % 65536 } := if_neg hon

/-! ### Heads of completion queues (R324, R325) -/

/-- A completion queue whose head stands at an index. -/
def headMoved (s : State) (q head : Nat) : State :=
  setQ s q { qAt s q with cons := head, fullFired := (qAt s q).fullFired && decide (head = (qAt s q).cons) }

/-- A completion queue that is armed: it waits for its next record, or fires for the records that stand before its head. -/
def armHead (s : State) (q : Nat) : State :=
  if (qAt s q).prod ≠ (qAt s q).cons then fireCq (setQ s q { qAt s q with armed := false }) q 0
  else setQ s q { qAt s q with armed := true }

theorem armHead_headMoved (s : State) (q head : Nat) :
    armHead (headMoved s q head) q =
      if (qAt s q).prod ≠ head then
        fireCq (setQ (headMoved s q head) q { qAt (headMoved s q head) q with armed := false }) q 0
      else setQ (headMoved s q head) q { qAt (headMoved s q head) q with armed := true } := by
  have hq : qAt (headMoved s q head) q = { qAt s q with
      cons := head, fullFired := (qAt s q).fullFired && decide (head = (qAt s q).cons) } := qAt_setQ s q _
  rw [armHead, hq]

theorem cqDrain_of_none {s : State} {cq : Nat} (h : (qAt s cq).held = none) (n : Nat) : cqDrain n s cq = s := by
  cases n with
  | zero => rfl
  | succ n => simp only [cqDrain, h]

theorem headIndex_off {s : State} {q : Nat} (hoff : QueueOff s q) (w : Nat) (arm : Bool) : headIndex s q w arm = count s 0x08 0 1 :=
  if_pos hoff

theorem headIndex_beyond {s : State} {q w : Nat} (hon : ¬QueueOff s q)
    (h : idxDiff (qAt s q).prod (qAt s q).cons < idxDiff (qAt s q).prod w) (arm : Bool) : headIndex s q w arm = count s 0x08 q 3 :=
  (if_neg hon).trans (if_pos h)

/-- Where no record is held, the head only moves and arms. -/
theorem headIndex_moves {s : State} {q head : Nat} (hon : ¬QueueOff s q)
    (hle : idxDiff (qAt s q).prod head ≤ idxDiff (qAt s q).prod (qAt s q).cons) (hheld : (qAt s q).held = none) (hhead : head < 65536)
    (arm : Bool) : headIndex s q head arm = if arm then armHead (headMoved s q head) q else headMoved s q head := by
  have hdrain : cqDrain 600 (headMoved s q head) q = headMoved s q head := cqDrain_of_none (by simp [headMoved, hheld]) 600
  unfold headMoved at hdrain
  unfold headIndex
  rw [if_neg hon, if_neg (Nat.not_lt.mpr hle)]
  simp only [Nat.mod_eq_of_lt hhead, ne_eq, decide_not, Bool.not_not, hdrain, ite_self]
  cases arm <;> rfl

/-! ### Generation-1 doorbells (R343, R344) -/

/-- A ring that is on scans. -/
def scanIfOn (s : State) (r : Nat) : State := if QueueOff s r then s else startScan s r

theorem scanIfOn_off {s : State} {r : Nat} (h : QueueOff s r) : scanIfOn s r = s := if_pos h

theorem scanIfOn_on {s : State} {r : Nat} (h : ¬QueueOff s r) : scanIfOn s r = startScan s r := if_neg h

theorem g1Doorbell_eq {s : State} {f slot q : Nat} (h : SlotOn s f slot q) (hk : qKind q = 4) :
    g1Doorbell s f slot = scanIfOn (scanIfOn s q) (0x5000 + qNum q) :=
  (slotWrite_of_slotOn h 0).trans (if_pos hk)

/-! ### The statement -/

/-- Settles O4: a write that reaches a queue is the index write of the queue's kind, whose conditions exclude each other. -/
theorem dmaIndexWrites : Obligations.DmaIndexWrites := by
  unfold Obligations.DmaIndexWrites
  refine ⟨?producer, ?head, ?doorbell, ?empty⟩
  case producer =>
    intro s f slot prod q hw hslot hk x i on
    have hprod : prod < 65536 := by simp only [Instr.wf, Bool.and_eq_true, decide_eq_true_eq] at hw; exact hw.2
    have hrow : ∀ {t}, prodIndex s q prod = t → dmaIndex s f slot prod = t := (dmaIndex_eq hslot hk hprod).trans
    refine ⟨fun hon hfits hahead => ?_, fun hon hover => ?_, fun hon hfits hback => ?_, fun hoff => ?_⟩
    · refine exec_eq_next rfl hw (hrow ((prodIndex_on (not_queueOff hon) prod).trans ?_)) rfl
      rw [if_neg (Nat.not_lt.mpr hfits), if_neg (Nat.not_lt.mpr hahead), Nat.mod_eq_of_lt hprod]
    · exact exec_eq_keeping rfl hw (hrow ((prodIndex_on (not_queueOff hon) prod).trans (if_pos hover)))
    · refine exec_eq_keeping rfl hw (hrow ((prodIndex_on (not_queueOff hon) prod).trans ?_))
      rw [if_neg (Nat.not_lt.mpr hfits), if_pos hback]
    · exact exec_eq_next rfl hw (hrow (prodIndex_off (queueOff_of_not hoff) prod)) rfl
  case head =>
    intro s f slot head arm q hw hslot hk x u i on
    have hhead : head < 65536 := by simp only [Instr.wf, Bool.and_eq_true, decide_eq_true_eq] at hw; exact hw.2
    have hrow : ∀ {t}, headIndex s q head arm = t → cqIndex s f slot head arm = t := (cqIndex_eq hslot hk hhead arm).trans
    have hmoves : on → idxDiff x.prod head ≤ idxDiff x.prod x.cons → x.held = none →
        headIndex s q head arm = if arm then armHead (headMoved s q head) q else headMoved s q head :=
      fun hon hle hheld => headIndex_moves (not_queueOff hon) hle hheld hhead arm
    have harmed := armHead_headMoved s q head
    refine ⟨fun hon hle hheld harm => ?_, fun hon hle hheld harm heq => ?_, fun hon hle hheld harm hne => ?_, fun hon hlt => ?_,
      fun hoff => ?_⟩
    · exact exec_eq_next rfl hw (hrow ((hmoves hon hle hheld).trans (if_neg (by simp [harm])))) rfl
    · exact exec_eq_next rfl hw (hrow ((hmoves hon hle hheld).trans ((if_pos harm).trans (harmed.trans (if_neg (not_not.mpr heq)))))) rfl
    · exact exec_eq_keeping rfl hw (hrow ((hmoves hon hle hheld).trans ((if_pos harm).trans (harmed.trans (if_pos hne)))))
    · exact exec_eq_next rfl hw (hrow (headIndex_beyond (not_queueOff hon) hlt arm)) rfl
    · exact exec_eq_next rfl hw (hrow (headIndex_off (queueOff_of_not hoff) head arm)) rfl
  case doorbell =>
    intro s f slot q hw hslot hk off r
    have hrow := g1Doorbell_eq hslot hk
    refine ⟨fun hq hr => ?_, fun hq hr => ?_, fun hq hr => ?_, fun hq hr => ?_⟩
    · exact exec_eq_next rfl hw (by rw [hrow, scanIfOn_off hq, scanIfOn_off hr]) rfl
    · exact exec_eq_keeping rfl hw (by rw [hrow, scanIfOn_off hq, scanIfOn_on hr])
    · exact exec_eq_keeping rfl hw (by rw [hrow, scanIfOn_on hq, scanIfOn_off hr])
    · exact exec_eq_keeping rfl hw (by rw [hrow, scanIfOn_on hq, scanIfOn_on hr])
  case empty => exact fun s f slot prod hw hlive hslot hq => exec_eq_next rfl hw (slotWrite_of_empty hlive hslot hq prod) rfl

end Sys2Proof.Machine
end

section
/-! PROOFS. Commands of queues and of completion queues, and drains at their timeout: the statement O5. -/

namespace Sys2Proof.Machine

open Sys2Proof

/-! ### Commands that reach a queue (R314) -/

section

variable {s : State} {f slot q : Nat} (h : SlotOn s f slot q)
include h

theorem dmaEnable_eq (hk : qKind q ≠ 4) : dmaEnable s f slot = cmdEnable s q := (slotWrite_of_slotOn h _).trans (if_neg hk)

theorem dmaDisable_eq (hk : qKind q ≠ 4) : dmaDisable s f slot = cmdDisable s q := (slotWrite_of_slotOn h _).trans (if_neg hk)

theorem dmaResume_eq (hk : qKind q ≠ 4) : dmaResume s f slot = orBad s (recoverQueue s q 0) :=
  (slotWrite_of_slotOn h _).trans (if_neg hk)

theorem dmaReset_eq (hk : qKind q ≠ 4) : dmaReset s f slot = if qKind q = 3 then resetCq s q else disableQueue s q true :=
  (slotWrite_of_slotOn h _).trans (if_neg hk)

theorem dmaSkip_eq (hk : qKind q < 3) : dmaSkip s f slot = orBad s (recoverQueue s q 1) :=
  (slotWrite_of_slotOn h _).trans ((if_neg (by omega)).trans (if_neg (by omega)))

end

/-- Two rows with one effect, of which a command is one. -/
theorem exec_of_mem_pair {a b c : Instr} {s t : State} (hc : c ∈ [a, b]) (ha : exec a s = checked (Instr.wf a) s t)
    (hb : exec b s = checked (Instr.wf b) s t) : exec c s = checked (Instr.wf c) s t := by
  rcases List.mem_pair.mp hc with rfl | rfl
  · exact ha
  · exact hb

/-! ### ENABLE and DISABLE (R309, R312, R355) -/

theorem cmdEnable_live {s : State} {q : Nat} (h : (qAt s q).state ≠ .disabled) : cmdEnable s q = count s 0x08 0 2 := if_pos h

theorem cmdEnable_disabled {s : State} {q : Nat} (h : (qAt s q).state = .disabled) :
    cmdEnable s q = if mayEnable s q then enableQueue s q else count s 0x08 0 0 := if_neg (not_not.mpr h)

theorem enableQueue_of_kept_nil {s : State} {q : Nat} (h : (qAt s q).kept = []) :
    enableQueue s q = setQ s q { (qAt s q).cleared with state := .running } := by
  simp only [enableQueue, h]

/-! ### RESUME and SKIP (R353) -/

theorem resume_halted {s : State} {q : Nat} (h : (qAt s q).state = .halted) : orBad s (recoverQueue s q 0) = resumeQueue s q :=
  congrArg (orBad s) (if_pos h)

theorem resume_bad {s : State} {q : Nat} (h : (qAt s q).state ≠ .halted) : orBad s (recoverQueue s q 0) = count s 0x08 0 2 :=
  congrArg (orBad s) (if_neg h)

section

variable {s : State} {q : Nat} (hk : qKind q < 3)
include hk

/-- SKIP of a queue with descriptors passes what the queue's state says. -/
theorem skip_eq : orBad s (recoverQueue s q 1) =
    orBad s (if (qAt s q).state = .error then some (skipError s q)
      else if (qAt s q).state = .halted then some (skipHalted s q) else none) :=
  congrArg (orBad s) (if_neg (by omega))

theorem skip_error (h : (qAt s q).state = .error) : orBad s (recoverQueue s q 1) = skipError s q := by
  rw [skip_eq hk, if_pos h]
  rfl

theorem skip_halted (h : (qAt s q).state = .halted) : orBad s (recoverQueue s q 1) = skipHalted s q := by
  rw [skip_eq hk, if_neg (by simp [h]), if_pos h]
  rfl

theorem skip_bad (herr : (qAt s q).state ≠ .error) (hhalt : (qAt s q).state ≠ .halted) :
    orBad s (recoverQueue s q 1) = count s 0x08 0 2 := by
  rw [skip_eq hk, if_neg herr, if_neg hhalt]
  rfl

end

/-! ### RESET, and a drain at its timeout (R353, R355) -/

theorem disableQueue_reason (s : State) (q : Nat) (cnt : Bool) : (qAt (disableQueue s q cnt) q).reason = 0 := by
  rw [disableQueue_eq, qAt_setQ]
  rfl

theorem jobsOf_disableQueue (s : State) (q : Nat) (cnt : Bool) : jobsOf (disableQueue s q cnt) q = [] := by
  rw [disableQueue_eq]
  simp [jobsOf, workDropped, deadReads]

/-- At its timeout a draining queue is disabled, whatever its unfinished work has left. -/
theorem queueDrainTimeout_disables {s : State} {q : Nat} (hdrain : (qAt s q).state = .draining) (hdue : (qAt s q).drainEnd ≤ now s) :
    ∃ t, queueDrainTimeout s q = disableQueue t q true :=
  ⟨_, if_neg (not_or.mpr ⟨not_not.mpr hdrain, by simpa [due, now] using hdue⟩)⟩

/-! ### The statement -/

/-- Settles O5: a command that reaches a queue is one operation, which the queue's state allows or which is counted; every drain ends in
the disabling of its queue. -/
theorem dmaQueueCommands : Obligations.DmaQueueCommands := by
  unfold Obligations.DmaQueueCommands
  refine ⟨?commands, ?skip, ?drained, ?idle, ?port⟩
  case commands =>
    intro s f slot q hslot hk
    refine ⟨?enable, ?disable, ?resume, ?reset⟩
    case enable =>
      intro c hc hw
      have hx : exec c s = checked (Instr.wf c) s (dmaEnable s f slot) := exec_of_mem_pair hc rfl rfl
      have hrow := dmaEnable_eq hslot hk
      have hrun : (qAt s q).state = .disabled → mayEnable s q = true → dmaEnable s f slot = enableQueue s q :=
        fun hoff hmay => hrow.trans ((cmdEnable_disabled hoff).trans (if_pos hmay))
      exact ⟨fun hoff hmay => exec_eq_keeping hx hw (hrun hoff hmay),
        fun hoff hmay hkept => exec_eq_next hx hw ((hrun hoff hmay).trans (enableQueue_of_kept_nil hkept)) rfl,
        fun hoff hmay => exec_eq_next hx hw (hrow.trans ((cmdEnable_disabled hoff).trans (if_neg (by simp [hmay])))) rfl,
        fun hlive => exec_eq_next hx hw (hrow.trans (cmdEnable_live hlive)) rfl⟩
    case disable =>
      intro c hc hw off
      have hx : exec c s = checked (Instr.wf c) s (dmaDisable s f slot) := exec_of_mem_pair hc rfl rfl
      have hrow := dmaDisable_eq hslot hk
      exact ⟨fun h => exec_eq_next hx hw (hrow.trans (if_pos h)) rfl, fun h => exec_eq_keeping hx hw (hrow.trans (if_neg h))⟩
    case resume =>
      intro c hc hw
      have hx : exec c s = checked (Instr.wf c) s (dmaResume s f slot) := exec_of_mem_pair hc rfl rfl
      have hrow := dmaResume_eq hslot hk
      exact ⟨fun h => exec_eq_keeping hx hw (hrow.trans (resume_halted h)),
        fun h => exec_eq_next hx hw (hrow.trans (resume_bad h)) rfl⟩
    case reset =>
      intro c hc hw
      have hx : exec c s = checked (Instr.wf c) s (dmaReset s f slot) := exec_of_mem_pair hc rfl rfl
      have hrow := dmaReset_eq hslot hk
      exact ⟨fun h => ⟨_, exec_eq_keeping hx hw (hrow.trans (if_neg h)), rfl, qAt_disableQueue s q true, disableQueue_reason s q true,
        jobsOf_disableQueue s q true⟩, fun h => exec_eq_next hx hw (hrow.trans (if_pos h)) rfl⟩
  case skip =>
    intro s f slot q hslot hk hw x
    have hrow := dmaSkip_eq hslot hk
    exact ⟨fun herr hreason => exec_eq_next rfl hw (hrow.trans ((skip_error hk herr).trans (if_pos hreason))) rfl,
      fun hhalt => exec_eq_keeping rfl hw (hrow.trans (skip_halted hk hhalt)),
      fun herr hhalt => exec_eq_next rfl hw (hrow.trans (skip_bad hk herr hhalt)) rfl⟩
  case drained =>
    intro s q hw hdrain hdue
    obtain ⟨t, ht⟩ := queueDrainTimeout_disables hdrain hdue
    exact ⟨_, exec_eq_keeping rfl hw ht, qAt_disableQueue t q true, jobsOf_disableQueue t q true⟩
  case idle => exact fun s q hw h => exec_eq_next rfl hw (if_pos (.inl h)) rfl
  case port => exact fun s p hw hdrain hdue => exec_eq_keeping rfl hw (if_pos (by simpa [hdrain, due, now] using hdue))

end Sys2Proof.Machine
end

section
/-! PROOFS. Steps of the block: the command at the front of the queue, and what every step keeps of the queue: the statements O38 and
O40. -/

namespace Sys2Proof.Machine

/- The proofs below run one at a time: each waits for those it cites, and many that wait need many threads. -/
set_option Elab.async false

open Sys2Proof

theorem step_of_cons {s : State} {c : Instr} {rest : List Instr} (h : s.pending = c :: rest) :
    step s = exec c { s with pending := rest } := by
  unfold step
  rw [h]

theorem step_of_nil {s : State} (h : s.pending = []) : step s = .next { tickStep s with pending := [] } := by
  unfold step
  rw [h]

/-- Settles O38: a step is the meaning of the queue's first command, or a tick. -/
theorem stepTakesTheFront : Obligations.StepTakesTheFront := by
  unfold Obligations.StepTakesTheFront
  exact ⟨fun _ _ _ => step_of_cons, fun _ => step_of_nil⟩

/-- A command whose operands are in range takes a next state, with the queue as it stood. -/
theorem exec_next_of_wf {i : Instr} (s : State) (h : Instr.wf i = true) : ∃ t, exec i s = .next t ∧ t.pending = s.pending := by
  obtain ⟨t, ht⟩ := exec_checked i s
  exact ⟨keeping s t, ht.trans (checked_good s t h), keeping_pending s t⟩

theorem exec_fault_of_not_wf {i : Instr} (s : State) (h : Instr.wf i = false) : exec i s = .fault .illFormed := by
  obtain ⟨t, ht⟩ := exec_checked i s
  exact ht.trans (checked_bad s t h)

/-- From a well-formed queue the block steps on, and the step takes the first command off the queue, where there is one. -/
theorem step_next_of_inv {s : State} (h : s.Inv) : ∃ t, step s = .next t ∧ t.pending = s.pending.tail := by
  cases hp : s.pending with
  | nil => exact ⟨_, step_of_nil hp, rfl⟩
  | cons c rest =>
    obtain ⟨t, ht, hpend⟩ := exec_next_of_wf { s with pending := rest } (h c (by simp [hp]))
    exact ⟨t, (step_of_cons hp).trans ht, hpend⟩

/-- Settles O40: every command's meaning is an effect that its operands' ranges guard, and a step takes at most the first command off the
queue. -/
theorem everyStepKeepsTheQueue : Obligations.EveryStepKeepsTheQueue := by
  unfold Obligations.EveryStepKeepsTheQueue
  refine ⟨fun _ s => exec_next_of_wf s, fun _ s => exec_fault_of_not_wf s, fun s h => ?_⟩
  obtain ⟨t, ht, hpend⟩ := step_next_of_inv h
  exact ⟨t, ht, hpend, fun c hc => h c (List.mem_of_mem_tail (hpend ▸ hc))⟩

end Sys2Proof.Machine
end

section
/-! PROOFS. Requests that a check of R391 fails, and commands of masters that do not own the part: the statements O41 and O42. -/

namespace Sys2Proof.Machine

/- The proofs below run one at a time: each waits for those it cites, and many that wait need many threads. -/
set_option Elab.async false

open Sys2Proof

/-- A row of the catalogue whose effect leaves the queue as it stands. -/
theorem exec_knRow_eq {data : Option Octets} {x : Instr × Nat × Exe} (hx : x ∈ knRows data) {s : State}
    (hp : (runKn s x.2.1 x.2.2).pending = s.pending) : exec x.1 s = .next (runKn s x.2.1 x.2.2) := by
  rw [exec_knRows data s x hx, keeping_eq hp]

/-- Where it is not a command's turn its row leaves the part as it is. -/
theorem exec_knRow_idle {data : Option Octets} {x : Instr × Nat × Exe} (hx : x ∈ knRows data) {s : State}
    (h : ∀ r, nextRequest s = some r → r.cmd ≠ x.2.1 ∨ (badHeader r).isSome = true) : exec x.1 s = .next s := by
  have hidle := runKn_idle x.2.2 h
  rw [exec_knRow_eq hx (by rw [hidle]), hidle]

/-- A row of the catalogue answers a request that fails a check with the check's status, and that is all. -/
theorem exec_knRow_refused {data : Option Octets} {x : Instr × Nat × Exe} (hx : x ∈ knRows data) {s : State} {r : Request} {c : Cmd}
    {st : Nat} (hn : nextRequest s = some r) (hcode : r.cmd = x.2.1) (hb : badHeader r = none) (hc : cmdOf x.2.1 = some c)
    (hp : preCheck s x.2.2 c r = some st) :
    ∃ t, exec x.1 s = .next t ∧ KnFrame s t ∧ Unrecorded s t ∧ t.kn.leaseEnd = s.kn.leaseEnd ∧ Answered s t r st 0 [] [] := by
  have href := runKn_refused hn hcode hb hc hp
  exact ⟨_, exec_knRow_eq hx href.1.pending_eq, href⟩

/-- Settles O41: a row runs Keanak's engine, which answers a request that fails a check and passes over one that is not its own. -/
theorem requestsRefused : Obligations.RequestsRefused := by
  unfold Obligations.RequestsRefused
  exact ⟨fun _ _ hx _ _ _ _ hn hcode hb hc hp => exec_knRow_refused hx hn hcode hb hc hp, fun _ _ hx _ h => exec_knRow_idle hx h⟩

/-- A command of class W or O fails a check where its master does not own the part (R391, R398). -/
theorem preCheck_of_not_owner {s : State} {c : Cmd} {r : Request} (x : Exe) (hc : c.cls = .w ∨ c.cls = .o) (ho : isOwner s r = false) :
    ∃ st, preCheck s x c r = some st := by
  unfold preCheck
  split
  · exact ⟨_, rfl⟩
  split
  · exact ⟨_, rfl⟩
  split
  · exact ⟨_, rfl⟩
  · exact ⟨_, if_pos ⟨hc, by simp [ho]⟩⟩

/-- Settles O42: where it is the command's turn its request fails the check of ownership, or one before it; else its row does nothing. -/
theorem onlyTheOwnerChanges : Obligations.OnlyTheOwnerChanges := by
  unfold Obligations.OnlyTheOwnerChanges
  intro data x hx s r c hc hcls hn ho
  by_cases hturn : r.cmd = x.2.1 ∧ badHeader r = none
  · obtain ⟨st, hst⟩ := preCheck_of_not_owner x.2.2 hcls ho
    obtain ⟨t, ht, hframe, hunrec, hlease, -⟩ := exec_knRow_refused hx hn hturn.1 hturn.2 hc hst
    exact ⟨t, ht, hframe, hunrec, hlease⟩
  · refine ⟨s, exec_knRow_idle hx fun q hq => ?_, KnFrame.refl s, ⟨rfl, rfl, rfl⟩, rfl⟩
    obtain rfl : r = q := Option.some.inj (hn.symm.trans hq)
    by_cases hcode : r.cmd = x.2.1
    · exact .inr (Option.isSome_iff_ne_none.mpr fun hb => hturn ⟨hcode, hb⟩)
    · exact .inl hcode

end Sys2Proof.Machine
end

section
/-! PROOFS. The owner of the part: what a change of ownership does, the commands that make one or are refused it, and the ends of leases
and handover windows: the statements O52 and O53. -/

namespace Sys2Proof.Machine

/- The proofs below run one at a time: each waits for those it cites, and many that wait need many threads. -/
set_option Elab.async false

open Sys2Proof

/-! ### What changes of Keanak's state leave -/

theorem KnFrame.setKn {s t : State} (h : KnFrame s t) (k : Keanak) : KnFrame { s with kn := k } { t with kn := k } := by
  obtain ⟨h1, h2, h3, h4, h5, h6, h7, h8, h9, h10, h11, h12, h13, h14, h15, -, h17, h18, h19, h20, h21⟩ := h
  exact ⟨h1, h2, h3, h4, h5, h6, h7, h8, h9, h10, h11, h12, h13, h14, h15, rfl, h17, h18, h19, h20, h21⟩

/-- Two states that differ in Keanak, and else only in what no answer leaves as it was. -/
def KeanakOnly (s t : State) : Prop := KnFrame { s with kn := t.kn } t

namespace KeanakOnly

theorem trans {s t u : State} (h : KeanakOnly s t) (g : KeanakOnly t u) : KeanakOnly s u := (KnFrame.setKn h u.kn).trans g

theorem pending_eq {s t : State} (h : KeanakOnly s t) : t.pending = s.pending :=
  KnFrame.pending_eq (s := { s with kn := t.kn }) h

end KeanakOnly

theorem KnFrame.keanakOnly {s t : State} (h : KnFrame s t) : KeanakOnly s t := h.setKn t.kn

theorem setKn_keanakOnly (s : State) (k : Keanak) : KeanakOnly s { s with kn := k } := KnFrame.refl _

theorem writeAudit_keanakOnly (s : State) (b : Octets) (more t16 : Nat) : KeanakOnly s (writeAudit s b more t16) := by
  unfold writeAudit
  dsimp only
  split
  · exact (writeRecord_frame s _ t16).keanakOnly
  · exact setKn_keanakOnly s _

/-! ### Changes of ownership (R396, R397) -/

/-- What Keanak holds of the owner, its lease and the offer of a handover. -/
def ownership (k : Keanak) : Option Nat × Nat × Bool × Nat × Nat × Option Nat × Nat × Nat × Nat :=
  (k.owner, k.ownerNode, k.steward, k.leaseMs, k.leaseEnd, k.target, k.targetNode, k.targetLease, k.windowEnd)

theorem ownership_unowned (k : Keanak) : ownership (unowned k) = (none, 0xFF, false, 0, 0, none, 0xFF, 0, 0) := rfl

theorem ownership_ownedBy (a : State) (m node lease : Nat) (steward : Bool) : ownership (ownedBy a m node lease steward) =
    (some m, if m = 3 then node else 0xFF, steward, lease, now a + msTicks lease, none, 0xFF, 0, 0) := rfl

/-- A change of ownership leaves the journal and the requests that wait to Keanak. -/
def RestKept (a : State) (k : Keanak) : Prop := k.seq = a.kn.seq ∧ k.waiting = a.kn.waiting

theorem unowned_restKept (a : State) : RestKept a (unowned a.kn) := ⟨rfl, rfl⟩

theorem ownedBy_restKept (a : State) (m node lease : Nat) (steward : Bool) : RestKept a (ownedBy a m node lease steward) := ⟨rfl, rfl⟩

theorem KnFrame.ownership_eq {s t : State} (h : KnFrame s t) (hlease : t.kn.leaseEnd = s.kn.leaseEnd) :
    ownership t.kn = ownership s.kn := by
  rw [← h.kn_eq]
  simp [ownership, hlease]

/-- A change of ownership while the journal is within reach: one more record, and Keanak as the change makes it. -/
theorem ownChange_kn {s : State} (hm : mramUp s = true) (k : Keanak) (origin node steward ver cmd : Nat) :
    ownership (ownChange s k origin node steward ver cmd).kn = ownership k ∧ (ownChange s k origin node steward ver cmd).kn.seq = k.seq + 1 ∧
      (ownChange s k origin node steward ver cmd).kn.waiting = k.waiting := by
  have hm' : mramUp { s with kn := k } = true := hm
  rw [ownChange, (broadcast_out _ _).2, writeAudit, if_pos hm', writeRecord, perf_kn]
  exact ⟨rfl, rfl, rfl⟩

theorem ownChange_keanakOnly (s : State) (k : Keanak) (origin node steward ver cmd : Nat) :
    KeanakOnly s (ownChange s k origin node steward ver cmd) :=
  ((setKn_keanakOnly s k).trans (writeAudit_keanakOnly _ _ _ _)).trans (broadcast_out _ _).1.keanakOnly

/-- The turn of a command that needs the MRAM comes only while the MRAM is reached. -/
theorem mramUp_of_turn {s : State} {r : Request} {c : Cmd} (h : nextRequest s = some r) (hc : cmdOf r.cmd = some c)
    (hn : needsMram c = true) : mramUp s = true := by
  have hfree := List.find?_some h
  simp only [heldNow, hc, hn, Bool.true_and, Bool.not_eq_true', Bool.or_eq_false_iff] at hfree
  simpa using hfree.2.1

/-- A request's execution begins at the instant its turn comes. -/
theorem now_begun (s : State) (c : Cmd) (r : Request) : now (begun s c r) = now s := by
  rw [now, (begun_frame s c r).clk_eq, now]

theorem begun_kn_w {c : Cmd} (s : State) (r : Request) (h : c.cls = .w) :
    (begun s c r).kn = { (dropRequest s r.master).kn with leaseEnd := now s + msTicks s.kn.leaseMs } := by
  rw [begun_kn, if_pos (.inl h)]

/-- An accepted request whose effect is a change of ownership makes Keanak what the change says, and is recorded. -/
theorem ownChanged_of {i : Instr} {s : State} {r : Request} {code : Nat} {x : Exe} {c : Cmd} {k : Keanak} {steward : Nat} {res : Octets}
    (h : Accepted s code x r) (hc : cmdOf code = some c) (hneeds : needsMram c = true)
    (hrow : exec i s = .next (keeping s (runKn s code x)))
    (hrun : x.run (begun s c r) r = .ok (ownChangeBy (begun s c r) r k steward) res [])
    (hk : RestKept (begun s c r) k) :
    ∃ t, exec i s = .next t ∧ ownership t.kn = ownership k ∧ t.kn.seq = s.kn.seq + 1 ∧ KeanakOnly s t := by
  obtain ⟨hn, hcode, hb, hpre⟩ := h.checks hc
  obtain ⟨hseq, hwait⟩ := hk
  have hm : mramUp (begun s c r) = true :=
    ((Twins.of_shown (shown_begun s c r)).read mramUp).trans (mramUp_of_turn hn (hcode ▸ hc) hneeds)
  obtain ⟨hown, hseq', hwait'⟩ := ownChange_kn hm k r.master r.auditNode steward r.ver r.cmd
  obtain ⟨hframe, hlease, -, hrunSeq, -, -⟩ := runKn_ok hn hcode hb hc hpre hrun (by
    rw [ownChangeBy, hwait', hwait]
    exact begun_waiting s c r)
  have honly : KeanakOnly s (runKn s code x) :=
    ((begun_frame s c r).keanakOnly.trans (ownChange_keanakOnly _ k _ _ _ _ _)).trans hframe.keanakOnly
  rw [keeping_eq honly.pending_eq] at hrow
  have hbegun : (begun s c r).kn.seq = s.kn.seq := by rw [begun_kn]; rfl
  exact ⟨_, hrow, (hframe.ownership_eq hlease).trans hown, by rw [hrunSeq, ownChangeBy, hseq', hseq, hbegun], honly⟩

/-! ### The commands' own conditions (R397, R398, R400) -/

section

variable {a : State} {r : Request}

theorem claimRun_ok (hlease : leaseOk (leAt r.params 0 4) = true) (ho : a.kn.owner = none) :
    ∃ res, claimExe.run a r = .ok (ownChangeBy a r (ownedBy a r.master r.node (leaseOf (leAt r.params 0 4)) false) 0) res [] := by
  simp [claimExe, claimRun, hlease, ho]

theorem claimRun_owned (hlease : leaseOk (leAt r.params 0 4) = true) (ho : a.kn.owner.isSome = true) : claimExe.run a r = .fail 0x11 0 := by
  simp [claimExe, claimRun, hlease, ho]

theorem takeoverRun_ok (hlease : leaseOk (leAt r.params 0 4) = true) (hmaster : r.master = 2) (hpin : a.pins.stewardN = false) :
    ∃ res, takeoverExe.run a r = .ok (ownChangeBy a r (ownedBy a 2 0xFF (leaseOf (leAt r.params 0 4)) true) 16) res [] := by
  simp [takeoverExe, takeoverRun, hlease, hmaster, hpin]

theorem takeoverRun_refused (hlease : leaseOk (leAt r.params 0 4) = true) (h : r.master ≠ 2 ∨ a.pins.stewardN = true) :
    takeoverExe.run a r = .fail 0x13 0 := by
  simp [takeoverExe, takeoverRun, hlease, h]

theorem acceptRun_ok (htarget : a.kn.target = some r.master) (hnode : r.master = 3 → a.kn.targetNode = r.node)
    (hwin : r.arr < a.kn.windowEnd) :
    ∃ res, acceptExe.run a r = .ok (ownChangeBy a r (ownedBy a r.master r.node a.kn.targetLease false) 0) res [] := by
  simp only [acceptExe]
  rw [acceptRun, if_neg]
  · exact ⟨_, rfl⟩
  · rintro (h | ⟨h3, h⟩ | h)
    · exact h htarget
    · exact h (hnode h3)
    · omega

theorem acceptRun_refused (h : a.kn.target ≠ some r.master ∨ a.kn.windowEnd ≤ r.arr) : acceptExe.run a r = .fail 0x12 0 :=
  if_pos (by tauto)

theorem releaseRun_ok : releaseExe.run a r = .ok (ownChangeBy a r (unowned a.kn) (stewardFlag a r)) [] [] := rfl

/-- Keanak with the offer that a request of KN_HANDOVER makes. -/
def offered (a : State) (r : Request) : Keanak :=
  { a.kn with target := some (leAt r.params 0 1), targetNode := leAt r.params 1 1, targetLease := leaseOf (leAt r.params 4 4)
              windowEnd := now a + msTicks 1000 }

theorem ownership_offered (a : State) (r : Request) : ownership (offered a r) =
    (a.kn.owner, a.kn.ownerNode, a.kn.steward, a.kn.leaseMs, a.kn.leaseEnd, some (leAt r.params 0 1), leAt r.params 1 1,
      leaseOf (leAt r.params 4 4), now a + msTicks 1000) := rfl

theorem offered_restKept (a : State) (r : Request) : RestKept a (offered a r) := ⟨rfl, rfl⟩

theorem handoverRun_ok (hz : leAt r.params 2 2 = 0) (hm : leAt r.params 0 1 ≤ 4)
    (hnode : if leAt r.params 0 1 = 3 then leAt r.params 1 1 ≤ 63 else leAt r.params 1 1 = 0xFF)
    (hlease : leaseOk (leAt r.params 4 4) = true)
    (hother : ¬(a.kn.owner = some (leAt r.params 0 1) ∧ (leAt r.params 0 1 = 3 → a.kn.ownerNode = leAt r.params 1 1)))
    (hup : masterUp a (leAt r.params 0 1) = true) :
    handoverExe.run a r = .ok (ownChangeBy a r (offered a r) (stewardFlag a r)) [] [] := by
  have hnode' : ¬(if leAt r.params 0 1 = 3 then 63 < leAt r.params 1 1 else leAt r.params 1 1 ≠ 0xFF) := by
    split at hnode <;> simp_all
  have hmay : ¬((a.kn.owner = some (leAt r.params 0 1) ∧ (leAt r.params 0 1 ≠ 3 ∨ a.kn.ownerNode = leAt r.params 1 1)) ∨
      (!masterUp a (leAt r.params 0 1)) = true) := by
    rintro (⟨ho, hn⟩ | hdown)
    · exact hother ⟨ho, fun h3 => hn.resolve_left fun h => h h3⟩
    · simp [hup] at hdown
  simp only [handoverExe]
  rw [handoverRun]
  dsimp only
  rw [if_neg (by simp [hz]), if_neg (by omega), if_neg (by omega), if_neg hnode', if_neg (by simp [hlease]), if_neg hmay, offered]

end

/-- Settles O52: each command runs to one change of ownership, which is recorded and makes Keanak what the command says. -/
theorem knOwnershipChanges : Obligations.KnOwnershipChanges := by
  unfold Obligations.KnOwnershipChanges
  refine ⟨?claim, ?takeover, ?accept, ?release, ?handover⟩
  case claim =>
    intro s r h hlease ho
    obtain ⟨res, hrun⟩ := claimRun_ok (a := begun s ⟨0x0001, 1, .own, true⟩ r) hlease (by rw [begun_kn]; exact ho)
    obtain ⟨t, ht, hown, hseq, honly⟩ := ownChanged_of (i := .knClaim) h rfl rfl rfl hrun (ownedBy_restKept _ _ _ _ _)
    rw [ownership_ownedBy, now_begun] at hown
    simp only [ownership, Prod.mk.injEq] at hown
    obtain ⟨hmaster, hnode, hstew, hms, hend, htarget, -⟩ := hown
    exact ⟨t, ht, hmaster, hnode, hstew, htarget, hms, hend, hseq, honly⟩
  case takeover =>
    intro s r h hlease hmaster hpin
    obtain ⟨res, hrun⟩ := takeoverRun_ok (a := begun s ⟨0x0006, 2, .own, true⟩ r) hlease hmaster
      (((Twins.of_shown (shown_begun s _ r)).read (·.pins.stewardN)).trans hpin)
    obtain ⟨t, ht, hown, hseq, honly⟩ := ownChanged_of (i := .knTakeover) h rfl rfl rfl hrun (ownedBy_restKept _ _ _ _ _)
    rw [ownership_ownedBy, now_begun] at hown
    simp only [ownership, Prod.mk.injEq] at hown
    obtain ⟨howner, -, hstew, hms, hend, htarget, -⟩ := hown
    exact ⟨t, ht, howner, hstew, htarget, hms, hend, hseq, honly⟩
  case accept =>
    intro s r h htarget hnode hwin
    obtain ⟨res, hrun⟩ := acceptRun_ok (a := begun s ⟨0x0005, 2, .own, true⟩ r) (r := r) (by rw [begun_kn]; exact htarget)
      (by rw [begun_kn]; exact hnode) (by rw [begun_kn]; exact hwin)
    obtain ⟨t, ht, hown, hseq, honly⟩ := ownChanged_of (i := .knAccept) h rfl rfl rfl hrun (ownedBy_restKept _ _ _ _ _)
    have hlease : (begun s ⟨0x0005, 2, .own, true⟩ r).kn.targetLease = s.kn.targetLease := by rw [begun_kn]; rfl
    rw [ownership_ownedBy, now_begun, hlease] at hown
    simp only [ownership, Prod.mk.injEq] at hown
    obtain ⟨howner, hnode, hstew, hms, hend, htarget, -⟩ := hown
    exact ⟨t, ht, howner, hnode, hstew, htarget, hms, hend, hseq, honly⟩
  case release =>
    intro s r h
    obtain ⟨t, ht, hown, hseq, honly⟩ := ownChanged_of (i := .knRelease) h rfl rfl rfl releaseRun_ok (unowned_restKept _)
    rw [ownership_unowned] at hown
    simp only [ownership, Prod.mk.injEq] at hown
    obtain ⟨howner, -, -, -, -, htarget, -⟩ := hown
    exact ⟨t, ht, howner, htarget, hseq, honly⟩
  case handover =>
    intro s r h m node l hz hm hnode hlease hother hup
    have hkn := begun_kn_w (c := ⟨0x0004, 2, .w, true⟩) s r rfl
    have hrun := handoverRun_ok (a := begun s ⟨0x0004, 2, .w, true⟩ r) hz hm hnode hlease (by rw [hkn]; exact hother)
      (((Twins.of_shown (shown_begun s _ r)).read (masterUp · _)).trans hup)
    obtain ⟨t, ht, hown, hseq, honly⟩ := ownChanged_of (i := .knHandover) h rfl rfl rfl hrun (offered_restKept _ _)
    rw [ownership_offered, now_begun, hkn] at hown
    simp only [ownership, Prod.mk.injEq] at hown
    obtain ⟨howner, hownerNode, -, -, hend, htarget, htnode, htlease, hwin⟩ := hown
    exact ⟨t, ht, howner, hownerNode, htarget, htnode, htlease, hwin, hend, hseq, honly⟩

/-! ### Ends of leases and of handover windows (R397, R399, R400) -/

theorem leaseLapse_early {s : State} (h : now s < s.kn.leaseEnd) : leaseLapse s = s := if_pos (by simp [h])

/-- A lease whose deadline has come lapses, unless a request of the owner that arrived before it still waits. -/
theorem leaseLapse_due {s : State} (ho : s.kn.owner.isSome = true) (hm : mramUp s = true) (hd : s.kn.leaseEnd ≤ now s)
    (hw : ∀ r ∈ s.kn.waiting, isOwner s r = true → s.kn.leaseEnd ≤ r.arr) : leaseLapse s = lapse s := by
  have hin : inService s .control = true := (Bool.and_eq_true _ _ ▸ hm : _ ∧ _).1
  have hfree : s.kn.waiting.any (fun r => isOwner s r && decide (r.arr < s.kn.leaseEnd)) = false := by
    simpa using hw
  unfold leaseLapse
  dsimp only
  rw [hfree, if_neg]
  simp [Option.isNone_iff_eq_none, Option.isSome_iff_ne_none.mp ho, hin, hd]

theorem handoverWindowEnd_early {s : State} (h : now s < s.kn.windowEnd) : handoverWindowEnd s = s := by
  unfold handoverWindowEnd
  split
  · rfl
  · exact if_pos (by simp [h])

/-- A handover's window that is over takes the offer back, unless a KN_ACCEPT of its target that arrived in time still waits. -/
theorem handoverWindowEnd_due {s : State} {m : Nat} (ht : s.kn.target = some m) (hm : mramUp s = true) (hd : s.kn.windowEnd ≤ now s)
    (hw : ∀ r ∈ s.kn.waiting, r.master = m → r.cmd = 5 → s.kn.windowEnd ≤ r.arr) :
    handoverWindowEnd s = ownChange s (noOffer s.kn) 7 0xFF 0 0 0 := by
  have hin : inService s .control = true := (Bool.and_eq_true _ _ ▸ hm : _ ∧ _).1
  have hfree : s.kn.waiting.any (fun r => r.master == m && r.cmd == 5 && decide (r.arr < s.kn.windowEnd) &&
      (m != 3 || r.node == s.kn.targetNode)) = false := by
    rw [List.any_eq_false]
    intro r hr hwaits
    simp only [Bool.and_eq_true, beq_iff_eq, decide_eq_true_eq] at hwaits
    obtain ⟨⟨⟨hmaster, hcmd⟩, harr⟩, -⟩ := hwaits
    exact absurd (hw r hr hmaster hcmd) (Nat.not_le.mpr harr)
  unfold handoverWindowEnd
  rw [ht]
  dsimp only
  rw [hfree, if_neg (by simp [hin, hd])]

theorem lapse_keanakOnly (s : State) : KeanakOnly s (lapse s) :=
  (ownChange_keanakOnly s _ _ _ _ _ _).trans (signal_out _ _).1.keanakOnly

/-- Settles O53: a command whose own condition fails is answered and changes nothing else; a deadline that has come makes one recorded
change of ownership, and one that has not makes none. -/
theorem ownershipRefusalsAndEnds : Obligations.OwnershipRefusalsAndEnds := by
  unfold Obligations.OwnershipRefusalsAndEnds
  refine ⟨?claim, ?takeover, ?accept, ?lapses, ?stays, ?ends, ?waits⟩
  case claim =>
    intro s r h hlease ho
    obtain ⟨hframe, hrest⟩ := knFails_of h rfl (claimRun_owned (a := begun s _ r) hlease (by rw [begun_kn]; exact ho))
    exact ⟨_, exec_eq_next rfl rfl rfl hframe.pending_eq, hframe, hrest⟩
  case takeover =>
    intro s r h hlease hor
    obtain ⟨hframe, hrest⟩ := knFails_of h rfl (takeoverRun_refused (a := begun s _ r) hlease
      (by rw [(Twins.of_shown (shown_begun s _ r)).read (·.pins.stewardN)]; exact hor))
    exact ⟨_, exec_eq_next rfl rfl rfl hframe.pending_eq, hframe, hrest⟩
  case accept =>
    intro s r h hor
    obtain ⟨hframe, hrest⟩ := knFails_of h rfl (acceptRun_refused (a := begun s _ r) (by rw [begun_kn]; exact hor))
    exact ⟨_, exec_eq_next rfl rfl rfl hframe.pending_eq, hframe, hrest⟩
  case lapses =>
    intro s ho hm hd hw
    obtain ⟨hown, hseq, hwait⟩ := ownChange_kn hm (unowned s.kn) 7 0xFF 0 0 0
    rw [ownership_unowned] at hown
    simp only [ownership, Prod.mk.injEq] at hown
    obtain ⟨howner, -, -, -, -, htarget, -⟩ := hown
    refine ⟨lapse s, exec_eq_next rfl rfl (leaseLapse_due ho hm hd hw) (lapse_keanakOnly s).pending_eq, ?_, ?_, ?_, ?_,
      lapse_keanakOnly s⟩ <;> rw [lapse, signal_kn]
    exacts [howner, htarget, hseq, hwait]
  case stays => exact fun s h => exec_eq_next rfl rfl (leaseLapse_early h) rfl
  case ends =>
    intro s m ht hm hd hw
    obtain ⟨hown, hseq, hwait⟩ := ownChange_kn hm (noOffer s.kn) 7 0xFF 0 0 0
    have honly := ownChange_keanakOnly s (noOffer s.kn) 7 0xFF 0 0 0
    simp only [ownership, noOffer, Prod.mk.injEq] at hown
    obtain ⟨howner, -, -, -, hlease, htarget, -⟩ := hown
    exact ⟨_, exec_eq_next rfl rfl (handoverWindowEnd_due ht hm hd hw) honly.pending_eq, howner, hlease, htarget, hseq, hwait, honly⟩
  case waits => exact fun s h => exec_eq_next rfl rfl (handoverWindowEnd_early h) rfl

end Sys2Proof.Machine
end

section
/-! PROOFS. Fault windows, reactions and their shadows, forced trains and the outages that boundaries see: the statement O24. -/

namespace Sys2Proof.Machine

/- The proofs below run one at a time: each waits for those it cites, and many that wait need many threads. -/
set_option Elab.async false

open Sys2Proof

/-! ### Windows (R420) -/

theorem windowClosed_over {s : State} {f : Nat} (hc : (fsrcAt s f).count ≠ 0) (hend : (fsrcAt s f).winEnd ≤ nt16 s) :
    windowClosed s f = { fsrcAt s f with count := 0 } := if_pos ⟨hc, hend⟩

theorem windowClosed_running {s : State} {f : Nat} (h : nt16 s < (fsrcAt s f).winEnd) : windowClosed s f = fsrcAt s f :=
  if_neg fun hover => absurd hover.2 (Nat.not_le.mpr h)

theorem fsrcAt_setFsrc_self (s : State) (f g : Nat) : fsrcAt (setFsrc s f (fsrcAt s f)) g = fsrcAt s g := by
  by_cases h : g = f
  · rw [h, fsrcAt_setFsrc]
  · exact fsrcAt_setFsrc_ne s f g _ h

/-! ### Instants -/

theorem due_of_le {s : State} {t : Nat} (h : t ≤ now s) : due s t = true := decide_eq_true h

theorem due_of_lt {s : State} {t : Nat} (h : now s < t) : due s t = false := decide_eq_false (Nat.not_le.mpr h)

/-! ### Reactions and shadows (R423 to R426) -/

section

variable {s : State} {id : Nat} {r : React}

theorem reactionEnd_waits (hr : reactOf s id = some r) (h : r.done = true ∨ now s < r.resetEnd) : reactionEnd s id = s := by
  unfold reactionEnd
  rw [hr]
  refine if_pos ?_
  rcases h with h | h
  · simp [h]
  · simp [due_of_lt h]

/-- The reset of a reaction narrower than a region's restart ends at its instant, and is signalled. -/
theorem reactionEnd_due (hr : reactOf s id = some r) (hdone : r.done = false) (hcode : r.code < 6) (hend : r.resetEnd ≤ now s) :
    reactionEnd s id = signal (afterReset { s with flt := { s.flt with
      reacts := s.flt.reacts.map (fun o => if o.id = id then { o with done := true } else o) } } r) 1737 := by
  have h6 : (r.code == 6) = false := beq_false_of_ne (by omega)
  have h7 : (r.code == 7) = false := beq_false_of_ne (by omega)
  unfold reactionEnd
  rw [hr]
  exact if_neg (by simp [hdone, due_of_le hend, h6, h7])

theorem shadowEnd_waits (hr : reactOf s id = some r) (h : r.done = false ∨ r.test = true ∨ now s < r.shadowEnd) : shadowEnd s id = s := by
  unfold shadowEnd
  rw [hr]
  refine if_pos ?_
  rcases h with h | h | h
  · simp [h]
  · simp [h]
  · simp [due_of_lt h]

theorem shadowEnd_due (hr : reactOf s id = some r) (hdone : r.done = true) (htest : r.test = false) (hend : r.shadowEnd ≤ now s) :
    shadowEnd s id = latchRec { s with flt := { s.flt with reacts := s.flt.reacts.filter (fun o => o.id != id) } } r.src
      { kind := 2, detail := r.hits, id := id, reaction := r.code } := by
  unfold shadowEnd
  rw [hr]
  exact if_neg (by simp [hdone, htest, due_of_le hend])

end

/-! ### Forced trains (R429, R430) -/

theorem forcedEvent_due {s : State} {f : Nat} (h : forceDue s f = true) : forcedEvent s f =
    feedWith reactReset (forceTaken s f) f (fsrcAt s f).fLoc (fsrcAt s f).fDetail false true (fsrcAt s f).fRecOnly := if_pos h

theorem forcedEvent_unforced {s : State} {f : Nat} (h : (fsrcAt s f).force = false) : forcedEvent s f = s :=
  if_neg (by simp [forceDue, h])

/-- Whether a source is enabled stands in its entry alone. -/
theorem fsrcCfg_enable (s : State) (f : Nat) : (fsrcCfg s f).enable = (fsrcAt s f).enable := by
  unfold fsrcCfg
  dsimp only
  split <;> rfl

/-- A forced event of a source that is off is no event. -/
theorem feedWith_forced_off {rst : State → Nat → Nat → State} {s : State} {f : Nat} (h : (fsrcCfg s f).enable = false)
    (loc detail : Nat) (recOnly : Bool) : feedWith rst s f loc detail false true recOnly = s := by
  unfold feedWith
  dsimp only
  rw [if_pos (by simp [h]), if_neg Bool.false_ne_true]

/-! ### Outages that a boundary sees (R418, R427) -/

section

variable {s : State} {f nb : Nat}

theorem boundaryDetect_known (hb : (fsrcAt s f).boundary = some nb) (hbusy : unitBusy s nb = true) : boundaryDetect s f nb = s :=
  if_pos ⟨hb, hbusy⟩

/-- The outage of a neighbour that neither resets nor is tested is an event of the boundary's own. -/
theorem boundaryDetect_alone (hb : (fsrcAt s f).boundary ≠ some nb) (hr : s.flt.reacts = []) (ht : s.flt.tests = []) :
    boundaryDetect s f nb = feed (setFsrc s f { fsrcAt s f with boundary := some nb }) f 0 (2 ^ 31) := by
  unfold boundaryDetect
  dsimp only
  rw [if_neg fun h => hb h.1, hr, ht]
  rfl

/-- The outage of a neighbour in reset is consequential: it is counted and recorded with the reaction's ID. -/
theorem boundaryDetect_consequential {r : React} (hb : (fsrcAt s f).boundary ≠ some nb) (hr : s.flt.reacts = [r])
    (hdone : r.done = false) (hnb : inScope r nb = true) (hf : inScope r f = false) (hon : (fsrcCfg s f).enable = true) :
    boundaryDetect s f nb = latchRec (count (setFsrc s f { fsrcAt s f with boundary := some nb }) 0x0C f 0) f
      { detail := 2 ^ 31, isNative := true, cons := true, id := r.id, count := (windowClosed s f).count
        severity := b2n (fsrcCfg s f).degraded } := by
  have hruns : [r].filter (fun r => !r.done && inScope r nb && !inScope r f) = [r] := by simp [hdone, hnb, hf]
  unfold boundaryDetect
  dsimp only
  rw [if_neg fun h => hb h.1, hr, hruns]
  exact if_neg (by simp [hon])

end

/-- Settles O24: each event acts once its instant has come and leaves the part as it is before it; an outage is seen once, and while
its neighbour is in reset it is consequential. -/
theorem reactionsAndForcedEvents : Obligations.ReactionsAndForcedEvents := by
  unfold Obligations.ReactionsAndForcedEvents
  refine ⟨?window, ?inWindow, ?reaction, ?reactionWaits, ?shadow, ?shadowWaits, ?forced, ?unforced, ?known, ?alone, ?consequential⟩
  case window => exact fun s f hw hc hend => exec_eq_next rfl hw (congrArg (setFsrc s f) (windowClosed_over hc hend)) rfl
  case inWindow =>
    exact fun s f hw h =>
      ⟨_, exec_eq_next rfl hw (congrArg (setFsrc s f) (windowClosed_running h)) rfl, fun g => fsrcAt_setFsrc_self s f g⟩
  case reaction => exact fun s id r hw hr hdone hcode hend => exec_eq_keeping rfl hw (reactionEnd_due hr hdone hcode hend)
  case reactionWaits => exact fun s id r hw hr h => exec_eq_next rfl hw (reactionEnd_waits hr h) rfl
  case shadow => exact fun s id r hw hr hdone htest hend => exec_eq_keeping rfl hw (shadowEnd_due hr hdone htest hend)
  case shadowWaits => exact fun s id r hw hr h => exec_eq_next rfl hw (shadowEnd_waits hr h) rfl
  case forced =>
    intro s f hw hdue x u
    have hev := forcedEvent_due hdue
    refine ⟨exec_eq_keeping rfl hw hev, fun hoff => exec_eq_next rfl hw (hev.trans (feedWith_forced_off ?_ _ _ _)) rfl⟩
    rw [fsrcCfg_enable] at hoff ⊢
    rw [forceTaken, fsrcAt_setFsrc]
    exact hoff
  case unforced => exact fun s f hw h => exec_eq_next rfl hw (forcedEvent_unforced h) rfl
  case known => exact fun s f nb hw hb hbusy => exec_eq_next rfl hw (boundaryDetect_known hb hbusy) rfl
  case alone => exact fun s f nb hw hb hr ht => exec_eq_keeping rfl hw (boundaryDetect_alone hb hr ht)
  case consequential =>
    exact fun s f nb r hw hb hr hdone hnb hf hon => exec_eq_keeping rfl hw (boundaryDetect_consequential hb hr hdone hnb hf hon)

end Sys2Proof.Machine
end

section
/-! PROOFS. Drives that mount, are formatted and answer reads: the statement O32. -/

namespace Sys2Proof.Machine

/- The proofs below run one at a time: each waits for those it cites, and many that wait need many threads. -/
set_option Elab.async false

open Sys2Proof

/-! ### Drives -/

theorem setDrive_driveAt (s : State) (d : Nat) : setDrive s d (driveAt s d) = s := by
  unfold setDrive driveAt
  split <;> rfl

theorem driveAt_keeping (s t : State) (d : Nat) : driveAt (keeping s t) d = driveAt t d := rfl

theorem driveAt_unseen {s t : State} (h : Unseen s t) (d : Nat) : driveAt t d = driveAt s d := h.read (driveAt · d)

/-! ### A drive takes a state (R377, R378) -/

/-- A drive that was not recording takes a state and keeps all else. -/
theorem driveAt_setDriveState {s : State} {d : Nat} {st : DriveSt} (hne : (driveAt s d).state ≠ st)
    (hrec : (driveAt s d).state ≠ .recording) : driveAt (setDriveState s d st) d = { driveAt s d with state := st } := by
  have hset := driveAt_unseen (signal_unseen (setDrive s d { driveAt s d with state := st }) (1787 + d)) d
  rw [driveAt_setDrive] at hset
  unfold setDriveState
  dsimp only
  rw [if_neg hne, if_neg hrec]
  split
  · exact (driveAt_unseen (countN_unseen _ _ _ _ _) d).trans hset
  · split
    · exact (driveAt_unseen (setThreshold_unseen _ d) d).trans hset
    · exact hset

theorem driveTo_quiet {st : DriveSt} (hst : st ≠ .stalled) (hst' : st ≠ .failed) (s : State) (d : Nat) :
    driveTo s d st = serveReads (pump (setDriveState s d st) d) d := by
  unfold driveTo
  dsimp only
  rw [if_neg (by simp [hst, hst'])]

theorem serveReads_idle {s : State} {d : Nat} (hheld : (driveAt s d).readsHeld = []) (hissued : (driveAt s d).readIssued = []) :
    serveReads s d = s := by
  unfold serveReads
  dsimp only
  rw [hheld, hissued]
  split
  · rfl
  · split <;> rfl

/-! ### The write queue goes on (R368) -/

theorem issueWrite_rests {s : State} {d : Nat} (h : (driveAt s d).state ≠ .recording) (h' : (driveAt s d).state ≠ .disabled) :
    issueWrite s d = s := if_pos (.inl ⟨h, h'⟩)

theorem issueWrite_empty {s : State} {d : Nat} (h : (driveAt s d).staged = []) : issueWrite s d = s := by
  unfold issueWrite
  dsimp only
  rw [h]
  split <;> rfl

/-- A disabled drive writes index blocks and labels only: a write that is issued shows in `writing` alone. -/
theorem issueWrite_disabled {s : State} {d : Nat} (h : (driveAt s d).state = .disabled) :
    ∃ w, driveAt (issueWrite s d) d = { driveAt s d with writing := w } := by
  have hwrite : ∀ (x : Drive) (unit : Nat) (o : Octets), driveAt (nvmeWrite (setDrive s d x) d unit o) d = x := fun x unit o =>
    (driveAt_unseen (nvmeWrite_unseen _ d unit o) d).trans (driveAt_setDrive s d x)
  unfold issueWrite
  dsimp only
  split
  · exact ⟨_, rfl⟩
  split
  · exact ⟨_, rfl⟩
  split
  · rw [if_pos (by simp [h])]
    exact ⟨_, rfl⟩
  · exact ⟨_, hwrite _ _ _⟩

theorem pump_of_not_recording {s : State} {d : Nat} (h : (driveAt s d).state ≠ .recording) : pump s d = issueWrite s d := by
  unfold pump
  dsimp only
  rw [if_neg h]

/-- With nothing staged and the write pointer within a group the write queue rests. -/
theorem pump_empty {s : State} {d : Nat} (h : (driveAt s d).staged = []) (hptr : ((driveAt s d).ptr - 2) % 65 ≠ 64) : pump s d = s := by
  have hindex : stageIndex (driveAt s d) d = driveAt s d := if_neg fun hfull => hptr hfull.1
  unfold pump
  dsimp only
  rw [hindex, setDrive_driveAt, ite_self, issueWrite_empty h]

/-! ### A drive in INIT or FORMATTING takes its next state -/

section

variable {s : State} {d : Nat} {x : Drive}

theorem driveTo_unformatted (hst : x.state = .init) (hheld : x.readsHeld = []) (hissued : x.readIssued = []) :
    driveAt (driveTo (setDrive s d x) d .unformatted) d = { x with state := .unformatted } := by
  have hset := driveAt_setDriveState (s := setDrive s d x) (d := d) (st := .unformatted) (by simp [hst]) (by simp [hst])
  rw [driveAt_setDrive] at hset
  rw [driveTo_quiet (by decide) (by decide), pump_of_not_recording (by rw [hset]; simp),
    issueWrite_rests (by rw [hset]; simp) (by rw [hset]; simp), serveReads_idle (by rw [hset]; exact hheld) (by rw [hset]; exact hissued),
    hset]

theorem driveTo_disabled (hst : x.state = .init) (hheld : x.readsHeld = []) (hissued : x.readIssued = []) :
    ∃ w, driveAt (driveTo (setDrive s d x) d .disabled) d = { x with state := .disabled, writing := w } := by
  have hset := driveAt_setDriveState (s := setDrive s d x) (d := d) (st := .disabled) (by simp [hst]) (by simp [hst])
  rw [driveAt_setDrive] at hset
  obtain ⟨w, hw⟩ := issueWrite_disabled (s := setDriveState (setDrive s d x) d .disabled) (d := d) (by rw [hset])
  rw [hset] at hw
  refine ⟨w, ?_⟩
  rw [driveTo_quiet (by decide) (by decide), pump_of_not_recording (by rw [hset]; simp),
    serveReads_idle (by rw [hw]; exact hheld) (by rw [hw]; exact hissued), hw]

theorem driveTo_recording_empty {a : State} (hst : (driveAt a d).state = .formatting) (hstaged : (driveAt a d).staged = [])
    (hptr : (driveAt a d).ptr = 2) (hheld : (driveAt a d).readsHeld = []) (hissued : (driveAt a d).readIssued = []) :
    driveAt (driveTo a d .recording) d = { driveAt a d with state := .recording } := by
  have hset := driveAt_setDriveState (s := a) (d := d) (st := .recording) (by simp [hst]) (by simp [hst])
  rw [driveTo_quiet (by decide) (by decide), pump_empty (by rw [hset]; exact hstaged) (by rw [hset]; simp [hptr]),
    serveReads_idle (by rw [hset]; exact hheld) (by rw [hset]; exact hissued), hset]

end

/-! ### Mounts (R365, R367, R369, R373) -/

theorem initCheck_good {m : MountData} (hver : 0x00010400 ≤ m.version) (hlba : m.lba = 512 ∨ m.lba = 4096) (hmeta : m.metadata = 0)
    (hmdts : m.mdts = 0 ∨ 131072 ≤ m.mdts) (hdepth : 256 ≤ m.depth) : initCheck m = 0 := by
  unfold initCheck
  rw [if_neg (by omega), if_neg (by omega), if_neg (by omega), if_neg (by omega)]

/-- What a mount of a drive with nothing staged takes from its label, and what it keeps. -/
theorem mounted_fields {x : Drive} (h : x.staged = []) (d : Nat) (m : MountData) (copy : Nat) (lab : Octets) :
    (mounted d m x copy lab).state = x.state ∧ (mounted d m x copy lab).readsHeld = x.readsHeld ∧
      (mounted d m x copy lab).readIssued = x.readIssued ∧ (mounted d m x copy lab).seals = labelSeals lab ∧
      (mounted d m x copy lab).labelSeq = leAt lab 8 8 := by
  unfold mounted
  dsimp only
  rw [h]
  simp only [List.any_nil, Bool.false_eq_true, if_false]
  split <;> exact ⟨rfl, rfl, rfl, rfl, rfl⟩

section

variable {s : State} {d : Nat} {m : MountData}

theorem driveMountDone_rests (h : (driveAt s d).state ≠ .init) : driveMountDone s d m = s := if_pos (.inl h)

theorem driveMountDone_init (hst : (driveAt s d).state = .init) (hin : inService s .record = true) : driveMountDone s d m =
    if initCheck m ≠ 0 then driveTo (setDrive s d { driveAt s d with reason := initCheck m }) d .failed
    else if groupsOf m.units < 32 then
      driveTo (setDrive s d { driveAt s d with units := m.units, lba := m.lba, reason := 5 }) d .unformatted
    else match validLabel m with
      | none => driveTo (setDrive s d { driveAt s d with units := m.units, lba := m.lba, reason := 0 }) d .unformatted
      | some (copy, lab) => driveTo (setDrive s d (mounted d m (driveAt s d) copy lab)) d
          (if (driveAt s d).disabledByOwner then .disabled else .recording) := by
  exact if_neg (by simp [hst, hin])

theorem driveMountDone_fails {c : Nat} (hst : (driveAt s d).state = .init) (hin : inService s .record = true) (hc : initCheck m = c)
    (h0 : c ≠ 0) : driveMountDone s d m = driveTo (setDrive s d { driveAt s d with reason := c }) d .failed := by
  subst hc
  rw [driveMountDone_init hst hin, if_pos h0]

theorem driveMountDone_small (hst : (driveAt s d).state = .init) (hin : inService s .record = true) (hc : initCheck m = 0)
    (hsmall : groupsOf m.units < 32) : driveMountDone s d m =
      driveTo (setDrive s d { driveAt s d with units := m.units, lba := m.lba, reason := 5 }) d .unformatted := by
  rw [driveMountDone_init hst hin, if_neg (by simp [hc]), if_pos hsmall]

theorem driveMountDone_unlabelled (hst : (driveAt s d).state = .init) (hin : inService s .record = true) (hc : initCheck m = 0)
    (hsize : 32 ≤ groupsOf m.units) (hlab : validLabel m = none) : driveMountDone s d m =
      driveTo (setDrive s d { driveAt s d with units := m.units, lba := m.lba, reason := 0 }) d .unformatted := by
  rw [driveMountDone_init hst hin, if_neg (by simp [hc]), if_neg (by omega), hlab]

theorem driveMountDone_mounts {c : Nat} {l : Octets} (hst : (driveAt s d).state = .init) (hin : inService s .record = true)
    (hc : initCheck m = 0) (hsize : 32 ≤ groupsOf m.units) (hlab : validLabel m = some (c, l)) : driveMountDone s d m =
      driveTo (setDrive s d (mounted d m (driveAt s d) c l)) d (if (driveAt s d).disabledByOwner then .disabled else .recording) := by
  rw [driveMountDone_init hst hin, if_neg (by simp [hc]), if_neg (by omega), hlab]

end

/-! ### Formats (R371) -/

/-- A drive whose format has completed: both labels are written without seals, and every sequence starts at 0. -/
def formatted (s : State) (x : Drive) : Drive :=
  { x with seals := [], liveSeals := [], ranges := [], formatTime := ntNs s % 2 ^ 64, labelSerial := Config.partSerial, ptr := 2
           wseq := 0, segSeqs := [], group := [], staged := [], labelSeq := x.labelSeq + 2, labelCopy := 1
           disabledByOwner := false, disabling := false, reason := 0 }

theorem formatDone_failed (s : State) (d : Nat) : formatDone s d false = s := if_pos (.inr (.inl rfl))

theorem formatDone_completes {s : State} {d : Nat} (hst : (driveAt s d).state = .formatting) (hin : inService s .record = true) :
    ∃ a, formatDone s d true = driveTo a d .recording ∧ driveAt a d = formatted s (driveAt s d) := by
  unfold formatDone
  dsimp only
  rw [if_neg (by simp [hst, hin])]
  exact ⟨_, rfl, (driveAt_unseen ((emit_unseen _ _).trans (emit_unseen _ _)) d).trans (driveAt_setDrive s d _)⟩

/-! ### Reads that a drive answers (R381) -/

section

variable {s : State} {d st k : Nat} {o : Octets} {rest : List Nat}

theorem recordReadDone_none (h : (driveAt s d).readIssued = []) : recordReadDone s d st o = s := by
  unfold recordReadDone
  dsimp only
  rw [h]

theorem recordReadDone_gone (h : (driveAt s d).readIssued = k :: rest) (hlive : driveLive s d = true) (hjob : keyJob s k = none) :
    recordReadDone s d st o = setDrive s d ((driveAt s d).dropRead k) := by
  unfold recordReadDone
  dsimp only
  rw [h]
  dsimp only
  rw [if_neg (by simp [hlive]), hjob]

theorem recordReadDone_answers {j : Job} (h : (driveAt s d).readIssued = k :: rest) (hlive : driveLive s d = true)
    (hjob : keyJob s k = some j) (hmay : mayIssue s j.q = true) : recordReadDone s d st o =
      if st ≠ 0 then count (readDone (setDrive s d ((driveAt s d).dropRead k)) j 2 st [] false) 0x0A (256 + d) 8
      else readDone (setDrive s d ((driveAt s d).dropRead k)) j 0 0 (o.take (dLen j.desc)) false := by
  unfold recordReadDone
  dsimp only
  rw [h]
  dsimp only
  rw [if_neg (by simp [hlive]), hjob]
  dsimp only
  rw [if_neg (by simp [hmay])]

end

/-- Settles O32: a mount and a format take the drive to the state that their outcome gives it, and an answered read leaves the drive's
list and completes its job. -/
theorem mountsFormatsAndRecordReads : Obligations.MountsFormatsAndRecordReads := by
  unfold Obligations.MountsFormatsAndRecordReads
  refine ⟨?fails, ?mounts, ?rests, ?formats, ?formatFails, ?answers, ?none⟩
  case fails =>
    intro s d m hw hst hin fails lbaOk
    have hfails : ∀ c, initCheck m = c → c ≠ 0 → fails c := fun c hc h0 =>
      exec_eq_keeping rfl hw (driveMountDone_fails hst hin hc h0)
    refine ⟨fun hver => hfails 1 (if_pos hver) (by decide), fun hver hlba => hfails 2 ?_ (by decide),
      fun hver hlba h0 hmdts => hfails 3 ?_ (by decide), fun hver hlba hmdts hdepth => hfails 4 ?_ (by decide)⟩ <;>
      unfold initCheck
    · rw [if_neg (by omega), if_pos (by simp only [lbaOk] at hlba; omega)]
    · rw [if_neg (by omega), if_neg (by simp only [lbaOk] at hlba; omega), if_pos ⟨h0, hmdts⟩]
    · rw [if_neg (by omega), if_neg (by simp only [lbaOk] at hlba; omega), if_neg (by omega), if_pos hdepth]
  case mounts =>
    intro s d m hw hst hin hver hlba hmeta hmdts hdepth hheld hissued
    have hc := initCheck_good hver hlba hmeta hmdts hdepth
    refine ⟨fun hsmall => ?_, fun hsize hlab => ?_, fun c l hsize hlab hoff hstaged => ?_, fun c l hsize hlab hoff => ?_⟩
    · have hx := driveTo_unformatted (s := s) (d := d) (x := { driveAt s d with units := m.units, lba := m.lba, reason := 5 }) hst hheld
        hissued
      refine ⟨_, exec_eq_keeping rfl hw (driveMountDone_small hst hin hc hsmall), ?_, ?_, ?_⟩ <;> rw [driveAt_keeping, hx]
    · have hx := driveTo_unformatted (s := s) (d := d) (x := { driveAt s d with units := m.units, lba := m.lba, reason := 0 }) hst hheld
        hissued
      refine ⟨_, exec_eq_keeping rfl hw (driveMountDone_unlabelled hst hin hc hsize hlab), ?_, ?_, ?_, ?_⟩ <;> rw [driveAt_keeping, hx]
    · obtain ⟨hst', hheld', hissued', hseals, hseq⟩ := mounted_fields hstaged d m c l
      obtain ⟨w, hx⟩ := driveTo_disabled (s := s) (d := d) (hst'.trans hst) (hheld'.trans hheld) (hissued'.trans hissued)
      have hrow := (driveMountDone_mounts hst hin hc hsize hlab).trans (by rw [hoff, if_pos rfl])
      refine ⟨_, exec_eq_keeping rfl hw hrow, ?_, ?_, ?_⟩ <;> rw [driveAt_keeping, hx]
      exacts [hseals, hseq]
    · exact exec_eq_keeping rfl hw ((driveMountDone_mounts hst hin hc hsize hlab).trans (by rw [hoff, if_neg Bool.false_ne_true]))
  case rests => exact fun s d m hw hst => exec_eq_next rfl hw (driveMountDone_rests hst) rfl
  case formats =>
    intro s d hw hst hin hheld hissued
    obtain ⟨a, hrow, ha⟩ := formatDone_completes hst hin
    have hx := driveTo_recording_empty (a := a) (d := d) (by rw [ha]; exact hst) (by rw [ha]; rfl) (by rw [ha]; rfl)
      (by rw [ha]; exact hheld) (by rw [ha]; exact hissued)
    rw [ha] at hx
    refine ⟨_, exec_eq_keeping rfl hw hrow, ?_⟩
    rw [driveAt_keeping, hx]
    exact ⟨rfl, rfl, rfl, rfl, rfl, rfl, rfl, rfl⟩
  case formatFails => exact fun s d hw => exec_eq_next rfl hw (formatDone_failed s d) rfl
  case answers =>
    intro s d st o k rest hw hk hlive
    refine ⟨fun hjob => exec_eq_next rfl hw (recordReadDone_gone hk hlive hjob) (setDrive_pending s d _), ?_⟩
    intro j hjob hmay u
    have hrow := recordReadDone_answers (st := st) (o := o) hk hlive hjob hmay
    exact ⟨fun h0 => exec_eq_keeping rfl hw (hrow.trans (if_neg (by simp [h0]))),
      fun h0 => exec_eq_keeping rfl hw (hrow.trans (if_pos h0))⟩
  case none => exact fun s d st o hw h => exec_eq_next rfl hw (recordReadDone_none h) rfl

end Sys2Proof.Machine
end

section
/-! PROOFS. Requests of mailboxes, management frames and the console, and the marks of held requests: the statement O18. -/

namespace Sys2Proof.Machine

/- The proofs below run one at a time: each waits for those it cites, and many that wait need many threads. -/
set_option Elab.async false

open Sys2Proof

/-! ### Marks of held requests (R27, R386) -/

/-- What the marking of mailboxes changes: their HELD, and counters. -/
structure HeldOnly (s t : State) : Prop where
  frame : KnFrame s t
  waiting : t.kn.waiting = s.kn.waiting
  mbx : ∀ m, { mbxAt t m with held := false } = { mbxAt s m with held := false }

namespace HeldOnly

theorem refl (s : State) : HeldOnly s s := ⟨.refl s, rfl, fun _ => rfl⟩

theorem trans {s t u : State} (h : HeldOnly s t) (g : HeldOnly t u) : HeldOnly s u :=
  ⟨h.frame.trans g.frame, g.waiting.trans h.waiting, fun m => (g.mbx m).trans (h.mbx m)⟩

theorem foldl {β : Type} {f : State → β → State} (hf : ∀ s b, HeldOnly s (f s b)) (l : List β) (s : State) : HeldOnly s (l.foldl f s) := by
  induction l generalizing s with
  | nil => exact refl s
  | cons b l ih => exact (hf s b).trans (ih _)

end HeldOnly

theorem OutFrame.heldOnly {s t : State} (h : OutFrame s t) : HeldOnly s t :=
  ⟨h.1, by rw [h.2], fun m => by rw [mbxAt, h.2, mbxAt]⟩

theorem setHeld_heldOnly (s : State) (m : Nat) (b : Bool) : HeldOnly s (setMbx s m { mbxAt s m with held := b }) := by
  refine ⟨setMbx_frame s m _, rfl, fun j => ?_⟩
  by_cases h : j = m
  · rw [h, mbxAt_setMbx]
  · rw [mbxAt_setMbx_ne s m j _ h]

theorem setWaiting_frame (s : State) (l : List Request) : KnFrame s { s with kn := { s.kn with waiting := l } } := by simp [KnFrame]

/-- The marks follow the regions: mailboxes keep all but HELD, and the waiting requests carry the new marks. -/
theorem updateHeld_marks (s : State) : KnFrame s (updateHeld s) ∧
    (updateHeld s).kn.waiting = s.kn.waiting.map (fun r => { r with held := heldNow s r }) ∧
    ∀ m, { mbxAt (updateHeld s) m with held := false } = { mbxAt s m with held := false } := by
  unfold updateHeld
  extract_lets one s1
  have hone : ∀ t r, HeldOnly t (one t r) := by
    intro t r
    have hmark : HeldOnly t (if r.master < 3 then setMbx t r.master { mbxAt t r.master with held := heldNow s r } else t) := by
      split
      · exact setHeld_heldOnly t r.master _
      · exact .refl t
    simp only [one]
    split
    · exact hmark.trans (countN_out _ _ _ _ _).heldOnly
    · exact hmark
  have hround : HeldOnly s s1 := .foldl hone _ s
  refine ⟨hround.frame.trans (setWaiting_frame s1 _), ?_, hround.mbx⟩
  rw [hround.waiting]

/-- Whether a request is held rests on the regions alone. -/
theorem heldNow_congr {s a : State} (h : KnFrame s a) (r : Request) : heldNow a r = heldNow s r := by
  simp only [heldNow, inService, mramUp, h.regs_eq, h.clk_eq]

/-- An answer shows the owner and the fallback mode of any state that differs in Keanak's own queue and mailboxes. -/
theorem Answered.congr {s a t : State} {r : Request} {st d : Nat} {res b : Octets} (h : KnFrame s a) (g : Answered a t r st d res b) :
    Answered s t r st d res b := by
  unfold Answered at g ⊢
  rw [respImage_congr h] at g
  exact g

/-! ### Requests that are submitted (R386, R393) -/

/-- A request as it joins the order. -/
def submitted (s : State) (m node : Nat) (image bulk : Octets) (e : RPort) : Request :=
  { master := m, node := node, image := padTo 256 image, bulk := bulk, port := e, arr := now s, win := now s * 2 / 25 }

/-- The state in which a request that no other precedes has joined the order. -/
def joinedAlone (s : State) (r : Request) : State :=
  updateHeld (setMbx { s with kn := { s.kn with waiting := [r] } } r.master { mbxAt s r.master with state := .busy })

theorem joinedAlone_kept (s : State) (r : Request) : KnFrame s (joinedAlone s r) ∧
    (joinedAlone s r).kn.waiting = [{ r with held := heldNow s r }] ∧ (mbxAt (joinedAlone s r) r.master).state = .busy := by
  have hset : KnFrame s (setMbx { s with kn := { s.kn with waiting := [r] } } r.master { mbxAt s r.master with state := .busy }) :=
    (setWaiting_frame s [r]).trans (setMbx_frame _ _ _)
  obtain ⟨hframe, hwait, hmbx⟩ :=
    updateHeld_marks (setMbx { s with kn := { s.kn with waiting := [r] } } r.master { mbxAt s r.master with state := .busy })
  refine ⟨hset.trans hframe, hwait.trans ?_, ?_⟩
  · rw [setMbx, List.map_singleton, ← setMbx, heldNow_congr hset]
  · have hbusy := congrArg Mbx.state (hmbx r.master)
    rw [mbxAt_setMbx] at hbusy
    exact hbusy

theorem submit_alone {s : State} (h : s.kn.waiting = []) (m node : Nat) (image bulk : Octets) (e : RPort) :
    submit s m node image bulk e = answerBad 1 (joinedAlone s (submitted s m node image bulk e)) := by
  have hone : (joinedAlone s (submitted s m node image bulk e)).kn.waiting.length = 1 := by
    rw [(joinedAlone_kept s _).2.1, List.length_singleton]
  rw [← hone]
  unfold submit
  dsimp only
  rw [h]
  rfl

/-- A request whose header fails is answered as soon as it joins, unless it is held. -/
theorem submit_bad {s : State} {m node st : Nat} {image bulk : Octets} {e : RPort} (h : s.kn.waiting = [])
    (hheld : heldNow s (submitted s m node image bulk e) = false) (hb : badHeader (submitted s m node image bulk e) = some st) :
    KnFrame s (submit s m node image bulk e) ∧
      Answered s (submit s m node image bulk e) (submitted s m node image bulk e) st 0 [] [] := by
  rw [submit_alone h]
  generalize hr : submitted s m node image bulk e = r at hheld hb
  have hself : { r with held := false } = r := by rw [← hr, submitted]
  obtain ⟨hframe, hwait, -⟩ := joinedAlone_kept s r
  rw [hheld, hself] at hwait
  have hnext : nextRequest (joinedAlone s r) = some r := by
    simp [nextRequest, hwait, heldNow_congr hframe, hheld]
  have hdrop : KnFrame s (dropRequest (joinedAlone s r) r.master) := hframe.trans (setWaiting_frame _ _)
  have hrow : answerBad 1 (joinedAlone s r) = answer (dropRequest (joinedAlone s r) r.master) r st 0 [] [] := by
    rw [answerBad, hnext]
    simp only [hb]
    exact answerBad.eq_1 _
  obtain ⟨hans, hanswered⟩ := answered_round (KnFrame.refl (dropRequest (joinedAlone s r) r.master)) rfl
    (fun z hz => by simpa using List.of_mem_filter hz) 0 st 0 [] []
  rw [hrow]
  exact ⟨hdrop.trans hans, hanswered.congr hdrop⟩

/-- A request whose header passes waits in its busy mailbox, marked where it is held. -/
theorem submit_good {s : State} {m node : Nat} {image bulk : Octets} {e : RPort} (h : s.kn.waiting = [])
    (hb : badHeader (submitted s m node image bulk e) = none) :
    KnFrame s (submit s m node image bulk e) ∧ (mbxAt (submit s m node image bulk e) m).state = .busy ∧
      (submit s m node image bulk e).kn.waiting =
        [{ submitted s m node image bulk e with held := heldNow s (submitted s m node image bulk e) }] := by
  have hkept := joinedAlone_kept s (submitted s m node image bulk e)
  have hrow : submit s m node image bulk e = joinedAlone s (submitted s m node image bulk e) := by
    rw [submit_alone h, answerBad]
    split
    · rfl
    · rename_i q hq
      have hmem := List.mem_of_find?_eq_some hq
      rw [hkept.2.1, List.mem_singleton] at hmem
      have hb' : badHeader q = none := by rw [hmem]; exact hb
      rw [hb']
  rw [hrow]
  exact ⟨hkept.1, hkept.2.2, hkept.2.1⟩

/-! ### Mailboxes (R386) -/

/-- The bulk that a GO submits with a mailbox's request. -/
def goBulk (s : State) (m : Nat) : Octets :=
  let q : Request := { image := padTo 256 (mbxAt s m).req }
  if q.isBulk then padTo (min q.blen (bulkWindow m)) (mbxAt s m).bulk else []

section

variable {s : State} {m : Nat}

theorem mbxGo_unreached (h : doorbellReaches s m = false) : mbxGo s m = s := if_pos (by simp [h])

theorem mbxGo_busy (h : doorbellReaches s m = true) (hbusy : (mbxAt s m).state = .busy) : mbxGo s m = count s 0x09 m 8 :=
  (if_neg (by simp [h])).trans (if_pos hbusy)

theorem mbxGo_submits (h : doorbellReaches s m = true) (hbusy : (mbxAt s m).state ≠ .busy) :
    mbxGo s m = submit s m 0xFF (mbxAt s m).req (goBulk s m) .east := (if_neg (by simp [h])).trans (if_neg hbusy)

end

/-! ### Management frames (R387) -/

/-- The request that a management frame carries. -/
def mgmtAsked (e : RPort) (h : Hdr) (p : Octets) : Request :=
  { master := 3, node := h.origin, port := e, image := padTo 256 (p.take (16 + min (leAt p 6 2) 240))
    bulk := (p.drop (16 + leAt p 6 2)).take (leAt p 8 4) }

theorem forwardFrom_out (s : State) (e : RPort) (l : Level) (o : Octets) (trunc : Bool) : OutFrame s (forwardFrom s e l o true trunc) :=
  forwardOut_out s _ _ _

/-- A management frame of another node for this one goes on, and its request is taken. -/
theorem mgmtFrameRx_own {s : State} {e : RPort} {o : Octets} (hruns : ctlRuns s = true) (hhdr : hdrCheck s e o (nt16 s) = none)
    (hseg : (parseHdr o).seg = 2) (hmgmt : (parseHdr o).mgmt = true) (hall : (parseHdr o).destAll = false)
    (hdest : (parseHdr o).dest = me s) (horigin : (parseHdr o).origin ≠ me s) (hfcs : fcsGood o = true) (hring : inRing s e = true) :
    mgmtFrameRx s e o =
      mgmtRequest (forwardFrom (ringRxCount s e o) e (levelBy s o) o true false) e (parseHdr o) ((bodyOf o).drop 28) := by
  obtain ⟨hin, hbyp⟩ : inService s .ring = true ∧ s.ring.bypassOn = false := by simpa [ctlRuns] using hruns
  have hup : ((rport s e).state == .down) = false := by
    have hstate : (rport s e).state = .inRing := by simpa [inRing] using hring
    rw [hstate]
    rfl
  have hstrip : stripOwn (ringRxCount s e o) e (parseHdr o) = none :=
    stripOwn_other (by rw [(ringRxCount_unseen s e o).read me]; exact horigin) e
  unfold mgmtFrameRx
  simp [throughBypass_off hbyp, hin, hbyp, hup, hhdr, hseg, hmgmt, hall, hdest, hfcs, hring, hstrip, horigin]

section

variable {s u : State} {e : RPort} {h : Hdr} {p : Octets}

/-- One request of M3 is outstanding at a time. -/
theorem mgmtRequest_busy (hu : KnFrame s u) (hbusy : u.kn.waiting.any (fun x => x.master == 3) = true) :
    mgmtRequest u e h p = sendMgmt u h.origin (respImage s (mgmtAsked e h p) 0x14 0 [] 0) :=
  (if_pos hbusy).trans (by rw [respImage_congr hu]; rfl)

theorem mgmtRequest_submits (hfree : u.kn.waiting.any (fun x => x.master == 3) = false) : mgmtRequest u e h p =
    submit u 3 h.origin (mgmtAsked e h p).image (mgmtAsked e h p).bulk e := if_neg (by simp [hfree])

end

/-! ### The console (R388) -/

section

variable {s : State} {l d img : Octets}

theorem consoleLine_empty (h : l.filter (fun b => b != 10) = []) : consoleLine s l = s := by
  unfold consoleLine
  dsimp only
  rw [h]

theorem consoleLine_unmarked {c : Byte} (h : l.filter (fun b => b != 10) = c :: d) (hc : c ≠ 62) :
    consoleLine s l = count s 0x09 4 10 := by
  unfold consoleLine
  dsimp only
  rw [h]
  dsimp only
  rw [if_neg hc]

theorem consoleLine_undecoded (h : l.filter (fun b => b != 10) = 62 :: d) (hd : hexBytes d = none) :
    consoleLine s l = count s 0x09 4 10 := by
  unfold consoleLine
  dsimp only
  rw [h]
  dsimp only
  rw [if_pos rfl, hd]

/-- A line that spells octets is a request where they are 16 to 256, and no other request of M4 waits. -/
theorem consoleLine_decoded (h : l.filter (fun b => b != 10) = 62 :: d) (hd : hexBytes d = some img) : consoleLine s l =
    if img.length < 16 ∨ 256 < img.length then count s 0x09 4 10
    else if (mbxAt s 4).state = .busy then count s 0x09 4 8 else submit s 4 0xFF img [] .east := by
  unfold consoleLine
  dsimp only
  rw [h]
  dsimp only
  rw [if_pos rfl, hd]

end

/-- Settles O18: a request that reaches Keanak joins the order and waits, or is answered at once; one that comes while its master's
waits is counted, or answered MBX_BUSY; a line that spells no request is counted. -/
theorem requestsReachKeanak : Obligations.RequestsReachKeanak := by
  unfold Obligations.RequestsReachKeanak
  refine ⟨?busy, ?unreached, ?submits, ?mgmt, ?console⟩
  case busy => exact fun s m hw hreach hbusy => exec_eq_next rfl hw (mbxGo_busy hreach hbusy) rfl
  case unreached => exact fun s m hw hreach => exec_eq_next rfl hw (mbxGo_unreached hreach) rfl
  case submits =>
    intro s m hw hreach hbusy hempty q r
    have hrow := mbxGo_submits hreach hbusy
    refine ⟨fun st hheld hb => ?_, fun hb => ?_⟩
    · obtain ⟨hframe, hans⟩ := submit_bad (m := m) (node := 0xFF) (bulk := goBulk s m) (e := .east) hempty hheld hb
      exact ⟨_, exec_eq_next rfl hw hrow hframe.pending_eq, hans⟩
    · obtain ⟨hframe, hstate, hwait⟩ := submit_good (m := m) (node := 0xFF) (bulk := goBulk s m) (e := .east) hempty hb
      exact ⟨_, exec_eq_next rfl hw hrow hframe.pending_eq, hstate, hwait⟩
  case mgmt =>
    intro s e o hw hruns hhdr hseg hmgmt hall hdest horigin hfcs hring u
    have hrow := mgmtFrameRx_own hruns hhdr hseg hmgmt hall hdest horigin hfcs hring
    have hout : OutFrame s u := (ringRxCount_out s e o).trans (forwardFrom_out _ _ _ _ _)
    refine ⟨fun hbusy => exec_eq_keeping rfl hw (hrow.trans (mgmtRequest_busy hout.1 ?_)),
      fun hfree => exec_eq_keeping rfl hw (hrow.trans (mgmtRequest_submits ?_))⟩
    · rw [hout.2]; exact hbusy
    · rw [hout.2]; exact hfree
  case console =>
    intro s l hw k
    refine ⟨fun hk => exec_eq_next rfl hw (consoleLine_empty hk) rfl, fun c d hk hc => exec_eq_next rfl hw (consoleLine_unmarked hk hc) rfl,
      fun d hk hd => exec_eq_next rfl hw (consoleLine_undecoded hk hd) rfl, fun d img hk hd hlen => ?_,
      fun d img hk hd hmin hmax hbusy => ?_, fun d img hk hd hmin hmax hbusy => ?_⟩
    · exact exec_eq_next rfl hw ((consoleLine_decoded hk hd).trans (if_pos hlen)) rfl
    · exact exec_eq_next rfl hw ((consoleLine_decoded hk hd).trans ((if_neg (by omega)).trans (if_pos hbusy))) rfl
    · exact exec_eq_keeping rfl hw ((consoleLine_decoded hk hd).trans ((if_neg (by omega)).trans (if_neg hbusy)))

end Sys2Proof.Machine
end

section
/-! PROOFS. A bypass command of Keanak in the tick of a bypass command of TRS_OP, and the statement O58. -/

namespace Sys2Proof.Machine

/- The proofs below run one at a time: each waits for those it cites, and many that wait need many threads. -/
set_option Elab.async false

open Sys2Proof

/-! ### A bypass command of TRS_OP decides in its tick (R448, R525) -/

/-- A KN_BYPASS whose tick has seen a bypass command of TRS_OP is recorded and changes nothing. -/
theorem bypassRun_decided {s : State} {r : Request} (hobj : r.obj = packageObj) (hrsv : leAt r.params 9 7 = 0) (hact : leAt r.params 8 1 ≤ 1)
    (hup : mramUp s = true) (htrs : s.boot.trsBypass = some (now s)) :
    bypassExe.run s r = .ok (auditChange s r packageObj (some (commandValue s)) (some (leBytes 4 (leAt r.params 8 1)))) [] [] := by
  have hshown := shown_auditChange hup r packageObj (some (commandValue s)) (some (leBytes 4 (leAt r.params 8 1)))
  have hboot := congrArg State.boot hshown
  have hclk := congrArg State.clk hshown
  show bypassRun s r = _
  unfold bypassRun
  dsimp only
  rw [if_neg (not_not.mpr hobj), if_neg (not_not.mpr hrsv), if_neg (by omega)]
  generalize auditChange s r packageObj (some (commandValue s)) (some (leBytes 4 (leAt r.params 8 1))) = a at hboot hclk
  have hnow : now a = now s := congrArg Clocks.tick hclk
  exact congrArg (Res.ok · [] []) (if_pos ((congrArg Boot.trsBypass hboot).trans (htrs.trans (congrArg some hnow.symm))))

theorem knBypass_decided {s : State} {r : Request} (h : Accepted s 0x0905 bypassExe r) (hobj : r.obj = packageObj)
    (hrsv : leAt r.params 9 7 = 0) (hact : leAt r.params 8 1 ≤ 1) (htrs : s.boot.trsBypass = some (now s)) :
    KnWrites .knBypass s r (changeBody s r packageObj (some (commandValue s)) (some (leBytes 4 (leAt r.params 8 1)))) [] id := by
  have hboot := (begun_frame s ⟨0x0905, 2, .w, false⟩ r).boot_eq
  have hvalue : commandValue (begun s ⟨0x0905, 2, .w, false⟩ r) = commandValue s :=
    congrArg (fun b : Boot => leBytes 4 (b2n (bitOf b.cause 5))) hboot
  refine knWrites_of (i := .knBypass) (c := ⟨0x0905, 2, .w, false⟩) (f := id) h rfl rfl rfl ?_ (fun _ => rfl)
  refine (bypassRun_decided hobj hrsv hact (h.mramUp_begun rfl rfl) ?_).trans ?_
  · exact (congrArg Boot.trsBypass hboot).trans (htrs.trans (congrArg some (now_begun _ _ _).symm))
  · rw [hvalue, id]

/-! ### The refutation -/

/-- The bypass command of KN_BYPASS marks itself as the last operation, begun or ended. -/
theorem bypassCommandOn_opLast (s : State) : (bypassCommandOn s).boot.opLast = s.boot.opLast := by
  unfold bypassCommandOn
  dsimp only
  split
  · exact (recordOp_still _ 2).read (·.boot.opLast)
  · rfl

/-- The owner's request to set the bypass command. -/
def bypassRequest : Request where
  master := 0
  image := leBytes 2 0x0905 ++ leBytes 1 3 ++ leBytes 1 0 ++ leBytes 2 7 ++ leBytes 2 16 ++ leBytes 4 0 ++ leBytes 4 0 ++
    leBytes 8 packageObj ++ leBytes 1 1 ++ leBytes 7 0

/-- BYPASS_RELEASE of TRS_OP came in this tick, and the owner asks for the bypass. -/
def bypassAsked : State where
  regs := { out := [] }
  boot := { trsBypass := some 0 }
  kn := { owner := some 0, leaseMs := 1000, waiting := [bypassRequest] }

theorem bypassAsked_accepts : Accepted bypassAsked 0x0905 bypassExe bypassRequest ∧ bypassRequest.obj = packageObj ∧
    leAt bypassRequest.params 9 7 = 0 ∧ leAt bypassRequest.params 8 1 = 1 ∧ bypassAsked.boot.trsBypass = some (now bypassAsked) := by
  decide +kernel

/-- Refutes O58: its clause on KN_BYPASS lets the command take effect whatever the tick holds, but a bypass command of TRS_OP in the same
tick decides (R448, R525), and KN_BYPASS then is recorded and changes nothing. -/
theorem not_knScheduleChanges : ¬ Obligations.KnScheduleChanges := by
  unfold Obligations.KnScheduleChanges
  rintro ⟨-, -, -, -, -, hbypass⟩
  obtain ⟨hacc, hobj, hrsv, hact, htrs⟩ := bypassAsked_accepts
  obtain ⟨a, t, -, -, -, ht, hsaid, -⟩ := hbypass bypassAsked bypassRequest hacc hobj hrsv hact.le
  obtain ⟨b, u, hb, -, -, hu, hdone, -⟩ := knBypass_decided hacc hobj hrsv hact.le htrs
  obtain rfl := Host.Outcome.next.inj (ht.symm.trans hu)
  have hstays : t.boot.opLast = 0 := congrArg Boot.opLast (hdone.boot_eq.trans hb.boot_eq)
  have hmarks : t.boot.opLast = 2 := by
    refine (congrArg Boot.opLast hsaid.boot_eq).trans ?_
    simp only [hact, if_true]
    exact bypassCommandOn_opLast _
  rw [hstays] at hmarks
  exact absurd hmarks (by decide)

end Sys2Proof.Machine
end

section
/-! PROOFS. What a region that leaves service keeps of Keanak: the answers in its mailboxes, the requests that wait, and the other regions. -/

namespace Sys2Proof.Machine

/- The proofs below run one at a time: each waits for those it cites, and many that wait need many threads. -/
set_option Elab.async false

open Sys2Proof

/-! ### What a region that leaves service keeps of Keanak (R23, R27) -/

/-- Two states that agree in the regions in service, and in Keanak's mailboxes and requests. -/
def AnswersKept (s t : State) : Prop := t.regs = s.regs ∧ t.kn.mbx = s.kn.mbx ∧ t.kn.waiting = s.kn.waiting

namespace AnswersKept

theorem refl (s : State) : AnswersKept s s := ⟨rfl, rfl, rfl⟩

theorem trans {s t u : State} (h : AnswersKept s t) (g : AnswersKept t u) : AnswersKept s u :=
  ⟨g.1.trans h.1, g.2.1.trans h.2.1, g.2.2.trans h.2.2⟩

theorem foldl {β : Type} {f : State → β → State} (hf : ∀ s b, AnswersKept s (f s b)) (l : List β) (s : State) :
    AnswersKept s (l.foldl f s) := by
  induction l generalizing s with
  | nil => exact .refl s
  | cons b l ih => exact (hf s b).trans (ih _)

theorem ite {s t u : State} {c : Prop} [Decidable c] (h : AnswersKept s t) (g : AnswersKept s u) :
    AnswersKept s (if c then t else u) := by
  split
  · exact h
  · exact g

/-- States with the same regions and the same Keanak. -/
theorem of_kn {s t : State} (hr : t.regs = s.regs := by rfl) (hk : t.kn = s.kn := by rfl) : AnswersKept s t :=
  ⟨hr, congrArg (·.mbx) hk, congrArg (·.waiting) hk⟩

end AnswersKept

theorem OutFrame.answersKept {s t : State} (h : OutFrame s t) : AnswersKept s t := .of_kn h.1.regs_eq h.2

theorem freeFrame_answersKept (s : State) (n : Nat) : AnswersKept s (freeFrame s n) := .of_kn

theorem finishDest_answersKept (s : State) (n d : Nat) : AnswersKept s (finishDest s n d) :=
  .of_kn ((finishDest_beyond s n d).read (·.regs)) ((finishDest_hostKept s n d).read (·.kn))

theorem perf_answersKept (s : State) (i : Nat) : AnswersKept s (perf s i) := (perf_out s i).answersKept

theorem boundaryDrop_answersKept (s : State) (r : Region) : AnswersKept s (boundaryDrop s r) :=
  (countN_out s _ _ _ 1).answersKept.trans (perf_answersKept _ _)

theorem dropArrivals_answersKept (s : State) (gone : Arrival → Bool) : AnswersKept s (dropArrivals s gone) :=
  AnswersKept.trans (.of_kn) (.foldl (fun _ _ => .of_kn) _ _)

/-! #### Records of the host queues -/

theorem setQ_answersKept (s : State) (q : Nat) (x : QReg) : AnswersKept s (setQ s q x) := .of_kn

theorem signal_answersKept (s : State) (n : Nat) : AnswersKept s (signal s n) := (signal_out s n).answersKept

theorem hostWr_answersKept (s : State) (q addr : Nat) (o : Octets) (n r : Bool) : AnswersKept s (hostWr s q addr o n r) := by
  unfold hostWr
  split
  · exact .refl s
  · exact (((emit_out s _).trans (perfN_out _ _ _)).trans (perf_out _ _)).answersKept

theorem fireCq_answersKept (s : State) (cq ev : Nat) : AnswersKept s (fireCq s cq ev) :=
  .ite (signal_answersKept s _) ((signal_answersKept s _).trans (perf_answersKept _ _))

theorem fireFull_answersKept (s : State) (cq : Nat) : AnswersKept s (fireFull s cq) :=
  .ite ((setQ_answersKept s cq _).trans (fireCq_answersKept _ cq 1)) (.refl s)

theorem cqHalt_answersKept (s : State) (cq idx cqe reason : Nat) : AnswersKept s (cqHalt s cq idx cqe reason) :=
  (((setQ_answersKept s cq _).trans (perf_answersKept _ _)).trans .of_kn).trans (fireCq_answersKept _ cq 2)

theorem cqWrite_answersKept (s : State) (cq cqe : Nat) : AnswersKept s (cqWrite s cq cqe) := by
  unfold cqWrite
  extract_lets c n word addr s1 s2
  have h2 : AnswersKept s s2 := ((hostWr_answersKept s cq _ _ _ _).trans (setQ_answersKept s1 cq _)).trans (perf_answersKept _ _)
  exact .ite (cqHalt_answersKept s cq _ _ _) (.ite (h2.trans (fireCq_answersKept s2 cq 0)) h2)

theorem cqPost_answersKept (s : State) (cq cqe chan : Nat) : AnswersKept s (cqPost s cq cqe chan) :=
  .ite (setQ_answersKept s cq _) (.ite ((setQ_answersKept s cq _).trans (fireFull_answersKept _ cq))
    ((setQ_answersKept s cq _).trans (cqWrite_answersKept _ cq cqe)))

theorem postErr_answersKept (s : State) (q : Nat) : AnswersKept s (postErr s q) := by
  unfold postErr
  split
  · exact .refl s
  · exact (setQ_answersKept s q _).trans (cqPost_answersKept _ _ _ 0)

theorem g1WriteBack_answersKept (s : State) (q : Nat) (j : Job) (status : Nat) : AnswersKept s (g1WriteBack s q j status) := by
  unfold g1WriteBack
  extract_lets x one l s1
  have hone : ∀ t e, AnswersKept t (one t e) := fun t e =>
    .ite ((hostWr_answersKept t q _ _ _ _).trans (signal_answersKept _ _)) (hostWr_answersKept t q _ _ _ _)
  exact (AnswersKept.foldl hone _ s).trans (setQ_answersKept s1 q _)

theorem deadReads_answersKept (s : State) (q : Nat) : AnswersKept s (deadReads s q) := .of_kn

theorem drainCheck_answersKept (s : State) (q : Nat) : AnswersKept s (drainCheck s q) :=
  .ite ((deadReads_answersKept s q).trans (setQ_answersKept _ q _)) (.refl s)

theorem dropJob_answersKept (s : State) (q idx : Nat) : AnswersKept s (dropJob s q idx) := .of_kn

theorem settle_answersKept (n : Nat) (s : State) (q : Nat) : AnswersKept s (settle n s q) := by
  induction n generalizing s with
  | zero => exact .refl s
  | succ n ih =>
    unfold settle
    split
    · exact (postErr_answersKept s q).trans (drainCheck_answersKept _ q)
    · next j _ _ =>
      dsimp only
      generalize hs0 : (if idxDiff (qAt s q).errIdx j.idx < _ then postErr s q else s) = s0
      have h0 : AnswersKept s s0 := hs0 ▸ .ite (postErr_answersKept s q) (.refl s)
      refine .ite ((h0.trans (dropJob_answersKept s0 q j.idx)).trans (.trans ?_ (ih _))) h0
      split
      · exact .refl _
      · exact .ite (g1WriteBack_answersKept _ q j _) (cqPost_answersKept _ _ _ _)

theorem setJob_answersKept (s : State) (j : Job) : AnswersKept s (setJob s j) := .of_kn

theorem dmaEgressDrop_answersKept (s : State) (v : VFrame) : AnswersKept s (dmaEgressDrop s v) := by
  unfold dmaEgressDrop
  split
  · exact .refl s
  · split
    · exact .refl s
    · exact .ite ((setJob_answersKept s _).trans (settle_answersKept 64 _ _)) (setJob_answersKept s _)

/-! #### The Edge region -/

theorem dropQueue_answersKept (s : State) (k ev : Nat) : AnswersKept s (dropQueue s k ev) := by
  have hidle : ∀ t p, AnswersKept t (wfqIdle t p) := fun t p => .ite .of_kn (.refl t)
  have htag : ∀ t p q, AnswersKept t (untagHead t p q) := fun t p q => .ite .of_kn (.refl t)
  have hempty : AnswersKept s (setQueue s k []) := .of_kn
  refine ((hempty.trans (hidle _ _)).trans (htag _ _ _)).trans (.foldl (fun t e => ?_) _ _)
  exact (((dmaEgressDrop_answersKept t _).trans (countN_out _ _ _ _ 1).answersKept).trans (finishDest_answersKept _ _ _)).trans
    (perf_answersKept _ _)

theorem dropPortWork_answersKept (s : State) (p : Nat) : AnswersKept s (dropPortWork s p) := by
  unfold dropPortWork
  extract_lets m fin s1 s2 _ s3 gone
  have hfin : ∀ t h q, AnswersKept t (fin t h q) := fun t h q => by
    cases h with
    | none => exact .refl t
    | some x => exact finishDest_answersKept t x _
  have h1 : AnswersKept s s1 := (hfin s _ _).trans (hfin _ _ _)
  clear_value s1
  have h3 : AnswersKept s1 s3 := .of_kn
  exact (h1.trans h3).trans (.trans .of_kn (.foldl (fun _ _ => .of_kn) _ _))

theorem portReset_answersKept (s : State) (p : Nat) : AnswersKept s (portReset s p) :=
  (dropPortWork_answersKept s p).trans (.foldl (fun t _ => boundaryDrop_answersKept t .edge) _ _)

theorem setPort_answersKept (s : State) (p : Nat) (x : PortSt) : AnswersKept s (setPort s p x) := .of_kn

theorem setPause_answersKept (s : State) (p : Nat) (x : Pause) : AnswersKept s (setPause s p x) := .of_kn

theorem setPre_answersKept (s : State) (p : Nat) (x : Preempt) : AnswersKept s (setPre s p x) := .of_kn

theorem setGptp_answersKept (s : State) (p : Nat) (x : GptpPort) : AnswersKept s (setGptp s p x) := .of_kn

theorem linkGone_answersKept (s : State) (p : Nat) : AnswersKept s (linkGone p s) :=
  (((setPort_answersKept s p _).trans (setPause_answersKept _ p _)).trans (setPre_answersKept _ p _)).trans
    (setGptp_answersKept _ p _)

theorem portLinkDown_answersKept (s : State) (p : Nat) : AnswersKept s (portLinkDown s p) := by
  cases h : (portAt s p).link with
  | false => rw [portLinkDown_unlinked h]; exact .refl s
  | true =>
    rw [portLinkDown_linked h]
    have hwork := ((countPort_out s p 18).trans (perf_out _ (pPort p 9))).answersKept.trans (dropPortWork_answersKept _ p)
    exact (hwork.trans (linkGone_answersKept _ p)).trans (signal_answersKept _ _)

theorem edgeEngineReset_answersKept (s : State) (u : Nat) : AnswersKept s (edgeEngineReset s u) := by
  unfold edgeEngineReset
  split <;> exact .of_kn

theorem edgeDown_answersKept (s : State) : AnswersKept s (edgeDown s) := by
  have hports := AnswersKept.foldl (fun t p => (portReset_answersKept t p).trans (portLinkDown_answersKept _ p)) (List.range 18) s
  have hqueues := hports.trans (.foldl (fun t k => dropQueue_answersKept t k 1) (List.range 144) _)
  exact (hqueues.trans (dropArrivals_answersKept _ _)).trans (.foldl edgeEngineReset_answersKept _ _)

/-! #### The Ring region -/

theorem releaseLocal_answersKept (s : State) (h : Option Nat) (o : Option RFrame) : AnswersKept s (releaseLocal s h o) := by
  unfold releaseLocal
  split
  · exact finishDest_answersKept s _ _
  · exact .refl s

theorem clearEgress_answersKept (s : State) (e : RPort) : AnswersKept s (clearEgress s e) :=
  ((releaseLocal_answersKept s _ _).trans (releaseLocal_answersKept _ _ _)).trans (setRtx_out _ e _).answersKept

theorem cutOwn_answersKept (s : State) (e : RPort) : AnswersKept s (cutOwn s e) :=
  .ite (((countPort_out s (rpIdx e) 30).trans (setRtx_out _ e _)).trans (emit_out _ _)).answersKept (.refl s)

theorem stopTimers_answersKept (s : State) : AnswersKept s (stopTimers s) := .foldl (fun t _ => .ite .of_kn (.refl t)) _ s

theorem syncEnds_answersKept (s : State) (st : RingState) : AnswersKept s (syncEnds s st) := by
  have hcancel : ∀ t, AnswersKept t (cancelLatched (abandon t)) := fun _ => .of_kn
  unfold syncEnds
  extract_lets hold s1
  have h1 : AnswersKept s s1 := ((cutOwn_answersKept s .east).trans (cutOwn_answersKept _ .west)).trans (hcancel _)
  clear_value s1
  exact (h1.trans .of_kn).trans (stopTimers_answersKept _)

theorem goState_answersKept (s : State) (st : RingState) : AnswersKept s (goState s st) :=
  .ite (syncEnds_answersKept s st) (.ite .of_kn .of_kn)

theorem dropOrigin_answersKept (s : State) : AnswersKept s (dropOrigin s) := .of_kn

theorem enterOffline_answersKept (s : State) : AnswersKept s (enterOffline s true) := by
  have hstate : AnswersKept s (if s.ring.state = .offline then s else goState s .offline) :=
    .ite (.refl s) (goState_answersKept s .offline)
  exact hstate.trans (dropOrigin_answersKept _)

theorem slotMemoryReset_answersKept (s : State) : AnswersKept s (slotMemoryReset s) :=
  AnswersKept.trans .of_kn (.foldl (fun t _ => boundaryDrop_answersKept t .ring) _ _)

theorem ringStrainerReset_answersKept (s : State) : AnswersKept s (ringStrainerReset s) := .of_kn

theorem ringDown_answersKept (s : State) : AnswersKept s (ringDown s) := by
  unfold ringDown
  extract_lets s1 s2 s3 s4
  have h1 : AnswersKept s s1 :=
    ((enterOffline_answersKept s).trans (clearEgress_answersKept _ .east)).trans (clearEgress_answersKept _ .west)
  have h2 : AnswersKept s1 s2 := .foldl (fun t k => dropQueue_answersKept t (144 + k) 1) _ _
  have h3 : AnswersKept s2 s3 := dropArrivals_answersKept s2 _
  have h4 : AnswersKept s3 s4 := (slotMemoryReset_answersKept s3).trans (ringStrainerReset_answersKept _)
  clear_value s4
  exact (((h1.trans h2).trans h3).trans h4).trans .of_kn

/-! #### The Host and Record regions -/

theorem framesFreed_answersKept (s : State) (q : Nat) (cnt : Bool) : AnswersKept s (framesFreed s q cnt) := by
  refine .trans (.foldl (fun t j => ?_) _ s) (.foldl (fun t e => .ite ?_ (finishDest_answersKept t _ _)) _ _)
  · split
    · exact .refl t
    · exact freeFrame_answersKept t _
  · exact (countN_out t _ _ _ 1).answersKept.trans (finishDest_answersKept _ _ _)

theorem workDropped_answersKept (s : State) (q : Nat) : AnswersKept s (workDropped s q) := .of_kn

theorem disableQueue_answersKept (s : State) (q : Nat) (cnt : Bool) : AnswersKept s (disableQueue s q cnt) := by
  rw [disableQueue_eq]
  exact ((framesFreed_answersKept s q cnt).trans (workDropped_answersKept _ q)).trans (setQ_answersKept _ q _)

theorem hostDown_answersKept (s : State) : AnswersKept s (hostDown s) := by
  unfold hostDown
  extract_lets s1
  have h1 : AnswersKept s s1 := dropArrivals_answersKept s _
  clear_value s1
  refine h1.trans (.foldl (fun t e => ?_) _ s1)
  exact (disableQueue_answersKept t e.1 false).trans (.foldl (fun u _ => boundaryDrop_answersKept u .host) _ _)

theorem setDrive_answersKept (s : State) (d : Nat) (x : Drive) : AnswersKept s (setDrive s d x) := .ite .of_kn .of_kn

theorem recUnitReset_answersKept (s : State) (u : Nat) : AnswersKept s (recUnitReset s u) := by
  unfold recUnitReset
  split
  · exact setDrive_answersKept s 0 _
  · exact setDrive_answersKept s 1 _
  · exact (setDrive_answersKept s 0 _).trans (setDrive_answersKept _ 1 _)
  · exact .refl s

theorem recordDown_answersKept (s : State) : AnswersKept s (recordDown s) := by
  have hcellar : AnswersKept s { s with clk := { s.clk with cellarSelfRefresh := true } } := .of_kn
  exact hcellar.trans (recUnitReset_answersKept _ 390)

/-! #### A region that restarts -/

/-- Region `g` is out of service and restarts; master `m`'s answer stands, and what waits is of the masters of whom it was. -/
structure Restarts (g : Region) (s t : State) : Prop where
  out : t.regs.out.contains g = true
  restarting : t.regs.restarting.contains g = true
  resp : ∀ m, (mbxAt t m).resp = (mbxAt s m).resp
  masters : t.kn.waiting.map (·.master) = s.kn.waiting.map (·.master)

theorem updateHeld_restarts {g : Region} {s t : State} (hout : t.regs.out.contains g = true)
    (hres : t.regs.restarting.contains g = true) (hmbx : t.kn.mbx = s.kn.mbx) (hwait : t.kn.waiting = s.kn.waiting) :
    Restarts g s (updateHeld t) := by
  obtain ⟨hframe, hmarked, hmbxs⟩ := updateHeld_marks t
  refine ⟨by rw [hframe.regs_eq, hout], by rw [hframe.regs_eq, hres], fun m => ?_, ?_⟩
  · exact (congrArg Mbx.resp (hmbxs m)).trans (by rw [mbxAt, hmbx, mbxAt])
  · rw [hmarked, List.map_map, ← hwait]
    rfl

theorem contains_setInsert (l : List Region) (g : Region) : (setInsert l g).contains g = true := by
  rw [List.contains_iff_mem, setInsert]
  split
  · assumption
  · exact List.mem_cons_self

/-- A region that leaves service to restart (R23, R27). -/
theorem regionDown_restarts (s : State) {g : Region} (hg : g ≠ .trestle) : Restarts g s (regionDown s g true) := by
  unfold regionDown
  rw [if_neg hg]
  extract_lets was _ s0 s1
  have h1 : AnswersKept s0 s1 := perf_answersKept s0 _
  have hdown : ∀ t, AnswersKept s1 t → Restarts g s (updateHeld t) := by
    intro t ht
    obtain ⟨hregs, hmbx, hwait⟩ := h1.trans ht
    refine updateHeld_restarts ?_ ?_ hmbx hwait
    · rw [hregs]; exact contains_setInsert s.regs.out g
    · rw [hregs]; exact contains_setInsert s.regs.restarting g
  clear_value s1
  split
  · exact hdown s1 (.refl s1)
  · cases g with
    | edge => exact hdown _ (edgeDown_answersKept s1)
    | ring => exact hdown _ (ringDown_answersKept s1)
    | host => exact hdown _ (hostDown_answersKept s1)
    | record => exact hdown _ (recordDown_answersKept s1)
    | control => exact hdown _ ⟨rfl, rfl, rfl⟩
    | trestle => exact absurd rfl hg

end Sys2Proof.Machine
end

section
/-! PROOFS. Commands on firmware slots, the stored configuration and resets, and the statement O57. -/

namespace Sys2Proof.Machine

/- The proofs below run one at a time: each waits for those it cites, and many that wait need many threads. -/
set_option Elab.async false

open Sys2Proof

/-! ### Firmware slots (R476, R477) -/

/-- A slot's write begins: the slot is not valid until LAST has checked it. -/
def fwWriteBegun (k off : Nat) (d : Octets) (last : Bool) (y : Slot) (a : State) : State :=
  let t := setFwSlot a k y
  { t with boot := { t.boot with fwBusy := some (k, off, d, last) } }

theorem fwWriteBegun_kept (k off : Nat) (d : Octets) (last : Bool) (y : Slot) (a : State) :
    kept (fwWriteBegun k off d last y a) = kept a := by
  unfold fwWriteBegun setFwSlot
  dsimp only
  split <;> rfl

section

variable {a : State} {r : Request}

/-- A KN_FW_WRITE of an aligned part, to a slot that is neither written, run nor to be returned to. -/
theorem fwWriteRun_ok (ho : objIn 0x15 2 r.obj = true) (hfl : leAt r.params 12 1 < 4) (halign : leAt r.params 8 4 % 4096 = 0)
    (hlen : leAt r.params 8 4 + r.bulk.length ≤ 3145728) (hbusy : a.boot.fwBusy = none) (hrun : a.boot.runSlot ≠ objIdx r.obj)
    (htrial : ¬(a.boot.trialRunning = true ∧ a.boot.committed = objIdx r.obj)) :
    let k := objIdx r.obj
    let off := leAt r.params 8 4
    let base := if bitOf (leAt r.params 12 1) 0 then [] else (fwSlot a k).bytes
    fwWriteExe.run a r = .ok (fwWriteBegun k off r.bulk (bitOf (leAt r.params 12 1) 1)
      { fwSlot a k with bytes := base, state := 3, svn := 0, release := 0 }
      (auditChange a r r.obj (fwValue a k) (some (flashPlace base off r.bulk)))) [] [] := by
  have hfree : ¬(a.boot.fwBusy.isSome ∨ a.boot.runSlot = objIdx r.obj ∨ (a.boot.trialRunning = true ∧ a.boot.committed = objIdx r.obj)) := by
    rw [hbusy]
    simpa [hrun] using htrial
  show fwWriteRun a r = _
  unfold fwWriteRun
  dsimp only
  exact (if_neg (by simp [ho])).trans ((if_neg (by omega)).trans ((if_neg (by omega)).trans (if_neg hfree)))

/-- The record of a command on a slot's trial shows the slot, which the command leaves. -/
def fwAudited (a : State) (r : Request) : State := auditChange a r r.obj (fwValue a (objIdx r.obj)) (fwValue a (objIdx r.obj))

theorem fwActivateRun_trial (ho : objIn 0x15 2 r.obj = true) (hact : leAt r.params 8 1 = 0) (hvalid : fwState a (objIdx r.obj) = 2)
    (hslot : slotValid a.boot (objIdx r.obj) = true) : fwActivateExe.run a r =
      .ok { fwAudited a r with boot := { a.boot with trialSlot := objIdx r.obj, trialPending := true, failCount := 0 } } [] [] := by
  show fwActivateRun a r = _
  unfold fwActivateRun
  dsimp only
  exact (if_neg (by simp [ho])).trans ((if_neg (by omega)).trans ((if_pos hact).trans (if_pos ⟨hvalid, hslot⟩)))

theorem fwActivateRun_commit (ho : objIn 0x15 2 r.obj = true) (hact : leAt r.params 8 1 = 1) (htrial : a.boot.trialRunning = true)
    (hrun : a.boot.runSlot = objIdx r.obj) (hfb : a.boot.fallback = false) : fwActivateExe.run a r =
      .ok { fwAudited a r with boot := { a.boot with
        committed := objIdx r.obj, trialRunning := false, minSvn := max a.boot.minSvn (fwSlot a (objIdx r.obj)).svn } } [] [] := by
  show fwActivateRun a r = _
  unfold fwActivateRun
  dsimp only
  exact (if_neg (by simp [ho])).trans ((if_neg (by omega)).trans ((if_neg (by omega)).trans
    ((if_pos hact).trans (if_pos ⟨htrial, hrun, hfb⟩))))

theorem fwActivateRun_cancel (ho : objIn 0x15 2 r.obj = true) (hact : leAt r.params 8 1 = 2) (hpend : a.boot.trialPending = true) :
    fwActivateExe.run a r = .ok { fwAudited a r with boot := { a.boot with trialPending := false } } [] [] := by
  show fwActivateRun a r = _
  unfold fwActivateRun
  dsimp only
  exact (if_neg (by simp [ho])).trans ((if_neg (by omega)).trans ((if_neg (by omega)).trans ((if_neg (by omega)).trans (if_pos hpend))))

/-! ### The stored configuration (R479) -/

/-- The sequence number of the next store. -/
def nextStore (b : Boot) : Nat := ((validStore b).map (fun x => leAt x.bytes 8 8 + 1)).getD 1

/-- The write of a store begins at the copy that is not in force. -/
def storeBegun (k : Nat) (x : Store) (a : State) : State :=
  if k = 0 then { a with boot := { a.boot with store0 := x, storeBusy := some 0 } }
  else { a with boot := { a.boot with store1 := x, storeBusy := some 1 } }

theorem storeBegun_eq (k : Nat) (x : Store) (a : State) : storeBegun k x a = { a with boot :=
    if k = 0 then { a.boot with store0 := x, storeBusy := some 0 } else { a.boot with store1 := x, storeBusy := some 1 } } := by
  unfold storeBegun
  split <;> rfl

theorem storeBegun_kept (k : Nat) (x : Store) (a : State) : kept (storeBegun k x a) = kept a := by
  unfold storeBegun
  split <;> rfl

theorem configStoreRun_ok (hform : storeFormed r.bulk = true) (hbusy : a.boot.storeBusy = none) : configStoreExe.run a r =
    .ok (storeBegun (storeTarget a.boot) { bytes := storeFilled r.bulk (nextStore a.boot), valid := false }
      (auditChange a r storeObj ((validStore a.boot).map (·.bytes)) (some (storeFilled r.bulk (nextStore a.boot))))) [] [] := by
  show configStoreRun a r = _
  unfold configStoreRun
  dsimp only
  refine (if_neg (by simp [hform])).trans ((if_neg (by simp [hbusy])).trans ?_)
  rw [nextStore, storeBegun_eq]
  cases validStore a.boot <;> rfl

end

/-! ### Firmware and configuration commands that are accepted -/

section

variable {s : State} {r : Request}

/-- What a slot holds stands as it stood when a request's execution begins. -/
theorem fwSlot_begun (s : State) (c : Cmd) (r : Request) (k : Nat) : fwSlot (begun s c r) k = fwSlot s k := by
  rw [fwSlot, (begun_frame s c r).boot_eq, fwSlot]

theorem fwValue_begun (s : State) (c : Cmd) (r : Request) (k : Nat) : fwValue (begun s c r) k = fwValue s k := by
  rw [fwValue, fwSlot_begun, fwValue]

theorem fwState_begun (s : State) (c : Cmd) (r : Request) (k : Nat) : fwState (begun s c r) k = fwState s k := by
  rw [fwState, fwSlot_begun, (begun_frame s c r).boot_eq, ← fwState]

theorem knFwWrite_of (h : Accepted s 0x0907 fwWriteExe r) (ho : objIn 0x15 2 r.obj = true) (hfl : leAt r.params 12 1 < 4)
    (halign : leAt r.params 8 4 % 4096 = 0) (hlen : leAt r.params 8 4 + r.bulk.length ≤ 3145728) (hbusy : s.boot.fwBusy = none)
    (hrun : s.boot.runSlot ≠ objIdx r.obj) (htrial : ¬(s.boot.trialRunning = true ∧ s.boot.committed = objIdx r.obj)) :
    let k := objIdx r.obj
    let off := leAt r.params 8 4
    let base := if bitOf (leAt r.params 12 1) 0 then [] else (fwSlot s k).bytes
    KnWrites .knFwWrite s r (changeBody s r r.obj (fwValue s k) (some (flashPlace base off r.bulk))) []
      (fwWriteBegun k off r.bulk (bitOf (leAt r.params 12 1) 1) { fwSlot s k with bytes := base, state := 3, svn := 0, release := 0 }) := by
  have hboot := (begun_frame s ⟨0x0907, 1, .w, true⟩ r).boot_eq
  refine knWrites_of (i := .knFwWrite) (c := ⟨0x0907, 1, .w, true⟩) h rfl rfl rfl ?_ (fwWriteBegun_kept _ _ _ _ _)
  rw [← fwSlot_begun s ⟨0x0907, 1, .w, true⟩ r, ← fwValue_begun s ⟨0x0907, 1, .w, true⟩ r]
  exact fwWriteRun_ok ho hfl halign hlen (by rw [hboot]; exact hbusy) (by rw [hboot]; exact hrun) (by rw [hboot]; exact htrial)

/-- An accepted command on a slot's trial is recorded with the slot, and changes what it says of the boot state. -/
theorem knFwActivate_of {f : Boot → Boot} (h : Accepted s 0x0908 fwActivateExe r)
    (hrun : fwActivateExe.run (begun s ⟨0x0908, 1, .w, true⟩ r) r =
      .ok { fwAudited (begun s ⟨0x0908, 1, .w, true⟩ r) r with boot := f (begun s ⟨0x0908, 1, .w, true⟩ r).boot } [] []) :
    KnWrites .knFwActivate s r (changeBody s r r.obj (fwValue s (objIdx r.obj)) (fwValue s (objIdx r.obj))) []
      (fun a => { a with boot := f a.boot }) := by
  have haudit : (fwAudited (begun s ⟨0x0908, 1, .w, true⟩ r) r).boot = (begun s ⟨0x0908, 1, .w, true⟩ r).boot :=
    (auditChange_frame _ _ _ _ _ (h.mramUp_begun rfl rfl)).boot_eq
  refine knWrites_of (i := .knFwActivate) (c := ⟨0x0908, 1, .w, true⟩) h rfl rfl rfl (hrun.trans ?_) (fun _ => rfl)
  rw [← haudit, fwAudited, fwValue_begun]

theorem knConfigStore_of (h : Accepted s 0x0909 configStoreExe r) (hform : storeFormed r.bulk = true) (hbusy : s.boot.storeBusy = none) :
    KnWrites .knConfigStore s r
      (changeBody s r storeObj ((validStore s.boot).map (·.bytes)) (some (storeFilled r.bulk (nextStore s.boot)))) []
      (storeBegun (storeTarget s.boot) { bytes := storeFilled r.bulk (nextStore s.boot), valid := false }) := by
  have hboot := (begun_frame s ⟨0x0909, 2, .w, true⟩ r).boot_eq
  refine knWrites_of (i := .knConfigStore) (c := ⟨0x0909, 2, .w, true⟩) h rfl rfl rfl ?_ (storeBegun_kept _ _)
  rw [← hboot]
  exact configStoreRun_ok hform (by rw [hboot]; exact hbusy)

end

/-! ### Requests with an effect that follows the response (R480) -/

section

variable {s : State} {r : Request}

/-- An accepted request that is recorded, and answered before its effect. -/
def answeredBefore (s : State) (c : Cmd) (r : Request) (obj : Nat) (v : Option Octets) : State :=
  answer (auditChange (begun s c r) r obj v v) r 0 0 (leBytes 8 s.kn.seq) []

theorem answeredBefore_answered {c : Cmd} (hm : mramUp (begun s c r) = true) (obj : Nat) (v : Option Octets) :
    KnFrame s (answeredBefore s c r obj v) ∧ Answered s (answeredBefore s c r obj v) r 0 0 (leBytes 8 s.kn.seq) [] ∧
      (answeredBefore s c r obj v).kn.seq = s.kn.seq + 1 := by
  have hframe : KnFrame s (auditChange (begun s c r) r obj v v) := (begun_frame s c r).trans (auditChange_frame _ _ _ _ _ hm)
  have hwait := (auditChange_leaseEnd hm r obj v v).2
  have hmbx : mbxAt (auditChange (begun s c r) r obj v v) r.master = mbxAt s r.master := by
    rw [mbxAt, auditChange_kn _ _ _ _ _ hm, writeRecord, perf_kn]
    dsimp only
    rw [begun_kn, dropRequest, mbxAt]
  have hseq : (auditChange (begun s c r) r obj v v).kn.seq = s.kn.seq + 1 := by
    rw [(recorded_auditChange hm obj v v).2]
  obtain ⟨hans, hanswered⟩ := answered_round hframe hmbx (hwait ▸ begun_waiting s c r) 0 0 0 (leBytes 8 s.kn.seq) []
  refine ⟨hans, hanswered, ?_⟩
  rw [answeredBefore, answer_kn]
  exact hseq

theorem runKn_thenDo {code : Nat} {x : Exe} {c : Cmd} {obj : Nat} {v : Option Octets} {after : State → State} (h : Accepted s code x r)
    (hc : cmdOf code = some c) (hw : c.cls = .w)
    (hrun : x.run (begun s c r) r = .thenDo (auditChange (begun s c r) r obj v v) after) :
    runKn s code x = answerBad (after (answeredBefore s c r obj v)).kn.waiting.length (after (answeredBefore s c r obj v)) := by
  obtain ⟨hn, hcode, hb, hpre⟩ := h.checks hc
  have hdrop : KnFrame s (perf (dropRequest s r.master) (pPkg 5)) :=
    KnFrame.trans (t := dropRequest s r.master) (setWaiting_frame _ _) (perf_frame _ _)
  have hseq : (auditChange (begun s c r) r obj v v).kn.seq ≠ s.kn.seq := by
    rw [(recorded_auditChange (h.mramUp_begun hc hw) obj v v).2]
    omega
  have hex : execRequest s x c r = after (answeredBefore s c r obj v) := by
    unfold execRequest
    dsimp only
    rw [preCheck_congr x c r (s := s) hdrop.boot_eq hdrop.owner_eq hdrop.ownerNode_eq, hpre]
    refine (congrArg (finish (begun s c r) c r s.kn.seq) hrun).trans ?_
    rw [finish]
    dsimp only
    rw [if_pos ⟨hw, hseq⟩, answeredBefore]
  unfold runKn
  rw [hn, hc]
  simp only [hcode, hb, and_self, if_true, hex]

/-- An effect that leaves the answer and the masters who wait: the row's state shows it, and the answer in its mailbox. -/
theorem answerBad_after {t : State} {m : Nat} {o : Octets} (n : Nat) (hresp : (mbxAt t m).resp = o)
    (hwait : ∀ z ∈ t.kn.waiting, z.master ≠ m) : KnFrame t (answerBad n t) ∧ (mbxAt (answerBad n t) m).resp = o :=
  ⟨answerBad_frame n t, (congrArg Mbx.resp (answerBad_mbx n t m hwait).1).trans hresp⟩

/-- An answer stands while its mailbox does and nothing of its master's waits. -/
theorem Answered.after {s u t : State} {st d : Nat} {res b : Octets} (h : Answered s u r st d res b)
    (hmbx : mbxAt t r.master = mbxAt u r.master) (hwait : ∀ z ∈ t.kn.waiting, z.master ≠ r.master) : Answered s t r st d res b := by
  obtain ⟨hresp, hbulk, hstate, hheld, -⟩ := h
  exact ⟨by rw [hmbx, hresp], by rw [hmbx, hbulk], by rw [hmbx, hstate], by rw [hmbx, hheld], hwait⟩

theorem clearFails_boot (s : State) :
    clearFails s = { s with boot := { s.boot with failCount := if s.boot.fallback then 0 else s.boot.failCount } } := by
  unfold clearFails
  split <;> rfl

/-- A reset of the chip asked for while none is. -/
theorem startReset_fresh {s : State} (h : s.boot.pendingReset = none) (code ticks : Nat) :
    startReset s code ticks = { s with boot := { s.boot with pendingReset := some (code, now s + ticks) } } :=
  if_neg (by simp [h])

/-- The chip's reset after KN_RESET: 10 us on, and in fallback mode the failures are forgotten (R467, R480). -/
def chipResetAsked (s : State) : State := startReset (clearFails s) 3 (usTicks 10)

theorem chipResetAsked_eq {s : State} (h : s.boot.pendingReset = none) : chipResetAsked s = { s with boot := { s.boot with
    failCount := if s.boot.fallback then 0 else s.boot.failCount, pendingReset := some (3, now s + usTicks 10) } } := by
  rw [chipResetAsked, clearFails_boot]
  refine startReset_fresh ?_ 3 _
  exact h

theorem resetRun_package {a : State} (ho : r.obj = packageObj) (hact : leAt r.params 8 1 = 1) : resetExe.run a r =
    .thenDo (auditChange a r packageObj (some (drainCmd.read a packageObj)) (some (drainCmd.read a packageObj))) chipResetAsked := by
  show resetRun a r = _
  unfold resetRun
  dsimp only
  rw [ho]
  exact (if_neg (by decide)).trans ((if_neg (by omega)).trans ((if_neg (by decide)).trans
    ((if_neg (by rw [if_pos rfl]; omega)).trans (if_pos rfl))))

theorem resetRun_region {a : State} (ho : objIn 0x13 5 r.obj = true) (hact : leAt r.params 8 1 = 0) : resetExe.run a r =
    .thenDo (auditChange a r r.obj (some (regionValue a (objIdx r.obj))) (some (regionValue a (objIdx r.obj))))
      (fun t => regionDown t (regionOf (objIdx r.obj)) true) := by
  have hcls : objCls r.obj = 0x13 := objCls_of_objIn ho
  have hidx : objIdx r.obj < 5 := by
    simp only [objIn, Bool.and_eq_true, decide_eq_true_eq] at ho
    exact ho.2
  have hin : objIn 0x13 6 r.obj = true := by
    simp only [objIn, hcls, beq_self_eq_true, Bool.true_and, decide_eq_true_eq]
    omega
  have hpackage : r.obj ≠ packageObj := fun h => absurd (h ▸ hcls) (by decide)
  have htrestle : r.obj ≠ objId 0x13 5 := fun h => absurd (h ▸ hidx) (by decide)
  show resetRun a r = _
  unfold resetRun
  dsimp only
  exact (if_neg (by simp [hin])).trans ((if_neg (by omega)).trans ((if_neg htrestle).trans
    ((if_neg (by rw [if_neg hpackage]; omega)).trans (if_neg hpackage))))

theorem regionOf_ne_trestle {k : Nat} (h : k < 5) : regionOf k ≠ .trestle := by
  match k, h with
  | 0, _ | 1, _ | 2, _ | 3, _ | 4, _ => decide

theorem knReset_package (h : Accepted s 0x0906 resetExe r) (ho : r.obj = packageObj) (hact : leAt r.params 8 1 = 1)
    (hfree : s.boot.pendingReset = none) :
    ∃ t, exec .knReset s = .next t ∧ t.boot.pendingReset = some (3, now s + usTicks 10) ∧
      t.boot.failCount = (if s.boot.fallback then 0 else s.boot.failCount) ∧ t.kn.seq = s.kn.seq + 1 ∧
        Answered s t r 0 0 (leBytes 8 s.kn.seq) [] := by
  have hrow := runKn_thenDo (c := ⟨0x0906, 1, .w, true⟩) h rfl rfl (resetRun_package ho hact)
  obtain ⟨hframe, hans, hseq⟩ := answeredBefore_answered (h.mramUp_begun rfl rfl) packageObj
    (some (drainCmd.read (begun s ⟨0x0906, 1, .w, true⟩ r) packageObj))
  generalize answeredBefore s _ r packageObj _ = u at hrow hframe hans hseq
  have ⟨_, _, _, _, hwait⟩ := hans
  rw [chipResetAsked_eq (by rw [hframe.boot_eq]; exact hfree)] at hrow
  generalize hv : ({ u with boot := _ } : State) = v at hrow
  have hkn : v.kn = u.kn := by rw [← hv]
  have hboot : v.boot = { s.boot with
      failCount := if s.boot.fallback then 0 else s.boot.failCount, pendingReset := some (3, now s + usTicks 10) } := by
    rw [← hv]
    dsimp only
    rw [hframe.boot_eq, now, hframe.clk_eq, now]
  have hpend : v.pending = s.pending := by rw [← hv]; exact hframe.pending_eq
  have hwaitv : ∀ z ∈ v.kn.waiting, z.master ≠ r.master := by rw [hkn]; exact hwait
  obtain ⟨hm, hw⟩ := answerBad_mbx v.kn.waiting.length v r.master hwaitv
  obtain ⟨-, hs, -, -⟩ := answerBad_kn v.kn.waiting.length v
  have hround := answerBad_frame v.kn.waiting.length v
  refine ⟨_, exec_eq_next (i := .knReset) rfl rfl hrow (hround.pending_eq.trans hpend), ?_, ?_, ?_, ?_⟩
  · rw [hround.boot_eq, hboot]
  · rw [hround.boot_eq, hboot]
  · rw [hs, hkn, hseq]
  · exact hans.after (hm.trans (by rw [mbxAt, hkn, mbxAt])) hw

theorem knReset_region (h : Accepted s 0x0906 resetExe r) (ho : objIn 0x13 5 r.obj = true) (hact : leAt r.params 8 1 = 0) :
    ∃ t, exec .knReset s = .next t ∧ t.regs.out.contains (regionOf (objIdx r.obj)) = true ∧
      t.regs.restarting.contains (regionOf (objIdx r.obj)) = true ∧
      (mbxAt t r.master).resp = respImage s r 0 0 (leBytes 8 s.kn.seq) 0 := by
  have hidx : objIdx r.obj < 5 := by
    simp only [objIn, Bool.and_eq_true, decide_eq_true_eq] at ho
    exact ho.2
  have hrow := runKn_thenDo (c := ⟨0x0906, 1, .w, true⟩) h rfl rfl (resetRun_region ho hact)
  obtain ⟨-, ⟨hresp, -, -, -, hwait⟩, -⟩ := answeredBefore_answered (h.mramUp_begun rfl rfl) r.obj
    (some (regionValue (begun s ⟨0x0906, 1, .w, true⟩ r) (objIdx r.obj)))
  generalize answeredBefore s _ r r.obj _ = u at hrow hresp hwait
  have hdown := regionDown_restarts u (regionOf_ne_trestle hidx)
  generalize regionDown u (regionOf (objIdx r.obj)) true = v at hrow hdown
  obtain ⟨hout, hres, hkept, hmasters⟩ := hdown
  have hwaitv : ∀ z ∈ v.kn.waiting, z.master ≠ r.master := by
    intro z hz
    have hz' : z.master ∈ u.kn.waiting.map (·.master) := hmasters ▸ List.mem_map_of_mem hz
    obtain ⟨w, hw, hzw⟩ := List.mem_map.mp hz'
    exact hzw ▸ hwait w hw
  obtain ⟨hround, hanswer⟩ := answerBad_after v.kn.waiting.length ((hkept r.master).trans hresp) hwaitv
  refine ⟨_, exec_eq_keeping (i := .knReset) rfl rfl hrow, ?_, ?_, hanswer⟩
  · exact (congrArg (fun g : Regions => g.out.contains _) hround.regs_eq).trans hout
  · exact (congrArg (fun g : Regions => g.restarting.contains _) hround.regs_eq).trans hres

end

/-- Settles O57: each command's change is recorded and takes effect as its row says, and a reset follows its response: the chip's changes
the boot state alone, and a region that leaves service keeps every answer. -/
theorem knFirmwareChanges : Obligations.KnFirmwareChanges := by
  unfold Obligations.KnFirmwareChanges
  refine ⟨?write, ?activate, ?store, ?chip, ?region⟩
  case write => exact fun s r h ho hfl halign hlen hbusy hrun htrial => knFwWrite_of h ho hfl halign hlen hbusy hrun htrial
  case activate =>
    intro s r h ho k v
    have hboot := (begun_frame s ⟨0x0908, 1, .w, true⟩ r).boot_eq
    refine ⟨fun hact hvalid hslot => ?_, fun hact htrial hrun hfb => ?_, fun hact hpend => ?_⟩
    · refine knFwActivate_of (f := fun b => { b with trialSlot := k, trialPending := true, failCount := 0 }) h
        (fwActivateRun_trial ho hact ((fwState_begun _ _ _ _).trans hvalid) ?_)
      rw [hboot]; exact hslot
    · refine knFwActivate_of
        (f := fun b => { b with committed := k, trialRunning := false, minSvn := max b.minSvn (fwSlot s k).svn }) h
        ((fwActivateRun_commit ho hact ?_ ?_ ?_).trans ?_)
      · rw [hboot]; exact htrial
      · rw [hboot]; exact hrun
      · rw [hboot]; exact hfb
      · rw [fwSlot_begun]
    · refine knFwActivate_of (f := fun b => { b with trialPending := false }) h (fwActivateRun_cancel ho hact ?_)
      rw [hboot]; exact hpend
  case store => exact fun s r h hform hbusy => knConfigStore_of h hform hbusy
  case chip => exact fun s r h ho hact _ _ hfree => knReset_package h ho hact hfree
  case region => exact fun s r h ho hact => knReset_region h ho hact

end Sys2Proof.Machine
end
